-- ==== Sys2Proof/Word.lean ====
section
/-! DEFINITION. The word types of the module (R12, Table 0.3): the 32-bit register word and the byte. -/

namespace Sys2Proof

/-- A 32-bit register word (R12). -/
abbrev Word := BitVec 32

/-- One byte of a packet, a frame, a record or a tile. -/
abbrev Byte := BitVec 8

end Sys2Proof
end

