-- ==== Sys2Proof/Syntax.lean ====
section
/-! DEFINITION. The commands of the module (the rows of the table of operations and events) with their operands.
A host command carries the request that reached execution; an event carries its instant and what the outside supplies
with it: converter codes, received bytes, pad levels. -/

namespace Sys2Proof

/-- The transport on which a request arrived (R273, R274). -/
inductive Via where
  | eth1 | eth2 | spi
  deriving DecidableEq, Repr

/-- What the repetition of a witness mismatch shows (R242): all three results agree, one of them differs from the other two (the owner's, the
first witness's, the second witness's), or no two agree. -/
inductive Witness where
  | agree | owner | first | second | apart
  deriving DecidableEq, Repr

/-- A request as the command interpreter sees it: the header fields of Table 13.2 that matter after the checks of
Table 13.4, the source (65,536 times the IP address plus the UDP port; an address below 2^32 is IPv4; over SPI 0), whether the packet was
tagged, and the payload. -/
structure Req where
  via : Via
  src : Nat
  auth : Bool
  session : Nat
  cls : Nat
  seq : Nat
  target : Nat
  payload : List Byte
  deriving DecidableEq, Repr

/-- What the converters latch at one control sample instant (R98, R165): 24-bit codes of the two shunt converters, of
the string, bus and insulation channels and of the four phase channels, the 16-bit code of the analogue set-point, the
whole periods of the pulse set-point in the last millisecond in 2 ns units, and for each lane a posted duty vector that
replaces the slice's own result (`none` where the slice posts what it computed, an empty one where it posts nothing). `sp` is in
steps of 10.24 V ÷ 32,768, unclipped; `edge`: the pulse input showed an edge since the sample before. -/
structure SampleIn where
  a : Int
  b : Int
  vstr : Int
  vbus : Int
  vins : Int
  iph : List Int
  sp : Int
  periods : List Nat
  edge : Bool
  posts : List (Option (List Int))
  deriving DecidableEq, Repr

/-- What the ring answers during one start-up (Table 2.9): transitions seen on the two receive channels, the HCNT of
the heartbeat that returned (none where none did), the 13-byte IDENT reply of each node in turn (`none` where a node did
not answer), and the loop times of each round of 16 probes, in 0.25 ns. -/
structure StartupIn where
  east : Bool
  west : Bool
  hcnt : Option Nat
  idents : List (Option (List Byte))
  loops : List (List Nat)
  deriving DecidableEq, Repr

/-- What a write to flash came to (R384): the copy reads back as written; the blocks that failed their verification meanwhile, in their
order and by their numbers in the flash; and where power was lost during the write, how far it had come: bytes programmed of the calibration
set (R114), or the last step of R402 completed (R408). -/
structure FlashDone where
  ok : Bool
  bad : List Nat := []
  cut : Option Nat := none
  deriving DecidableEq, Repr

/-- The end of a write to flash in the background (R253, R384, R392): its instant and the blocks that failed their verification meanwhile. -/
structure FlashAt where
  t : Nat
  bad : List Nat := []
  deriving DecidableEq, Repr

/-- The loss of VAUX: its instant, and whether it falls into the boot ROM's write of the option bytes (R406). -/
structure PowerLoss where
  t : Nat
  cut : Bool := false
  deriving DecidableEq, Repr

/-- A reset source with a level (R358): the instant, and whether its condition begins (the core rail out of band, RESET_N low for 1 µs) or
ends (the rail in band, RESET_N high). -/
structure ResetLevel where
  t : Nat
  holds : Bool := true
  deriving DecidableEq, Repr

/-- What becomes clock-good: a domain by its bit of GLB_CLKSTAT, with LANE every lane whose clock runs; or the clock of one lane (R25). -/
inductive Clock where
  | of (d : Nat)
  | lane (l : Nat)
  deriving DecidableEq, Repr

/-- A request whose execution writes to flash, with what the write came to. -/
structure FlashReq where
  req : Req
  flash : FlashDone
  deriving DecidableEq, Repr

/-- A watched barrier crossing (R22). -/
inductive Crossing where
  | shuntA | shuntB | string | bus | ins | supply
  deriving DecidableEq, Repr

/-- A CAN frame (R326, R334): identifier, frame bits and data; `rtr` a remote frame. -/
structure CanFrame where
  id : Nat
  ide : Bool
  fdf : Bool
  brs : Bool
  esi : Bool
  data : List Byte
  rtr : Bool := false
  deriving DecidableEq, Repr

/-- What becomes of a transmission (R331): the frame offered goes on the bus, has left, or has lost arbitration. -/
inductive CanTx where
  | start | sent | lost
  deriving DecidableEq, Repr

/-- A write transaction on the I²C bus: the 7-bit address, and the bytes after the address byte (R338, R341). -/
structure IicBytes where
  addr : Nat
  bytes : List Byte
  deriving DecidableEq, Repr

/-- A read transaction on the I²C bus: the 7-bit address and the number of bytes read (R338, R341). -/
structure IicCount where
  addr : Nat
  n : Nat
  deriving DecidableEq, Repr

/-- A START with an address in PARK (R338). -/
structure IicWake where
  t : Nat
  addr : Nat
  deriving DecidableEq, Repr

/-- The I²C lines (R340): since when both have been high, and whether a STOP came before. -/
structure BusIdle where
  t : Nat
  stop : Bool
  since : Nat
  deriving DecidableEq, Repr

/-- Arbitration lost (Table 16.5): the bit of the byte, and for the address byte the 7-bit address that won. -/
structure ArbLoss where
  bit : Nat
  addr : Nat
  deriving DecidableEq, Repr

/-- A bus that hangs (Table 16.5): since when SCL has been stretched, or with `sda` SDA held low with SCL released; `freed`: up to 9 SCL
pulses freed SDA, so that the STOP was sent. -/
structure BusHang where
  since : Nat
  sda : Bool := false
  freed : Bool := false
  deriving DecidableEq, Repr

/-- An Announce message (R317): domain, the grandmaster's data, steps removed, the sender's port identity (80 bits) and the
announce interval of its header in ns. -/
structure Announce where
  domain : Nat
  p1 : Nat
  cls : Nat
  acc : Nat
  var : Nat
  p2 : Nat
  gm : Nat
  steps : Nat
  src : Nat
  every : Nat
  deriving DecidableEq, Repr

/-- What the other PTP messages carry (R317, R318): domain, sender's port identity, sequence number, correctionField in 2^−16 ns, and a
timestamp in ns where the message has one. -/
structure PtpMsg where
  domain : Nat
  src : Nat
  seq : Nat
  corr : Int
  stamp : Nat
  deriving DecidableEq, Repr

/-- What a memory tile holds (Table 19.1): firmware code (in main SRAM that of core S0 or S1), table data, coefficients in use or not yet committed, configuration and
assignment, the measurements of a position, the cell state of a lane's quarter, a checkpoint buffer of a quarter, entries of a hardware
queue (the first one and how many), or the supervisor's working data (sessions and jobs held there, and whether load assemblies,
restore pieces and the snapshot copy are). -/
inductive TileUse where
  | code (core : Nat)
  | tables | coefs | uncommitted | config
  | measurement (p : Nat)
  | cells
  | checkpoint (q : Nat)
  | queue (n first count : Nat)
  | work (sessions jobs : List Nat) (loads : Bool)
  deriving DecidableEq, Repr

/-- What a load of a tile brings into a tile buffer (R377): 256 data bytes and the stored CRC. -/
structure TileRead where
  data : List Byte
  crc : Nat
  deriving DecidableEq, Repr

/-- The load that finds a mismatch: what it brings, and whether the tile is one that a fenced lane held open for writing (R244). -/
structure TileLoad where
  read : TileRead
  suspect : Bool := false
  deriving DecidableEq, Repr

/-- A code tile of main SRAM whose CRC failed: the tile, the core whose code it holds, and what the repeated load brings. -/
structure CodeTile where
  tile : Nat
  core : Nat
  again : TileRead
  deriving DecidableEq, Repr

/-- The verification of the code tiles before the supervisor resumes (R359): the instant, and the tiles that failed. -/
structure Resume where
  t : Nat
  bad : List CodeTile := []
  deriving DecidableEq, Repr

/-- A step of a background pass (R383): the memory, 0 main SRAM or 1 … 5 the local memory of L0 … L4, and the tiles loaded. -/
structure ScrubStep where
  region : Nat := 0
  n : Nat
  deriving DecidableEq, Repr

/-- The end of a host's scrub: its instant, and the unmapped spares in its range that failed their pattern (R383). -/
structure ScrubEnd where
  t : Nat
  bad : Nat := 0
  deriving DecidableEq, Repr

/-- The commands of the module: one constructor for each row of the table of operations and events, in its order. `t` is the
instant of the command in nanoseconds since power was first applied. -/
inductive Instr where
  /-- REG_READ: Host command reads one 32-bit register and returns its value. (R296) -/
  | regRead (t : Nat) (r : Req)
  /-- REG_WRITE: Host command writes one register; this row also covers every register that has no row of its own, with RW fields set, RO and RSV bits ignored and W1C bits cleared. (R15) -/
  | regWrite (t : Nat) (r : Req)
  /-- REG_MODIFY: Host command performs a read-mask-write-read of one register as one fabric transaction. (R299) -/
  | regModify (t : Nat) (r : Req)
  /-- REG_READ_BLOCK: Host command reads consecutive registers in ascending order, each read acting as a single REG_READ. (R300) -/
  | regReadBlock (t : Nat) (r : Req)
  /-- RC_FIELD_READ: A read of a register holding RC fields returns their values and clears them, keeping any update from the same cycle for the next read. (R14) -/
  | rcFieldRead (t : Nat) (a : Nat)
  /-- CVI_Q0_READ: A read of CVI_Q0 latches CVI_Q1 into a shadow so that Q(S) is read coherently. (R11) -/
  | cviQ0Read (t : Nat)
  /-- TIM_NSEC_READ: A read of TIM_NSEC latches TIM_SEC0 and TIM_SEC1 so that quartz time is read coherently. (R11) -/
  | timNsecRead (t : Nat)
  /-- CAN_RXSTAT_READ: A read of an object's RXSTAT returns and clears NEW and LOST and latches TNS, TSEC and DATA into a shadow. (R335) -/
  | canRxstatRead (t : Nat) (n : Nat)
  /-- CAN_ERRQ_READ: A read of CAN_ERRQ removes and returns the oldest error entry, or reads 0 when the queue is empty. (R336) -/
  | canErrqRead (t : Nat)
  /-- CAN_LOGQ_READ: A read of CAN_LOGQ removes and returns the oldest state-change entry, or reads 0 when the queue is empty. (R336) -/
  | canLogqRead (t : Nat)
  /-- PRT_TRIP_CLEAR: A W1C write to PRT_TRIP clears each written cause bit only when its release condition holds, and FIRST clears with the last bit. (R186) -/
  | prtTripClear (t : Nat) (m : Nat)
  /-- WELD_CLEAR: A W1C write to a WELD bit is ignored while the matching feedback reads closed. (R198) -/
  | weldClear (t : Nat) (m : Nat)
  /-- CONTROL_SAMPLE: At each 5 us grid instant the decimators latch, the set-point unit forms r_0 under the limits, the slices compute and vote, and the duties are written. (R35) -/
  | controlSample (t : Nat) (x : SampleIn)
  /-- ENVELOPE_BAND_UPDATE: Every 100 us gander recomputes the duty envelope band from the string and bus voltages. (R182) -/
  | envelopeBandUpdate (t : Nat)
  /-- SCAN_STROBE: At each scan strobe instant the cell samples are taken, the shunt output and charge snapshot are tagged, and the lanes write checkpoints on whole 100 ms. (R35) -/
  | scanStrobe (t : Nat) (bad : List Nat) (again : List (Nat × Witness))
  /-- STROBE_EMIT: The ring master emits the strobe symbol NSIDE x t_hop before S from each active port. (R58) -/
  | strobeEmit (t : Nat)
  /-- COLLECT_FRAME_SEND: The collect frame header leaves each active port one half-window plus 10 us after S. (R61) -/
  | collectFrameSend (t : Nat)
  /-- NODE_RECORD: An arriving node record is checked for CRC, TYPE, SSEQ and HPOS, checked against the cell limits and written to its tile, or discarded as stale. (R55) -/
  | nodeRecord (t : Nat) (west : Bool) (slot : Nat) (rx : List Bool)
  /-- SCAN_END: At the end of a scan missing records are marked stale and the scan-level checks run. (R39) -/
  | scanEnd (t : Nat)
  /-- GRACE_EXPIRY: The grace timer ends with 2 or more unreachable nodes; GRACE_EXP is set and string current zero is demanded. (R67) -/
  | graceExpiry (t : Nat)
  /-- HEARTBEAT_EMIT: The ring master emits a heartbeat on its 50 us schedule. (R64) -/
  | heartbeatEmit (t : Nat)
  /-- HEARTBEAT_RETURN: A heartbeat returns at a master port and is judged for HCNT and LOOPED. (R64) -/
  | heartbeatReturn (t : Nat) (west : Bool) (rx : List Bool)
  /-- HEARTBEAT_MISSED: A heartbeat fails to return in time; after 3 consecutive misses the ring is declared broken and probes are sent. (R64) -/
  | heartbeatMissed (t : Nat)
  /-- PROBE_RETURN: Looped probe returns give the east and west reaches, and split operation with per-side strobes begins. (R66) -/
  | probeReturn (t : Nat) (west : Bool) (rx : List Bool)
  /-- RING_LOSS_OF_SIGNAL: A master receive channel shows no transition for 100 bit-times and is in loss of signal. (R44) -/
  | ringLossOfSignal (t : Nat) (west : Bool)
  /-- RING_COMMAND_SEND: A queued node command or burst upload frame is started when it fits before the strobe guard. (R60) -/
  | ringCommandSend (t : Nat)
  /-- RING_COMMAND_RETURN: A command frame returns; its reply is delivered, or it is resent up to 2 times and then ends with TIMEOUT. (R51) -/
  | ringCommandReturn (t : Nat) (rx : Option (List Bool))
  /-- RING_STARTUP: The ring runs its start-up sequence of idle, HEAL, length discovery, IDENT, timing calibration and broadcasts. (R62) -/
  | ringStartup (t : Nat) (x : StartupIn)
  /-- RING_CAL_WRITE: A write of RING_CTRL.CAL with the converter disabled runs ring start-up. (R62) -/
  | ringCalWrite (t : Nat)
  /-- RING_LEN_CHANGE: A change of RING_CTRL.LEN clears mismatches at positions that leave the ring. (R81) -/
  | ringLenChange (t : Nat) (n : Nat)
  /-- BALANCE_POLICY_PLAN: Every PERIOD minutes S1 computes the SOC balancing plan and sends addressed BALANCE commands. (R88) -/
  | balancePolicyPlan (t : Nat)
  /-- BAL_SOURCE_CHANGE: A change of ACQ_BAL_CFG.SRC or clearing of ENABLE makes S1 send all-zero timers to every node. (R87) -/
  | balSourceChange (t : Nat) (src : Nat) (en : Bool)
  /-- OPEN_WIRE_START: A write of ACQ_OW_CFG.START starts an open-wire run, or holds it until the current run ends. (R93) -/
  | openWireStart (t : Nat) (node : Nat)
  /-- OPEN_WIRE_PERIODIC: The open-wire period expires and a run starts on all nodes. (R93) -/
  | openWirePeriodic (t : Nat)
  /-- OPEN_WIRE_RUN_END: At the end of a run each tested wire is classified and WIRE_SUSPECT marks and CELL_DEVIANT events follow. (R94) -/
  | openWireRunEnd (t : Nat)
  /-- WINDOWED_VALUE_READY: At M + W x 2.5 us + 5 us the windowed current and voltages are ready, and at a strobe the CVI value registers are written together. (R98) -/
  | windowedValueReady (t : Nat)
  /-- GRID_MILLISECOND: At each whole grid millisecond CVI_SH_STAT.OVR is re-evaluated over the last millisecond. (R100) -/
  | gridMillisecond (t : Nat)
  /-- AZINIT_END: The 100 ms initial auto-zero ends and AZINIT clears. (R101) -/
  | azinitEnd (t : Nat)
  /-- SHUNT_HANDOVER: At a whole second the overlap is compared, and the other converter takes over unless a failure decision cancels it. (R102) -/
  | shuntHandover (t : Nat)
  /-- SHUNT_AZ_SHORT: 5 us after handover the relieved converter's input is shorted for auto-zero. (R102) -/
  | shuntAzShort (t : Nat)
  /-- SHUNT_AZ_OFFSET_END: At H + 890 ms the offset average becomes the relieved converter's OFS. (R102) -/
  | shuntAzOffsetEnd (t : Nat)
  /-- SHUNT_AZ_RECONNECT: At H + 900 ms the relieved converter is reconnected to the shunt. (R102) -/
  | shuntAzReconnect (t : Nat)
  /-- SHUNT_FORCE_WRITE: A write of CVI_SH_CFG.FORCE selects one converter alone, accepted only with converter disabled and contactors open. (R105) -/
  | shuntForceWrite (t : Nat) (f : Nat)
  /-- INS_LEG_SWITCH: The insulation monitor changes the connected leg, with both legs open for 10 ms. (R108) -/
  | insLegSwitch (t : Nat)
  /-- INS_HALF_PERIOD_END: At the end of a half-period the means are judged for validity and a new R_iso, R_pos and R_neg result is computed. (R108) -/
  | insHalfPeriodEnd (t : Nat)
  /-- ESTIMATOR_UPDATE: Once a quarter's records are in tiles, its slice predicts and corrects every cell group and applies the conflict and anchor rules. (R116) -/
  | estimatorUpdate (t : Nat) (q : Nat)
  /-- STRING_VALUES_UPDATE: Every 100 ms S1 forms the string SOC, energy and health values and the reserve taper entry. (R124) -/
  | stringValuesUpdate (t : Nat)
  /-- LEARN_INTERVAL_EXPIRY: The learning interval since LEARNLAST expires and DUE is set with event LEARN_DUE. (R144) -/
  | learnIntervalExpiry (t : Nat)
  /-- EST_SNAPSHOT_READ: Host command reads a piece of the frozen snapshot copy, or with CAPTURE requests a new copy. (R137) -/
  | estSnapshotRead (t : Nat) (r : Req)
  /-- SNAPSHOT_CAPTURE: At the first strobe after a capture request the complete estimator state is copied and the first piece returned. (R137) -/
  | snapshotCapture (t : Nat)
  /-- SNAPSHOT_COPY_EXPIRE: The frozen snapshot copy is discarded 10 min after its last read. (R137) -/
  | snapshotCopyExpire (t : Nat)
  /-- EST_RESTORE: Host command stores a restore piece, and with APPLY checks the complete snapshot. (R138) -/
  | estRestore (t : Nat) (r : Req)
  /-- RESTORE_APPLY: At the first strobe at least 1 ms after the check each group is restored from the snapshot. (R139) -/
  | restoreApply (t : Nat)
  /-- RESTORE_DISCARD: A restore whose pieces stop for 60 s is discarded. (R138) -/
  | restoreDiscard (t : Nat)
  /-- REST_GRANT: Host command opens, replaces or ends a rest window. (R130) -/
  | restGrant (t : Nat) (r : Req)
  /-- REST_WINDOW_END: At the end of a rest window quasi-rest anchors are applied and REST_FUTILE may be set. (R130) -/
  | restWindowEnd (t : Nat)
  /-- EST_RESET_CELL: Host command reinitialises a range of cell groups at the next strobe. (R133) -/
  | estResetCell (t : Nat) (r : Req)
  /-- LEARN_START: Host command starts the full-discharge learning job. (R145) -/
  | learnStart (t : Nat) (r : Req)
  /-- LEARN_PHASE_END: A learning job phase reaches its end condition and the next phase begins. (R146) -/
  | learnPhaseEnd (t : Nat)
  /-- LEARN_PHASE_TIMEOUT: A learning phase exceeds its time limit and the job fails. (R146) -/
  | learnPhaseTimeout (t : Nat)
  /-- IMPEDANCE_SWEEP: Host command starts an impedance sweep of up to 8 points. (R153) -/
  | impedanceSweep (t : Nat) (r : Req)
  /-- IMP_POINT_START: An impedance point fixes its amplitude and starts the sinusoid at a strobe. (R148) -/
  | impPointStart (t : Nat)
  /-- IMP_SETTLING_END: The settling cycles end and correlation sampling starts. (R150) -/
  | impSettlingEnd (t : Nat)
  /-- IMP_CORRELATION_END: The last correlation cycle ends and the sinusoid stops. (R150) -/
  | impCorrelationEnd (t : Nat)
  /-- IMP_UPLOAD_DONE: All burst samples of a point have been uploaded from the nodes. (R150) -/
  | impUploadDone (t : Nat)
  /-- IMP_FIT_DONE: The lanes complete the least-squares fit and the point's results are written, with RGROW and TINT updates. (R151) -/
  | impFitDone (t : Nat)
  /-- IMP_AUTO_SWEEP_DUE: The automatic sweep interval expires and a sweep starts, or is retried every 10 min. (R159) -/
  | impAutoSweepDue (t : Nat)
  /-- TINT_AGE_TICK: Each whole hour the AGE of every inferred temperature increments. (R158) -/
  | tintAgeTick (t : Nat)
  /-- LOOP_START_WRITE: A write of CTL_CTRL.RUN = 1 starts the control loop with warm-up, or is refused. (R176) -/
  | loopStartWrite (t : Nat)
  /-- LOOP_STOP_WRITE: A write of CTL_CTRL.RUN = 0 takes all gates low at the next control sample. (R177) -/
  | loopStopWrite (t : Nat)
  /-- LOOP_WARMUP_END: After WARM samples the selected vector is driven and STATE becomes RUNNING. (R176) -/
  | loopWarmupEnd (t : Nat)
  /-- CONV_EN_FALL: CONV_EN falls 10 us after the gates are low. (R177) -/
  | convEnFall (t : Nat)
  /-- GAIN_SWAP: At the first control sample 10 us after every lane verified the bank, the gain bank selector switches. (R179) -/
  | gainSwap (t : Nat)
  /-- NET_SETPOINT_TIMEOUT: No NET value for NETTMO x 10 ms sets NETTMO and the target becomes 0. (R173) -/
  | netSetpointTimeout (t : Nat)
  /-- ANALOG_SETPOINT_OVERRANGE: The analogue set-point stays out of range for 1 ms and ANAOVR is set. (R173) -/
  | analogSetpointOverrange (t : Nat)
  /-- PULSE_SETPOINT_FAULT: The pulse set-point leaves its range or shows no edge for 2 ms and PULSEOVR is set. (R173) -/
  | pulseSetpointFault (t : Nat)
  /-- SETPOINT_FAULT_CLEAR: An analogue or pulse set-point back in range for 10 ms clears its fault flag. (R173) -/
  | setpointFaultClear (t : Nat) (pulse : Bool)
  /-- OVERCURRENT_COMPARATOR: A shunt overcurrent comparator asserts; flint drives all gates low and latches OC_DIS or OC_CHG. (R185) -/
  | overcurrentComparator (t : Nat) (chg : Bool)
  /-- OC_HOLD_CHECK: 1 ms after an overcurrent latch a still-asserted comparator switches all coils off and sets OC_HOLD. (R187) -/
  | ocHoldCheck (t : Nat) (chg : Bool)
  /-- GATE_FAULT: An active DESAT edge drives all gates low and latches DESAT. (R185) -/
  | gateFault (t : Nat) (ph : Nat)
  /-- BARRIER_LOSS: A bitstream crossing is silent for 2 us or the isolated supply leaves its band; flint drives all gates low. (R22) -/
  | barrierLoss (t : Nat) (x : Crossing)
  /-- BARRIER_LOSS_COIL_TIMEOUT: An HV or supply barrier loss lasting 10 ms switches all coils off. (R188) -/
  | barrierLossCoilTimeout (t : Nat)
  /-- CTRL_CLOCK_LOSS: Loss of CTRL clock-good drives all gate outputs low. (R31) -/
  | ctrlClockLoss (t : Nat)
  /-- SAFE_CLOCK_LOSS: Loss of SAFE clock-good forces all gate and coil outputs off and the module enters HALT. (R30) -/
  | safeClockLoss (t : Nat)
  /-- TRIP: An accepted class A TRIP drives the gates low, with MODE 1 also switching all coils off, and is forwarded for 0xFE. (R199) -/
  | trip (t : Nat) (r : Req)
  /-- STRING_CONNECT: Host command starts the contactor close sequence as a job, or is refused. (R196) -/
  | stringConnect (t : Nat) (r : Req) (supply : Bool)
  /-- STRING_DISCONNECT: Host command starts the open sequence as a job, or acts on a running sequence. (R197) -/
  | stringDisconnect (t : Nat) (r : Req)
  /-- CLOSE_SEQUENCE_TIMER: A timed check of the close sequence (current windows, KFBTMO, PCMAX, KPC delay) expires and the sequence advances or fails. (R196) -/
  | closeSequenceTimer (t : Nat)
  /-- OPEN_SEQUENCE_TIMER: A timed step of the open sequence (low current, OPENTMO, KP and KN delays, KFBTMO) expires and the sequence advances. (R197) -/
  | openSequenceTimer (t : Nat)
  /-- AUTO_OPEN_START: After the insulation or integrity entry has held the limits at 0 for 1 s the module starts the open sequence by itself. (R197) -/
  | autoOpenStart (t : Nat)
  /-- CONTACTOR_FEEDBACK_CHANGE: A KFB input changes state and the sequence advances, or a weld or an uncommanded opening is recorded. (R198) -/
  | contactorFeedbackChange (t : Nat) (k : Nat) (closed : Bool)
  /-- COIL_PULL_END: After PULL ms a coil output changes from full-on to its hold PWM. (R195) -/
  | coilPullEnd (t : Nat) (k : Nat)
  /-- COIL_CURRENT_FAULT: A coil current below 50 mA sets COILOPEN, or above 3.5 A switches the output off and sets COILSHORT. (R195) -/
  | coilCurrentFault (t : Nat) (k : Nat) (short : Bool)
  /-- VCOIL_LOW: VCOIL falls below 8.5 V and VCOILLOW is set. (R195) -/
  | vcoilLow (t : Nat)
  /-- DIE_SENSOR_SAMPLE: The die sensor is sampled, the throttle entry is updated and the shutdown count is advanced. (R201) -/
  | dieSensorSample (t : Nat) (temp : Int)
  /-- DIE_CROSS_CHECK: Every 100 ms the die value is tested for validity and against the neighbour median, marking it broken or deviant. (R204) -/
  | dieCrossCheck (t : Nat)
  /-- NEIGHBOUR_TIMEOUT: No allocation or neighbour value for 10 s sets NONEIGH. (R203) -/
  | neighbourTimeout (t : Nat)
  /-- COMPENSATION_UPDATE: Every 100 ms the oscillators and references are corrected from the compensation temperature. (R205) -/
  | compensationUpdate (t : Nat)
  /-- THERMISTOR_CROSS_CHECK: Every 1 s each fitted thermistor is checked against its neighbours and marked broken, deviant or cleared. (R209) -/
  | thermistorCrossCheck (t : Nat)
  /-- VALVE_UPDATE: Every 1 s S1 updates the coolant valve PI duty. (R212) -/
  | valveUpdate (t : Nat)
  /-- CHILLER_REQUEST_SEND: The chiller request frame is queued every 1 s or at once on a change of REQ. (R213) -/
  | chillerRequestSend (t : Nat)
  /-- SAFETY_INPUT_SAMPLE: Every 250 us gander samples the safety inputs and accepts changes after their sample counts. (R217) -/
  | safetyInputSample (t : Nat) (levels : List Bool)
  /-- CAT1_GATE_BACKSTOP: 50 ms after acceptance gander raises its demand to flint. (R221) -/
  | cat1GateBackstop (t : Nat)
  /-- CAT1_COIL_BACKSTOP: 100 ms after acceptance gander switches off every coil still on. (R221) -/
  | cat1CoilBackstop (t : Nat)
  /-- ESTOP_DISCREPANCY_TIMEOUT: The two emergency-stop inputs disagree for more than 100 ms and DISCREP is set. (R218) -/
  | estopDiscrepancyTimeout (t : Nat)
  /-- SAFETY_HEALTHY_TIMER: Every enabled input has been healthy for 500 ms; STATE becomes RESTART_PENDING or NORMAL. (R223) -/
  | safetyHealthyTimer (t : Nat)
  /-- SAFE_RESET: Host command clears the restart latch and clearable faults when permitted, and gander withdraws its demand. (R223) -/
  | safeReset (t : Nat) (r : Req)
  /-- PANEL_CLOSE_HOLD: A valid actuation held for 1 s with CONN OPEN starts a panel close, or raises PANEL_REFUSED. (R225) -/
  | panelCloseHold (t : Nat) (supply : Bool)
  /-- SWITCH_READ_CYCLE: Every 50 ms gander reads the sealed switches in three phases and checks pattern, validity and change. (R226) -/
  | switchReadCycle (t : Nat) (p1 : Nat) (p2 : Nat) (p3 : Nat)
  /-- COIL_OFF_PULSE_TEST: Once per second gander switches an energised coil off for 300 us and checks the output falls below 2 V. (R229) -/
  | coilOffPulseTest (t : Nat) (k : Nat) (ok : Bool)
  /-- CONV_EN_READBACK: Within 5 us of a CONV_EN change gander reads the pad and gate outputs back, raising ENRB on mismatch. (R231) -/
  | convEnReadback (t : Nat) (ok : Bool)
  /-- INPUT_STAGE_TEST: Each second gander forces a safety input low for 100 us and checks the read-back. (R232) -/
  | inputStageTest (t : Nat) (i : Nat) (ok : Bool)
  /-- GANDER_SELF_TEST: Every 10 min gander checks its ROM CRC and RAM, raising GSELF on failure. (R232) -/
  | ganderSelfTest (t : Nat) (ok : Bool)
  /-- GANDER_START_COMPLETE: Gander's start tests complete and STATE leaves START. (R233) -/
  | ganderStartComplete (t : Nat) (rom : Bool) (supply : Bool) (stage : List Bool)
  /-- LANE_WATCHDOG_TIMEOUT: A lane watchdog is unserved for 2 ms or its slice fails to post for 64 samples, and it is fenced. (R243) -/
  | laneWatchdogTimeout (t : Nat) (l : Nat)
  /-- SWITCHOVER_TILES_VERIFIED: The mule has verified its tiles; it loads the checkpoint, catches up and copies the coefficients. (R247) -/
  | switchoverTilesVerified (t : Nat)
  /-- SWITCHOVER_SHADOW_START: At t_c the mule copies x-hat and u and begins 16 shadow samples. (R247) -/
  | switchoverShadowStart (t : Nat)
  /-- TOKEN_GRANT: After agreeing shadow samples the mule is granted the phase token and becomes ACTIVE. (R246) -/
  | tokenGrant (t : Nat)
  /-- SWITCHOVER_ABANDON: The phase is not driven again by sample 4,000 and the switch-over is abandoned. (R247) -/
  | switchoverAbandon (t : Nat)
  /-- LANE_SELFTEST_END: A lane's self-test completes and it becomes MULE or RETIRED. (R251) -/
  | laneSelftestEnd (t : Nat) (l : Nat) (logic : Bool) (march : Bool) (tiles : Nat)
  /-- MULE_SELFTEST_DUE: The TESTH interval expires and the mule enters TESTING. (R251) -/
  | muleSelftestDue (t : Nat)
  /-- SUPERVISOR_HEARTBEAT_TIMEOUT: A supervisor signal is missing for 50 ms and gander asserts the supervisor-only reset, or a system request on a second failure. (R250) -/
  | supervisorHeartbeatTimeout (t : Nat)
  /-- SUPERVISOR_RESUME_TIMEOUT: The supervisor has not resumed 500 ms after its reset; held entries read 0 both ways. (R250) -/
  | supervisorResumeTimeout (t : Nat)
  /-- SUPERVISOR_RESUMED: The supervisor resumes from verified code tiles after a supervisor-only reset. (R359) -/
  | supervisorResumed (x : Resume)
  /-- HEALTH_HOURLY_WRITE: Each hour the lifetime health figures are written to flash. (R253) -/
  | healthHourlyWrite (m : FlashAt)
  /-- LANE_STATUS: Host command returns the lane registers. (R296) -/
  | laneStatus (t : Nat) (r : Req)
  /-- LANE_ROTATE: Host command requests a mule rotation at the next PARK entry. (R252) -/
  | laneRotate (t : Nat) (r : Req)
  /-- SELFTEST: Host command starts a mule self-test job. (R251) -/
  | selftest (t : Nat) (r : Req)
  /-- DISCOVERY_SEND: The bellwether sends a discovery frame with HOP 0 at start and every 1 s. (R257) -/
  | discoverySend (t : Nat)
  /-- DISCOVERY_RECEIVE: A module takes HOP + 1 as its position, records its up port and forwards the frame. (R257) -/
  | discoveryReceive (t : Nat) (port : Nat) (raw : List Byte)
  /-- DISPATCH_CYCLE_START: At each whole 10 ms each module latches its report values. (R261) -/
  | dispatchCycleStart (t : Nat)
  /-- REPORT_SEND: At t_a + 2 ms each module sends its string report out of both line ports. (R260) -/
  | reportSend (t : Nat)
  /-- REPORT_RECEIVE: A dispatcher receives a string report before the deadline, or discards a late one. (R260) -/
  | reportReceive (t : Nat) (port : Nat) (raw : List Byte) (serial : Nat)
  /-- ALLOCATION_COMPUTE: At the report deadline the dispatcher classifies positions, takes a rest action, divides P_net and sends the allocation. (R264) -/
  | allocationCompute (t : Nat)
  /-- ALLOCATION_RECEIVE: A module receives an allocation and holds it for the apply instant. (R267) -/
  | allocationReceive (t : Nat) (port : Nat) (raw : List Byte)
  /-- ALLOCATION_APPLY: At t_a + 10 ms each module applies its TARGET, caps, REST and neighbour temperatures. (R267) -/
  | allocationApply (t : Nat)
  /-- ALLOCATION_TIMEOUT: No allocation for ALLOCTMO x 10 ms makes entry 8 read 0 both ways. (R268) -/
  | allocationTimeout (t : Nat)
  /-- PBAY_TIMEOUT: No new P_bay for PTMO x 10 ms makes P_bay 0 and sets PTMO. (R262) -/
  | pbayTimeout (t : Nat)
  /-- BELLWETHER_START_TIMEOUT: A bellwether hearing no allocation within 50 ms of start begins dispatching. (R269) -/
  | bellwetherStartTimeout (t : Nat)
  /-- ALTERNATE_TAKEOVER: The alternate hears no bellwether allocation for 50 ms and takes over dispatch. (R269) -/
  | alternateTakeover (t : Nat)
  /-- HANDBACK_WRITE: A write of BAY_CTRL.HANDBACK at the dispatching alternate hands dispatch back to the bellwether. (R269) -/
  | handbackWrite (t : Nat)
  /-- BAY_SETPOINT: Host command sets P_bay at the bellwether or the alternate. (R262) -/
  | baySetpoint (t : Nat) (r : Req)
  /-- BAY_MAP: Host command reads or sets the bay map of serial numbers. (R296) -/
  | bayMap (t : Nat) (r : Req)
  /-- RELAY: Host command carries an inner packet along the bay line and returns its reply. (R258) -/
  | relay (t : Nat) (r : Req)
  /-- RELAY_TIMEOUT: A relayed request is unanswered after 500 ms and ends with TIMEOUT. (R258) -/
  | relayTimeout (t : Nat)
  /-- PACKET_RECEIVE: An arriving Tchiris packet is checked in order and queued, forwarded, answered or discarded. (R277) -/
  | packetReceive (t : Nat) (via : Via) (src : Nat) (raw : List Byte)
  /-- SPI_WRITE: An SPI WRITE transaction delivers one packet, checked when SPI_CS_N rises. (R274) -/
  | spiWrite (t : Nat) (raw : List Byte)
  /-- SPI_STATUS: An SPI STATUS transaction returns the output flags and the next packet length. (R274) -/
  | spiStatus (t : Nat)
  /-- SPI_READ: An SPI READ transaction returns the next packet of the output stream and removes it when fully clocked. (R274) -/
  | spiRead (t : Nat) (n : Nat)
  /-- HELLO: Untagged request reserves a session and returns the module nonce. (R280) -/
  | hello (t : Nat) (r : Req)
  /-- AUTH: Tagged request opens the session under the derived key, optionally taking or breaking the owner lock. (R280) -/
  | auth (t : Nat) (r : Req)
  /-- BYE: Host command closes the session after the reply. (R282) -/
  | bye (t : Nat) (r : Req)
  /-- PING: Host command echoes its payload and keeps the session open. (R296) -/
  | ping (t : Nat) (r : Req)
  /-- AUTH_TIMEOUT: A session awaiting AUTH for 5 s returns to free. (R280) -/
  | authTimeout (t : Nat) (n : Nat)
  /-- SESSION_IDLE_TIMEOUT: A session without an accepted request for 60 s closes. (R282) -/
  | sessionIdleTimeout (t : Nat) (n : Nat)
  /-- HELLO_LOCKOUT_EXPIRE: The 60 s lockout of a source address after repeated failures ends. (R281) -/
  | helloLockoutExpire (t : Nat) (src : Nat)
  /-- PROVISIONING_CONTEXT_EXPIRE: A provisioning context with no request for 60 s is reset. (R279) -/
  | provisioningContextExpire (t : Nat) (n : Nat)
  /-- EVENT_REPORT: The reporter reads a source's CNT, sends event packets to subscribed sessions and clears CNT. (R289) -/
  | eventReport (t : Nat) (n : Nat)
  /-- EVENT_RESEND: An unacknowledged reliable event is resent every 1 s and discarded after 3 repeats. (R290) -/
  | eventResend (t : Nat) (n : Nat)
  /-- JOB_TABLE_EXPIRE: An ended job is removed from the job table after 60 s. (R291) -/
  | jobTableExpire (t : Nat) (id : Nat)
  /-- GET_STATUS: Host command returns the module status summary. (R296) -/
  | getStatus (t : Nat) (r : Req)
  /-- GET_CELLS: Host command returns per-group voltage, temperature, SOC and state records. (R122) -/
  | getCells (t : Nat) (r : Req)
  /-- GET_STRING: Host command returns string current, voltages, SOC and status. (R296) -/
  | getString (t : Nat) (r : Req)
  /-- GET_LIMITS: Host command returns the limits, binding entries and all stack entries. (R296) -/
  | getLimits (t : Nat) (r : Req)
  /-- GET_HEALTH: Host command returns the health figures. (R253) -/
  | getHealth (t : Nat) (r : Req)
  /-- CFG_WRITE: Host command stages configuration items and keys. (R301) -/
  | cfgWrite (t : Nat) (r : Req)
  /-- CFG_READ: Host command returns committed or staged configuration items. (R302) -/
  | cfgRead (t : Nat) (r : Req)
  /-- CFG_COMMIT: Host command checks the merged set, writes it to flash and applies it. (R302) -/
  | cfgCommit (t : Nat) (r : Req) (flash : FlashDone)
  /-- CFG_DISCARD: CFG_COMMIT with DISCARD drops every staged item, table and coefficient record. (R302) -/
  | cfgDiscard (t : Nat) (r : Req)
  /-- TABLE_LOAD: Host command adds a piece to the table record assembly and checks and stages the completed record. (R303) -/
  | tableLoad (t : Nat) (r : Req)
  /-- COEF_LOAD: Host command adds a piece of a coefficient record and loads it or requests a swap. (R178) -/
  | coefLoad (t : Nat) (r : Req)
  /-- LOAD_ASSEMBLY_TIMEOUT: A table or coefficient assembly without a piece for 60 s is discarded. (R303) -/
  | loadAssemblyTimeout (t : Nat) (coef : Bool)
  /-- SETPOINT: Host command stores the NET set-point value at the next control sample. (R304) -/
  | setpoint (t : Nat) (r : Req)
  /-- SETPOINT_SOURCE: Host command sets SRC, PMODE and LOCAL at one control sample. (R304) -/
  | setpointSource (t : Nat) (r : Req)
  /-- BALANCE_PLAN: Host command sends a balancing plan to the nodes and returns their result codes. (R305) -/
  | balancePlan (t : Nat) (r : Req)
  /-- PARK: Host command enters PARK after its reply: checkpoints, rotation, router save, slowed ring and stop. (R373) -/
  | park (t : Nat) (r : Req)
  /-- WAKE: Host command in a listen window starts a full wake, otherwise answers OK without effect. (R306) -/
  | wake (t : Nat) (r : Req)
  /-- JOB_STATUS: Host command returns a job's state and progress. (R292) -/
  | jobStatus (t : Nat) (r : Req)
  /-- JOB_CANCEL: Host command ends a cancellable job. (R307) -/
  | jobCancel (t : Nat) (r : Req)
  /-- EVENT_SUBSCRIBE: Host command replaces the session's event subscription. (R289) -/
  | eventSubscribe (t : Nat) (r : Req)
  /-- EVENT_ACK: Host command acknowledges reliable events up to a sequence. (R290) -/
  | eventAck (t : Nat) (r : Req)
  /-- ATTN_CLAIM: Host command claims the vector presented on an attention line. (R350) -/
  | attnClaim (t : Nat) (r : Req)
  /-- ATTN_EOI: Host command ends service of a claimed vector. (R350) -/
  | attnEoi (t : Nat) (r : Req)
  /-- REC_FREEZE: Host command stops recorder flash writes for up to 24 h. (R393) -/
  | recFreeze (t : Nat) (r : Req)
  /-- REC_READ: Host command returns recorder records in RECNO order. (R394) -/
  | recRead (t : Nat) (r : Req)
  /-- REC_UNFREEZE: Host command ends the freeze and queues the pending records. (R393) -/
  | recUnfreeze (t : Nat) (r : Req)
  /-- UPD_BEGIN: Host command opens a firmware update. (R400) -/
  | updBegin (t : Nat) (r : Req)
  /-- UPD_DATA: Host command adds a piece of the update stream. (R401) -/
  | updData (t : Nat) (r : Req)
  /-- UPD_APPLY: Host command starts the apply job that writes, checks and marks the target slot. (R402) -/
  | updApply (t : Nat) (r : Req)
  /-- UPD_APPLY_DONE: The apply job completes or fails and the slot record and option bytes are written. (R402) -/
  | updApplyDone (t : Nat) (flash : FlashDone)
  /-- UPD_CONFIRM: Host command makes a TRIAL running image VALID. (R403) -/
  | updConfirm (t : Nat) (r : Req)
  /-- UPD_ABORT: Host command discards an open update or stops the apply job. (R401) -/
  | updAbort (t : Nat) (r : Req)
  /-- UPD_TRIAL_EXPIRE: 600 s pass without UPD_CONFIRM and the trial expires. (R403) -/
  | updTrialExpire (t : Nat)
  /-- CAL_READ: Host command returns the stored calibration set. (R113) -/
  | calRead (t : Nat) (r : Req)
  /-- CAL_WRITE: Host command replaces the calibration set in flash. (R114) -/
  | calWrite (t : Nat) (r : FlashReq)
  /-- CAL_MEASURE: Host command starts averaging the raw codes of one converter. (R308) -/
  | calMeasure (t : Nat) (r : Req)
  /-- CAL_MEASURE_DONE: The measurement time ends and the job completes with mean and deviation. (R308) -/
  | calMeasureDone (t : Nat)
  /-- TIME_GET: Host command returns quartz time and time flags. (R308) -/
  | timeGet (t : Nat) (r : Req)
  /-- TIME_STEP: Host command steps quartz once when no step has been taken. (R322) -/
  | timeStep (t : Nat) (r : Req)
  /-- TIME_STATUS: Host command returns the PTP state and figures. (R296) -/
  | timeStatus (t : Nat) (r : Req)
  /-- SAFE_STATUS: Host command returns the safety registers. (R296) -/
  | safeStatus (t : Nat) (r : Req)
  /-- RESET_SYSTEM: RESET with reach SYSTEM asserts a system reset 10 ms after its reply. (R309) -/
  | resetSystem (t : Nat) (r : Req)
  /-- RESET_SUPERVISOR: RESET with reach SUPERVISOR asserts the supervisor-only reset. (R309) -/
  | resetSupervisor (t : Nat) (r : Req)
  /-- RESET_LANE: RESET with reach LANE resets a non-active lane, which re-enters MULE through TESTING. (R309) -/
  | resetLane (t : Nat) (r : Req)
  /-- RESET_PORT: RESET with reach PORT resets one host port. (R309) -/
  | resetPort (t : Nat) (r : Req)
  /-- TILE_SCRUB: Host command starts a job verifying the CRC of a tile range. (R383) -/
  | tileScrub (t : Nat) (r : Req)
  /-- TRACE_STOP: TRACE with CMD 0 stops tracing. (R309) -/
  | traceStop (t : Nat) (r : Req)
  /-- TRACE_START: TRACE with CMD 1 starts tracing of the sources in MASK. (R309) -/
  | traceStart (t : Nat) (r : Req)
  /-- TRACE_READ: TRACE with CMD 2 returns trace entries from Q47. (R309) -/
  | traceRead (t : Nat) (r : Req)
  /-- ETH_LINK_LOSS: A port's link is down for 10 ms after being up and LOSS increments. (R312) -/
  | ethLinkLoss (t : Nat) (p : Nat)
  /-- ETH_LINK_UP: A port's PHY link comes up. (R312) -/
  | ethLinkUp (t : Nat) (p : Nat)
  /-- SWITCH_FRAME_FORWARD: A frame arriving at a switch port is learned, queued by priority and forwarded or delivered. (R313) -/
  | switchFrameForward (t : Nat) (port : Nat) (f : List Byte) (res : Int)
  /-- MAC_ENTRY_AGEING: A learned MAC entry ages out after 300 s. (R313) -/
  | macEntryAgeing (t : Nat)
  /-- ARP_REQUEST: The module answers an ARP request for its IPv4 address. (R316) -/
  | arpRequest (t : Nat) (port : Nat) (sha : Nat) (spa : Nat) (tpa : Nat)
  /-- NEIGHBOUR_SOLICITATION: The module answers IPv6 Neighbour Discovery for its addresses. (R316) -/
  | neighbourSolicitation (t : Nat) (port : Nat) (src : Nat) (target : Nat)
  /-- ICMP_ECHO: The module answers an ICMP or ICMPv6 echo request. (R316) -/
  | icmpEcho (t : Nat) (port : Nat) (v6 : Bool) (src : Nat) (dst : Nat) (rest : List Byte)
  /-- PTP_ANNOUNCE: A received Announce enters the Best Master Clock Algorithm. (R317) -/
  | ptpAnnounce (t : Nat) (port : Nat) (a : Announce)
  /-- PTP_SYNC: A received Sync is timestamped at the pads. (R317) -/
  | ptpSync (t : Nat) (port : Nat) (m : PtpMsg)
  /-- PTP_FOLLOW_UP: A Follow_Up completes an offset measurement, which drives the step, the servo or a refusal. (R324) -/
  | ptpFollowUp (t : Nat) (port : Nat) (m : PtpMsg)
  /-- PTP_DELAY_REQ_SEND: The slave port sends a Delay_Req on its schedule. (R317) -/
  | ptpDelayReqSend (t : Nat) (port : Nat)
  /-- PTP_DELAY_RESP: A received Delay_Resp gives a path delay sample. (R317) -/
  | ptpDelayResp (t : Nat) (port : Nat) (m : PtpMsg)
  /-- PTP_PDELAY_REQ: A received Pdelay_Req is answered with Pdelay_Resp and Pdelay_Resp_Follow_Up. (R317) -/
  | ptpPdelayReq (t : Nat) (port : Nat) (m : PtpMsg)
  /-- PTP_PDELAY_RESP: A received Pdelay_Resp and its follow-up give the link delay. (R317) -/
  | ptpPdelayResp (t : Nat) (port : Nat) (m : PtpMsg) (f : PtpMsg)
  /-- PTP_SYNC_TIMEOUT: No valid Sync and Follow_Up pair for 3 s moves the state to HOLDOVER. (R323) -/
  | ptpSyncTimeout (t : Nat)
  /-- TX_TIMESTAMP_DRAIN: The PTP stack takes a transmit timestamp from Q32 or Q33. (R321) -/
  | txTimestampDrain (t : Nat) (port : Nat)
  /-- CAN_PORT_RESTART: A write of CAN_CFG, CAN_BTR or CAN_DBTR restarts the port, flushing queues and clearing counters. (R328) -/
  | canPortRestart (t : Nat)
  /-- CAN_BUS_INTEGRATION: After 11 recessive bits the restarted controller takes part on the bus. (R328) -/
  | canBusIntegration (t : Nat)
  /-- CAN_FRAME_RECEIVE: A correct data frame is stored in its matching receive object with a timestamp, or discarded. (R334) -/
  | canFrameReceive (t : Nat) (f : CanFrame) (ago : Nat)
  /-- CAN_ABD_DWELL_TIMEOUT: A detection candidate's dwell expires without 8 good frames and the search moves on. (R329) -/
  | canAbdDwellTimeout (t : Nat)
  /-- CAN_ERROR: A bus error is detected and logged, and the error counters move the confinement state. (R330) -/
  | canError (t : Nat) (typ : Nat) (tx : Bool) (dph : Bool) (inc : Nat)
  /-- CAN_RECOVER_WRITE: A write of CAN_CTRL.RECOVER starts a held bus-off recovery. (R330) -/
  | canRecoverWrite (t : Nat)
  /-- CAN_RECOVERY_COMPLETE: After 128 recessive sequences the port returns to error-active. (R330) -/
  | canRecoveryComplete (t : Nat)
  /-- CAN_FRAME_TRANSMITTED: A frame completes transmission, or loses arbitration and stays queued. (R331) -/
  | canFrameTransmitted (t : Nat) (e : CanTx)
  /-- CAN_LIMIT_FRAME: Every STATPER x 10 ms the limit frame is queued. (R332) -/
  | canLimitFrame (t : Nat)
  /-- CAN_TXGO: A write of CAN_TXGO queues the staged host frame into Q35 or Q36. (R333) -/
  | canTxgo (t : Nat) (v : Nat)
  /-- IIC_TARGET_WRITE: A write transaction to the target sets the pointer and writes the mailbox. (R341) -/
  | iicTargetWrite (t : Nat) (x : IicBytes) (cut : Bool)
  /-- IIC_TARGET_READ: A read transaction returns a coherent copy of the window from the pointer. (R341) -/
  | iicTargetRead (t : Nat) (x : IicCount)
  /-- IIC_MAILBOX_DRAIN: S0 takes a Q45 entry and raises IIC_MBX_WRITE. (R341) -/
  | iicMailboxDrain (t : Nat)
  /-- IIC_BUS_FREE: The bus becomes free and a waiting attention call starts. (R340) -/
  | iicBusFree (x : BusIdle)
  /-- IIC_ATTN_CALL_END: An attention call completes, or fails and is retried or dropped. (R343) -/
  | iicAttnCallEnd (t : Nat) (how : Nat)
  /-- IIC_ARBITRATION_LOST: The module loses arbitration in a call and releases the bus. (R344) -/
  | iicArbitrationLost (t : Nat) (byte : Nat) (x : ArbLoss)
  /-- IIC_STRETCH_TIMEOUT: A stretch or stuck SDA exceeds STRTMO and a bus error is handled. (R344) -/
  | iicStretchTimeout (t : Nat) (x : BusHang)
  /-- IIC_ATTN_SCHEDULE: A change of selected status bytes increments SEQ and schedules a call after MINGAP. (R343) -/
  | iicAttnSchedule (t : Nat)
  /-- EVR_TGT_WRITE: A write changing a source's target withdraws and re-offers a presented source. (R354) -/
  | evrTgtWrite (t : Nat) (n : Nat) (v : Nat)
  /-- EVR_HOLD_WRITE: A write of EVR_GDIS.HOLD stops or resumes presentation on the host lines. (R353) -/
  | evrHoldWrite (t : Nat) (on : Bool)
  /-- EVR_SLEEP_WRITE: A write of EVR_HCTL.SLEEP puts a host target to sleep or wakes it. (R355) -/
  | evrSleepWrite (t : Nat) (m : Nat)
  /-- EVR_REDIRECT_TIMEOUT: A source waiting at a sleeping target for REDIR x 10 ms moves to its fallback. (R355) -/
  | evrRedirectTimeout (t : Nat) (n : Nat)
  /-- ROUTER_TEST_END: The router's own test ends and the mode becomes NORMAL. (R352) -/
  | routerTestEnd (t : Nat)
  /-- POWER_ON_RESET: The core rail is out of band and a reset of full reach is asserted. (R358) -/
  | powerOnReset (p : ResetLevel)
  /-- RESET_PIN: RESET_N low for 1 us asserts a system reset. (R358) -/
  | resetPin (p : ResetLevel)
  /-- SUPERVISOR_WATCHDOG_TIMEOUT: RST_WDOG unserved for 2 s asserts a system reset. (R358) -/
  | supervisorWatchdogTimeout (t : Nat)
  /-- WATCHDOG_KICK: A firmware write of RST_WDOG.KICK serves the supervisor watchdog; host writes are refused. (R358) -/
  | watchdogKick (t : Nat)
  /-- START_TIMEOUT: A start not confirmed within 5 s asserts a system reset. (R368) -/
  | startTimeout (t : Nat)
  /-- RESET_RELEASE: The last covering reset releases and the start sequence begins with option loading and the boot ROM. (R367) -/
  | resetRelease (t : Nat) (bw0 : Bool) (bw1 : Bool)
  /-- FIRMWARE_START: The verified image starts, loads configuration and lanes and starts the ring and auto-zero. (R367) -/
  | firmwareStart (t : Nat)
  /-- CLOCK_GOOD: A domain completes 1,024 in-band cycles and becomes clock-good, releasing its blocks. (R362) -/
  | clockGood (t : Nat) (d : Clock)
  /-- CLOCK_GOOD_TIMEOUT: A domain does not become clock-good in time and its failure consequences apply. (R363) -/
  | clockGoodTimeout (t : Nat) (d : Nat) (l : Nat)
  /-- CLOCK_LOSS: A domain loses clock-good in service and the failure table applies. (R363) -/
  | clockLoss (t : Nat) (d : Nat) (l : Nat)
  /-- DEBUG_RELEASE_REQUEST: A debug probe asks to release blocks without clock-good, refused while locked. (R364) -/
  | debugReleaseRequest (t : Nat) (d : Nat)
  /-- VAUX_MEASURE: Every 100 ms VAUX is measured into RST_VAUX and VAUXLOW is updated. (R370) -/
  | vauxMeasure (t : Nat) (mv : Nat)
  /-- VAUX_LOSS: VAUX falls below about 4.2 V, the logic stops and the module is OFF. (R370) -/
  | vauxLoss (p : PowerLoss)
  /-- AO_COARSE_TIME_UPDATE: Once per second the AO coarse time takes quartz seconds. (R38) -/
  | aoCoarseTimeUpdate (t : Nat)
  /-- WAKE_ETH_ENERGY: Signal energy on an Ethernet pair in PARK opens a listen window. (R315) -/
  | wakeEthEnergy (t : Nat) (p : Nat)
  /-- WAKE_SPI_CS: SPI_CS_N low in PARK opens a listen window on SPI. (R374) -/
  | wakeSpiCs (t : Nat)
  /-- WAKE_CAN_DOMINANT: A dominant CAN level in PARK causes a full wake. (R337) -/
  | wakeCanDominant (t : Nat)
  /-- WAKE_IIC_ADDRESS: An I2C START with the module's address in PARK causes a full wake. (R338) -/
  | wakeIicAddress (x : IicWake)
  /-- WAKE_TIMER: RST_WAKETMR reaches 0 in PARK and causes a full wake. (R374) -/
  | wakeTimer (t : Nat)
  /-- LISTEN_WINDOW_EXPIRE: A listen window ends without WAKE and the module returns to PARK. (R374) -/
  | listenWindowExpire (t : Nat)
  /-- LINK_TRAINING_ATTEMPT: A port without link makes one training attempt every LINKPER seconds. (R374) -/
  | linkTrainingAttempt (t : Nat) (p : Nat)
  /-- TILE_LOAD_MISMATCH: A tile load fails its CRC; it is retried once and retired to a spare on a second failure. (R378) -/
  | tileLoadMismatch (t : Nat) (region : Nat) (tile : Nat) (use : TileUse) (first : TileLoad) (again : TileRead)
  /-- TILE_RECOVERY_DONE: A retired or suspect tile's content is rebuilt by its region policy. (R379) -/
  | tileRecoveryDone (t : Nat) (region : Nat) (tile : Nat)
  /-- SCRUB_TICK: The background scrub loads the next tiles and tests the spares. (R383) -/
  | scrubTick (t : Nat) (x : ScrubStep) (bad : Nat)
  /-- OPERATING_TIME_TICK: Each second OPSEC increments and the recorder accumulates its per-second values. (R387) -/
  | operatingTimeTick (t : Nat)
  /-- RECORD_WRITE_DONE: A record from Q42 is written to flash with its RECNO. (R389) -/
  | recordWriteDone (t : Nat) (bad : List Nat)
  /-- DAILY_MERGE: A day's hourly records are merged into one daily record and marked. (R392) -/
  | dailyMerge (m : FlashAt)
  /-- REC_FREEZE_EXPIRE: A freeze ends after 86,400 s of RUN and HALT time and the pending records are written. (R393) -/
  | recFreezeExpire (t : Nat)
  /-- VCOIL_RESTORED: VCOIL rises back above 8.5 V and VCOILLOW clears, lifting PRT_CONNBLK.VCOIL. (R195) -/
  | vcoilRestored (t : Nat)
  /-- BARRIER_RESTORED: A lost bitstream shows transitions again, or the isolated supply returns to its band, starting the 10 ms that the BARRIER release condition needs. (R185) -/
  | barrierRestored (t : Nat) (x : Crossing)
  /-- OVERCURRENT_COMPARATOR_RELEASE: A shunt overcurrent comparator deasserts, meeting the release condition of OC_DIS or OC_CHG and a condition of clearing OC_HOLD. (R187) -/
  | overcurrentComparatorRelease (t : Nat) (chg : Bool)
  /-- DESAT_RELEASE: A DESATq input returns inactive, so that once every DESATq is inactive the DESAT trip bit may be cleared. (R185) -/
  | desatRelease (t : Nat) (ph : Nat)
  /-- RING_SIGNAL_RESTORED: A master ring receive channel in loss of signal shows transitions again, and RINGE or RINGW reads RUNNING and GOOD once more. (R424) -/
  | ringSignalRestored (t : Nat) (west : Bool)
  /-- TILE_SCRUB_DONE: A host TILE_SCRUB job has verified the last tile of its range and ends. (R383) -/
  | tileScrubDone (x : ScrubEnd)
  /-- IIC_MINGAP_EXPIRY: MINGAP ms have passed since the last call or a NACK, and a waiting attention call starts if the bus is free. (R343) -/
  | iicMingapExpiry (t : Nat)
  /-- PTP_MASTER_LOST: The selected master is lost and the time state moves from LOCKING or LOCKED to HOLDOVER. (R323) -/
  | ptpMasterLost (t : Nat)
  deriving DecidableEq, Repr

end Sys2Proof
end

