-- ==== Sys2Proof/WellFormed.lean ====
section
/-! DEFINITION. Which commands are well formed: operands within the widths and the numbers of things that the manual gives them. The
meanings do not lean on it: an operand outside has no effect or is answered as the manual says. -/

namespace Sys2Proof

/-- Header fields and payload of a request within Table 13.2. -/
def Req.wf (r : Req) : Bool :=
  decide (r.session < 256) && decide (r.cls < 256) && decide (r.seq < 65536) && decide (r.target < 256) && decide (r.payload.length ≤ 1400)

/-- A 24-bit code (R97). -/
def okCode (x : Int) : Bool := decide (-8388608 ≤ x) && decide (x ≤ 8388607)

/-- Codes of the converters in range, four phases. -/
def SampleIn.wf (x : SampleIn) : Bool :=
  okCode x.a && okCode x.b && okCode x.vstr && okCode x.vbus && okCode x.vins && x.iph.length == 4 && x.iph.all okCode

/-- At most 40 nodes answer, with 13 bytes each. -/
def StartupIn.wf (x : StartupIn) : Bool :=
  decide (x.idents.length ≤ 40) && x.idents.all (fun o => match o with | none => true | some b => b.length == 13)

/-- A register address: 32 bits, aligned (R15). -/
def okAddr (a : Nat) : Bool := decide (a < 4294967296) && a % 4 == 0

/-- Ethernet ports are numbered 1 and 2. -/
def okPort (p : Nat) : Bool := p == 1 || p == 2

/-- A CAN frame: 11 or 29 identifier bits, 8 data bytes or 64; a remote frame is classical and has none (R326, R334). -/
def CanFrame.wf (f : CanFrame) : Bool :=
  decide (f.id < (if f.ide then 536870912 else 2048)) && decide (f.data.length ≤ (if f.rtr then 0 else if f.fdf then 64 else 8)) && !(f.rtr && f.fdf)

/-- Widths of an Announce message. -/
def Announce.wf (a : Announce) : Bool :=
  decide (a.domain < 256) && decide (a.p1 < 256) && decide (a.cls < 256) && decide (a.acc < 256) && decide (a.var < 65536)
    && decide (a.p2 < 256) && decide (a.gm < 2 ^ 64) && decide (a.steps < 65536) && decide (a.src < 2 ^ 80)

/-- Widths of the other messages. -/
def PtpMsg.wf (m : PtpMsg) : Bool := decide (m.domain < 256) && decide (m.src < 2 ^ 80) && decide (m.seq < 65536)

/-- What a tile holds names a position, a quarter or a queue that exists. -/
def TileUse.wf : TileUse → Bool
  | .code c => decide (c ≤ 1)
  | .tables => true
  | .coefs => true
  | .uncommitted => true
  | .config => true
  | .measurement p => decide (1 ≤ p) && decide (p ≤ 40)
  | .cells => true
  | .checkpoint q => decide (q < 4)
  | .queue n _ _ => decide (n < 48)
  | .work sessions _ _ => sessions.all (fun n => decide (n < 8))

/-- A tile of main SRAM (region 0, spares included) or of the local memory of L0 to L4 (regions 1 to 5). -/
def okTile (region tile : Nat) : Bool := if region = 0 then decide (tile < 33792) else decide (region ≤ 5) && decide (tile < 1056)

/-- The command is well formed. -/
def Instr.wf : Instr → Bool
  | .regRead _ r => r.wf
  | .regWrite _ r => r.wf
  | .regModify _ r => r.wf
  | .regReadBlock _ r => r.wf
  | .rcFieldRead _ a => okAddr a
  | .cviQ0Read _ => true
  | .timNsecRead _ => true
  | .canRxstatRead _ n => decide (n < 128)
  | .canErrqRead _ => true
  | .canLogqRead _ => true
  | .prtTripClear _ m => decide (m < 4294967296)
  | .weldClear _ m => decide (m < 8)
  | .controlSample _ x => x.wf
  | .envelopeBandUpdate _ => true
  | .scanStrobe _ bad again => bad.all (fun k => decide (k < 4)) && again.all (fun x => decide (x.1 < 4))
  | .strobeEmit _ => true
  | .collectFrameSend _ => true
  | .nodeRecord _ _ slot _ => decide (slot < 64)
  | .scanEnd _ => true
  | .graceExpiry _ => true
  | .heartbeatEmit _ => true
  | .heartbeatReturn _ _ _ => true
  | .heartbeatMissed _ => true
  | .probeReturn _ _ _ => true
  | .ringLossOfSignal _ _ => true
  | .ringCommandSend _ => true
  | .ringCommandReturn _ _ => true
  | .ringStartup _ x => x.wf
  | .ringCalWrite _ => true
  | .ringLenChange _ n => decide (n < 64)
  | .balancePolicyPlan _ => true
  | .balSourceChange _ src _ => decide (src < 2)
  | .openWireStart _ node => decide (node < 64)
  | .openWirePeriodic _ => true
  | .openWireRunEnd _ => true
  | .windowedValueReady _ => true
  | .gridMillisecond _ => true
  | .azinitEnd _ => true
  | .shuntHandover _ => true
  | .shuntAzShort _ => true
  | .shuntAzOffsetEnd _ => true
  | .shuntAzReconnect _ => true
  | .shuntForceWrite _ f => decide (f < 4)
  | .insLegSwitch _ => true
  | .insHalfPeriodEnd _ => true
  | .estimatorUpdate _ q => decide (q < 4)
  | .stringValuesUpdate _ => true
  | .learnIntervalExpiry _ => true
  | .estSnapshotRead _ r => r.wf
  | .snapshotCapture _ => true
  | .snapshotCopyExpire _ => true
  | .estRestore _ r => r.wf
  | .restoreApply _ => true
  | .restoreDiscard _ => true
  | .restGrant _ r => r.wf
  | .restWindowEnd _ => true
  | .estResetCell _ r => r.wf
  | .learnStart _ r => r.wf
  | .learnPhaseEnd _ => true
  | .learnPhaseTimeout _ => true
  | .impedanceSweep _ r => r.wf
  | .impPointStart _ => true
  | .impSettlingEnd _ => true
  | .impCorrelationEnd _ => true
  | .impUploadDone _ => true
  | .impFitDone _ => true
  | .impAutoSweepDue _ => true
  | .tintAgeTick _ => true
  | .loopStartWrite _ => true
  | .loopStopWrite _ => true
  | .loopWarmupEnd _ => true
  | .convEnFall _ => true
  | .gainSwap _ => true
  | .netSetpointTimeout _ => true
  | .analogSetpointOverrange _ => true
  | .pulseSetpointFault _ => true
  | .setpointFaultClear _ _ => true
  | .overcurrentComparator _ _ => true
  | .ocHoldCheck _ _ => true
  | .gateFault _ ph => decide (ph < 4)
  | .barrierLoss _ _ => true
  | .barrierLossCoilTimeout _ => true
  | .ctrlClockLoss _ => true
  | .safeClockLoss _ => true
  | .trip _ r => r.wf
  | .stringConnect _ r _ => r.wf
  | .stringDisconnect _ r => r.wf
  | .closeSequenceTimer _ => true
  | .openSequenceTimer _ => true
  | .autoOpenStart _ => true
  | .contactorFeedbackChange _ k _ => decide (k < 3)
  | .coilPullEnd _ k => decide (k < 3)
  | .coilCurrentFault _ k _ => decide (k < 3)
  | .vcoilLow _ => true
  | .dieSensorSample _ _ => true
  | .dieCrossCheck _ => true
  | .neighbourTimeout _ => true
  | .compensationUpdate _ => true
  | .thermistorCrossCheck _ => true
  | .valveUpdate _ => true
  | .chillerRequestSend _ => true
  | .safetyInputSample _ levels => levels.length == 6
  | .cat1GateBackstop _ => true
  | .cat1CoilBackstop _ => true
  | .estopDiscrepancyTimeout _ => true
  | .safetyHealthyTimer _ => true
  | .safeReset _ r => r.wf
  | .panelCloseHold _ _ => true
  | .switchReadCycle _ p1 p2 p3 => decide (p1 < 256) && decide (p2 < 256) && decide (p3 < 256)
  | .coilOffPulseTest _ k _ => decide (k < 3)
  | .convEnReadback _ _ => true
  | .inputStageTest _ i _ => decide (i < 6)
  | .ganderSelfTest _ _ => true
  | .ganderStartComplete _ _ _ stage => stage.length == 6
  | .laneWatchdogTimeout _ l => decide (l < 5)
  | .switchoverTilesVerified _ => true
  | .switchoverShadowStart _ => true
  | .tokenGrant _ => true
  | .switchoverAbandon _ => true
  | .laneSelftestEnd _ l _ _ tiles => decide (l < 5) && decide (tiles ≤ 1056)
  | .muleSelftestDue _ => true
  | .supervisorHeartbeatTimeout _ => true
  | .supervisorResumeTimeout _ => true
  | .supervisorResumed x => x.bad.all (fun b => decide (b.tile < 33792) && decide (b.core ≤ 1))
  | .healthHourlyWrite _ => true
  | .laneStatus _ r => r.wf
  | .laneRotate _ r => r.wf
  | .selftest _ r => r.wf
  | .discoverySend _ => true
  | .discoveryReceive _ port _ => okPort port
  | .dispatchCycleStart _ => true
  | .reportSend _ => true
  | .reportReceive _ port _ _ => okPort port
  | .allocationCompute _ => true
  | .allocationReceive _ port _ => okPort port
  | .allocationApply _ => true
  | .allocationTimeout _ => true
  | .pbayTimeout _ => true
  | .bellwetherStartTimeout _ => true
  | .alternateTakeover _ => true
  | .handbackWrite _ => true
  | .baySetpoint _ r => r.wf
  | .bayMap _ r => r.wf
  | .relay _ r => r.wf
  | .relayTimeout _ => true
  | .packetReceive _ _ _ _ => true
  | .spiWrite _ _ => true
  | .spiStatus _ => true
  | .spiRead _ _ => true
  | .hello _ r => r.wf
  | .auth _ r => r.wf
  | .bye _ r => r.wf
  | .ping _ r => r.wf
  | .authTimeout _ n => decide (n < 8)
  | .sessionIdleTimeout _ n => decide (n < 8)
  | .helloLockoutExpire _ _ => true
  | .provisioningContextExpire _ n => decide (n < 8)
  | .eventReport _ n => decide (n < 192)
  | .eventResend _ n => decide (n < 8)
  | .jobTableExpire _ id => decide (1 ≤ id) && decide (id < 65536)
  | .getStatus _ r => r.wf
  | .getCells _ r => r.wf
  | .getString _ r => r.wf
  | .getLimits _ r => r.wf
  | .getHealth _ r => r.wf
  | .cfgWrite _ r => r.wf
  | .cfgRead _ r => r.wf
  | .cfgCommit _ r _ => r.wf
  | .cfgDiscard _ r => r.wf
  | .tableLoad _ r => r.wf
  | .coefLoad _ r => r.wf
  | .loadAssemblyTimeout _ _ => true
  | .setpoint _ r => r.wf
  | .setpointSource _ r => r.wf
  | .balancePlan _ r => r.wf
  | .park _ r => r.wf
  | .wake _ r => r.wf
  | .jobStatus _ r => r.wf
  | .jobCancel _ r => r.wf
  | .eventSubscribe _ r => r.wf
  | .eventAck _ r => r.wf
  | .attnClaim _ r => r.wf
  | .attnEoi _ r => r.wf
  | .recFreeze _ r => r.wf
  | .recRead _ r => r.wf
  | .recUnfreeze _ r => r.wf
  | .updBegin _ r => r.wf
  | .updData _ r => r.wf
  | .updApply _ r => r.wf
  | .updApplyDone _ _ => true
  | .updConfirm _ r => r.wf
  | .updAbort _ r => r.wf
  | .updTrialExpire _ => true
  | .calRead _ r => r.wf
  | .calWrite _ r => r.req.wf
  | .calMeasure _ r => r.wf
  | .calMeasureDone _ => true
  | .timeGet _ r => r.wf
  | .timeStep _ r => r.wf
  | .timeStatus _ r => r.wf
  | .safeStatus _ r => r.wf
  | .resetSystem _ r => r.wf
  | .resetSupervisor _ r => r.wf
  | .resetLane _ r => r.wf
  | .resetPort _ r => r.wf
  | .tileScrub _ r => r.wf
  | .traceStop _ r => r.wf
  | .traceStart _ r => r.wf
  | .traceRead _ r => r.wf
  | .ethLinkLoss _ p => okPort p
  | .ethLinkUp _ p => okPort p
  | .switchFrameForward _ port _ _ => okPort port || port == 3
  | .macEntryAgeing _ => true
  | .arpRequest _ port sha spa tpa => okPort port && decide (sha < 2 ^ 48) && decide (spa < 2 ^ 32) && decide (tpa < 2 ^ 32)
  | .neighbourSolicitation _ port src target => okPort port && decide (src < 2 ^ 128) && decide (target < 2 ^ 128)
  | .icmpEcho _ port _ src dst _ => okPort port && decide (src < 2 ^ 128) && decide (dst < 2 ^ 128)
  | .ptpAnnounce _ port a => okPort port && a.wf
  | .ptpSync _ port m => okPort port && m.wf
  | .ptpFollowUp _ port m => okPort port && m.wf
  | .ptpDelayReqSend _ port => okPort port
  | .ptpDelayResp _ port m => okPort port && m.wf
  | .ptpPdelayReq _ port m => okPort port && m.wf
  | .ptpPdelayResp _ port m f => okPort port && m.wf && f.wf
  | .ptpSyncTimeout _ => true
  | .txTimestampDrain _ port => okPort port
  | .canPortRestart _ => true
  | .canBusIntegration _ => true
  | .canFrameReceive _ f _ => f.wf
  | .canAbdDwellTimeout _ => true
  | .canError _ typ _ _ _ => decide (typ < 8)
  | .canRecoverWrite _ => true
  | .canRecoveryComplete _ => true
  | .canFrameTransmitted _ _ => true
  | .canLimitFrame _ => true
  | .canTxgo _ v => decide (v < 4294967296)
  | .iicTargetWrite _ x _ => decide (x.addr < 128)
  | .iicTargetRead _ x => decide (x.addr < 128)
  | .iicMailboxDrain _ => true
  | .iicBusFree x => decide (x.since ≤ x.t)
  | .iicAttnCallEnd _ _ => true
  | .iicArbitrationLost _ byte x => decide (byte < 256) && decide (x.bit < 8) && decide (x.addr < 128)
  | .iicStretchTimeout t x => decide (x.since ≤ t)
  | .iicAttnSchedule _ => true
  | .evrTgtWrite _ n v => decide (n < 192) && decide (v < 4294967296)
  | .evrHoldWrite _ _ => true
  | .evrSleepWrite _ m => decide (m < 16)
  | .evrRedirectTimeout _ n => decide (n < 192)
  | .routerTestEnd _ => true
  | .powerOnReset _ => true
  | .resetPin _ => true
  | .supervisorWatchdogTimeout _ => true
  | .watchdogKick _ => true
  | .startTimeout _ => true
  | .resetRelease _ _ _ => true
  | .firmwareStart _ => true
  | .clockGood _ c => (match c with | .of d => decide (d < 12) | .lane l => decide (l < 5))
  | .clockGoodTimeout _ d l => decide (d < 12) && decide (l < 5)
  | .clockLoss _ d l => decide (d < 12) && decide (l < 5)
  | .debugReleaseRequest _ d => decide (d < 12)
  | .vauxMeasure _ _ => true
  | .vauxLoss _ => true
  | .aoCoarseTimeUpdate _ => true
  | .wakeEthEnergy _ p => okPort p
  | .wakeSpiCs _ => true
  | .wakeCanDominant _ => true
  | .wakeIicAddress x => decide (x.addr < 128)
  | .wakeTimer _ => true
  | .listenWindowExpire _ => true
  | .linkTrainingAttempt _ p => okPort p
  | .tileLoadMismatch _ region tile use x y =>
    okTile region tile && use.wf && x.read.data.length == 256 && y.data.length == 256
  | .tileRecoveryDone _ region tile => okTile region tile
  | .scrubTick _ x _ => decide (x.region ≤ 5) && decide (x.n ≤ 64)
  | .operatingTimeTick _ => true
  | .recordWriteDone _ _ => true
  | .dailyMerge _ => true
  | .recFreezeExpire _ => true
  | .vcoilRestored _ => true
  | .barrierRestored _ _ => true
  | .overcurrentComparatorRelease _ _ => true
  | .desatRelease _ ph => decide (ph < 4)
  | .ringSignalRestored _ _ => true
  | .tileScrubDone _ => true
  | .iicMingapExpiry _ => true
  | .ptpMasterLost _ => true

end Sys2Proof
end

