-- ==== Sys2Proof/Decode.lean ====
section
/-! DEFINITION. The decoder of table words. The rows of the table of operations and events carry no bits, so no word spells a command. -/

namespace Sys2Proof

/-- The command that a word spells by the table's bits: no row gives any, so none. (DESIGN CHOICE: log entry 1) -/
def decodeTableWord (_nbits _w : Nat) : Option Instr := none

end Sys2Proof
end

