-- ==== Sys2Proof/Machine/Bits.lean ====
section
/-! DEFINITION. Byte order (R10), two's complement, clipping (R8), saturating counts (R9) and small list helpers. -/

namespace Sys2Proof.Machine

/-- The `n` low bytes of `v`, least significant first (R10). -/
def leBytes : Nat → Nat → List Byte
  | 0, _ => []
  | n + 1, v => BitVec.ofNat 8 v :: leBytes n (v / 256)

/-- The number that a little-endian byte list spells (R10). -/
def ofLe : List Byte → Nat
  | [] => 0
  | b :: bs => b.toNat + 256 * ofLe bs

/-- Two's complement code of an integer in `n` bits. -/
def toCode (n : Nat) (x : Int) : Nat := (x % (2 ^ n : Nat)).toNat

/-- The integer that the `n`-bit two's complement code `v` means. -/
def ofCode (n v : Nat) : Int :=
  let u := v % 2 ^ n
  if u < 2 ^ (n - 1) then (u : Int) else (u : Int) - (2 ^ n : Nat)

/-- Signed little-endian bytes. -/
def leBytesI (n : Nat) (x : Int) : List Byte := leBytes n (toCode (8 * n) x)

/-- The `n` bytes at byte offset `o`; missing bytes are absent. -/
def slice (bs : List Byte) (o n : Nat) : List Byte := (bs.drop o).take n

/-- Unsigned field of `n` bytes at offset `o`. -/
def uAt (bs : List Byte) (o n : Nat) : Nat := ofLe (slice bs o n)

/-- Signed field of `n` bytes at offset `o`. -/
def iAt (bs : List Byte) (o n : Nat) : Int := ofCode (8 * n) (uAt bs o n)

/-- Clipping to a range, as R8 reports a value beyond its format. -/
def clip (lo hi x : Int) : Int := if x < lo then lo else if hi < x then hi else x

/-- Clipping to a signed format of `n` bits (R8). -/
def clipS (n : Nat) (x : Int) : Int := clip (-(2 ^ (n - 1) : Nat)) ((2 ^ (n - 1) : Nat) - 1) x

/-- Clipping to an unsigned format of `n` bits (R8). -/
def clipU (n : Nat) (x : Int) : Nat := (clip 0 ((2 ^ n : Nat) - 1) x).toNat

/-- A count that stops at its maximum (R9). -/
def satAdd (mx a b : Nat) : Nat := min mx (a + b)

/-- Absolute value as a natural number. -/
def absN (x : Int) : Nat := x.natAbs

/-- Integer division rounding to nearest, ties to even, for a positive divisor. -/
def divRne (a : Int) (b : Nat) : Int :=
  let q := a.fdiv b
  let r := a - q * b
  if 2 * r < b then q else if (b : Int) < 2 * r then q + 1 else if q % 2 = 0 then q else q + 1

/-- Integer division rounding to nearest, ties away from zero, for a positive divisor. -/
def divRha (a : Int) (b : Nat) : Int :=
  if 0 ≤ a then ((2 * a + b) / (2 * b : Nat)) else -((2 * (-a) + b) / (2 * b : Nat))

/-- Bit `i` of a number. -/
def bitOf (v i : Nat) : Bool := v.testBit i

/-- A number with bit `i` set or cleared. -/
def setBit (v i : Nat) (b : Bool) : Nat :=
  if b then v ||| (1 <<< i) else if v.testBit i then v - 2 ^ i else v

/-- A Bool as the number of its bit. -/
def b2n (b : Bool) : Nat := if b then 1 else 0

/-- Element `i` of a list, or the default. -/
def nth {α : Type} (d : α) (l : List α) (i : Nat) : α := (l[i]?).getD d

/-- A list with element `i` changed by `f`. -/
def modNth {α : Type} (l : List α) (i : Nat) (f : α → α) : List α :=
  match l, i with
  | [], _ => []
  | a :: as, 0 => f a :: as
  | a :: as, i + 1 => a :: modNth as i f

/-- The value stored under a key, the first one listed. -/
def assoc? {α : Type} (k : Nat) : List (Nat × α) → Option α
  | [] => none
  | (j, v) :: t => if j = k then some v else assoc? k t

/-- Insert or replace a key in a list whose keys rise strictly. -/
def assocPut {α : Type} (k : Nat) (v : α) : List (Nat × α) → List (Nat × α)
  | [] => [(k, v)]
  | (j, w) :: t => if k < j then (k, v) :: (j, w) :: t
                   else if k = j then (k, v) :: t else (j, w) :: assocPut k v t

/-- Remove a key. -/
def assocDel {α : Type} (k : Nat) (l : List (Nat × α)) : List (Nat × α) := l.filter (fun p => p.1 ≠ k)

/-- A value in its place in an ascending list. -/
def insertI (x : Int) : List Int → List Int
  | [] => [x]
  | y :: t => if x ≤ y then x :: y :: t else y :: insertI x t

/-- A list in ascending order. -/
def sortI (l : List Int) : List Int := l.foldr insertI []

/-- Sum of integers. -/
def sumI (l : List Int) : Int := l.foldl (· + ·) 0

/-- Largest of a list, or the given start. -/
def maxI (d : Int) (l : List Int) : Int := l.foldl max d

/-- Smallest of a list, or the given start. -/
def minI (d : Int) (l : List Int) : Int := l.foldl min d

/-- Largest of a non-empty list. -/
def maxI? : List Int → Option Int
  | [] => none
  | a :: t => some (t.foldl max a)

/-- Smallest of a non-empty list. -/
def minI? : List Int → Option Int
  | [] => none
  | a :: t => some (t.foldl min a)

/-- Nanoseconds in a microsecond, a millisecond and a second. -/
def usec : Nat := 1000
def msec : Nat := 1000000
def sec : Nat := 1000000000

end Sys2Proof.Machine
end

