-- ==== Sys2Proof/Machine/Crc.lean ====
section
/-! DEFINITION. The checks of R46 (CRC-32C and CRC-8) SHA-256 with HMAC of R276, and SHA-512 for the signatures of R397. -/

namespace Sys2Proof.Machine

/-- `n` rounds of the reflected CRC-32C shift (polynomial 0x1EDC6F41, reflected 0x82F63B78). -/
def crc32cBits : Nat → Nat → Nat
  | 0, c => c
  | n + 1, c => crc32cBits n (if c % 2 = 1 then (c >>> 1) ^^^ 0x82F63B78 else c >>> 1)

/-- One byte into the CRC-32C register. -/
def crc32cByte (c : Nat) (b : Byte) : Nat := crc32cBits 8 (c ^^^ b.toNat)

/-- CRC-32C of R46: initial value all ones, reflected, final XOR all ones. -/
def crc32c (bs : List Byte) : Nat := bs.foldl crc32cByte 0xFFFFFFFF ^^^ 0xFFFFFFFF

/-- `n` rounds of the CRC-8 shift, polynomial 0x2F, not reflected. -/
def crc8Bits : Nat → Nat → Nat
  | 0, c => c
  | n + 1, c => crc8Bits n (if 128 ≤ c then (2 * c - 256) ^^^ 0x2F else 2 * c)

/-- CRC-8 of R46: initial value 0xFF, final XOR 0xFF. -/
def crc8 (bs : List Byte) : Nat := bs.foldl (fun c b => crc8Bits 8 (c ^^^ b.toNat)) 0xFF ^^^ 0xFF

/-- The primes below 410: SHA-512 takes its constants from these 80, SHA-256 from the first 64 (FIPS 180-4). -/
def shaPrimes : List Nat :=
  (List.range 410).filter (fun n => decide (1 < n) && (List.range 21).all (fun d => decide (d < 2) || decide (n ≤ d) || n % d != 0))

/-- The largest number of `n` bits above `r` whose `k`-th power does not exceed `x`, bit by bit. -/
def rootBits (k x : Nat) : Nat → Nat → Nat
  | 0, r => r
  | n + 1, r => rootBits k x n (if (r + 2 ^ n) ^ k ≤ x then r + 2 ^ n else r)

/-- What tells one hash of FIPS 180-4 from the other: bits of a word, rounds, the rotations of the two schedule sums (their last number is
a shift), and those of the two sums over the working words. -/
structure ShaKind where
  bits : Nat
  rounds : Nat
  near : Nat × Nat × Nat
  far : Nat × Nat × Nat
  up : List Nat
  top : List Nat
  deriving DecidableEq, Repr

def ShaKind.s256 : ShaKind := { bits := 32, rounds := 64, near := (7, 18, 3), far := (17, 19, 10), up := [6, 11, 25], top := [2, 13, 22] }
def ShaKind.s512 : ShaKind := { bits := 64, rounds := 80, near := (1, 8, 7), far := (19, 61, 6), up := [14, 18, 41], top := [28, 34, 39] }

/-- The first bits of the fraction of the `k`-th root of `p`, a word of them, which FIPS 180-4 takes as constants. -/
def ShaKind.root (f : ShaKind) (k p : Nat) : Nat := rootBits k (p * 2 ^ (f.bits * k)) (f.bits + 3) 0 % 2 ^ f.bits

/-- A rotation of a word by `n` bits toward the low end. -/
def ShaKind.turn (f : ShaKind) (x n : Nat) : Nat := x / 2 ^ n + x % 2 ^ n * 2 ^ (f.bits - n)

/-- The sum modulo 2 of numbers, bit by bit. -/
def parity (xs : List Nat) : Nat := xs.foldr Nat.xor 0

/-- A schedule sum: two rotations and a shift. -/
def ShaKind.small (f : ShaKind) (r : Nat × Nat × Nat) (x : Nat) : Nat := parity [f.turn x r.1, f.turn x r.2.1, x / 2 ^ r.2.2]

/-- One round over a rolling schedule: the sixteen schedule words from the present one on, and the eight working words a … h. The front
word is used, and the word sixteen places on joins at the end (FIPS 180-4). -/
def ShaKind.round (f : ShaKind) (wv : List Nat × List Nat) (k : Nat) : List Nat × List Nat :=
  let m := 2 ^ f.bits
  let w := nth 0 wv.1
  let v := nth 0 wv.2
  let choose := (v 4 &&& v 5) + ((m - 1 - v 4) &&& v 6)
  let most := (v 0 &&& (v 1 ||| v 2)) ||| (v 1 &&& v 2)
  let up := v 7 + parity (f.up.map (f.turn (v 4))) + choose + k + w 0
  let top := up + parity (f.top.map (f.turn (v 0))) + most
  (wv.1.drop 1 ++ [(w 0 + f.small f.near (w 1) + w 9 + f.small f.far (w 14)) % m],
   top % m :: wv.2.take 3 ++ (v 3 + up) % m :: (wv.2.drop 4).take 3)

/-- Big-endian number of a byte list. -/
def ofBe (bs : List Byte) : Nat := bs.foldl (fun a b => a * 256 + b.toNat) 0

/-- `n` big-endian bytes of a number. -/
def beBytes (n v : Nat) : List Byte := (leBytes n v).reverse

/-- A message of `n` blocks of sixteen words taken into the eight words of the digest. -/
def ShaKind.take (f : ShaKind) (ks : List Nat) : Nat → List Byte → List Nat → List Nat
  | 0, _, h => h
  | n + 1, m, h =>
    let b := f.bits / 8
    let w := (List.range 16).map (fun i => ofBe (slice m (b * i) b))
    let r := (ks.foldl f.round (w, h)).2
    f.take ks n (m.drop (16 * b)) (List.zipWith (fun x y => (x + y) % 2 ^ f.bits) h r)

/-- The hash (FIPS 180-4): the padded message fills whole blocks, its length in bits in the last two words. -/
def ShaKind.hash (f : ShaKind) (m : List Byte) : List Byte :=
  let b := f.bits / 8
  let n := (m.length + 18 * b) / (16 * b)
  let padded := m ++ 0x80 :: List.replicate (16 * b * n - 1 - 2 * b - m.length) 0 ++ beBytes (2 * b) (8 * m.length)
  (f.take ((shaPrimes.take f.rounds).map (f.root 3)) n padded ((shaPrimes.take 8).map (f.root 2))).flatMap (beBytes b)

/-- SHA-256 (FIPS 180-4). -/
def sha256 (m : List Byte) : List Byte := ShaKind.s256.hash m

/-- SHA-512 (FIPS 180-4). -/
def sha512 (m : List Byte) : List Byte := ShaKind.s512.hash m

/-- HMAC-SHA-256 (RFC 2104) for keys of at most 64 bytes, as all keys of the module are (R278). -/
def hmac (key m : List Byte) : List Byte :=
  let k := key ++ List.replicate (64 - key.length) (0 : Byte)
  sha256 (k.map (· ^^^ (0x5c : Byte)) ++ sha256 (k.map (· ^^^ (0x36 : Byte)) ++ m))

end Sys2Proof.Machine
end

