-- ==== Sys2Proof/Config.lean ====
section
/-! DEFINITION. What one implementation of the module fixes and what the manual leaves open: constants and functions
without a body, so that no proof can see a value of theirs. Each has an entry in the assumption log. -/

namespace Sys2Proof.Config

/-- GLB_ID.STEP, the silicon stepping (Table 22.2: factory). (DESIGN CHOICE: log entry 8) -/
opaque stepping : BitVec 8

/-- The module serial number (Table 22.2: factory). (DESIGN CHOICE: log entry 8) -/
opaque serial : BitVec 32

/-- The gander ROM version (Table 22.2: factory). (DESIGN CHOICE: log entry 8) -/
opaque gromVer : BitVec 16

/-- The module's MAC address (Table 15.7: factory). (DESIGN CHOICE: log entry 8) -/
opaque mac : BitVec 48

/-- The version of the firmware image the module is shipped with (Table 22.2: image). (PRESUMED: log entry 9) -/
opaque imageVersion : BitVec 16

/-- The module nonce N_m that the random source gives at the n-th draw (R280). (DESIGN CHOICE: log entry 10) -/
opaque nonce : Nat → BitVec 128

/-- The RUNID drawn at the n-th reset that covers the current block, before the step that makes it differ from the
previous one (R135). (DESIGN CHOICE: log entry 10) -/
opaque runId : Nat → BitVec 32

/-- The firmware's own router settings EVR_TGT of source n, 128 … 191, set at start (R347). (DESIGN CHOICE: log entry 15) -/
opaque firmwareTarget : Nat → BitVec 32

/-- The exponential of a binary32 number by the slice's fixed routine (R117). (DESIGN CHOICE: log entry 12) -/
opaque sliceExp : BitVec 32 → BitVec 32

/-- The Ed25519 public key of that number in the mask ROM (R397), its first byte the lowest. (DESIGN CHOICE: log entry 11) -/
opaque romKey : Nat → BitVec 256

/-- The bytes of the firmware image the module is shipped with. (PRESUMED: log entry 9) -/
opaque shippedImage : List Byte

/-- The rate in 2^−32 that the proportional-integral servo of 0.1 Hz gives for an offset and the sum of the offsets so far, in 2^−16 ns
(R322: the gains are not stated). (DESIGN CHOICE: log entry 13) -/
opaque servo : Int → Int → Int

/-- Which of the 16 blocks of the configuration region the n-th write to it erases, if it erases one (R384: where the region holds what is
not stated). (DESIGN CHOICE: log entry 65) -/
opaque configErase : Nat → Option (BitVec 4)

/-- A value that the manual leaves open, of w bits, at the n-th draw. (DESIGN CHOICE: log entry 14) -/
opaque freeValue : Nat → (w : Nat) → BitVec w

end Sys2Proof.Config
end

