-- ==== Sys2Proof/Machine/Fields.lean ====
section
/-! DEFINITION. The named register fields of the chapters' field tables: register address, lowest bit and width. An indexed
register's field is given for index 0 (or the first instance) and moved by `Fld.ix`. -/

namespace Sys2Proof.Machine

/-- One field: the byte address of its register, its lowest bit and its width. -/
structure Fld where
  addr : Nat
  lo : Nat
  w : Nat
  deriving DecidableEq, Repr

/-- The same field `i` instances on, for registers 4 bytes apart. -/
def Fld.ix (f : Fld) (i : Nat) : Fld := { f with addr := f.addr + 4 * i }

/-- The same field `i` instances on, for registers 8 bytes apart. -/
def Fld.ix8 (f : Fld) (i : Nat) : Fld := { f with addr := f.addr + 8 * i }

end Sys2Proof.Machine

namespace Sys2Proof.Machine.F

abbrev GLB_CLKSTAT_GOOD : Fld := ⟨0x10, 0, 12⟩
abbrev GLB_CLKSTAT_RUNNING : Fld := ⟨0x10, 16, 12⟩
abbrev GLB_GRID_PHASE_ERR : Fld := ⟨0x14, 0, 27⟩
abbrev GLB_GRID_ALIGNED : Fld := ⟨0x14, 28, 1⟩
abbrev GLB_GRID_SLEWING : Fld := ⟨0x14, 29, 1⟩
abbrev RING_CTRL_LEN : Fld := ⟨0x30000, 0, 6⟩
abbrev RING_CTRL_RATE : Fld := ⟨0x30000, 8, 3⟩
abbrev RING_CTRL_GRACE : Fld := ⟨0x30000, 12, 8⟩
abbrev RING_CTRL_EPOL : Fld := ⟨0x30000, 20, 1⟩
abbrev RING_CTRL_WPOL : Fld := ⟨0x30000, 21, 1⟩
abbrev RING_CTRL_CAL : Fld := ⟨0x30000, 24, 1⟩
abbrev RING_STAT_STATE : Fld := ⟨0x30004, 0, 3⟩
abbrev RING_STAT_FOUND : Fld := ⟨0x30004, 4, 6⟩
abbrev RING_STAT_UNREACH : Fld := ⟨0x30004, 12, 6⟩
abbrev RING_STAT_LENMIS : Fld := ⟨0x30004, 20, 1⟩
abbrev RING_STAT_CALFAIL : Fld := ⟨0x30004, 21, 1⟩
abbrev RING_STAT_BROKEN : Fld := ⟨0x30004, 22, 1⟩
abbrev RING_STAT_GRACE_EXP : Fld := ⟨0x30004, 23, 1⟩
abbrev RING_THOP_THOP : Fld := ⟨0x30008, 0, 14⟩
abbrev RING_THOP_SPREAD : Fld := ⟨0x30008, 16, 8⟩
abbrev RING_BREAK_EREACH : Fld := ⟨0x3000c, 0, 6⟩
abbrev RING_BREAK_WREACH : Fld := ⟨0x3000c, 8, 6⟩
abbrev RING_BREAK_BRKCNT : Fld := ⟨0x3000c, 16, 8⟩
abbrev RING_BREAK_SAT : Fld := ⟨0x3000c, 24, 1⟩
abbrev RING_STALE0_STALE0 : Fld := ⟨0x30010, 0, 32⟩
abbrev RING_STALE1_STALE1 : Fld := ⟨0x30014, 0, 8⟩
abbrev RING_ERRCNT_CRCERR : Fld := ⟨0x30018, 0, 16⟩
abbrev RING_ERRCNT_SAT : Fld := ⟨0x30018, 16, 1⟩
abbrev ACQ_CFG_WIN : Fld := ⟨0x40000, 0, 8⟩
abbrev ACQ_CFG_QLEAD : Fld := ⟨0x40000, 8, 11⟩
abbrev ACQ_CFG_THMASK : Fld := ⟨0x40000, 20, 8⟩
abbrev ACQ_TMAP0_G1 : Fld := ⟨0x40004, 0, 3⟩
abbrev ACQ_TMAP0_G2 : Fld := ⟨0x40004, 3, 3⟩
abbrev ACQ_TMAP0_G3 : Fld := ⟨0x40004, 6, 3⟩
abbrev ACQ_TMAP0_G4 : Fld := ⟨0x40004, 9, 3⟩
abbrev ACQ_TMAP0_G5 : Fld := ⟨0x40004, 12, 3⟩
abbrev ACQ_TMAP0_G6 : Fld := ⟨0x40004, 15, 3⟩
abbrev ACQ_TMAP0_G7 : Fld := ⟨0x40004, 18, 3⟩
abbrev ACQ_TMAP0_G8 : Fld := ⟨0x40004, 21, 3⟩
abbrev ACQ_TMAP1_G9 : Fld := ⟨0x40008, 0, 3⟩
abbrev ACQ_TMAP1_G10 : Fld := ⟨0x40008, 3, 3⟩
abbrev ACQ_TMAP1_G11 : Fld := ⟨0x40008, 6, 3⟩
abbrev ACQ_TMAP1_G12 : Fld := ⟨0x40008, 9, 3⟩
abbrev ACQ_TMAP1_G13 : Fld := ⟨0x40008, 12, 3⟩
abbrev ACQ_TMAP1_G14 : Fld := ⟨0x40008, 15, 3⟩
abbrev ACQ_TMAP1_G15 : Fld := ⟨0x40008, 18, 3⟩
abbrev ACQ_TMAP1_G16 : Fld := ⟨0x40008, 21, 3⟩
abbrev ACQ_PLAUS_SEGTOL : Fld := ⟨0x4000c, 0, 8⟩
abbrev ACQ_PLAUS_STRTOL : Fld := ⟨0x4000c, 8, 8⟩
abbrev ACQ_PLAUS_PERSIST : Fld := ⟨0x4000c, 16, 8⟩
abbrev ACQ_PLAUS_PMARGIN : Fld := ⟨0x4000c, 24, 8⟩
abbrev ACQ_RLINK_RLINK : Fld := ⟨0x40010, 0, 24⟩
abbrev ACQ_STAT_SEGMIS : Fld := ⟨0x40014, 0, 1⟩
abbrev ACQ_STAT_STRMIS : Fld := ⟨0x40014, 1, 1⟩
abbrev ACQ_STAT_OWRUN : Fld := ⟨0x40014, 2, 1⟩
abbrev ACQ_STAT_WSUSP : Fld := ⟨0x40014, 3, 1⟩
abbrev ACQ_STAT_SEGMIS_SEEN : Fld := ⟨0x40014, 8, 1⟩
abbrev ACQ_STAT_STRMIS_SEEN : Fld := ⟨0x40014, 9, 1⟩
abbrev ACQ_STAT_OWDONE : Fld := ⟨0x40014, 10, 1⟩
abbrev ACQ_SEGMIS0_SEGMIS0 : Fld := ⟨0x40018, 0, 32⟩
abbrev ACQ_SEGMIS1_SEGMIS1 : Fld := ⟨0x4001c, 0, 8⟩
abbrev ACQ_BAL_CFG_SRC : Fld := ⟨0x40020, 0, 1⟩
abbrev ACQ_BAL_CFG_ALT : Fld := ⟨0x40020, 1, 1⟩
abbrev ACQ_BAL_CFG_DEADBAND : Fld := ⟨0x40020, 8, 8⟩
abbrev ACQ_BAL_CFG_PERIOD : Fld := ⟨0x40020, 16, 8⟩
abbrev ACQ_BAL_CFG_ENABLE : Fld := ⟨0x40020, 24, 1⟩
abbrev ACQ_RBLEED_RBLEED : Fld := ⟨0x40024, 0, 16⟩
abbrev ACQ_OW_CFG_PERIOD : Fld := ⟨0x40028, 0, 8⟩
abbrev ACQ_OW_CFG_DV : Fld := ⟨0x40028, 8, 8⟩
abbrev ACQ_OW_CFG_REPS : Fld := ⟨0x40028, 16, 3⟩
abbrev ACQ_OW_CFG_START : Fld := ⟨0x40028, 19, 1⟩
abbrev ACQ_OW_CFG_NODE : Fld := ⟨0x40028, 20, 6⟩
abbrev ACQ_SEG_CELLS : Fld := ⟨0x40100, 0, 5⟩
abbrev ACQ_WSUSP_WIRE : Fld := ⟨0x40200, 1, 15⟩
abbrev CVI_SH_CFG_SWABS : Fld := ⟨0x50000, 0, 12⟩
abbrev CVI_SH_CFG_SWREL : Fld := ⟨0x50000, 12, 8⟩
abbrev CVI_SH_CFG_SWCNT : Fld := ⟨0x50000, 20, 3⟩
abbrev CVI_SH_CFG_FORCE : Fld := ⟨0x50000, 24, 2⟩
abbrev CVI_SHUNT_RSH : Fld := ⟨0x50004, 0, 24⟩
abbrev CVI_SH_STAT_MEAS : Fld := ⟨0x50008, 0, 1⟩
abbrev CVI_SH_STAT_AFAIL : Fld := ⟨0x50008, 1, 1⟩
abbrev CVI_SH_STAT_BFAIL : Fld := ⟨0x50008, 2, 1⟩
abbrev CVI_SH_STAT_DRIFT : Fld := ⟨0x50008, 3, 1⟩
abbrev CVI_SH_STAT_NONE : Fld := ⟨0x50008, 4, 1⟩
abbrev CVI_SH_STAT_AZINIT : Fld := ⟨0x50008, 5, 1⟩
abbrev CVI_SH_STAT_QSAT : Fld := ⟨0x50008, 6, 1⟩
abbrev CVI_SH_STAT_OVR : Fld := ⟨0x50008, 7, 1⟩
abbrev CVI_SH_STAT_DISAGREE : Fld := ⟨0x50008, 8, 3⟩
abbrev CVI_SH_STAT_SWERR : Fld := ⟨0x50008, 11, 1⟩
abbrev CVI_SH_STAT_OVR_SEEN : Fld := ⟨0x50008, 16, 1⟩
abbrev CVI_SH_STAT_SWERR_SEEN : Fld := ⟨0x50008, 17, 1⟩
abbrev CVI_SH_STAT_FAIL_SEEN : Fld := ⟨0x50008, 18, 1⟩
abbrev CVI_SWAPCNT_COUNT : Fld := ⟨0x5000c, 0, 31⟩
abbrev CVI_SWAPCNT_SAT : Fld := ⟨0x5000c, 31, 1⟩
abbrev CVI_I : Fld := ⟨0x50010, 0, 32⟩
abbrev CVI_Q0 : Fld := ⟨0x50014, 0, 32⟩
abbrev CVI_Q1 : Fld := ⟨0x50018, 0, 32⟩
abbrev CVI_VSTR : Fld := ⟨0x5001c, 0, 32⟩
abbrev CVI_VBUS : Fld := ⟨0x50020, 0, 32⟩
abbrev CVI_VINS : Fld := ⟨0x50024, 0, 32⟩
abbrev CVI_RISO : Fld := ⟨0x50034, 0, 32⟩
abbrev CVI_RPOS : Fld := ⟨0x50038, 0, 32⟩
abbrev CVI_RNEG : Fld := ⟨0x5003c, 0, 32⟩
abbrev CVI_HV_STAT_STROVR : Fld := ⟨0x50028, 0, 1⟩
abbrev CVI_HV_STAT_BUSOVR : Fld := ⟨0x50028, 1, 1⟩
abbrev CVI_HV_STAT_INSOVR : Fld := ⟨0x50028, 2, 1⟩
abbrev CVI_HV_STAT_STROVR_SEEN : Fld := ⟨0x50028, 8, 1⟩
abbrev CVI_HV_STAT_BUSOVR_SEEN : Fld := ⟨0x50028, 9, 1⟩
abbrev CVI_HV_STAT_INSOVR_SEEN : Fld := ⟨0x50028, 10, 1⟩
abbrev CVI_INS_CFG_HALF : Fld := ⟨0x5002c, 0, 4⟩
abbrev CVI_INS_CFG_MODE : Fld := ⟨0x5002c, 4, 1⟩
abbrev CVI_INS_CFG_PERSIST : Fld := ⟨0x5002c, 8, 3⟩
abbrev CVI_INS_THR_TRIP : Fld := ⟨0x50030, 0, 16⟩
abbrev CVI_INS_THR_WARN : Fld := ⟨0x50030, 16, 16⟩
abbrev CVI_INS_STAT_STATE : Fld := ⟨0x50040, 0, 2⟩
abbrev CVI_INS_STAT_LEG : Fld := ⟨0x50040, 2, 1⟩
abbrev CVI_INS_STAT_ABOVE : Fld := ⟨0x50040, 3, 1⟩
abbrev CVI_INS_STAT_NOTSETTLED : Fld := ⟨0x50040, 4, 1⟩
abbrev CVI_INS_STAT_PAUSED : Fld := ⟨0x50040, 5, 1⟩
abbrev CVI_INS_STAT_INVALID : Fld := ⟨0x50040, 6, 1⟩
abbrev CVI_INS_STAT_WARN_SEEN : Fld := ⟨0x50040, 8, 1⟩
abbrev CVI_INS_STAT_TRIP_SEEN : Fld := ⟨0x50040, 9, 1⟩
abbrev CVI_CAL_STAT_VALID : Fld := ⟨0x50044, 0, 1⟩
abbrev CVI_CAL_STAT_ORIGIN : Fld := ⟨0x50044, 1, 1⟩
abbrev CVI_CAL_STAT_DEFAULTS : Fld := ⟨0x50044, 2, 1⟩
abbrev CVI_CAL_STAT_FORMAT : Fld := ⟨0x50044, 16, 16⟩
abbrev EST_CFG_PROFILE : Fld := ⟨0x60000, 0, 2⟩
abbrev EST_CFG_REQQUAL : Fld := ⟨0x60000, 4, 1⟩
abbrev EST_CFG_INITUNC : Fld := ⟨0x60000, 8, 8⟩
abbrev EST_CFG_DRIFTBND : Fld := ⟨0x60000, 16, 8⟩
abbrev EST_CFG_MAXWIDEN : Fld := ⟨0x60000, 24, 8⟩
abbrev EST_RES_BOTRES : Fld := ⟨0x60004, 0, 8⟩
abbrev EST_RES_TOPRES : Fld := ⟨0x60004, 8, 8⟩
abbrev EST_RES_TAPER : Fld := ⟨0x60004, 16, 12⟩
abbrev EST_DRIFT_GAINERR : Fld := ⟨0x60008, 0, 8⟩
abbrev EST_DRIFT_IOFS : Fld := ⟨0x60008, 8, 8⟩
abbrev EST_DRIFT_SDRATE : Fld := ⟨0x60008, 16, 8⟩
abbrev EST_DRIFT_SDUNC : Fld := ⟨0x60008, 24, 8⟩
abbrev EST_ANCH_RESTDIV : Fld := ⟨0x6000c, 0, 8⟩
abbrev EST_ANCH_QRDIV : Fld := ⟨0x6000c, 8, 8⟩
abbrev EST_ANCH_QRTIME : Fld := ⟨0x6000c, 16, 8⟩
abbrev EST_ANCH_EOCBAND : Fld := ⟨0x6000c, 24, 8⟩
abbrev EST_KF_VSIGMA : Fld := ⟨0x60010, 0, 8⟩
abbrev EST_KF_GATE : Fld := ⟨0x60010, 8, 8⟩
abbrev EST_KF_KFLOOR : Fld := ⟨0x60010, 16, 8⟩
abbrev EST_KF_KFIMAX : Fld := ⟨0x60010, 24, 8⟩
abbrev EST_STAT_NQUAL : Fld := ⟨0x60014, 0, 10⟩
abbrev EST_STAT_NUNQ : Fld := ⟨0x60014, 10, 10⟩
abbrev EST_STAT_NUNAN : Fld := ⟨0x60014, 20, 10⟩
abbrev EST_FLAGS_REST_WANTED : Fld := ⟨0x60018, 0, 1⟩
abbrev EST_FLAGS_REST_FUTILE : Fld := ⟨0x60018, 1, 1⟩
abbrev EST_FLAGS_RESTING : Fld := ⟨0x60018, 2, 1⟩
abbrev EST_FLAGS_CONFLICT : Fld := ⟨0x60018, 3, 1⟩
abbrev EST_FLAGS_NOPROFILE : Fld := ⟨0x60018, 4, 1⟩
abbrev EST_FLAGS_ASSUMED_REST : Fld := ⟨0x60018, 5, 1⟩
abbrev EST_FLAGS_TCLAMP : Fld := ⟨0x60018, 6, 1⟩
abbrev EST_FLAGS_CHGLOST : Fld := ⟨0x60018, 7, 1⟩
abbrev EST_FLAGS_RESTORED_SEEN : Fld := ⟨0x60018, 16, 1⟩
abbrev EST_FLAGS_CONFLICT_SEEN : Fld := ⟨0x60018, 17, 1⟩
abbrev EST_FLAGS_GATED_SEEN : Fld := ⟨0x60018, 18, 1⟩
abbrev EST_FLAGS_CANDIDATE_SEEN : Fld := ⟨0x60018, 19, 1⟩
abbrev EST_STRID : Fld := ⟨0x6001c, 0, 32⟩
abbrev EST_STR_USOC_LO : Fld := ⟨0x60020, 0, 16⟩
abbrev EST_STR_USOC_HI : Fld := ⟨0x60020, 16, 16⟩
abbrev EST_STR_SOC_USOC : Fld := ⟨0x60024, 0, 16⟩
abbrev EST_STR_SOC_UNCMAX : Fld := ⟨0x60024, 16, 16⟩
abbrev EST_STR_EDIS : Fld := ⟨0x60028, 0, 32⟩
abbrev EST_STR_ECHG : Fld := ⟨0x6002c, 0, 32⟩
abbrev EST_LRN_CFG_DAYS : Fld := ⟨0x60030, 0, 8⟩
abbrev EST_LRN_CFG_WEIGHT : Fld := ⟨0x60030, 8, 5⟩
abbrev EST_LRN_CFG_CAPUNC : Fld := ⟨0x60030, 16, 8⟩
abbrev EST_LRN_CFG_CANDCNT : Fld := ⟨0x60030, 24, 4⟩
abbrev EST_LRN_STAT_PHASE : Fld := ⟨0x60034, 0, 3⟩
abbrev EST_LRN_STAT_LASTDQ : Fld := ⟨0x60034, 4, 4⟩
abbrev EST_LRN_STAT_DUE : Fld := ⟨0x60034, 8, 1⟩
abbrev EST_LRN_STAT_NLEARN : Fld := ⟨0x60034, 16, 10⟩
abbrev EST_LRN_STAT_RESULT_SEEN : Fld := ⟨0x60034, 28, 1⟩
abbrev EST_LRN_STAT_REJECT_SEEN : Fld := ⟨0x60034, 29, 1⟩
abbrev EST_LRN_STAT_JOBFAIL_SEEN : Fld := ⟨0x60034, 30, 1⟩
abbrev EST_LRN_LAST_LEARNLAST : Fld := ⟨0x60038, 0, 32⟩
abbrev EST_SOH_CAPMIN : Fld := ⟨0x6003c, 0, 16⟩
abbrev EST_SOH_RGMAX : Fld := ⟨0x6003c, 16, 16⟩
abbrev EST_IMP_CFG_AUTOH : Fld := ⟨0x60040, 0, 8⟩
abbrev EST_IMP_CFG_RGW : Fld := ⟨0x60040, 8, 4⟩
abbrev EST_IMP_CFG_AMP : Fld := ⟨0x60040, 16, 12⟩
abbrev EST_IMP_STAT_STATE : Fld := ⟨0x60044, 0, 2⟩
abbrev EST_IMP_STAT_AUTO : Fld := ⟨0x60044, 2, 1⟩
abbrev EST_IMP_STAT_POINT : Fld := ⟨0x60044, 4, 3⟩
abbrev EST_IMP_STAT_NPTS : Fld := ⟨0x60044, 8, 4⟩
abbrev EST_IMP_STAT_DONE_SEEN : Fld := ⟨0x60044, 16, 1⟩
abbrev EST_IMP_STAT_CLIP_SEEN : Fld := ⟨0x60044, 17, 1⟩
abbrev EST_IMP_STAT_ABORT_SEEN : Fld := ⟨0x60044, 18, 1⟩
abbrev EST_IMP_FREQ : Fld := ⟨0x60080, 0, 32⟩
abbrev EST_IMP_IAMP : Fld := ⟨0x600a0, 0, 32⟩
abbrev EST_IMP_RE_0x0006_40005120k8g1 : Fld := ⟨0x64000, 0, 32⟩
abbrev EST_IMP_IM_0x0006_40045120k8g1 : Fld := ⟨0x64004, 0, 32⟩
abbrev EST_TINT_TINT : Fld := ⟨0x6e000, 0, 16⟩
abbrev EST_TINT_AGE : Fld := ⟨0x6e000, 16, 8⟩
abbrev EST_TINT_VALID : Fld := ⟨0x6e000, 24, 1⟩
abbrev EST_TINT_CLAMP : Fld := ⟨0x6e000, 25, 1⟩
abbrev CTL_CTRL_RUN : Fld := ⟨0x70000, 0, 1⟩
abbrev CTL_CTRL_WARM : Fld := ⟨0x70000, 8, 8⟩
abbrev CTL_STAT_STATE : Fld := ⟨0x70004, 0, 2⟩
abbrev CTL_STAT_ENVFENCE_SEEN : Fld := ⟨0x70004, 8, 1⟩
abbrev CTL_STAT_ENVTRIP_SEEN : Fld := ⟨0x70004, 9, 1⟩
abbrev CTL_BANKSEL_ACTIVE : Fld := ⟨0x70008, 0, 1⟩
abbrev CTL_BANKSEL_ACTVALID : Fld := ⟨0x70008, 1, 1⟩
abbrev CTL_BANKSEL_SHVALID : Fld := ⟨0x70008, 2, 1⟩
abbrev CTL_BANKSEL_SWAPPEND : Fld := ⟨0x70008, 3, 1⟩
abbrev CTL_BANKSEL_SWAPS : Fld := ⟨0x70008, 16, 15⟩
abbrev CTL_BANKSEL_SAT : Fld := ⟨0x70008, 31, 1⟩
abbrev CTL_SATF_SAT_M : Fld := ⟨0x7000c, 0, 1⟩
abbrev CTL_SATF_SAT_O : Fld := ⟨0x7000c, 1, 1⟩
abbrev CTL_SATF_SAT_X : Fld := ⟨0x7000c, 2, 1⟩
abbrev CTL_SATF_SAT_F : Fld := ⟨0x7000c, 3, 1⟩
abbrev CTL_SATF_SAT_U : Fld := ⟨0x7000c, 4, 1⟩
abbrev CTL_SATF_CLAMP : Fld := ⟨0x7000c, 5, 1⟩
abbrev CTL_EXP_EM : Fld := ⟨0x70010, 0, 6⟩
abbrev CTL_EXP_EO : Fld := ⟨0x70010, 6, 6⟩
abbrev CTL_EXP_EX : Fld := ⟨0x70010, 12, 6⟩
abbrev CTL_EXP_EF : Fld := ⟨0x70010, 18, 6⟩
abbrev CTL_PWM_DT : Fld := ⟨0x70014, 0, 12⟩
abbrev CTL_DLIM_DMIN : Fld := ⟨0x70018, 0, 16⟩
abbrev CTL_DLIM_DMAX : Fld := ⟨0x70018, 16, 16⟩
abbrev CTL_SPCFG_SRC : Fld := ⟨0x7001c, 0, 2⟩
abbrev CTL_SPCFG_PMODE : Fld := ⟨0x7001c, 2, 1⟩
abbrev CTL_SPCFG_NETTMO : Fld := ⟨0x7001c, 8, 8⟩
abbrev CTL_SPCFG_IRATED : Fld := ⟨0x7001c, 16, 11⟩
abbrev CTL_SLEW_SLEW : Fld := ⟨0x70020, 0, 16⟩
abbrev CTL_SPLOCAL : Fld := ⟨0x70024, 0, 32⟩
abbrev CTL_PULSE_FCTR : Fld := ⟨0x70028, 0, 14⟩
abbrev CTL_PULSE_FSPAN : Fld := ⟨0x70028, 14, 14⟩
abbrev CTL_SPNOW : Fld := ⟨0x70030, 0, 32⟩
abbrev CTL_REF : Fld := ⟨0x70034, 0, 32⟩
abbrev CTL_PHSCALE_SCALE : Fld := ⟨0x70048, 0, 16⟩
abbrev CTL_SPSTAT_NETTMO : Fld := ⟨0x7002c, 0, 1⟩
abbrev CTL_SPSTAT_ANAOVR : Fld := ⟨0x7002c, 1, 1⟩
abbrev CTL_SPSTAT_PULSEOVR : Fld := ⟨0x7002c, 2, 1⟩
abbrev CTL_SPSTAT_CLAMPED : Fld := ⟨0x7002c, 3, 1⟩
abbrev CTL_SPSTAT_NETTMO_SEEN : Fld := ⟨0x7002c, 8, 1⟩
abbrev CTL_SPSTAT_ANAOVR_SEEN : Fld := ⟨0x7002c, 9, 1⟩
abbrev CTL_SPSTAT_PULSEOVR_SEEN : Fld := ⟨0x7002c, 10, 1⟩
abbrev CTL_ENV0_K1 : Fld := ⟨0x70040, 0, 16⟩
abbrev CTL_ENV0_K0 : Fld := ⟨0x70040, 16, 16⟩
abbrev CTL_ENV1_BAND : Fld := ⟨0x70044, 0, 8⟩
abbrev CTL_ENV1_PERSIST : Fld := ⟨0x70044, 8, 3⟩
abbrev PRT_LIMIT_BIND_DIS : Fld := ⟨0x80000, 0, 4⟩
abbrev PRT_LIMIT_BIND_CHG : Fld := ⟨0x80000, 4, 4⟩
abbrev PRT_LIMIT_BLK_CHG : Fld := ⟨0x80000, 8, 1⟩
abbrev PRT_LIMIT_BLK_DIS : Fld := ⟨0x80000, 9, 1⟩
abbrev PRT_LIMIT_BLKCHG_SEEN : Fld := ⟨0x80000, 16, 1⟩
abbrev PRT_LIMIT_BLKDIS_SEEN : Fld := ⟨0x80000, 17, 1⟩
abbrev PRT_LDIS : Fld := ⟨0x80004, 0, 32⟩
abbrev PRT_LCHG : Fld := ⟨0x80008, 0, 32⟩
abbrev PRT_HOSTLIM_DIS : Fld := ⟨0x8000c, 0, 16⟩
abbrev PRT_HOSTLIM_CHG : Fld := ⟨0x8000c, 16, 16⟩
abbrev PRT_ENT_DIS : Fld := ⟨0x80040, 0, 32⟩
abbrev PRT_ENT_CHG : Fld := ⟨0x80044, 0, 32⟩
abbrev PRT_VCELL_VMAX : Fld := ⟨0x80010, 0, 16⟩
abbrev PRT_VCELL_VMIN : Fld := ⟨0x80010, 16, 16⟩
abbrev PRT_VHARD_VHMAX : Fld := ⟨0x80014, 0, 16⟩
abbrev PRT_VHARD_VHMIN : Fld := ⟨0x80014, 16, 16⟩
abbrev PRT_VHDR_VHBAND : Fld := ⟨0x80018, 0, 8⟩
abbrev PRT_VHDR_VHYS : Fld := ⟨0x80018, 8, 8⟩
abbrev PRT_OCTHR_OCDIS : Fld := ⟨0x8001c, 0, 12⟩
abbrev PRT_OCTHR_OCCHG : Fld := ⟨0x8001c, 16, 12⟩
abbrev PRT_CFG_OCOPEN : Fld := ⟨0x80020, 0, 1⟩
abbrev PRT_CFG_PCIMAX : Fld := ⟨0x80020, 8, 8⟩
abbrev PRT_CFG_IOPEN : Fld := ⟨0x80020, 16, 8⟩
abbrev PRT_CFG_OPENTMO : Fld := ⟨0x80020, 24, 8⟩
abbrev PRT_PRECH_PCIMIN : Fld := ⟨0x80024, 0, 8⟩
abbrev PRT_PRECH_PCWELD : Fld := ⟨0x80024, 8, 8⟩
abbrev PRT_PRECH_PCEND : Fld := ⟨0x80024, 16, 8⟩
abbrev PRT_PRECH_PCMAX : Fld := ⟨0x80024, 24, 8⟩
abbrev PRT_CONT_PULL : Fld := ⟨0x80028, 0, 8⟩
abbrev PRT_CONT_HOLD : Fld := ⟨0x80028, 8, 8⟩
abbrev PRT_CONT_KFBTMO : Fld := ⟨0x80028, 16, 8⟩
abbrev PRT_CONT_KNDLY : Fld := ⟨0x80028, 24, 8⟩
abbrev PRT_TRIP_OC_DIS : Fld := ⟨0x8002c, 0, 1⟩
abbrev PRT_TRIP_OC_CHG : Fld := ⟨0x8002c, 1, 1⟩
abbrev PRT_TRIP_DESAT : Fld := ⟨0x8002c, 2, 1⟩
abbrev PRT_TRIP_CELL_HARD : Fld := ⟨0x8002c, 3, 1⟩
abbrev PRT_TRIP_BARRIER : Fld := ⟨0x8002c, 4, 1⟩
abbrev PRT_TRIP_TRIP_CMD : Fld := ⟨0x8002c, 5, 1⟩
abbrev PRT_TRIP_GANDER : Fld := ⟨0x8002c, 6, 1⟩
abbrev PRT_TRIP_CTRL_CLK : Fld := ⟨0x8002c, 7, 1⟩
abbrev PRT_TRIP_OC_HOLD : Fld := ⟨0x8002c, 8, 1⟩
abbrev PRT_TRIP_FIRST : Fld := ⟨0x8002c, 16, 4⟩
abbrev PRT_TRIP_DESATPH : Fld := ⟨0x8002c, 20, 2⟩
abbrev PRT_TRIP_BARGRP : Fld := ⟨0x8002c, 22, 2⟩
abbrev PRT_CONNBLK_STATE : Fld := ⟨0x80030, 0, 1⟩
abbrev PRT_CONNBLK_TRIP : Fld := ⟨0x80030, 1, 1⟩
abbrev PRT_CONNBLK_SAFETY : Fld := ⟨0x80030, 2, 1⟩
abbrev PRT_CONNBLK_RING : Fld := ⟨0x80030, 3, 1⟩
abbrev PRT_CONNBLK_GRACE : Fld := ⟨0x80030, 4, 1⟩
abbrev PRT_CONNBLK_STRMIS : Fld := ⟨0x80030, 5, 1⟩
abbrev PRT_CONNBLK_AZINIT : Fld := ⟨0x80030, 6, 1⟩
abbrev PRT_CONNBLK_NOSHUNT : Fld := ⟨0x80030, 7, 1⟩
abbrev PRT_CONNBLK_INS : Fld := ⟨0x80030, 8, 1⟩
abbrev PRT_CONNBLK_CAL : Fld := ⟨0x80030, 9, 1⟩
abbrev PRT_CONNBLK_PROFILE : Fld := ⟨0x80030, 10, 1⟩
abbrev PRT_CONNBLK_UNQUAL : Fld := ⟨0x80030, 11, 1⟩
abbrev PRT_CONNBLK_WELD : Fld := ⟨0x80030, 12, 1⟩
abbrev PRT_CONNBLK_VCOIL : Fld := ⟨0x80030, 13, 1⟩
abbrev PRT_CONNBLK_CELLV : Fld := ⟨0x80030, 14, 1⟩
abbrev PRT_TRIPCNT_COUNT : Fld := ⟨0x80034, 0, 16⟩
abbrev PRT_TRIPCNT_SAT : Fld := ⟨0x80034, 16, 1⟩
abbrev PRT_CONTSTAT_COIL : Fld := ⟨0x80038, 0, 3⟩
abbrev PRT_CONTSTAT_FB : Fld := ⟨0x80038, 4, 3⟩
abbrev PRT_CONTSTAT_CONN : Fld := ⟨0x80038, 8, 3⟩
abbrev PRT_CONTSTAT_FAILSTEP : Fld := ⟨0x80038, 11, 3⟩
abbrev PRT_CONTSTAT_VCOILLOW : Fld := ⟨0x80038, 14, 1⟩
abbrev PRT_CONTSTAT_WELD_P : Fld := ⟨0x80038, 16, 1⟩
abbrev PRT_CONTSTAT_WELD_N : Fld := ⟨0x80038, 17, 1⟩
abbrev PRT_CONTSTAT_WELD_PC : Fld := ⟨0x80038, 18, 1⟩
abbrev PRT_CONTSTAT_COILOPEN : Fld := ⟨0x80038, 19, 1⟩
abbrev PRT_CONTSTAT_COILSHORT : Fld := ⟨0x80038, 20, 1⟩
abbrev PRT_CONTSTAT_UNCMD : Fld := ⟨0x80038, 21, 1⟩
abbrev PRT_CONTSTAT_UNDERLOAD : Fld := ⟨0x80038, 22, 1⟩
abbrev THM_DIE_TEMP : Fld := ⟨0x90000, 0, 16⟩
abbrev THM_DIE_TUSE : Fld := ⟨0x90000, 16, 16⟩
abbrev THM_STAT_DSTEP : Fld := ⟨0x90004, 0, 4⟩
abbrev THM_STAT_CSTEP_DIS : Fld := ⟨0x90004, 4, 4⟩
abbrev THM_STAT_CSTEP_CHG : Fld := ⟨0x90004, 8, 4⟩
abbrev THM_STAT_DBROKEN : Fld := ⟨0x90004, 16, 1⟩
abbrev THM_STAT_NONEIGH : Fld := ⟨0x90004, 17, 1⟩
abbrev THM_STAT_DEVIANT : Fld := ⟨0x90004, 18, 1⟩
abbrev THM_STAT_TSD : Fld := ⟨0x90004, 19, 1⟩
abbrev THM_STAT_NOCELLT : Fld := ⟨0x90004, 20, 1⟩
abbrev THM_STAT_CBRK_SEEN : Fld := ⟨0x90004, 24, 1⟩
abbrev THM_STAT_HOT_SEEN : Fld := ⟨0x90004, 25, 1⟩
abbrev THM_MED_MED : Fld := ⟨0x90008, 0, 16⟩
abbrev THM_MED_COUNT : Fld := ⟨0x90008, 16, 4⟩
abbrev THM_MED_AGE : Fld := ⟨0x90008, 24, 8⟩
abbrev THM_DIECFG_ENCL : Fld := ⟨0x9000c, 0, 8⟩
abbrev THM_DIECFG_DEV : Fld := ⟨0x9000c, 8, 8⟩
abbrev THM_DIECFG_RATE : Fld := ⟨0x9000c, 16, 8⟩
abbrev THM_DIECFG_SUBM : Fld := ⟨0x9000c, 24, 8⟩
abbrev THM_HOT_DSTART : Fld := ⟨0x90010, 0, 8⟩
abbrev THM_HOT_CSTART : Fld := ⟨0x90010, 8, 8⟩
abbrev THM_HOT_DSTEP : Fld := ⟨0x90010, 16, 4⟩
abbrev THM_HOT_CSTEP : Fld := ⟨0x90010, 20, 4⟩
abbrev THM_HOT_HYS : Fld := ⟨0x90010, 24, 4⟩
abbrev THM_COLD_DSTART : Fld := ⟨0x90014, 0, 8⟩
abbrev THM_COLD_CSTART : Fld := ⟨0x90014, 8, 8⟩
abbrev THM_COLD_DSTEP : Fld := ⟨0x90014, 16, 4⟩
abbrev THM_COLD_CSTEP : Fld := ⟨0x90014, 20, 4⟩
abbrev THM_CX_DEV : Fld := ⟨0x90018, 0, 8⟩
abbrev THM_CX_TDEV : Fld := ⟨0x90018, 8, 8⟩
abbrev THM_CX_MARGIN : Fld := ⟨0x90018, 16, 8⟩
abbrev THM_CX_PERSIST : Fld := ⟨0x90018, 24, 8⟩
abbrev THM_CEXT_TMAX : Fld := ⟨0x9001c, 0, 16⟩
abbrev THM_CEXT_TMIN : Fld := ⟨0x9001c, 16, 16⟩
abbrev THM_COOL_TSET : Fld := ⟨0x90020, 0, 8⟩
abbrev THM_COOL_KP : Fld := ⟨0x90020, 8, 8⟩
abbrev THM_COOL_KI : Fld := ⟨0x90020, 16, 8⟩
abbrev THM_COOL_MANUAL : Fld := ⟨0x90020, 24, 1⟩
abbrev THM_VALVE_DUTY : Fld := ⟨0x90024, 0, 10⟩
abbrev THM_VALVE_MDUTY : Fld := ⟨0x90024, 16, 10⟩
abbrev THM_CHIL_ID : Fld := ⟨0x90028, 0, 11⟩
abbrev THM_CHIL_EN : Fld := ⟨0x90028, 11, 1⟩
abbrev THM_CHIL_REQ : Fld := ⟨0x90028, 12, 2⟩
abbrev THM_CHIL_TSUP : Fld := ⟨0x90028, 16, 8⟩
abbrev THM_CHIL_HEATON : Fld := ⟨0x90028, 24, 8⟩
abbrev THM_TBRK_BRK : Fld := ⟨0x90100, 0, 8⟩
abbrev THM_TBRK_HOT : Fld := ⟨0x90100, 8, 8⟩
abbrev SAF_STAT_STATE : Fld := ⟨0xa0000, 0, 3⟩
abbrev SAF_STAT_DEMAND : Fld := ⟨0xa0000, 4, 3⟩
abbrev SAF_STAT_CAT : Fld := ⟨0xa0000, 8, 1⟩
abbrev SAF_STAT_RAMP : Fld := ⟨0xa0000, 9, 1⟩
abbrev SAF_STAT_COILSW : Fld := ⟨0xa0000, 10, 1⟩
abbrev SAF_STAT_LATCHED : Fld := ⟨0xa0000, 16, 1⟩
abbrev SAF_STAT_FLTLATCH : Fld := ⟨0xa0000, 17, 1⟩
abbrev SAF_IN_ESTOP_A : Fld := ⟨0xa0004, 0, 1⟩
abbrev SAF_IN_ESTOP_B : Fld := ⟨0xa0004, 1, 1⟩
abbrev SAF_IN_DOOR : Fld := ⟨0xa0004, 2, 1⟩
abbrev SAF_IN_OSSD : Fld := ⟨0xa0004, 3, 1⟩
abbrev SAF_IN_TH_A : Fld := ⟨0xa0004, 4, 1⟩
abbrev SAF_IN_TH_B : Fld := ⟨0xa0004, 5, 1⟩
abbrev SAF_IN_SW : Fld := ⟨0xa0004, 8, 8⟩
abbrev SAF_CFG_CAT : Fld := ⟨0xa0008, 0, 1⟩
abbrev SAF_CFG_DOOREN : Fld := ⟨0xa0008, 1, 1⟩
abbrev SAF_CFG_CURTEN : Fld := ⟨0xa0008, 2, 1⟩
abbrev SAF_CFG_THWIN : Fld := ⟨0xa0008, 3, 2⟩
abbrev SAF_CFG_AUTORST : Fld := ⟨0xa0008, 5, 1⟩
abbrev SAF_CFG_VALID : Fld := ⟨0xa0008, 8, 1⟩
abbrev SAF_HASH : Fld := ⟨0xa000c, 0, 32⟩
abbrev SAF_FAULT_DISCREP : Fld := ⟨0xa0010, 0, 1⟩
abbrev SAF_FAULT_INSTUCK : Fld := ⟨0xa0010, 1, 1⟩
abbrev SAF_FAULT_SWPAT : Fld := ⟨0xa0010, 2, 1⟩
abbrev SAF_FAULT_SWCHG : Fld := ⟨0xa0010, 3, 1⟩
abbrev SAF_FAULT_SWINV : Fld := ⟨0xa0010, 4, 1⟩
abbrev SAF_FAULT_COILTEST : Fld := ⟨0xa0010, 5, 1⟩
abbrev SAF_FAULT_COILSUP : Fld := ⟨0xa0010, 6, 1⟩
abbrev SAF_FAULT_ENRB : Fld := ⟨0xa0010, 7, 1⟩
abbrev SAF_FAULT_GSELF : Fld := ⟨0xa0010, 8, 1⟩
abbrev SAF_FAULT_FIRST : Fld := ⟨0xa0010, 16, 4⟩
abbrev SAF_CNT_DEMANDS : Fld := ⟨0xa0014, 0, 16⟩
abbrev SAF_CNT_SAT : Fld := ⟨0xa0014, 16, 1⟩
abbrev LAN_STATE_ST0 : Fld := ⟨0xb0000, 0, 3⟩
abbrev LAN_STATE_ST1 : Fld := ⟨0xb0000, 3, 3⟩
abbrev LAN_STATE_ST2 : Fld := ⟨0xb0000, 6, 3⟩
abbrev LAN_STATE_ST3 : Fld := ⟨0xb0000, 9, 3⟩
abbrev LAN_STATE_ST4 : Fld := ⟨0xb0000, 12, 3⟩
abbrev LAN_STATE_MULE : Fld := ⟨0xb0000, 16, 3⟩
abbrev LAN_STATE_NACTIVE : Fld := ⟨0xb0000, 20, 3⟩
abbrev LAN_ASSIGN_TOK0 : Fld := ⟨0xb0004, 0, 3⟩
abbrev LAN_ASSIGN_TOK1 : Fld := ⟨0xb0004, 4, 3⟩
abbrev LAN_ASSIGN_TOK2 : Fld := ⟨0xb0004, 8, 3⟩
abbrev LAN_ASSIGN_TOK3 : Fld := ⟨0xb0004, 12, 3⟩
abbrev LAN_ASSIGN_EST0 : Fld := ⟨0xb0004, 16, 3⟩
abbrev LAN_ASSIGN_EST1 : Fld := ⟨0xb0004, 20, 3⟩
abbrev LAN_ASSIGN_EST2 : Fld := ⟨0xb0004, 24, 3⟩
abbrev LAN_ASSIGN_EST3 : Fld := ⟨0xb0004, 28, 3⟩
abbrev LAN_CFG_ROTDAYS : Fld := ⟨0xb0008, 0, 8⟩
abbrev LAN_CFG_TESTH : Fld := ⟨0xb0008, 8, 8⟩
abbrev LAN_CFG_VOTETOL : Fld := ⟨0xb0008, 16, 4⟩
abbrev LAN_CFG_MISS : Fld := ⟨0xb0008, 20, 3⟩
abbrev LAN_CFG_MAXFENCE : Fld := ⟨0xb0008, 24, 4⟩
abbrev LAN_CFG_ROTPEND : Fld := ⟨0xb0008, 28, 1⟩
abbrev LAN_STAT_SW : Fld := ⟨0xb000c, 0, 2⟩
abbrev LAN_STAT_CAUSE : Fld := ⟨0xb000c, 4, 4⟩
abbrev LAN_STAT_FLANE : Fld := ⟨0xb000c, 8, 3⟩
abbrev LAN_STAT_UNDECIDED : Fld := ⟨0xb000c, 12, 1⟩
abbrev LAN_STAT_NOSPARE : Fld := ⟨0xb000c, 13, 1⟩
abbrev LAN_STAT_FENCE_SEEN : Fld := ⟨0xb000c, 16, 1⟩
abbrev LAN_STAT_SWDONE_SEEN : Fld := ⟨0xb000c, 17, 1⟩
abbrev LAN_STAT_SWFAIL_SEEN : Fld := ⟨0xb000c, 18, 1⟩
abbrev LAN_STAT_WITTRANS_SEEN : Fld := ⟨0xb000c, 19, 1⟩
abbrev LAN_STAT_BISTFAIL_SEEN : Fld := ⟨0xb000c, 20, 1⟩
abbrev LAN_STAT_SUPRST_SEEN : Fld := ⟨0xb000c, 21, 1⟩
abbrev LAN_GAP_LAST : Fld := ⟨0xb0010, 0, 12⟩
abbrev LAN_GAP_MAX : Fld := ⟨0xb0010, 16, 12⟩
abbrev LAN_MISS_M : Fld := ⟨0xb0014, 0, 15⟩
abbrev LAN_HOURS_HOURS : Fld := ⟨0xb0040, 0, 31⟩
abbrev LAN_HOURS_SAT : Fld := ⟨0xb0040, 31, 1⟩
abbrev LAN_BIST_LAST : Fld := ⟨0xb0060, 0, 2⟩
abbrev LAN_BIST_AGE : Fld := ⟨0xb0060, 8, 8⟩
abbrev LAN_BIST_RETTILES : Fld := ⟨0xb0060, 16, 6⟩
abbrev LAN_BIST_FENCES : Fld := ⟨0xb0060, 24, 4⟩
abbrev BAY_POS_POS : Fld := ⟨0xc0000, 0, 6⟩
abbrev BAY_POS_ROLE : Fld := ⟨0xc0000, 8, 2⟩
abbrev BAY_POS_DISP : Fld := ⟨0xc0000, 12, 1⟩
abbrev BAY_POS_STANDBY : Fld := ⟨0xc0000, 13, 1⟩
abbrev BAY_POS_VALID : Fld := ⟨0xc0000, 16, 1⟩
abbrev BAY_POS_UPPORT : Fld := ⟨0xc0000, 17, 1⟩
abbrev BAY_CFG_EQG : Fld := ⟨0xc0004, 0, 8⟩
abbrev BAY_CFG_HRFULL : Fld := ⟨0xc0004, 8, 8⟩
abbrev BAY_CFG_BAYID : Fld := ⟨0xc0004, 16, 7⟩
abbrev BAY_CFG_ALLOCTMO : Fld := ⟨0xc0004, 24, 8⟩
abbrev BAY_CTRL_PSRC : Fld := ⟨0xc0008, 0, 1⟩
abbrev BAY_CTRL_PCSID : Fld := ⟨0xc0008, 8, 11⟩
abbrev BAY_CTRL_PTMO : Fld := ⟨0xc0008, 20, 8⟩
abbrev BAY_CTRL_HANDBACK : Fld := ⟨0xc0008, 28, 1⟩
abbrev BAY_REST_RESTLEN : Fld := ⟨0xc000c, 0, 16⟩
abbrev BAY_REST_RESTMARG : Fld := ⟨0xc000c, 16, 8⟩
abbrev BAY_REST_MAXREST : Fld := ⟨0xc000c, 24, 4⟩
abbrev BAY_STAT_NMAP : Fld := ⟨0xc0010, 0, 7⟩
abbrev BAY_STAT_NHEARD : Fld := ⟨0xc0010, 8, 7⟩
abbrev BAY_STAT_NREST : Fld := ⟨0xc0010, 16, 4⟩
abbrev BAY_STAT_SHORT : Fld := ⟨0xc0010, 20, 1⟩
abbrev BAY_STAT_SPLIT : Fld := ⟨0xc0010, 21, 1⟩
abbrev BAY_STAT_PTMO : Fld := ⟨0xc0010, 22, 1⟩
abbrev BAY_STAT_ALTPOS : Fld := ⟨0xc0010, 23, 1⟩
abbrev BAY_STAT_MAPERR : Fld := ⟨0xc0010, 24, 1⟩
abbrev BAY_STAT_TAKEOVER_SEEN : Fld := ⟨0xc0010, 28, 1⟩
abbrev BAY_STAT_SHORT_SEEN : Fld := ⟨0xc0010, 29, 1⟩
abbrev BAY_STAT_STALE_SEEN : Fld := ⟨0xc0010, 30, 1⟩
abbrev BAY_PBAY : Fld := ⟨0xc0014, 0, 32⟩
abbrev BAY_PNET : Fld := ⟨0xc0018, 0, 32⟩
abbrev BAY_PALLOC : Fld := ⟨0xc001c, 0, 32⟩
abbrev BAY_CYCLE_CYCLE : Fld := ⟨0xc0020, 0, 16⟩
abbrev BAY_ALLOC : Fld := ⟨0xc0024, 0, 32⟩
abbrev BAY_STALE0 : Fld := ⟨0xc0028, 0, 32⟩
abbrev BAY_STALE1 : Fld := ⟨0xc002c, 0, 32⟩
abbrev GLB_SESS_OPEN : Fld := ⟨0x20, 0, 8⟩
abbrev GLB_SESS_PENDING : Fld := ⟨0x20, 8, 8⟩
abbrev GLB_SESS_OWNER : Fld := ⟨0x20, 16, 3⟩
abbrev GLB_SESS_OWNED : Fld := ⟨0x20, 19, 1⟩
abbrev GLB_SESS_PROV : Fld := ⟨0x20, 24, 1⟩
abbrev GLB_PKTERR_CRCERR : Fld := ⟨0x24, 0, 8⟩
abbrev GLB_PKTERR_AUTHERR : Fld := ⟨0x24, 8, 8⟩
abbrev GLB_PKTERR_SEQERR : Fld := ⟨0x24, 16, 8⟩
abbrev GLB_PKTERR_QFULL : Fld := ⟨0x24, 24, 7⟩
abbrev GLB_PKTERR_SAT : Fld := ⟨0x24, 31, 1⟩
abbrev TIM_CFG_PROFILE : Fld := ⟨0xd0000, 0, 2⟩
abbrev TIM_CFG_TCEN : Fld := ⟨0xd0000, 4, 1⟩
abbrev TIM_CFG_DOMAIN : Fld := ⟨0xd0000, 8, 8⟩
abbrev TIM_CFG_JUMPTHR : Fld := ⟨0xd0000, 16, 8⟩
abbrev TIM_CFG_PTPEN : Fld := ⟨0xd0000, 24, 1⟩
abbrev TIM_STAT_STATE : Fld := ⟨0xd0004, 0, 2⟩
abbrev TIM_STAT_PORT : Fld := ⟨0xd0004, 2, 2⟩
abbrev TIM_STAT_STEPPED : Fld := ⟨0xd0004, 4, 1⟩
abbrev TIM_STAT_VALID : Fld := ⟨0xd0004, 5, 1⟩
abbrev TIM_STAT_JUMP_REFUSED : Fld := ⟨0xd0004, 8, 1⟩
abbrev TIM_STAT_JSAT : Fld := ⟨0xd0004, 9, 1⟩
abbrev TIM_STAT_JUMPS : Fld := ⟨0xd0004, 16, 16⟩
abbrev TIM_ADJ_RATE : Fld := ⟨0xd0008, 0, 32⟩
abbrev TIM_OFS_OFFSET : Fld := ⟨0xd000c, 0, 32⟩
abbrev TIM_NSEC : Fld := ⟨0xd0010, 0, 32⟩
abbrev TIM_SEC0 : Fld := ⟨0xd0014, 0, 32⟩
abbrev TIM_SEC1_SEC : Fld := ⟨0xd0018, 0, 16⟩
abbrev TIM_ASYM_0x000D_00204p1ASYM : Fld := ⟨0xd0020, 0, 16⟩
abbrev TIM_IP4 : Fld := ⟨0xd0040, 0, 32⟩
abbrev TIM_IP4MASK : Fld := ⟨0xd0044, 0, 32⟩
abbrev TIM_IP4GW : Fld := ⟨0xd0048, 0, 32⟩
abbrev TIM_IP6 : Fld := ⟨0xd0050, 0, 32⟩
abbrev TIM_MAC0 : Fld := ⟨0xd0060, 0, 32⟩
abbrev TIM_MAC1_MAC : Fld := ⟨0xd0064, 0, 16⟩
abbrev TIM_ETH_MS : Fld := ⟨0xd0028, 0, 1⟩
abbrev TIM_ETH_LINK : Fld := ⟨0xd0028, 8, 1⟩
abbrev TIM_ETH_LSAT : Fld := ⟨0xd0028, 15, 1⟩
abbrev TIM_ETH_LOSS : Fld := ⟨0xd0028, 16, 16⟩
abbrev TIM_TSQ_FILL1 : Fld := ⟨0xd0030, 0, 5⟩
abbrev TIM_TSQ_FILL2 : Fld := ⟨0xd0030, 8, 5⟩
abbrev TIM_TSQ_OVF1 : Fld := ⟨0xd0030, 16, 1⟩
abbrev TIM_TSQ_OVF2 : Fld := ⟨0xd0030, 17, 1⟩
abbrev TIM_TSQ_LOST1 : Fld := ⟨0xd0030, 20, 5⟩
abbrev TIM_TSQ_LOST2 : Fld := ⟨0xd0030, 25, 5⟩
abbrev TIM_TSQ_SAT : Fld := ⟨0xd0030, 30, 1⟩
abbrev CAN_CFG_MODE : Fld := ⟨0xe0000, 0, 2⟩
abbrev CAN_CFG_FDEN : Fld := ⟨0xe0000, 2, 1⟩
abbrev CAN_CFG_BOHOLD : Fld := ⟨0xe0000, 3, 1⟩
abbrev CAN_CFG_ABDMASK : Fld := ⟨0xe0000, 8, 8⟩
abbrev CAN_CFG_ABDDWELL : Fld := ⟨0xe0000, 16, 8⟩
abbrev CAN_BTR_BRP : Fld := ⟨0xe0004, 0, 8⟩
abbrev CAN_BTR_TSEG1 : Fld := ⟨0xe0004, 8, 8⟩
abbrev CAN_BTR_TSEG2 : Fld := ⟨0xe0004, 16, 7⟩
abbrev CAN_BTR_SJW : Fld := ⟨0xe0004, 24, 7⟩
abbrev CAN_DBTR_DBRP : Fld := ⟨0xe0008, 0, 5⟩
abbrev CAN_DBTR_DTSEG1 : Fld := ⟨0xe0008, 8, 5⟩
abbrev CAN_DBTR_DTSEG2 : Fld := ⟨0xe0008, 16, 4⟩
abbrev CAN_DBTR_DSJW : Fld := ⟨0xe0008, 24, 4⟩
abbrev CAN_DBTR_TDC : Fld := ⟨0xe0008, 28, 1⟩
abbrev CAN_STAT_STATE : Fld := ⟨0xe000c, 0, 2⟩
abbrev CAN_STAT_ABD : Fld := ⟨0xe000c, 2, 2⟩
abbrev CAN_STAT_CAND : Fld := ⟨0xe000c, 4, 3⟩
abbrev CAN_STAT_DATAVER : Fld := ⟨0xe000c, 7, 1⟩
abbrev CAN_STAT_RECOV : Fld := ⟨0xe000c, 8, 1⟩
abbrev CAN_STAT_HELD : Fld := ⟨0xe000c, 9, 1⟩
abbrev CAN_STAT_BUSOFF_SEEN : Fld := ⟨0xe000c, 16, 1⟩
abbrev CAN_STAT_PASSIVE_SEEN : Fld := ⟨0xe000c, 17, 1⟩
abbrev CAN_STAT_ABDFAIL_SEEN : Fld := ⟨0xe000c, 18, 1⟩
abbrev CAN_STAT_RXLOST_SEEN : Fld := ⟨0xe000c, 19, 1⟩
abbrev CAN_STAT_TXDROP_SEEN : Fld := ⟨0xe000c, 20, 1⟩
abbrev CAN_ERRCNT_TEC : Fld := ⟨0xe0010, 0, 9⟩
abbrev CAN_ERRCNT_REC : Fld := ⟨0xe0010, 16, 8⟩
abbrev CAN_CTRL_RECOVER : Fld := ⟨0xe0014, 0, 1⟩
abbrev CAN_TXCFG_STATID : Fld := ⟨0xe0018, 0, 11⟩
abbrev CAN_TXCFG_STATEN : Fld := ⟨0xe0018, 11, 1⟩
abbrev CAN_TXCFG_STATPER : Fld := ⟨0xe0018, 12, 8⟩
abbrev CAN_CNT_TXDROP : Fld := ⟨0xe001c, 0, 16⟩
abbrev CAN_CNT_RXLOST : Fld := ⟨0xe001c, 16, 15⟩
abbrev CAN_CNT_SAT : Fld := ⟨0xe001c, 31, 1⟩
abbrev CAN_TXH_ID : Fld := ⟨0xe0028, 0, 29⟩
abbrev CAN_TXH_IDE : Fld := ⟨0xe0028, 29, 1⟩
abbrev CAN_TXH_FDF : Fld := ⟨0xe0028, 30, 1⟩
abbrev CAN_TXH_BRS : Fld := ⟨0xe0028, 31, 1⟩
abbrev CAN_TXGO_LEN : Fld := ⟨0xe002c, 0, 7⟩
abbrev CAN_TXGO_Q : Fld := ⟨0xe002c, 8, 1⟩
abbrev CAN_TXD : Fld := ⟨0xe0040, 0, 32⟩
abbrev CAN_ERRQ_TYPE : Fld := ⟨0xe0020, 0, 3⟩
abbrev CAN_ERRQ_DIR : Fld := ⟨0xe0020, 3, 1⟩
abbrev CAN_ERRQ_DPH : Fld := ⟨0xe0020, 4, 1⟩
abbrev CAN_ERRQ_TEC : Fld := ⟨0xe0020, 8, 9⟩
abbrev CAN_ERRQ_REC : Fld := ⟨0xe0020, 24, 8⟩
abbrev CAN_LOGQ_CODE : Fld := ⟨0xe0024, 0, 8⟩
abbrev CAN_LOGQ_ARG : Fld := ⟨0xe0024, 8, 8⟩
abbrev CAN_LOGQ_OPSEC : Fld := ⟨0xe0024, 16, 16⟩
abbrev CAN_RXID_ID : Fld := ⟨0xe0400, 0, 29⟩
abbrev CAN_RXID_IDE : Fld := ⟨0xe0400, 29, 1⟩
abbrev CAN_RXID_EN : Fld := ⟨0xe0400, 30, 1⟩
abbrev IIC_CFG_TADDR : Fld := ⟨0xf0000, 0, 7⟩
abbrev IIC_CFG_SPEED : Fld := ⟨0xf0000, 8, 2⟩
abbrev IIC_CFG_RETRY : Fld := ⟨0xf0000, 12, 3⟩
abbrev IIC_CFG_STRTMO : Fld := ⟨0xf0000, 16, 8⟩
abbrev IIC_CFG_EN : Fld := ⟨0xf0000, 24, 1⟩
abbrev IIC_FILT_FILT : Fld := ⟨0xf0004, 0, 5⟩
abbrev IIC_ATTN_HADDR : Fld := ⟨0xf0008, 0, 7⟩
abbrev IIC_ATTN_EN : Fld := ⟨0xf0008, 7, 1⟩
abbrev IIC_ATTN_HREG : Fld := ⟨0xf0008, 8, 8⟩
abbrev IIC_ATTN_MINGAP : Fld := ⟨0xf0008, 16, 8⟩
abbrev IIC_ATTN_MASK : Fld := ⟨0xf0008, 24, 4⟩
abbrev IIC_STAT_ROLE : Fld := ⟨0xf000c, 0, 2⟩
abbrev IIC_STAT_BUSY : Fld := ⟨0xf000c, 2, 1⟩
abbrev IIC_STAT_CALLPEND : Fld := ⟨0xf000c, 3, 1⟩
abbrev IIC_STAT_ARB_SEEN : Fld := ⟨0xf000c, 8, 1⟩
abbrev IIC_STAT_BUSERR_SEEN : Fld := ⟨0xf000c, 9, 1⟩
abbrev IIC_STAT_ATTNFAIL_SEEN : Fld := ⟨0xf000c, 10, 1⟩
abbrev IIC_STAT_PROTO_SEEN : Fld := ⟨0xf000c, 11, 1⟩
abbrev IIC_ERR_PROTO_ERR : Fld := ⟨0xf0010, 0, 8⟩
abbrev IIC_ERR_ARBCNT : Fld := ⟨0xf0010, 8, 8⟩
abbrev IIC_ERR_BUSERR : Fld := ⟨0xf0010, 16, 8⟩
abbrev IIC_ERR_SAT : Fld := ⟨0xf0010, 31, 1⟩
abbrev IIC_ARB_BYTE : Fld := ⟨0xf0014, 0, 8⟩
abbrev IIC_ARB_BIT : Fld := ⟨0xf0014, 8, 3⟩
abbrev IIC_ARB_RETRIES : Fld := ⟨0xf0014, 16, 3⟩
abbrev IIC_MBX_MBX : Fld := ⟨0xf0080, 0, 32⟩
abbrev EVR_CTRL_TIERS : Fld := ⟨0x20000, 0, 4⟩
abbrev EVR_CTRL_REDIR : Fld := ⟨0x20000, 8, 8⟩
abbrev EVR_STAT_MODE : Fld := ⟨0x20004, 0, 2⟩
abbrev EVR_STAT_SPUR_SEEN : Fld := ⟨0x20004, 16, 1⟩
abbrev EVR_STAT_OVF_SEEN : Fld := ⟨0x20004, 17, 1⟩
abbrev EVR_STAT_REDIR_SEEN : Fld := ⟨0x20004, 18, 1⟩
abbrev EVR_GDIS_HOLD : Fld := ⟨0x20008, 0, 1⟩
abbrev EVR_GDIS_INT : Fld := ⟨0x20008, 1, 1⟩
abbrev EVR_HCTL_SLEEP : Fld := ⟨0x2000c, 0, 4⟩
abbrev EVR_LINE_PRES : Fld := ⟨0x20010, 0, 8⟩
abbrev EVR_LINE_ACT : Fld := ⟨0x20010, 8, 8⟩
abbrev EVR_LINE_DEPTH : Fld := ⟨0x20010, 16, 4⟩
abbrev EVR_LINE_ATTN : Fld := ⟨0x20010, 20, 1⟩
abbrev EVR_TGT_TGT : Fld := ⟨0x20100, 0, 4⟩
abbrev EVR_TGT_FB : Fld := ⟨0x20100, 4, 4⟩
abbrev EVR_TGT_PRI : Fld := ⟨0x20100, 8, 8⟩
abbrev EVR_TGT_WAKE : Fld := ⟨0x20100, 16, 1⟩
abbrev EVR_TGT_KIND : Fld := ⟨0x20100, 17, 1⟩
abbrev EVR_TGT_HOSTOK : Fld := ⟨0x20100, 18, 1⟩
abbrev EVR_SRC_PEND : Fld := ⟨0x20400, 0, 1⟩
abbrev EVR_SRC_ACT : Fld := ⟨0x20400, 1, 1⟩
abbrev EVR_SRC_PRES : Fld := ⟨0x20400, 2, 1⟩
abbrev EVR_SRC_AT : Fld := ⟨0x20400, 4, 4⟩
abbrev EVR_SRC_CNT : Fld := ⟨0x20400, 8, 4⟩
abbrev EVR_SRC_OVF : Fld := ⟨0x20400, 12, 1⟩
abbrev RST_CAUSE_POR : Fld := ⟨0x10000, 0, 1⟩
abbrev RST_CAUSE_PIN : Fld := ⟨0x10000, 1, 1⟩
abbrev RST_CAUSE_SWDT : Fld := ⟨0x10000, 2, 1⟩
abbrev RST_CAUSE_STARTTMO : Fld := ⟨0x10000, 3, 1⟩
abbrev RST_CAUSE_GSYS : Fld := ⟨0x10000, 4, 1⟩
abbrev RST_CAUSE_GSUP : Fld := ⟨0x10000, 5, 1⟩
abbrev RST_CAUSE_LANE : Fld := ⟨0x10000, 6, 1⟩
abbrev RST_CAUSE_PORT : Fld := ⟨0x10000, 7, 1⟩
abbrev RST_CAUSE_OPSYS : Fld := ⟨0x10000, 8, 1⟩
abbrev RST_CAUSE_OPSUP : Fld := ⟨0x10000, 9, 1⟩
abbrev RST_CAUSE_FIRST : Fld := ⟨0x10000, 16, 4⟩
abbrev RST_STAT_MSTATE : Fld := ⟨0x10004, 0, 3⟩
abbrev RST_STAT_HALTC : Fld := ⟨0x10004, 4, 3⟩
abbrev RST_STAT_REFSAFE : Fld := ⟨0x10004, 8, 1⟩
abbrev RST_STAT_DBGOVR : Fld := ⟨0x10004, 9, 1⟩
abbrev RST_CLKFAIL_FAIL : Fld := ⟨0x10008, 0, 12⟩
abbrev RST_BOOT_ATTEMPTS : Fld := ⟨0x1000c, 0, 2⟩
abbrev RST_BOOT_SLOT : Fld := ⟨0x1000c, 8, 2⟩
abbrev RST_BOOT_CONFIRMED : Fld := ⟨0x1000c, 16, 1⟩
abbrev RST_BOOT_RECOV : Fld := ⟨0x1000c, 17, 1⟩
abbrev RST_OPT_BOOTSLOT : Fld := ⟨0x10010, 0, 1⟩
abbrev RST_OPT_FALLBACK : Fld := ⟨0x10010, 1, 2⟩
abbrev RST_OPT_DBGLOCK : Fld := ⟨0x10010, 3, 1⟩
abbrev RST_OPT_ROTPOL : Fld := ⟨0x10010, 4, 1⟩
abbrev RST_OPT_EPOLWPOL : Fld := ⟨0x10010, 5, 2⟩
abbrev RST_OPT_HOSTPORT : Fld := ⟨0x10010, 8, 3⟩
abbrev RST_OPT_OPTVALID : Fld := ⟨0x10010, 16, 1⟩
abbrev RST_WAKECFG_ETHWAKE : Fld := ⟨0x10014, 0, 1⟩
abbrev RST_WAKECFG_SPIWAKE : Fld := ⟨0x10014, 1, 1⟩
abbrev RST_WAKECFG_CANWAKE : Fld := ⟨0x10014, 2, 1⟩
abbrev RST_WAKECFG_IICWAKE : Fld := ⟨0x10014, 3, 1⟩
abbrev RST_WAKECFG_RINGWAKE : Fld := ⟨0x10014, 4, 1⟩
abbrev RST_WAKECFG_LISTEN : Fld := ⟨0x10014, 8, 8⟩
abbrev RST_WAKECFG_LINKPER : Fld := ⟨0x10014, 16, 8⟩
abbrev RST_WAKETMR_SEC : Fld := ⟨0x10018, 0, 32⟩
abbrev RST_WAKESRC_SRC : Fld := ⟨0x1001c, 0, 4⟩
abbrev RST_WAKESRC_SEEN : Fld := ⟨0x1001c, 16, 7⟩
abbrev RST_WDOG_KICK : Fld := ⟨0x10020, 0, 32⟩
abbrev RST_VAUX_VAUX : Fld := ⟨0x10024, 0, 16⟩
abbrev RST_VAUX_VAUXLOW : Fld := ⟨0x10024, 16, 1⟩
abbrev RST_VAUX_LOW_SEEN : Fld := ⟨0x10024, 24, 1⟩
abbrev TIL_RETIRED_MAIN : Fld := ⟨0x100000, 0, 11⟩
abbrev TIL_RETIRED_BADSPARE : Fld := ⟨0x100000, 12, 4⟩
abbrev TIL_RETIRED_SPARES : Fld := ⟨0x100000, 16, 11⟩
abbrev TIL_STAT_RETRYOK : Fld := ⟨0x100004, 0, 8⟩
abbrev TIL_STAT_NOSPARE : Fld := ⟨0x100004, 8, 1⟩
abbrev TIL_STAT_RECOVERING : Fld := ⟨0x100004, 9, 1⟩
abbrev TIL_STAT_SCRUBBING : Fld := ⟨0x100004, 10, 1⟩
abbrev TIL_STAT_SAT : Fld := ⟨0x100004, 11, 1⟩
abbrev TIL_STAT_RETIRE_SEEN : Fld := ⟨0x100004, 16, 1⟩
abbrev TIL_STAT_SUSPECT_SEEN : Fld := ⟨0x100004, 17, 1⟩
abbrev TIL_LAST_TILE : Fld := ⟨0x100008, 0, 16⟩
abbrev TIL_LAST_REGION : Fld := ⟨0x100008, 16, 3⟩
abbrev TIL_LAST_POLICY : Fld := ⟨0x100008, 20, 4⟩
abbrev TIL_SCRUBCFG_PERIOD : Fld := ⟨0x10000c, 0, 8⟩
abbrev TIL_FLASH_SPARE : Fld := ⟨0x100010, 0, 9⟩
abbrev TIL_FLASH_RETBLK : Fld := ⟨0x100010, 16, 9⟩
abbrev TIL_QSTAT_FILL : Fld := ⟨0x100100, 0, 9⟩
abbrev TIL_QSTAT_LOST : Fld := ⟨0x100100, 16, 8⟩
abbrev TIL_QSTAT_SAT : Fld := ⟨0x100100, 24, 1⟩
abbrev TIL_QSTAT_FULL_SEEN : Fld := ⟨0x100100, 25, 1⟩
abbrev REC_STATE_FROZEN : Fld := ⟨0x110000, 0, 1⟩
abbrev REC_STATE_PENDING : Fld := ⟨0x110000, 1, 3⟩
abbrev REC_STATE_MERGING : Fld := ⟨0x110000, 4, 1⟩
abbrev REC_STATE_WRAP : Fld := ⟨0x110000, 8, 1⟩
abbrev REC_STATE_EARLY : Fld := ⟨0x110000, 9, 1⟩
abbrev REC_STATE_EXPIRED_SEEN : Fld := ⟨0x110000, 16, 1⟩
abbrev REC_STATE_SAT_SEEN : Fld := ⟨0x110000, 17, 1⟩
abbrev REC_EXPIRE : Fld := ⟨0x110004, 0, 32⟩
abbrev REC_LAST : Fld := ⟨0x110008, 0, 32⟩
abbrev REC_COUNT_HOURLY : Fld := ⟨0x11000c, 0, 12⟩
abbrev REC_COUNT_DAILY : Fld := ⟨0x11000c, 16, 15⟩
abbrev REC_OPSEC : Fld := ⟨0x110010, 0, 32⟩
abbrev REC_PWRCYC : Fld := ⟨0x110014, 0, 32⟩
abbrev UPD_STATE_PHASE : Fld := ⟨0x120000, 0, 3⟩
abbrev UPD_STATE_KIND : Fld := ⟨0x120000, 3, 1⟩
abbrev UPD_STATE_TARGET : Fld := ⟨0x120000, 4, 1⟩
abbrev UPD_STATE_SESSION : Fld := ⟨0x120000, 8, 3⟩
abbrev UPD_STATE_FAILSTEP : Fld := ⟨0x120000, 16, 3⟩
abbrev UPD_STATE_DONE_SEEN : Fld := ⟨0x120000, 24, 1⟩
abbrev UPD_STATE_FAIL_SEEN : Fld := ⟨0x120000, 25, 1⟩
abbrev UPD_STATE_REVERT_SEEN : Fld := ⟨0x120000, 26, 1⟩
abbrev UPD_STATE_EXPIRE_SEEN : Fld := ⟨0x120000, 27, 1⟩
abbrev UPD_RECV_BYTES : Fld := ⟨0x120004, 0, 32⟩
abbrev UPD_SLOT_STATE : Fld := ⟨0x120008, 0, 3⟩
abbrev UPD_SLOT_VERSION : Fld := ⟨0x120008, 16, 16⟩
abbrev UPD_TRIAL_REMAIN : Fld := ⟨0x120010, 0, 10⟩
abbrev GLB_ID_PART : Fld := ⟨0, 0, 16⟩
abbrev GLB_ID_STEP : Fld := ⟨0, 16, 8⟩
abbrev GLB_SERIAL : Fld := ⟨4, 0, 32⟩
abbrev GLB_FWVER_FWVER : Fld := ⟨8, 0, 16⟩
abbrev GLB_FWVER_GROMVER : Fld := ⟨8, 16, 16⟩

end Sys2Proof.Machine.F
end

