-- ==== Sys2Proof/Machine/RegMap.lean ====
section
/-! DEFINITION. The register map of Table 22.1 with the field tables of all chapters: for every mapped register its base address,
stride and number of instances, its reset word, and the masks of its RW, W1C, RC, WO and live-only bits (Table 0.5, Table 22.3).
Bits in no mask are RO or RSV. The ranges are the ones the field tables state for RW fields. -/

namespace Sys2Proof.Machine

/-- The permitted range of one RW field: its lowest bit, its width, the least and the greatest value. -/
structure RangeDef where
  lo : Nat
  w : Nat
  mn : Nat
  mx : Nat
  deriving DecidableEq, Repr

/-- One register, or an indexed run of registers, of Table 22.1. -/
structure RegDef where
  base : Nat
  stride : Nat
  count : Nat
  /-- reset word (the field tables) -/
  rst : Nat
  /-- RW bits -/
  rw : Nat
  /-- W1C bits -/
  w1c : Nat
  /-- RC bits -/
  rc : Nat
  /-- WO bits -/
  wo : Nat
  /-- live-only RW bits (Table 22.3) -/
  live : Nat
  rng : List RangeDef
  deriving DecidableEq, Repr

/-- Registers of the block at 0 (Table 0.4). -/
def regsGlb : List RegDef :=
  [
   -- GLB_ID
   ⟨0, 4, 1, 0x640, 0, 0, 0, 0, 0, []⟩,
   -- GLB_SERIAL
   ⟨4, 4, 1, 0, 0, 0, 0, 0, 0, []⟩,
   -- GLB_FWVER
   ⟨8, 4, 1, 0, 0, 0, 0, 0, 0, []⟩,
   -- GLB_CLKSTAT
   ⟨0x10, 4, 1, 0x30003, 0, 0, 0, 0, 0, []⟩,
   -- GLB_GRID
   ⟨0x14, 4, 1, 0x10000000, 0, 0, 0, 0, 0, []⟩,
   -- GLB_SESS
   ⟨0x20, 4, 1, 0, 0, 0, 0, 0, 0, []⟩,
   -- GLB_PKTERR
   ⟨0x24, 4, 1, 0, 0, 0, 0xffffffff, 0, 0, []⟩]

/-- Registers of the block at 0x10000 (Table 0.4). -/
def regsRst : List RegDef :=
  [
   -- RST_CAUSE
   ⟨0x10000, 4, 1, 0x10001, 0, 0x3ff, 0, 0, 0, []⟩,
   -- RST_STAT
   ⟨0x10004, 4, 1, 0x100, 0, 0, 0, 0, 0, []⟩,
   -- RST_CLKFAIL
   ⟨0x10008, 4, 1, 0, 0, 0, 0, 0, 0, []⟩,
   -- RST_BOOT
   ⟨0x1000c, 4, 1, 0x300, 0, 0, 0, 0, 0, []⟩,
   -- RST_OPT
   ⟨0x10010, 4, 1, 0x71c, 0, 0, 0, 0, 0, []⟩,
   -- RST_WAKECFG
   ⟨0x10014, 4, 1, 0x3c3213, 0xffff1f, 0, 0, 0, 0, [⟨8, 8, 10, 255⟩, ⟨16, 8, 1, 255⟩]⟩,
   -- RST_WAKETMR
   ⟨0x10018, 4, 1, 0, 0xffffffff, 0, 0, 0, 0xffffffff, []⟩,
   -- RST_WAKESRC
   ⟨0x1001c, 4, 1, 0, 0, 0x7f0000, 0, 0, 0, []⟩,
   -- RST_WDOG
   ⟨0x10020, 4, 1, 0, 0, 0, 0, 0xffffffff, 0, []⟩,
   -- RST_VAUX
   ⟨0x10024, 4, 1, 0, 0, 0x1000000, 0, 0, 0, []⟩]

/-- Registers of the block at 0x20000 (Table 0.4). -/
def regsEvr : List RegDef :=
  [
   -- EVR_CTRL
   ⟨0x20000, 4, 1, 0, 0xff0f, 0, 0, 0, 0, []⟩,
   -- EVR_STAT
   ⟨0x20004, 4, 1, 0, 0, 0x70000, 0, 0, 0, []⟩,
   -- EVR_GDIS
   ⟨0x20008, 4, 1, 0, 1, 0, 0, 0, 1, []⟩,
   -- EVR_HCTL
   ⟨0x2000c, 4, 1, 0, 0xf, 0, 0, 0, 0xf, []⟩,
   -- EVR_LINE
   ⟨0x20010, 4, 4, 0xffff, 0, 0, 0, 0, 0, []⟩,
   -- EVR_TGT
   ⟨0x20100, 4, 192, 0, 0x1ffff, 0, 0, 0, 0, [⟨0, 4, 0, 11⟩, ⟨4, 4, 0, 11⟩]⟩,
   -- EVR_SRC
   ⟨0x20400, 4, 192, 0, 0, 0x1000, 0, 0, 0, []⟩]

/-- Registers of the block at 0x30000 (Table 0.4). -/
def regsRing : List RegDef :=
  [
   -- RING_CTRL
   ⟨0x30000, 4, 1, 0x14000, 0xff73f, 0, 0, 0x1000000, 0, [⟨0, 6, 0, 40⟩, ⟨8, 3, 0, 3⟩, ⟨12, 8, 1, 255⟩]⟩,
   -- RING_STAT
   ⟨0x30004, 4, 1, 0, 0, 0xe00000, 0, 0, 0, []⟩,
   -- RING_THOP
   ⟨0x30008, 4, 1, 0, 0, 0, 0, 0, 0, []⟩,
   -- RING_BREAK
   ⟨0x3000c, 4, 1, 0, 0, 0, 0x1ff0000, 0, 0, []⟩,
   -- RING_STALE0
   ⟨0x30010, 4, 1, 0, 0, 0, 0, 0, 0, []⟩,
   -- RING_STALE1
   ⟨0x30014, 4, 1, 0, 0, 0, 0, 0, 0, []⟩,
   -- RING_ERRCNT
   ⟨0x30018, 4, 1, 0, 0, 0, 0x1ffff, 0, 0, []⟩]

/-- Registers of the block at 0x40000 (Table 0.4). -/
def regsAcq : List RegDef :=
  [
   -- ACQ_CFG
   ⟨0x40000, 4, 1, 0xff06440, 0xff7ffff, 0, 0, 0, 0, [⟨8, 11, 50, 2000⟩]⟩,
   -- ACQ_TMAP0
   ⟨0x40004, 4, 1, 0x6d2240, 0xffffff, 0, 0, 0, 0, []⟩,
   -- ACQ_TMAP1
   ⟨0x40008, 4, 1, 0xff6b64, 0xffffff, 0, 0, 0, 0, []⟩,
   -- ACQ_PLAUS
   ⟨0x4000c, 4, 1, 0x320a3228, 0xffffffff, 0, 0, 0, 0, [⟨0, 8, 1, 255⟩, ⟨8, 8, 1, 255⟩, ⟨16, 8, 1, 255⟩]⟩,
   -- ACQ_RLINK
   ⟨0x40010, 4, 1, 0, 0xffffff, 0, 0, 0, 0, []⟩,
   -- ACQ_STAT
   ⟨0x40014, 4, 1, 0, 0, 0x700, 0, 0, 0, []⟩,
   -- ACQ_SEGMIS0
   ⟨0x40018, 4, 1, 0, 0, 0, 0, 0, 0, []⟩,
   -- ACQ_SEGMIS1
   ⟨0x4001c, 4, 1, 0, 0, 0, 0, 0, 0, []⟩,
   -- ACQ_BAL_CFG
   ⟨0x40020, 4, 1, 0x10a3202, 0x1ffff03, 0, 0, 0, 0, [⟨16, 8, 1, 255⟩]⟩,
   -- ACQ_RBLEED
   ⟨0x40024, 4, 1, 0x672, 0xffff, 0, 0, 0, 0, [⟨0, 16, 100, 65535⟩]⟩,
   -- ACQ_OW_CFG
   ⟨0x40028, 4, 1, 0x21418, 0x3f7ffff, 0, 0, 0x80000, 0, [⟨8, 8, 5, 100⟩, ⟨16, 3, 1, 4⟩, ⟨20, 6, 0, 40⟩]⟩,
   -- ACQ_SEG
   ⟨0x40100, 4, 40, 0x10, 0x1f, 0, 0, 0, 0, [⟨0, 5, 1, 16⟩]⟩,
   -- ACQ_WSUSP
   ⟨0x40200, 4, 40, 0, 0, 0, 0, 0, 0, []⟩]

/-- Registers of the block at 0x50000 (Table 0.4). -/
def regsCvi : List RegDef :=
  [
   -- CVI_SH_CFG
   ⟨0x50000, 4, 1, 0x3140fa, 0x37fffff, 0, 0, 0, 0, [⟨0, 12, 1, 4095⟩, ⟨20, 3, 1, 7⟩, ⟨24, 2, 0, 2⟩]⟩,
   -- CVI_SHUNT
   ⟨0x50004, 4, 1, 0x9c40, 0xffffff, 0, 0, 0, 0, [⟨0, 24, 10000, 200000⟩]⟩,
   -- CVI_SH_STAT
   ⟨0x50008, 4, 1, 0x20, 0, 0x70000, 0, 0, 0, []⟩,
   -- CVI_SWAPCNT
   ⟨0x5000c, 4, 1, 0, 0, 0, 0, 0, 0, []⟩,
   -- CVI_I
   ⟨0x50010, 4, 1, 0, 0, 0, 0, 0, 0, []⟩,
   -- CVI_Q0
   ⟨0x50014, 4, 1, 0, 0, 0, 0, 0, 0, []⟩,
   -- CVI_Q1
   ⟨0x50018, 4, 1, 0, 0, 0, 0, 0, 0, []⟩,
   -- CVI_VSTR
   ⟨0x5001c, 4, 1, 0, 0, 0, 0, 0, 0, []⟩,
   -- CVI_VBUS
   ⟨0x50020, 4, 1, 0, 0, 0, 0, 0, 0, []⟩,
   -- CVI_VINS
   ⟨0x50024, 4, 1, 0, 0, 0, 0, 0, 0, []⟩,
   -- CVI_HV_STAT
   ⟨0x50028, 4, 1, 0, 0, 0x700, 0, 0, 0, []⟩,
   -- CVI_INS_CFG
   ⟨0x5002c, 4, 1, 0x202, 0x71f, 0, 0, 0, 0, [⟨0, 4, 1, 10⟩, ⟨8, 3, 1, 7⟩]⟩,
   -- CVI_INS_THR
   ⟨0x50030, 4, 1, 0x1f40064, 0xffffffff, 0, 0, 0, 0, [⟨0, 16, 1, 65535⟩]⟩,
   -- CVI_RISO
   ⟨0x50034, 4, 1, 0, 0, 0, 0, 0, 0, []⟩,
   -- CVI_RPOS
   ⟨0x50038, 4, 1, 0, 0, 0, 0, 0, 0, []⟩,
   -- CVI_RNEG
   ⟨0x5003c, 4, 1, 0, 0, 0, 0, 0, 0, []⟩,
   -- CVI_INS_STAT
   ⟨0x50040, 4, 1, 3, 0, 0x300, 0, 0, 0, []⟩,
   -- CVI_CAL_STAT
   ⟨0x50044, 4, 1, 4, 0, 0, 0, 0, 0, []⟩]

/-- Registers of the block at 0x60000 (Table 0.4). -/
def regsEst : List RegDef :=
  [
   -- EST_CFG
   ⟨0x60000, 4, 1, 0xc81e6400, 0xffffff13, 0, 0, 0, 0, [⟨8, 8, 1, 255⟩, ⟨16, 8, 1, 255⟩, ⟨24, 8, 0, 250⟩]⟩,
   -- EST_RES
   ⟨0x60004, 4, 1, 0x64141e, 0xfffffff, 0, 0, 0, 0, [⟨16, 12, 1, 4095⟩]⟩,
   -- EST_DRIFT
   ⟨0x60008, 4, 1, 0x5030532, 0xffffffff, 0, 0, 0, 0, [⟨0, 8, 1, 255⟩]⟩,
   -- EST_ANCH
   ⟨0x6000c, 4, 1, 0xa3c1432, 0xffffffff, 0, 0, 0, 0, [⟨0, 8, 1, 255⟩, ⟨8, 8, 1, 255⟩, ⟨16, 8, 1, 255⟩]⟩,
   -- EST_KF
   ⟨0x60010, 4, 1, 0x3214140a, 0xffffffff, 0, 0, 0, 0, [⟨0, 8, 1, 255⟩, ⟨8, 8, 1, 255⟩]⟩,
   -- EST_STAT
   ⟨0x60014, 4, 1, 0, 0, 0, 0, 0, 0, []⟩,
   -- EST_FLAGS
   ⟨0x60018, 4, 1, 0x10, 0, 0xf0000, 0, 0, 0, []⟩,
   -- EST_STRID
   ⟨0x6001c, 4, 1, 0, 0xffffffff, 0, 0, 0, 0, []⟩,
   -- EST_STR_USOC
   ⟨0x60020, 4, 1, 0, 0, 0, 0, 0, 0, []⟩,
   -- EST_STR_SOC
   ⟨0x60024, 4, 1, 0, 0, 0, 0, 0, 0, []⟩,
   -- EST_STR_EDIS
   ⟨0x60028, 4, 1, 0, 0, 0, 0, 0, 0, []⟩,
   -- EST_STR_ECHG
   ⟨0x6002c, 4, 1, 0, 0, 0, 0, 0, 0, []⟩,
   -- EST_LRN_CFG
   ⟨0x60030, 4, 1, 0x314085a, 0xfff1fff, 0, 0, 0, 0, [⟨0, 8, 1, 255⟩, ⟨8, 5, 1, 16⟩, ⟨16, 8, 1, 255⟩]⟩,
   -- EST_LRN_STAT
   ⟨0x60034, 4, 1, 0, 0, 0x70000000, 0, 0, 0, []⟩,
   -- EST_LRN_LAST
   ⟨0x60038, 4, 1, 0, 0, 0, 0, 0, 0, []⟩,
   -- EST_SOH
   ⟨0x6003c, 4, 1, 0x10002710, 0, 0, 0, 0, 0, []⟩,
   -- EST_IMP_CFG
   ⟨0x60040, 4, 1, 0x7d00418, 0xfff0fff, 0, 0, 0, 0, [⟨16, 12, 100, 2000⟩]⟩,
   -- EST_IMP_STAT
   ⟨0x60044, 4, 1, 0, 0, 0x70000, 0, 0, 0, []⟩,
   -- EST_IMP_FREQ
   ⟨0x60080, 4, 8, 0, 0, 0, 0, 0, 0, []⟩,
   -- EST_IMP_IAMP
   ⟨0x600a0, 4, 8, 0, 0, 0, 0, 0, 0, []⟩,
   -- EST_IMP_RE
   ⟨0x64000, 8, 5120, 0x80000000, 0, 0, 0, 0, 0, []⟩,
   -- EST_IMP_IM
   ⟨0x64004, 8, 5120, 5, 0, 0, 0, 0, 0, []⟩,
   -- EST_TINT
   ⟨0x6e000, 4, 640, 0xff0000, 0, 0, 0, 0, 0, []⟩]

/-- Registers of the block at 0x70000 (Table 0.4). -/
def regsCtl : List RegDef :=
  [
   -- CTL_CTRL
   ⟨0x70000, 4, 1, 0x4000, 0xff01, 0, 0, 0, 1, [⟨8, 8, 1, 255⟩]⟩,
   -- CTL_STAT
   ⟨0x70004, 4, 1, 0, 0, 0x300, 0, 0, 0, []⟩,
   -- CTL_BANKSEL
   ⟨0x70008, 4, 1, 0, 0, 0, 0, 0, 0, []⟩,
   -- CTL_SATF
   ⟨0x7000c, 4, 1, 0, 0, 0x3f, 0, 0, 0, []⟩,
   -- CTL_EXP
   ⟨0x70010, 4, 1, 0, 0, 0, 0, 0, 0, []⟩,
   -- CTL_PWM
   ⟨0x70014, 4, 1, 0x320, 0xfff, 0, 0, 0, 0, [⟨0, 12, 160, 4095⟩]⟩,
   -- CTL_DLIM
   ⟨0x70018, 4, 1, 0xf3330ccd, 0xffffffff, 0, 0, 0, 0, []⟩,
   -- CTL_SPCFG
   ⟨0x7001c, 4, 1, 0x3e80a03, 0x7ffff07, 0, 0, 0, 0, [⟨16, 11, 1, 1250⟩]⟩,
   -- CTL_SLEW
   ⟨0x70020, 4, 1, 0x64, 0xffff, 0, 0, 0, 0, [⟨0, 16, 1, 65535⟩]⟩,
   -- CTL_SPLOCAL
   ⟨0x70024, 4, 1, 0, 0xffffffff, 0, 0, 0, 0, []⟩,
   -- CTL_PULSE
   ⟨0x70028, 4, 1, 0x4d593ba, 0xfffffff, 0, 0, 0, 0, [⟨14, 14, 1, 16383⟩]⟩,
   -- CTL_SPSTAT
   ⟨0x7002c, 4, 1, 0, 0, 0x700, 0, 0, 0, []⟩,
   -- CTL_SPNOW
   ⟨0x70030, 4, 1, 0, 0, 0, 0, 0, 0, []⟩,
   -- CTL_REF
   ⟨0x70034, 4, 3, 0, 0xffffffff, 0, 0, 0, 0xffffffff, []⟩,
   -- CTL_ENV0
   ⟨0x70040, 4, 1, 0x4000, 0xffffffff, 0, 0, 0, 0, []⟩,
   -- CTL_ENV1
   ⟨0x70044, 4, 1, 0x326, 0x7ff, 0, 0, 0, 0, [⟨0, 8, 1, 255⟩, ⟨8, 3, 1, 7⟩]⟩,
   -- CTL_PHSCALE
   ⟨0x70048, 4, 1, 0x1f4, 0xffff, 0, 0, 0, 0, [⟨0, 16, 1, 65535⟩]⟩]

/-- Registers of the block at 0x80000 (Table 0.4). -/
def regsPrt : List RegDef :=
  [
   -- PRT_LIMIT
   ⟨0x80000, 4, 1, 0xee, 0, 0x30000, 0, 0, 0, []⟩,
   -- PRT_LDIS
   ⟨0x80004, 4, 1, 0, 0, 0, 0, 0, 0, []⟩,
   -- PRT_LCHG
   ⟨0x80008, 4, 1, 0, 0, 0, 0, 0, 0, []⟩,
   -- PRT_HOSTLIM
   ⟨0x8000c, 4, 1, 0xffffffff, 0xffffffff, 0, 0, 0, 0xffffffff, []⟩,
   -- PRT_VCELL
   ⟨0x80010, 4, 1, 0x9c40e42, 0xffffffff, 0, 0, 0, 0, []⟩,
   -- PRT_VHARD
   ⟨0x80014, 4, 1, 0x7d00ed8, 0xffffffff, 0, 0, 0, 0, []⟩,
   -- PRT_VHDR
   ⟨0x80018, 4, 1, 0x1432, 0xffff, 0, 0, 0, 0, [⟨0, 8, 1, 255⟩, ⟨8, 8, 1, 255⟩]⟩,
   -- PRT_OCTHR
   ⟨0x8001c, 4, 1, 0x5780578, 0xfff0fff, 0, 0, 0, 0, [⟨0, 12, 100, 4095⟩, ⟨16, 12, 100, 4095⟩]⟩,
   -- PRT_CFG
   ⟨0x80020, 4, 1, 0x64143200, 0xffffff01, 0, 0, 0, 0, [⟨8, 8, 1, 255⟩, ⟨16, 8, 1, 255⟩, ⟨24, 8, 1, 255⟩]⟩,
   -- PRT_PRECH
   ⟨0x80024, 4, 1, 0x3205140a, 0xffffffff, 0, 0, 0, 0, [⟨0, 8, 1, 255⟩, ⟨8, 8, 1, 255⟩, ⟨16, 8, 1, 255⟩, ⟨24, 8, 1, 255⟩]⟩,
   -- PRT_CONT
   ⟨0x80028, 4, 1, 0x14643264, 0xffffffff, 0, 0, 0, 0, [⟨0, 8, 10, 255⟩, ⟨8, 8, 20, 100⟩, ⟨16, 8, 10, 255⟩, ⟨24, 8, 1, 255⟩]⟩,
   -- PRT_TRIP
   ⟨0x8002c, 4, 1, 0, 0, 0x1ff, 0, 0, 0, []⟩,
   -- PRT_CONNBLK
   ⟨0x80030, 4, 1, 0x749, 0, 0, 0, 0, 0, []⟩,
   -- PRT_TRIPCNT
   ⟨0x80034, 4, 1, 0, 0, 0, 0x1ffff, 0, 0, []⟩,
   -- PRT_CONTSTAT
   ⟨0x80038, 4, 1, 0, 0, 0x7f0000, 0, 0, 0, []⟩,
   -- PRT_ENT_DIS
   ⟨0x80040, 8, 10, 0x7fffffff, 0, 0, 0, 0, 0, []⟩,
   -- PRT_ENT_CHG
   ⟨0x80044, 8, 10, 0x7fffffff, 0, 0, 0, 0, 0, []⟩]

/-- Registers of the block at 0x90000 (Table 0.4). -/
def regsThm : List RegDef :=
  [
   -- THM_DIE
   ⟨0x90000, 4, 1, 0, 0, 0, 0, 0, 0, []⟩,
   -- THM_STAT
   ⟨0x90004, 4, 1, 0, 0, 0x3000000, 0, 0, 0, []⟩,
   -- THM_MED
   ⟨0x90008, 4, 1, 0xff000000, 0, 0, 0, 0, 0, []⟩,
   -- THM_DIECFG
   ⟨0x9000c, 4, 1, 0xa1e0f00, 0xffffffff, 0, 0, 0, 0, [⟨8, 8, 5, 50⟩, ⟨16, 8, 5, 255⟩, ⟨24, 8, 0, 30⟩]⟩,
   -- THM_HOT
   ⟨0x90010, 4, 1, 0x2112d32, 0xfffffff, 0, 0, 0, 0, [⟨16, 4, 1, 15⟩, ⟨20, 4, 1, 15⟩, ⟨24, 4, 1, 15⟩]⟩,
   -- THM_COLD
   ⟨0x90014, 4, 1, 0x110af6, 0xffffff, 0, 0, 0, 0, [⟨16, 4, 1, 15⟩, ⟨20, 4, 1, 15⟩]⟩,
   -- THM_CX
   ⟨0x90018, 4, 1, 0x3c05080a, 0xffffffff, 0, 0, 0, 0, [⟨0, 8, 2, 50⟩, ⟨8, 8, 1, 50⟩, ⟨16, 8, 0, 30⟩, ⟨24, 8, 1, 255⟩]⟩,
   -- THM_CEXT
   ⟨0x9001c, 4, 1, 0, 0, 0, 0, 0, 0, []⟩,
   -- THM_COOL
   ⟨0x90020, 4, 1, 0x140a1e, 0x1ffffff, 0, 0, 0, 0, []⟩,
   -- THM_VALVE
   ⟨0x90024, 4, 1, 0, 0x3ff0000, 0, 0, 0, 0, [⟨16, 10, 0, 1000⟩]⟩,
   -- THM_CHIL
   ⟨0x90028, 4, 1, 0x5140000, 0xffff0fff, 0, 0, 0, 0, []⟩,
   -- THM_TBRK
   ⟨0x90100, 4, 40, 0, 0, 0, 0, 0, 0, []⟩]

/-- Registers of the block at 0xa0000 (Table 0.4). -/
def regsSaf : List RegDef :=
  [
   -- SAF_STAT
   ⟨0xa0000, 4, 1, 0, 0, 0, 0, 0, 0, []⟩,
   -- SAF_IN
   ⟨0xa0004, 4, 1, 0, 0, 0, 0, 0, 0, []⟩,
   -- SAF_CFG
   ⟨0xa0008, 4, 1, 0, 0, 0, 0, 0, 0, []⟩,
   -- SAF_HASH
   ⟨0xa000c, 4, 1, 0, 0, 0, 0, 0, 0, []⟩,
   -- SAF_FAULT
   ⟨0xa0010, 4, 1, 0, 0, 0, 0, 0, 0, []⟩,
   -- SAF_CNT
   ⟨0xa0014, 4, 1, 0, 0, 0, 0, 0, 0, []⟩]

/-- Registers of the block at 0xb0000 (Table 0.4). -/
def regsLan : List RegDef :=
  [
   -- LAN_STATE
   ⟨0xb0000, 4, 1, 0x70000, 0, 0, 0, 0, 0, []⟩,
   -- LAN_ASSIGN
   ⟨0xb0004, 4, 1, 0x77777777, 0, 0, 0, 0, 0, []⟩,
   -- LAN_CFG
   ⟨0xb0008, 4, 1, 0x2300607, 0xf7fffff, 0, 0, 0, 0, [⟨8, 8, 1, 255⟩, ⟨20, 3, 1, 7⟩, ⟨24, 4, 1, 15⟩]⟩,
   -- LAN_STAT
   ⟨0xb000c, 4, 1, 0x700, 0, 0x3f0000, 0, 0, 0, []⟩,
   -- LAN_GAP
   ⟨0xb0010, 4, 1, 0, 0, 0, 0, 0, 0, []⟩,
   -- LAN_MISS
   ⟨0xb0014, 4, 1, 0, 0, 0, 0, 0, 0, []⟩,
   -- LAN_HOURS
   ⟨0xb0040, 4, 5, 0, 0, 0, 0, 0, 0, []⟩,
   -- LAN_BIST
   ⟨0xb0060, 4, 5, 0xff00, 0, 0, 0, 0, 0, []⟩]

/-- Registers of the block at 0xc0000 (Table 0.4). -/
def regsBay : List RegDef :=
  [
   -- BAY_POS
   ⟨0xc0000, 4, 1, 0, 0, 0, 0, 0, 0, []⟩,
   -- BAY_CFG
   ⟨0xc0004, 4, 1, 0xa000a28, 0xff7fffff, 0, 0, 0, 0, [⟨8, 8, 1, 255⟩, ⟨24, 8, 1, 255⟩]⟩,
   -- BAY_CTRL
   ⟨0xc0008, 4, 1, 0x6400000, 0xff7ff01, 0, 0, 0x10000000, 0, []⟩,
   -- BAY_REST
   ⟨0xc000c, 4, 1, 0x40a04b0, 0xfffffff, 0, 0, 0, 0, [⟨0, 16, 60, 65534⟩]⟩,
   -- BAY_STAT
   ⟨0xc0010, 4, 1, 0, 0, 0x70000000, 0, 0, 0, []⟩,
   -- BAY_PBAY
   ⟨0xc0014, 4, 1, 0, 0, 0, 0, 0, 0, []⟩,
   -- BAY_PNET
   ⟨0xc0018, 4, 1, 0, 0, 0, 0, 0, 0, []⟩,
   -- BAY_PALLOC
   ⟨0xc001c, 4, 1, 0, 0, 0, 0, 0, 0, []⟩,
   -- BAY_CYCLE
   ⟨0xc0020, 4, 1, 0, 0, 0, 0, 0, 0, []⟩,
   -- BAY_ALLOC
   ⟨0xc0024, 4, 1, 0, 0, 0, 0, 0, 0, []⟩,
   -- BAY_STALE0
   ⟨0xc0028, 4, 1, 0, 0, 0, 0, 0, 0, []⟩,
   -- BAY_STALE1
   ⟨0xc002c, 4, 1, 0, 0, 0, 0, 0, 0, []⟩]

/-- Registers of the block at 0xd0000 (Table 0.4). (DEDUCED: log entry 71) -/
def regsTim : List RegDef :=
  [
   -- TIM_CFG
   ⟨0xd0000, 4, 1, 0x10a0012, 0x1ffff13, 0, 0, 0, 0, [⟨0, 2, 0, 2⟩, ⟨8, 8, 0, 127⟩, ⟨16, 8, 1, 255⟩]⟩,
   -- TIM_STAT
   ⟨0xd0004, 4, 1, 0, 0, 0x100, 0, 0, 0, []⟩,
   -- TIM_ADJ
   ⟨0xd0008, 4, 1, 0, 0, 0, 0, 0, 0, []⟩,
   -- TIM_OFS
   ⟨0xd000c, 4, 1, 0, 0, 0, 0, 0, 0, []⟩,
   -- TIM_NSEC
   ⟨0xd0010, 4, 1, 0, 0, 0, 0, 0, 0, []⟩,
   -- TIM_SEC0
   ⟨0xd0014, 4, 1, 0, 0, 0, 0, 0, 0, []⟩,
   -- TIM_SEC1
   ⟨0xd0018, 4, 1, 0, 0, 0, 0, 0, 0, []⟩,
   -- TIM_ASYM
   ⟨0xd0020, 4, 2, 0, 0xffff, 0, 0, 0, 0, []⟩,
   -- TIM_ETH
   ⟨0xd0028, 4, 1, 0, 1, 0, 0, 0, 0, []⟩,
   -- TIM_ETH
   ⟨0xd002c, 4, 1, 1, 1, 0, 0, 0, 0, []⟩,
   -- TIM_TSQ
   ⟨0xd0030, 4, 1, 0, 0, 0x30000, 0x7ff00000, 0, 0, []⟩,
   -- TIM_IP4
   ⟨0xd0040, 4, 1, 0, 0xffffffff, 0, 0, 0, 0, []⟩,
   -- TIM_IP4MASK
   ⟨0xd0044, 4, 1, 0, 0xffffffff, 0, 0, 0, 0, []⟩,
   -- TIM_IP4GW
   ⟨0xd0048, 4, 1, 0, 0xffffffff, 0, 0, 0, 0, []⟩,
   -- TIM_IP6
   ⟨0xd0050, 4, 4, 0, 0xffffffff, 0, 0, 0, 0, []⟩,
   -- TIM_MAC0
   ⟨0xd0060, 4, 1, 0, 0, 0, 0, 0, 0, []⟩,
   -- TIM_MAC1
   ⟨0xd0064, 4, 1, 0, 0, 0, 0, 0, 0, []⟩]

/-- Registers of the block at 0xe0000 (Table 0.4). -/
def regsCan : List RegDef :=
  [
   -- CAN_CFG
   ⟨0xe0000, 4, 1, 0x32ff07, 0xffff0f, 0, 0, 0, 0, [⟨16, 8, 1, 255⟩]⟩,
   -- CAN_BTR
   ⟨0xe0004, 4, 1, 0x1f1f7e00, 0x7f7fffff, 0, 0, 0, 0, [⟨8, 8, 1, 255⟩]⟩,
   -- CAN_DBTR
   ⟨0xe0008, 4, 1, 0x19091c00, 0x1f0f1f1f, 0, 0, 0, 0, []⟩,
   -- CAN_STAT
   ⟨0xe000c, 4, 1, 0, 0, 0x1f0000, 0, 0, 0, []⟩,
   -- CAN_ERRCNT
   ⟨0xe0010, 4, 1, 0, 0, 0, 0, 0, 0, []⟩,
   -- CAN_CTRL
   ⟨0xe0014, 4, 1, 0, 0, 0, 0, 1, 0, []⟩,
   -- CAN_TXCFG
   ⟨0xe0018, 4, 1, 0xa000, 0xfffff, 0, 0, 0, 0, [⟨12, 8, 1, 255⟩]⟩,
   -- CAN_CNT
   ⟨0xe001c, 4, 1, 0, 0, 0, 0xffffffff, 0, 0, []⟩,
   -- CAN_ERRQ
   ⟨0xe0020, 4, 1, 0, 0, 0, 0xff01ff1f, 0, 0, []⟩,
   -- CAN_LOGQ
   ⟨0xe0024, 4, 1, 0, 0, 0, 0xffffffff, 0, 0, []⟩,
   -- CAN_TXH
   ⟨0xe0028, 4, 1, 0, 0xffffffff, 0, 0, 0, 0xffffffff, []⟩,
   -- CAN_TXGO
   ⟨0xe002c, 4, 1, 0, 0, 0, 0, 0x17f, 0, []⟩,
   -- CAN_TXD
   ⟨0xe0040, 4, 16, 0, 0xffffffff, 0, 0, 0, 0xffffffff, []⟩,
   -- CAN_RXID
   ⟨0xe0400, 4, 128, 0, 0x7fffffff, 0, 0, 0, 0, []⟩,
   -- CAN_RXOBJ RXSTAT
   ⟨0xe1000, 128, 128, 0, 0, 0, 0x30000, 0, 0, []⟩,
   -- CAN_RXOBJ TNS
   ⟨0xe1004, 128, 128, 0, 0, 0, 0, 0, 0, []⟩,
   -- CAN_RXOBJ TSEC
   ⟨0xe1008, 128, 128, 0, 0, 0, 0, 0, 0, []⟩,
   -- CAN_RXOBJ RSV
   ⟨0xe100c, 128, 128, 0, 0, 0, 0, 0, 0, []⟩,
   -- CAN_RXOBJ DATA0
   ⟨0xe1010, 128, 128, 0, 0, 0, 0, 0, 0, []⟩,
   -- CAN_RXOBJ DATA1
   ⟨0xe1014, 128, 128, 0, 0, 0, 0, 0, 0, []⟩,
   -- CAN_RXOBJ DATA2
   ⟨0xe1018, 128, 128, 0, 0, 0, 0, 0, 0, []⟩,
   -- CAN_RXOBJ DATA3
   ⟨0xe101c, 128, 128, 0, 0, 0, 0, 0, 0, []⟩,
   -- CAN_RXOBJ DATA4
   ⟨0xe1020, 128, 128, 0, 0, 0, 0, 0, 0, []⟩,
   -- CAN_RXOBJ DATA5
   ⟨0xe1024, 128, 128, 0, 0, 0, 0, 0, 0, []⟩,
   -- CAN_RXOBJ DATA6
   ⟨0xe1028, 128, 128, 0, 0, 0, 0, 0, 0, []⟩,
   -- CAN_RXOBJ DATA7
   ⟨0xe102c, 128, 128, 0, 0, 0, 0, 0, 0, []⟩,
   -- CAN_RXOBJ DATA8
   ⟨0xe1030, 128, 128, 0, 0, 0, 0, 0, 0, []⟩,
   -- CAN_RXOBJ DATA9
   ⟨0xe1034, 128, 128, 0, 0, 0, 0, 0, 0, []⟩,
   -- CAN_RXOBJ DATA10
   ⟨0xe1038, 128, 128, 0, 0, 0, 0, 0, 0, []⟩,
   -- CAN_RXOBJ DATA11
   ⟨0xe103c, 128, 128, 0, 0, 0, 0, 0, 0, []⟩,
   -- CAN_RXOBJ DATA12
   ⟨0xe1040, 128, 128, 0, 0, 0, 0, 0, 0, []⟩,
   -- CAN_RXOBJ DATA13
   ⟨0xe1044, 128, 128, 0, 0, 0, 0, 0, 0, []⟩,
   -- CAN_RXOBJ DATA14
   ⟨0xe1048, 128, 128, 0, 0, 0, 0, 0, 0, []⟩,
   -- CAN_RXOBJ DATA15
   ⟨0xe104c, 128, 128, 0, 0, 0, 0, 0, 0, []⟩]

/-- Registers of the block at 0xf0000 (Table 0.4). -/
def regsIic : List RegDef :=
  [
   -- IIC_CFG
   ⟨0xf0000, 4, 1, 0x119313a, 0x1ff737f, 0, 0, 0, 0, [⟨0, 7, 8, 119⟩, ⟨8, 2, 0, 2⟩, ⟨16, 8, 1, 255⟩]⟩,
   -- IIC_FILT
   ⟨0xf0004, 4, 1, 2, 0x1f, 0, 0, 0, 0, []⟩,
   -- IIC_ATTN
   ⟨0xf0008, 4, 1, 0xf0a0000, 0xfffffff, 0, 0, 0, 0, [⟨0, 7, 8, 119⟩, ⟨16, 8, 1, 255⟩]⟩,
   -- IIC_STAT
   ⟨0xf000c, 4, 1, 0, 0, 0xf00, 0, 0, 0, []⟩,
   -- IIC_ERR
   ⟨0xf0010, 4, 1, 0, 0, 0, 0x80ffffff, 0, 0, []⟩,
   -- IIC_ARB
   ⟨0xf0014, 4, 1, 0, 0, 0, 0, 0, 0, []⟩,
   -- IIC_MBX
   ⟨0xf0080, 4, 32, 0, 0xffffffff, 0, 0, 0, 0xffffffff, []⟩]

/-- Registers of the block at 0x100000 (Table 0.4). -/
def regsTil : List RegDef :=
  [
   -- TIL_RETIRED
   ⟨0x100000, 4, 1, 0x4000000, 0, 0, 0, 0, 0, []⟩,
   -- TIL_STAT
   ⟨0x100004, 4, 1, 0, 0, 0x30000, 0x8ff, 0, 0, []⟩,
   -- TIL_LAST
   ⟨0x100008, 4, 1, 0x70000, 0, 0, 0, 0, 0, []⟩,
   -- TIL_SCRUBCFG
   ⟨0x10000c, 4, 1, 0x18, 0xff, 0, 0, 0, 0, []⟩,
   -- TIL_FLASH
   ⟨0x100010, 4, 1, 0x16e, 0, 0, 0, 0, 0, []⟩,
   -- TIL_QSTAT
   ⟨0x100100, 4, 48, 0, 0, 0x2000000, 0x1ff0000, 0, 0, []⟩]

/-- Registers of the block at 0x110000 (Table 0.4). -/
def regsRec : List RegDef :=
  [
   -- REC_STATE
   ⟨0x110000, 4, 1, 0, 0, 0x30000, 0, 0, 0, []⟩,
   -- REC_EXPIRE
   ⟨0x110004, 4, 1, 0, 0, 0, 0, 0, 0, []⟩,
   -- REC_LAST
   ⟨0x110008, 4, 1, 0xffffffff, 0, 0, 0, 0, 0, []⟩,
   -- REC_COUNT
   ⟨0x11000c, 4, 1, 0, 0, 0, 0, 0, 0, []⟩,
   -- REC_OPSEC
   ⟨0x110010, 4, 1, 0, 0, 0, 0, 0, 0, []⟩,
   -- REC_PWRCYC
   ⟨0x110014, 4, 1, 0, 0, 0, 0, 0, 0, []⟩]

/-- Registers of the block at 0x120000 (Table 0.4). -/
def regsUpd : List RegDef :=
  [
   -- UPD_STATE
   ⟨0x120000, 4, 1, 0, 0, 0xf000000, 0, 0, 0, []⟩,
   -- UPD_RECV
   ⟨0x120004, 4, 1, 0, 0, 0, 0, 0, 0, []⟩,
   -- UPD_SLOT
   ⟨0x120008, 4, 2, 0, 0, 0, 0, 0, 0, []⟩,
   -- UPD_TRIAL
   ⟨0x120010, 4, 1, 0, 0, 0, 0, 0, 0, []⟩]

/-- The block list, in the order of Table 0.4. -/
def regBlocks : List (List RegDef) :=
  [regsGlb, regsRst, regsEvr, regsRing, regsAcq, regsCvi, regsEst, regsCtl, regsPrt, regsThm, regsSaf, regsLan, regsBay, regsTim, regsCan, regsIic, regsTil, regsRec, regsUpd]

/-- Whether a definition maps an address. -/
def RegDef.maps (d : RegDef) (a : Nat) : Bool :=
  decide (d.base ≤ a) && ((a - d.base) % d.stride == 0) && decide ((a - d.base) / d.stride < d.count)

/-- The definition that maps an address; none where the address is unmapped (R421). -/
def regDef? (a : Nat) : Option RegDef :=
  match regBlocks[a / 65536]? with
  | none => none
  | some l => l.find? (fun d => d.maps a)

/-- The reset word of an address; 0 where nothing is mapped. (DESIGN CHOICE: log entry 7) -/
def resetWord (a : Nat) : Word :=
  match regDef? a with
  | none => 0
  | some d => BitVec.ofNat 32 d.rst

/-- Whether every ranged RW field of a word holds a permitted value. -/
def RegDef.inRange (d : RegDef) (v : Nat) : Bool :=
  d.rng.all (fun r => let x := (v >>> r.lo) % 2 ^ r.w; decide (r.mn ≤ x) && decide (x ≤ r.mx))

end Sys2Proof.Machine
end

