-- ==== Sys2Proof/Machine/State.lean ====
section
/-! DEFINITION. The state of the module as plain data, with the state right after a power-on reset. -/

namespace Sys2Proof.Machine

/-- No command of the module ends in a fault: an occurrence the manual describes is an effect. -/
inductive Fault where
  /-- Raised by nothing; safe. -/
  | none
  deriving DecidableEq, Repr

/-- Why a command has no meaning in the model. -/
inductive Refusal where
  /-- The command's arm carries no meaning yet. Raised by the dispatch only; safe. -/
  | notModelled (mnemonic : String)
  deriving DecidableEq, Repr

/-! ## Packets, sessions and jobs -/

/-- A packet the module sends: header of Table 13.2, payload, and the key of its tag (empty: untagged, R276). -/
structure Pkt where
  flags : Nat
  session : Nat
  cls : Nat
  seq : Nat
  opcode : Nat
  target : Nat
  status : Nat
  jobid : Nat
  payload : List Byte
  key : List Byte
  deriving DecidableEq, Repr

/-- Something that leaves the module. -/
inductive OutMsg where
  /-- a Tchiris packet on a transport, to a source address -/
  | packet (via : Via) (dst : Nat) (p : Pkt)
  /-- a packet forwarded unchanged on a line port (R258) -/
  | forward (port : Nat) (raw : List Byte)
  /-- the value and status of a register access made by an access command -/
  | access (addr : Nat) (status : Nat) (reason : Nat) (value : Nat)
  /-- a symbol or frame leaving a ring port (west or east): the instant its mark has left, in 0.25 ns of the ring's clock, and the
  bauds at the port (R44, R45) -/
  | ring (west : Bool) (at4 : Nat) (bauds : List Bool)
  /-- a CAN frame completed on the bus -/
  | can (f : CanFrame)
  /-- an Ethernet frame with a bay frame out of a line port (R259): destination address, VLAN priority, EtherType, and the bay frame -/
  | bayEth (port : Nat) (dst : Nat) (prio : Nat) (etherType : Nat) (bytes : List Byte)
  /-- an Ethernet frame or message out of a port, by EtherType or kind -/
  | eth (port : Nat) (kind : Nat) (bytes : List Byte)
  /-- bytes sent as I2C target or controller -/
  | iic (bytes : List Byte)
  /-- bytes clocked out on SPI -/
  | spi (bytes : List Byte)
  deriving DecidableEq, Repr

/-- Who is to be answered: the header fields a reply copies (R286). -/
structure ReqId where
  via : Via
  src : Nat
  session : Nat
  cls : Nat
  seq : Nat
  op : Nat
  /-- reply tagged under the session key -/
  tagged : Bool
  /-- the request was bay-wide (R284): no reply cache -/
  bcast : Bool
  /-- the request came in a provisioning context (R279) -/
  prov : Bool
  deriving DecidableEq, Repr

/-- A request in a session's command queue (R287), with its place in the order of acceptance. -/
structure QReq where
  ord : Nat
  op : Nat
  bcast : Bool
  prov : Bool
  req : Req
  deriving DecidableEq, Repr

/-- An event packet held in a session's event queue (R289, R290). -/
structure EvPkt where
  seq : Nat
  pkt : Pkt
  sends : Nat
  sentAt : Nat
  deriving DecidableEq, Repr

/-- A reply packet in a session's reply queue, with the transport and the source of its request (R273, R288). -/
structure RepPkt where
  via : Via
  src : Nat
  pkt : Pkt
  deriving DecidableEq, Repr

/-- The state of a session (R280). -/
inductive SessSt where
  | free | pending | opened
  deriving DecidableEq, Repr

/-- One of the eight sessions (R278 to R290). -/
structure Session where
  st : SessSt := .free
  slot : Nat := 0
  /-- session key K_s -/
  key : List Byte := []
  /-- HELLO instant while pending; instant of the last accepted request while open -/
  since : Nat := 0
  via : Via := .spi
  src : Nat := 0
  /-- L of R283 -/
  l : Nat := 0
  /-- L of bay-wide requests (R284) -/
  bl : Option Nat := none
  /-- replies to the last four accepted requests, newest first; no packet yet while the request waits (R283) -/
  cache : List (Nat × List Pkt) := []
  cmdq : List QReq := []
  replyq : List RepPkt := []
  eventq : List EvPkt := []
  evseq : Nat := 0
  mask : Nat := 0
  reliable : Bool := false
  /-- events discarded since the last one delivered (LOST of Table 13.8) -/
  lost : Nat := 0
  deriving DecidableEq, Repr

/-- One of the eight provisioning contexts (R279). -/
structure ProvCtx where
  used : Bool := false
  since : Nat := 0
  l : Nat := 0
  cache : List (Nat × List Pkt) := []
  deriving DecidableEq, Repr

/-- Why a reply is still owed (R179, R305, R306, R137, R138, RELAY). -/
inductive WaitFor where
  | balance | swap | wake | capture | restore | relay
  deriving DecidableEq, Repr

/-- A request whose reply follows a later event. `since` is the instant it was executed; for a capture, the strobe before it. -/
structure Waiting where
  why : WaitFor
  id : ReqId
  req : Req
  since : Nat
  /-- parts of a relayed reply received so far (R258) -/
  got : List Byte := []
  deriving DecidableEq, Repr

/-- The host side of the module (R273 to R295). -/
structure HostSt where
  sess : List Session := List.replicate 8 {}
  prov : List ProvCtx := List.replicate 8 {}
  owner : Option Nat := none
  fails : List (Nat × List Nat) := []
  lockout : List (Nat × Nat) := []
  answered : List (Nat × Nat) := []
  /-- the output stream of the SPI port, oldest first -/
  spiOut : List Pkt := []
  /-- the session after which the turn of class C heads starts -/
  turn : Nat := 0
  ord : Nat := 0
  /-- draws of the random source so far -/
  nonces : Nat := 0
  waiting : List Waiting := []
  /-- sessions to close, each with the request whose reply is sent first (R282) -/
  closing : List (Nat × ReqId) := []
  /-- trace: sources traced, entries of Q47 oldest first -/
  traceMask : Option Nat := some 0xFFFFFFFF
  trace : List (List Byte) := []
  deriving DecidableEq, Repr

/-- The state of a job (R292). -/
inductive JobSt where
  | running | done | failed | cancelled
  deriving DecidableEq, Repr

/-- A job of the table (R291). -/
structure Job where
  id : Nat
  /-- the opcode that started it -/
  op : Nat
  session : Nat
  st : JobSt := .running
  kind : Nat := 1
  final : Nat := 0
  value : Nat := 0
  total : Nat := 0
  endedAt : Nat := 0
  startedAt : Nat := 0
  deriving DecidableEq, Repr

/-- A record being assembled from pieces (R303). -/
structure Assembly where
  session : Nat
  total : Nat
  data : List Byte
  since : Nat
  deriving DecidableEq, Repr

/-- The staged set and the assemblies (R301 to R303). -/
structure CfgSt where
  staged : List (Nat × Word) := []
  keys : List (Nat × List Byte) := []
  /-- staged tables, keyed 256 × PROFILE + TYPE, whole records -/
  tables : List (Nat × List Byte) := []
  /-- staged coefficient records, keyed by CLASS -/
  coefs : List (Nat × List Byte) := []
  bayMap : Option (List Nat) := none
  asmT : Option Assembly := none
  asmC : Option Assembly := none
  deriving DecidableEq, Repr

/-- An image slot of the flash: state code of Table 20.9, version, the image's bytes, generation of its slot record, whether it passes
R397, and whether its trial has expired (R403). -/
structure ImgSlot where
  st : Nat := 0
  version : Nat := 0
  image : List Byte := []
  gen : Nat := 0
  /-- the image the module is shipped with (log entry 9) -/
  shipped : Bool := false
  expired : Bool := false
  /-- operating time of the confirmation of a trial's first start (R403) -/
  confOp : Option Nat := none
  deriving DecidableEq, Repr

/-- The open interval of the recorder (R388, R389). -/
structure RecInt where
  opsec : Nat := 0
  dur : Nat := 0
  park : Nat := 0
  cyc : Nat := 0
  cycEnd : Nat := 0
  flags : Nat := 0
  merged : Nat := 1
  kind : Nat := 1
  ihist : List Nat := List.replicate 32 0
  soc : List Nat := List.replicate 20 0
  thist : List Nat := List.replicate 24 0
  qdis : Nat := 0
  qchg : Nat := 0
  riso : Nat := 0xFFFFFFFF
  /-- per position VMAX, VMIN, TMAX, TMIN -/
  segs : List (Nat × (Nat × Nat × Int × Int)) := []
  /-- balancing milliseconds per position -/
  bal : List (Nat × Nat) := []
  deriving DecidableEq, Repr

/-- A record in flash: its number, whether MARK is programmed, and its content (R389, R392). -/
structure RecEnt where
  no : Nat
  marked : Bool
  r : RecInt
  deriving DecidableEq, Repr

/-- The module's flash by content (Table 1.4) with the lifetime figures. (PRESUMED: log entry 6) -/
structure Flash where
  /-- committed register items, keyed by address -/
  items : List (Nat × Word) := []
  /-- keys of the four slots -/
  keys : List (Nat × List Byte) := []
  tables : List (Nat × List Byte) := []
  coefs : List (Nat × List Byte) := []
  bayMap : List Nat := []
  /-- the calibration set as stored, 96 bytes; as shipped erased, so that it fails the check of R113. PRESUMED: log entry 6 -/
  cal : List Byte := List.replicate 96 0xFF
  /-- the option bytes as stored -/
  opt : List Byte := List.replicate 256 0xFF
  slots : List ImgSlot := []
  /-- host sources to raise at the next start that runs firmware (R404) -/
  owed : List Nat := []
  /-- the wear table: erase count of each block erased so far, by its number; and the spare block that serves for a retired one (R384) -/
  wear : List (Nat × Nat) := []
  remap : List (Nat × Nat) := []
  /-- blocks erased so far in the hourly and the daily area of the recorder -/
  recErased : Nat × Nat := (0, 0)
  /-- lifetime shunt handovers (R102) -/
  swaps : Nat := 0
  /-- lifetime ACTIVE hours of each lane -/
  hours : List Nat := List.replicate 5 0
  /-- LAN_STATE code of each lane as stored (R238), and the tiles retired in each lane's local memory -/
  lanes : List Nat := []
  laneTiles : List Nat := List.replicate 5 0
  /-- result code and operating time of the last self-test of each lane -/
  bist : List (Nat × Option Nat) := List.replicate 5 (0, none)
  /-- fence instants of each lane in operating hours -/
  fences : List (List Nat) := List.replicate 5 []
  /-- stored lane assignment: lane of each token 0 … 3 and of each quarter 0 … 3, 7 for none (R238) -/
  assign : List Nat := []
  quarters : List Nat := []
  /-- writes to the configuration region, each of which may erase a block (R384) -/
  cfgWrites : Nat := 0
  /-- operating time of the last rotation -/
  rotOp : Nat := 0
  /-- retired tiles (region, index) and main spares withdrawn -/
  tiles : List (Nat × Nat) := []
  badSpares : Nat := 0
  /-- spares of each lane's local memory withdrawn -/
  laneBad : List Nat := List.replicate 5 0
  /-- flash blocks retired -/
  retBlocks : Nat := 0
  /-- recorder: hourly and daily records as written, oldest first, and the next record number -/
  hourly : List RecEnt := []
  daily : List RecEnt := []
  recNext : Nat := 0
  opsec : Nat := 0
  pwrcyc : Nat := 0
  deriving DecidableEq, Repr

/-! ## The event router -/

/-- The router (R346 to R357). `pend` holds pending EDGE sources, `act` the claims (source, target) innermost first. -/
structure EvrSt where
  pend : List Nat := []
  act : List (Nat × Nat) := []
  cnt : List (Nat × Nat) := []
  ovf : List Nat := []
  /-- sources waiting at a sleeping target, with the instant the wait began -/
  waits : List (Nat × Nat) := []
  /-- sources moved to their fallback (R355) -/
  moved : List Nat := []
  /-- what each host line presented after the last command -/
  shown : List (Option Nat) := [none, none, none, none]
  /-- lines whose presented source was withdrawn and not claimed since -/
  withdrawn : List Nat := []
  /-- time and DETAIL of each source's newest arrival -/
  last : List (Nat × (Nat × List Byte)) := []
  deriving DecidableEq, Repr

/-! ## The ring, acquisition and balancing -/

/-- A queued ring command or burst upload frame: queue (0 … 3 for Q24 … Q27), position served (0: broadcast), the frame's
bytes as sent, tries so far, and what it is for. -/
structure RingCmd where
  queue : Nat
  pos : Nat
  west : Bool
  cmd : Nat
  payload : List Byte
  rlen : Nat
  tries : Nat
  /-- request answered by the reply: 0 none, 1 host balancing plan, 2 policy, 3 open-wire, 4 burst -/
  use : Nat
  /-- a BALANCE answered busy is sent again (Table 3.7) -/
  again : Bool := true
  /-- the queue was full: its producer tries again at the next scan (Table 19.2) -/
  held : Bool := false
  deriving DecidableEq, Repr

/-- The last accepted record of a position and its staleness (R55, R67). -/
structure TileRec where
  bytes : List Byte
  /-- consecutive scans stale -/
  scans : Nat
  /-- accepted at least once since the last ring start-up -/
  ever : Bool
  /-- accepted in the present scan -/
  fresh : Bool
  deriving DecidableEq, Repr

/-- The ring master (R43 to R68). -/
structure RingSt where
  sseq : Nat := 0
  hseq : Nat := 0
  cseq : Nat := 0
  missed : Nat := 0
  /-- heartbeats of an intact ring that have not returned: HSEQ and instant, oldest first; instant of the last one emitted -/
  hbOut : List (Nat × Nat) := []
  hbLast : Option Nat := none
  /-- the scan of the last strobe has ended (R39) -/
  ended : Bool := true
  /-- the scan instant whose strobe has left, and the strobe whose collect frame has left -/
  sentS : Option Nat := none
  colS : Option Nat := none
  /-- a strobe has left whose instant has not come; the strobe of the last scan instant left; its collect frame left in split operation -/
  ahead : Bool := false
  live : Bool := false
  colSplit : Bool := false
  /-- the last scan instant taken: milliseconds of the grid, in PARK seconds of the AO count (R35) -/
  scanNo : Option Nat := none
  /-- split operation (R66) -/
  split : Bool := false
  thopGood : Option Nat := none
  losE : Bool := true
  losW : Bool := true
  probeE : Option Nat := none
  probeW : Option Nat := none
  probing : Bool := false
  tiles : List (Nat × TileRec) := []
  graceAt : Option Nat := none
  cmds : List RingCmd := []
  inflight : Option RingCmd := none
  /-- Q28 … Q31: replies not taken yet, oldest first; none where a command went unanswered -/
  replies : List (RingCmd × Option (List Byte)) := []
  /-- the timing calibration at 4 Mbit/s is due (R57) -/
  calDue : Bool := false
  startDue : Bool := false
  /-- the start-up under way follows a reset or a wake (R93) -/
  startReset : Bool := false
  /-- the broadcasts of step 5 of start-up are not over (Table 2.9) -/
  step5 : Bool := false
  excluded : List Nat := []
  /-- instant of the last strobe S and of the first strobe allowed -/
  lastS : Nat := 0
  firstS : Nat := 0
  /-- results of the host's balancing plan, by position -/
  results : List (Nat × Nat) := []
  deriving DecidableEq, Repr

/-- Acquisition and balancing (R70 to R95). -/
structure AcqSt where
  /-- persistence of the segment check by position: mismatching and agreeing evaluations in a row -/
  seg : List (Nat × (Nat × Nat)) := []
  str : Nat × Nat := (0, 0)
  strDiff : Int := 0
  /-- open-wire run: 0 after start-up, 1 periodic, 2 by START -/
  owKind : Nat := 0
  owNodes : List Nat := []
  owBase : List (Nat × List Byte) := []
  owScans : Nat := 0
  /-- per position, records of the test seen, and the groups that moved alone in the last repetition -/
  owIdx : List (Nat × Nat) := []
  owDev : List (Nat × Nat) := []
  /-- START writes that wait for the end of the run in progress, oldest first (R93) -/
  owHeld : List Nat := []
  owAt : Nat := 0
  planAt : Nat := 0
  /-- positions whose BALANCE is sent again after the open-wire test (Table 3.7) -/
  resend : List RingCmd := []
  deriving DecidableEq, Repr

/-! ## Current, voltage and insulation -/

/-- One 200 kS/s sample: effective instant in quartz ns, the codes of both shunt converters as currents in 2^−24 mA,
the selected current, and the three voltages in 2^−24 mV, with marks for clipping; whether the shunt and the high-voltage streams ran. -/
structure Samp where
  eff : Nat
  ia : Int
  ib : Int
  i : Int
  vs : Int
  vb : Int
  vi : Int
  clip : Bool
  /-- the string channel was in overrange (R107) -/
  so : Bool := false
  sh : Bool := true
  hv : Bool := true
  /-- taken during AZINIT (R101) -/
  az : Bool := false
  deriving DecidableEq, Repr

/-- Sums of one insulation half-period: tap and string voltage over the last and the last but one 250 ms. -/
structure InsSums where
  n1 : Nat := 0
  v1 : Int := 0
  u1 : Int := 0
  n2 : Nat := 0
  v2 : Int := 0
  u2 : Int := 0
  ovr : Bool := false
  moved : Bool := false
  deriving DecidableEq, Repr

/-- The current, voltage and insulation block (R96 to R114). -/
structure CviSt where
  /-- newest 520 samples, newest first -/
  hist : List Samp := []
  /-- charge in 2^−40 µC -/
  acc : Int := 0
  /-- Q(S) of the last strobe whose snapshot stands and of the one before, in µC; that strobe in quartz ns -/
  qS : Int := 0
  qAt : Nat := 0
  /-- charge of the last scan whose snapshot stands, in µC -/
  dqS : Int := 0
  qPrev : Int := 0
  /-- windowed current at the last strobe in 2^−24 mA, before rounding (R149) -/
  iS : Int := 0
  /-- a sample in the window of the last strobe had the string channel in overrange (R107) -/
  ovS : Bool := false
  /-- the strobe whose windowed values are not yet ready, and whether it fell within AZINIT (R101) -/
  winS : Option Nat := none
  winAz : Bool := false
  /-- the strobe whose charge snapshot is still to be tagged (R37) -/
  tagS : Option Nat := none
  /-- shadow of CVI_Q1 (R11) -/
  q1Shadow : Nat := 0
  ofsA : Int := 0
  ofsB : Int := 0
  tazA : Int := 0
  tazB : Int := 0
  /-- offset average under way: sums of codes and counts of A and B -/
  azA : Int × Nat := (0, 0)
  azB : Int × Nat := (0, 0)
  azStart : Nat := 0
  /-- the converter whose input is shorted: 0 none, 1 A, 2 B -/
  shorted : Nat := 0
  /-- last handover instant -/
  handAt : Nat := 0
  /-- half-period: start instant; both legs stay open; its end has given its result -/
  insAt : Nat := 0
  insOpen : Bool := true
  insDone : Bool := false
  ins : InsSums := {}
  insP : Option (Int × Int) := none
  insN : Option (Int × Int) := none
  nWarn : Nat := 0
  nTrip : Nat := 0
  nLeaveT : Nat := 0
  nLeaveW : Nat := 0
  /-- barrier crossings silent now, with the instant the loss began; and restored ones, with the instant -/
  lost : List (Crossing × Nat) := []
  back : List (Crossing × Nat) := []
  /-- CAL_MEASURE: converter, start, duration, sum, sum of squares, count, job -/
  cmConv : Nat := 0
  cmSince : Nat := 0
  cmTime : Nat := 0
  cmSum : Int := 0
  cmSq : Int := 0
  cmN : Nat := 0
  cmJob : Option Nat := none
  deriving DecidableEq, Repr

/-! ## Estimator, capacity learning and impedance -/

/-- A learning point (R140): SOC and UNC the anchor would set (binary32), charge in µC, operating time in s. -/
structure LPoint where
  s : BitVec 32
  u : BitVec 32
  q : Int
  t : Nat
  deriving DecidableEq, Repr

/-- The record of one cell group (Table 5.9) with the learning state of R140 to R143. -/
structure Cell where
  init : Bool := false
  qrem : Int := 0
  cap : Nat := 0
  vfast : BitVec 32 := 0
  vslow : BitVec 32 := 0
  hyst : BitVec 32 := 0
  unc : BitVec 32 := 0
  /-- 0 QUALIFIED, 1 UNQUALIFIED, 2 UNANCHORED -/
  qual : Nat := 1
  confE : Bool := false
  confF : Bool := false
  tclamp : Bool := false
  rgrow : Nat := 4096
  /-- EXCESS in µC -/
  excess : Int := 0
  ankind : Nat := 0
  ansoc : Nat := 0
  antime : Nat := 0
  thru : Nat := 0
  eoct : Nat := 0
  /-- in this run of the timers: the rest condition has been met and its point taken; the rest and the quasi-rest anchor applied (R127) -/
  restPt : Bool := false
  restDone : Bool := false
  quasiDone : Bool := false
  lp : Option LPoint := none
  learned : Bool := false
  /-- candidates of each sign since the last accepted result -/
  candP : Nat := 0
  candM : Nat := 0
  /-- charge since the last anchor in µC, of which THRU is the whole C -/
  thruUc : Nat := 0
  deriving DecidableEq, Repr

/-- A snapshot under assembly for EST_RESTORE (R138). -/
structure RestoreSt where
  bytes : List (Nat × List Byte)
  since : Nat
  deriving DecidableEq, Repr

/-- A checkpoint of a quarter (R135): RUNID, SSEQ and the strobe's instant in quartz ns, Q(S), and the records. -/
structure Ckpt where
  runId : Nat
  sseq : Nat
  at_ : Nat
  q : Int
  cells : List Cell
  deriving DecidableEq, Repr

/-- The estimator (R115 to R139). -/
structure EstSt where
  /-- cell groups 1 … 640 in order -/
  cells : List Cell := List.replicate 640 {}
  /-- filtered current IF, binary32 in A -/
  iF : BitVec 32 := 0
  restMs : Nat := 0
  qrMs : Nat := 0
  /-- strobe for which the string-wide part has been done -/
  stringS : Option Nat := none
  futGroup : Nat := 0
  futSoc : Nat := 0
  /-- rest window: end instant, start, current stayed below the rest threshold -/
  restEnd : Option Nat := none
  restClean : Bool := true
  runId : Nat := 0
  draws : Nat := 0
  /-- groups to reinitialise at the next strobe (EST_RESET_CELL) -/
  resetReq : List (Nat × Nat) := []
  /-- per quarter, the two checkpoint buffers, newest first -/
  ckpt : List (List Ckpt) := [[], [], [], []]
  /-- quarters updated in this scan -/
  done : List Nat := []
  lastUpd : List Nat := [0, 0, 0, 0]
  /-- frozen copy of the snapshot and the instant of its last read -/
  copy : Option (List Byte) := none
  copyAt : Nat := 0
  restore : Option RestoreSt := none
  /-- an accepted restore: the snapshot, ELAPSED as sent, FORCE needed, instant of the check; its strobe S_a has come (R138) -/
  apply : Option (List Byte × Nat × Bool × Nat) := none
  applyDue : Bool := false
  /-- the tables and the selected profile in force (R119) -/
  tabs : List (Nat × List Byte) := []
  prof : Nat := 0
  deriving DecidableEq, Repr

/-- Capacity learning (R140 to R147). -/
structure LrnSt where
  /-- operating time of the latest scan at which each reason code held -/
  codeAt : List (Nat × Nat) := []
  started : Bool := false
  job : Option Nat := none
  rate : Nat := 0
  chgRate : Nat := 0
  target : Nat := 0
  phaseAt : Nat := 0
  /-- charge at the phase's start, µC, and the charge the phase is measured against, C in 0.01 C -/
  phaseQ : Int := 0
  phaseRef : Nat := 0
  /-- learning set-point in mA -/
  setp : Int := 0
  dueRaised : Bool := false
  deriving DecidableEq, Repr

/-- A point of a sweep as requested: frequency in mHz, cycles. -/
structure ImpPt where
  freq : Nat
  cycles : Nat
  deriving DecidableEq, Repr

/-- Online impedance (R148 to R159). -/
structure ImpSt where
  pts : List ImpPt := []
  ampl : Nat := 0
  job : Option Nat := none
  k : Nat := 0
  /-- amplitude of the point in mA and whether the sinusoid runs, and since which instant -/
  apt : Int := 0
  on : Bool := false
  onAt : Nat := 0
  phaseAt : Nat := 0
  clipped : Bool := false
  clips : Nat := 0
  restarts : Nat := 0
  /-- samples of the current (2^−24 mA) and, per group, of the voltage (10 µV), newest first -/
  iSer : List Int := []
  vSer : List (Nat × List Nat) := []
  stale : List Nat := []
  stopping : Bool := false
  /-- BURST_ARM of this point is under way; the point is ready to be fitted -/
  armed : Bool := false
  ready : Bool := false
  autoAt : Nat := 0
  retryAt : Nat := 0
  /-- the next point starts at a strobe after this one (R150) -/
  after : Nat := 0
  /-- the instant of each group's inferred temperature (R158) -/
  tintAt : List (Nat × Nat) := []
  deriving DecidableEq, Repr

/-! ## Converter control and protection -/

/-- A coefficient matrix: rows of mantissas with one exponent (R168). -/
structure Mat where
  rows : List (List Int)
  e : Int
  deriving DecidableEq, Repr

/-- A structure record in use (Table 7.7). -/
structure CtlStruct where
  n : Nat
  p : Nat
  m : Nat
  nr : Nat
  a : Mat
  b : Mat
  c : Mat
  ysrc : List Nat
  sh : List Int
  pmap : List Nat
  elim : List Int
  uoff : List Int
  deriving DecidableEq, Repr

/-- A gain bank (Table 7.7). -/
structure Gain where
  n : Nat
  p : Nat
  m : Nat
  nr : Nat
  k : Mat
  l : Mat
  nm : Mat
  deriving DecidableEq, Repr

/-- The carrier of a phase (R161, R162): the instant of its last turn in ns and whether it counts up since; its high-side command and
the instant of the command's last change, followed up to `base`, both in steps of 125 ps. -/
structure Carrier where
  turn : Nat := 0
  rise : Bool := true
  hi : Bool := false
  edge : Nat := 0
  base : Nat := 0
  deriving DecidableEq, Repr

/-- The control engine (R160 to R183). -/
structure CtlSt where
  struct : Option CtlStruct := none
  bank0 : Option Gain := none
  bank1 : Option Gain := none
  x : List Int := []
  xe : Int := 0
  u : List Int := []
  /-- slewed set-point I_s in mA -/
  islew : Int := 0
  /-- NET value and the instant it came -/
  net : Option (Int × Nat) := none
  /-- stored SETPOINT_SOURCE, SETPOINT while a learning job runs (Table 6.4) -/
  later : List (Nat × List Byte) := []
  /-- SETPOINT and SETPOINT_SOURCE that wait for the next control sample instant (R304), oldest first -/
  spNext : List (Nat × List Byte) := []
  spHist : List Int := []
  anaAt : Option Nat := none
  anaOkAt : Option Nat := none
  pulseAt : Option Nat := none
  pulseOkAt : Option Nat := none
  /-- the frequency last determined lay outside its range, and the target it gave -/
  pulseBad : Bool := false
  pulseT : Int := 0
  warm : Nat := 0
  /-- the number of the first control sample instant of the loop (t_0 of Table 7.5) -/
  startNo : Nat := 0
  /-- both gates of every phase are held low by the loop -/
  gatesLow : Bool := true
  /-- the instant from which the gates may switch after warm-up -/
  freeAt : Nat := 0
  lowAt : Nat := 0
  convEn : Bool := false
  /-- a host stop takes effect at the next control sample -/
  stopReq : Bool := false
  /-- the compare values selected last, the instant from which they are in force, and those in force before -/
  cmp : List Nat := [0, 0, 0, 0]
  cmpAt : Nat := 0
  /-- the last control sample instant taken, by its number on the grid (R35) -/
  sampNo : Option Nat := none
  cmpOld : List Nat := [0, 0, 0, 0]
  carriers : List Carrier := List.replicate 4 {}
  duty : List Int := []
  env : Option (Int × Int × Nat × Nat) := none
  /-- band of the envelope as fractions of 2^30 -/
  band : Int × Int := (0, 0)
  oob : List Nat := [0, 0, 0, 0]
  swapAt : Option Nat := none
  /-- bus and string voltage of the last broadcast in mV -/
  vstr : Int := 0
  vbus : Int := 0
  /-- string current of the last control sample in mA -/
  iNow : Int := 0
  /-- sums of the 64 overlap samples of the phase-current sum, newest first -/
  iphHist : List Int := []
  deriving DecidableEq, Repr

/-- The kind of a contactor sequence. -/
inductive SeqKind where
  | close | open_
  deriving DecidableEq, Repr

/-- A running contactor sequence (R196, R197). -/
structure Seq where
  kind : SeqKind
  step : Nat
  /-- the step began at -/
  at_ : Nat
  /-- KFB of the step's contactor changed at -/
  fbAt : Option Nat := none
  /-- the current condition of the step holds since -/
  lowAt : Option Nat := none
  /-- KN coil-on watch and KFB_N closing instant -/
  knAt : Nat := 0
  /-- coil-off instants of KP, KN, KPC in an open sequence, and those at which their feedbacks opened since -/
  offAt : List (Option Nat) := [none, none, none]
  openAt : List (Option Nat) := [none, none, none]
  /-- a coil-off by flint or a cancel ended the sequence: feedbacks are checked, the outcome is a failure -/
  forced : Bool := false
  job : Option Nat := none
  deriving DecidableEq, Repr

/-- Flint, the cell block and the contactors (R184 to R200). -/
structure PrtSt where
  ocDis : Bool := false
  ocChg : Bool := false
  ocDisAt : Option Nat := none
  ocChgAt : Option Nat := none
  desat : List Bool := [false, false, false, false]
  /-- positions with a value outside the hard limits at the last check -/
  hardPos : List Nat := []
  cleanChg : Nat := 0
  cleanDis : Nat := 0
  /-- in this scan a checked value lay outside the limit less its margin, or beyond the limit -/
  dirtyChg : Bool := false
  dirtyDis : Bool := false
  seq : Option Seq := none
  /-- coil-on instants of KP, KN, KPC; outputs past PULL; outputs that switched themselves off -/
  coilAt : List Nat := [0, 0, 0]
  hold : List Bool := [false, false, false]
  /-- entry 4 or 5 has held the limits at 0 since -/
  zeroAt : Option Nat := none
  /-- VCOIL is at 8.5 V or more -/
  vcoil : Bool := true
  /-- instant of the cause in FIRST of PRT_TRIP -/
  firstAt : Nat := 0
  deriving DecidableEq, Repr

/-! ## Reset and power -/

/-- The state of the module (Table 18.8), with the times before a start is confirmed. -/
inductive Mode where
  | off | reset | starting | run | park | halt | recovery
  deriving DecidableEq, Repr

/-- Reset, power and wake (R358 to R376). -/
structure RstSt where
  mode : Mode := .reset
  /-- asserted sources of full or system reach with the instant each may release -/
  asserted : List (Nat × Nat) := []
  /-- sources whose condition still holds: 0 the core rail out of band, 1 RESET_N low -/
  holding : List Nat := []
  /-- instant of the latest assertion, and the sources that were due with it: 2 watchdog, 3 start timeout, 4 gander's system request, 5 its
  supervisor reset, 12 the loss of SYS -/
  assertAt : Nat := 0
  coin : List Nat := []
  /-- the router's retention copy when a reset of system reach ended PARK: its state and its registers (R356, Table 18.2) -/
  evrCopy : Option (EvrSt × List (Nat × Word)) := none
  /-- start timer: instant of the boot counter's increment -/
  bootAt : Option Nat := none
  /-- instant of the last service of RST_WDOG -/
  wdogAt : Nat := 0
  /-- a firmware image runs or is being started -/
  image : Bool := false
  /-- domains clock-good and enabled, besides those that follow from other state -/
  good : Nat := 3
  /-- domains found clock-good since they were last enabled; GLB_CLKSTAT shows AO and SAFE good from reset on -/
  been : Nat := 0
  /-- instant the reset was released -/
  relAt : Nat := 0
  /-- instant at which the boot ROM of this start wrote the option bytes -/
  optAt : Option Nat := none
  /-- domains whose blocks a debug probe has released without clock-good (R364) -/
  forced : Nat := 0
  /-- open listen windows: port (1, 2 Ethernet, 3 SPI), instant its length counts from, instant it opened -/
  listen : List (Nat × Nat × Nat) := []
  parkAt : Nat := 0
  /-- RESET opcodes accepted: reach, unit, instant at which the reset asserts, oldest first -/
  due : List (Nat × Nat × Nat) := []
  /-- an accepted PARK whose reply the host has not read yet from the SPI stream (R306) -/
  parkReq : Option ReqId := none
  /-- instant of the first cause in RST_CAUSE -/
  firstAt : Nat := 0
  /-- HALTC while parked: the module wakes into HALT -/
  halted : Bool := false
  /-- earliest instant of the next training attempt of each Ethernet port -/
  training : List Nat := [0, 0]
  /-- host ports under a port reset, with the instant it ends: 0 SPI, 1 and 2 Ethernet, 3 CAN, 4 I²C -/
  portAt : List (Nat × Nat) := []
  deriving DecidableEq, Repr

/-- Time: quartz in 2^−32 ns and the AO coarse time (R35 to R38). -/
structure TimeSt where
  run : Bool := false
  qz : Nat := 0
  aoSec : Nat := 0
  /-- instant of the last step of the coarse time -/
  aoAt : Nat := 0
  /-- the fraction of a second by which AO's count is behind its correction, in ns (R205) -/
  aoFrac : Int := 0
  /-- shadow of the seconds words (R11) -/
  secShadow : Nat := 0
  /-- since a wake neither LOCKED nor a TIME_STEP has come: the grid counts as unaligned (R38) -/
  unal : Bool := false
  deriving DecidableEq, Repr

/-! ## Thermal supervision and safety -/

/-- The timers of one thermistor channel: deviating since, and back within half the deviation since (R209). -/
structure ThmCh where
  devAt : Option Nat := none
  okAt : Option Nat := none
  deriving DecidableEq, Repr

/-- Thermal supervision (R201 to R213). -/
structure ThmSt where
  /-- instants and values of TEMP over the last 100 ms, newest first -/
  samples : List (Nat × Int) := []
  /-- instant of the last step -/
  stepAt : Option Nat := none
  /-- consecutive samples at or above 125.00 °C -/
  hotRun : Nat := 0
  /-- neighbour values by position: TEMP and instant -/
  neigh : List (Nat × (Int × Nat)) := []
  neighNew : Bool := false
  neighAt : Option Nat := none
  /-- the ENCL that the neighbour data belongs to; the allocations applied under it carried no other entry with it -/
  neighEncl : Nat := 0
  alone : Bool := false
  /-- neighbour data was lost and no median has been formed since (Table 9.3) -/
  medOld : Bool := false
  /-- compensation temperature and the corrections that follow from it: SAFE in steps of 0.05 %, AO and reference in 0.001 ppm -/
  tc : Int := 0
  safeTrim : Int := 0
  aoPpb : Int := 0
  refPpb : Int := 0
  /-- channels by 8 (p − 1) + t -/
  chans : List (Nat × ThmCh) := []
  /-- last T_g of each cell group -/
  tg : List (Nat × Int) := []
  /-- step indices hot discharge, hot charge, cold discharge, cold charge -/
  idx : List Nat := [0, 0, 0, 0]
  /-- integral of the valve controller in 1/60,000 % -/
  valveI : Int := 0
  /-- duty in force in the same unit -/
  valveD : Int := 0
  duty95At : Option Nat := none
  /-- the heat condition of R213 holds -/
  heat : Bool := false
  alive : Nat := 0
  deriving DecidableEq, Repr

/-- Gander's safety evaluation (R215 to R233). Inputs in the order ESTOP_A, ESTOP_B, DOOR, OSSD, TH_A, TH_B. -/
structure SafSt where
  /-- consecutive samples unlike the accepted state -/
  run : List Nat := [0, 0, 0, 0, 0, 0]
  /-- instant of the last accepted change -/
  chgAt : List Nat := [0, 0, 0, 0, 0, 0]
  /-- the emergency-stop inputs differ since, with the kind: false one went off, true one came on after both were off -/
  discAt : Option Nat := none
  /-- both inputs accepted off together, then on together, since the fault -/
  discOff : Bool := false
  discOk : Bool := false
  healthyAt : Option Nat := none
  /-- START has not ended -/
  start : Bool := true
  /-- acceptance of the category 1 stop under way -/
  cat1At : Option Nat := none
  /-- slew step of the ramp, mA per sample -/
  step : Nat := 0
  /-- both two-hand inputs off since; an actuation is held since; blocked until both have been off for 200 ms -/
  thOffAt : Option Nat := none
  thAt : Option Nat := none
  thBlock : Bool := true
  thOneAt : Option Nat := none
  thDone : Bool := false
  /-- the switch byte held in AO; last read byte and how often in a row; cycles in a row with a bad pattern -/
  swByte : Option Nat := none
  swLast : Option Nat := none
  swSame : Nat := 0
  swBad : Nat := 0
  /-- consecutive passing input stage tests -/
  pass : List Nat := [0, 0, 0, 0, 0, 0]
  deriving DecidableEq, Repr

/-! ## Lanes and bay -/

/-- A running switch-over (Table 11.2). -/
structure Switch where
  tok : Nat
  mule : Nat
  /-- control samples since the fence -/
  samples : Nat := 0
  verified : Bool := false
  caught : Bool := false
  shadow : Option Nat := none
  /-- an undecided sample came: the shadow samples restart after the next decided one (Table 11.5) -/
  undec : Bool := false
  deriving DecidableEq, Repr

/-- The lanes block (R237 to R253). -/
structure LanSt where
  /-- LAN_STATE code of each lane -/
  st : List Nat := [0, 0, 0, 0, 0]
  tok : List (Option Nat) := [none, none, none, none]
  est : List (Option Nat) := [none, none, none, none]
  /-- consecutive samples without a posted vector -/
  silent : List Nat := [0, 0, 0, 0, 0]
  undec : Nat := 0
  sw : Option Switch := none
  /-- tokens without a lane that wait for a mule (R249), lowest first -/
  waitTok : List Nat := []
  /-- lanes whose clock runs and is not clock-good yet, with the instant their clock gate opened (R25, R363) -/
  gate : List (Option Nat) := [none, none, none, none, none]
  /-- lanes in TESTING, and whether the lane was the mule -/
  testing : List (Nat × Bool) := []
  /-- host job of SELFTEST -/
  testJob : Option Nat := none
  /-- witness round counter, and the quarters whose mismatch is to be repeated -/
  round : Nat := 0
  suspect : List Nat := []
  /-- the quarter's groups become UNQUALIFIED when a lane next serves it (R249) -/
  orphan : List Nat := []
  /-- supervisor-only reset asserted since; resumed; last failure -/
  supRst : Option Nat := none
  supDown : Bool := false
  supLast : Option Nat := none
  /-- ACTIVE hours of each lane, and the seconds of the present one -/
  hours : List Nat := [0, 0, 0, 0, 0]
  hourSec : List Nat := [0, 0, 0, 0, 0]
  deriving DecidableEq, Repr

/-- A rest action the dispatcher repeats: position, REST value, cycles left (R266). -/
structure RestAct where
  pos : Nat
  rest : Nat
  left : Nat
  deriving DecidableEq, Repr

/-- An allocation held for the apply instant: CYCLE, whether the alternate sent it, the body, the quartz instant at which it
applies, and the start of its cycle. -/
structure Held where
  cycle : Nat
  alt : Bool
  body : List Byte
  due : Nat
  ta : Nat
  deriving DecidableEq, Repr

/-- The last valid report of a position: the index of the cycle it came in, the body, and the serial number of its sender. -/
structure Report where
  idx : Nat
  body : List Byte
  serial : Nat
  deriving DecidableEq, Repr

/-- Bay and dispatch (R256 to R271). -/
structure BaySt where
  /-- position given by the last discovery frame; instant of the last discovery frame sent -/
  hop : Option Nat := none
  discAt : Option Nat := none
  /-- report body latched at t_a, the index of the cycle (quartz ÷ 10 ms), and whether the report has been sent and the allocation
  computed in it -/
  body : List Byte := []
  /-- SRCPOS latched at t_a (R272) -/
  src : Nat := 0
  cycle : Option Nat := none
  sent : Bool := false
  computed : Bool := false
  /-- start of the module or wake -/
  startAt : Nat := 0
  reports : List (Nat × Report) := []
  /-- the bay map in force -/
  map : List Nat := []
  /-- last value of P_bay and the instant it came; ALIVE of the last PCS frame -/
  pbay : Int := 0
  /-- P_bay as it stood at t_a + 6 ms, where a later value has come in before the allocation was computed (R272) -/
  pold : Option Int := none
  pbayAt : Option Nat := none
  pcs : Option Nat := none
  held : Option Held := none
  /-- discharge and charge cap of the last allocation in mA (Table 8.3, entry 8) -/
  cap : Int × Int := (0, 0)
  /-- last allocation applied: instant and CYCLE -/
  applied : Option Nat := none
  /-- the number of the control sample instant at which it was applied (Table 14.18) -/
  appliedNo : Option Nat := none
  acycle : Nat := 0
  /-- last allocation heard from the other end, the index of its cycle, and cycles in a row in which it was heard -/
  heardAt : Option Nat := none
  heardIdx : Nat := 0
  both : Nat := 0
  /-- HANDBACK is due; this module dispatches from the next cycle -/
  handover : Bool := false
  takeNext : Bool := false
  /-- positions with a window this dispatcher granted, newest first, and the actions it repeats -/
  grants : List Nat := []
  acts : List RestAct := []
  /-- Q40 and Q41: packets toward lower and higher positions (R258) -/
  relay : List (List (List Byte)) := [[], []]
  deriving DecidableEq, Repr

/-! ## Ethernet, time, CAN and I²C -/

/-- A foreign master (R317): the port it is heard on, its last Announce, and the instants of its announces, newest first. -/
structure Foreign where
  port : Nat
  a : Announce
  times : List Nat
  deriving DecidableEq, Repr

/-- The PTP clock (R317 to R325); timestamps, offsets and delays in 2^−16 ns. -/
structure PtpSt where
  masters : List Foreign := []
  sel : Option Foreign := none
  /-- Sync awaiting its Follow_Up: port, sender, sequence, arrival with its correction -/
  sync : Option (Nat × Nat × Nat × Int) := none
  /-- arrival and corrected origin of the last pair, and when it came (or LOCKING was entered from FREE) -/
  pair : Option (Int × Int) := none
  pairAt : Nat := 0
  /-- offsets measured for the step -/
  first : List Int := []
  /-- sum of the offsets the servo has used -/
  integ : Int := 0
  /-- the rate in force without the feed-forward of Table 9.1, in 2^−32 -/
  base : Int := 0
  within : Nat := 0
  beyond : Nat := 0
  refused : Nat := 0
  /-- rates of the last 60 s in LOCKED with their instants, newest first -/
  rates : List (Nat × Int) := []
  holdAt : Option Nat := none
  /-- ns spent in HOLDOVER since LOCKED was last left -/
  holdNs : Nat := 0
  delay : Int := 0
  linkDelay : List Int := [0, 0]
  /-- outstanding Delay_Req and, per port, Pdelay_Req: sequence and transmit time once taken from the queue -/
  dreq : Option (Nat × Option Int) := none
  preq : List (Option (Nat × Option Int)) := [none, none]
  /-- per port, Pdelay_Resp sent that await their timestamp: sequence, requester and correction of the request -/
  presp : List (List (Nat × Nat × Int)) := [[], []]
  dseq : Nat := 0
  pseq : List Nat := [0, 0]
  deriving DecidableEq, Repr

/-- The ports and the switch (R311 to R318, R321). -/
structure EthSt where
  /-- PHY role in force of each port (applied at the port's reset) -/
  ms : List Bool := [false, true]
  /-- learned addresses: port and instant of the last frame -/
  macs : List (Nat × (Nat × Nat)) := []
  /-- Q32, Q33: sequence, message type, seconds, nanoseconds -/
  tsq : List (List (Nat × Nat × Nat × Nat)) := [[], []]
  /-- instant of the last port reset -/
  resetAt : List (Option Nat) := [none, none]
  /-- the egress queues of ports 1 and 2 and of the module port, high and low, oldest first (R313) -/
  egress : List (List OutMsg × List OutMsg) := List.replicate 3 ([], [])
  /-- residence times of PTP event messages that passed, by type, sequence and identity -/
  resid : List ((Nat × Nat × Nat) × Int) := []
  deriving DecidableEq, Repr

/-- A stored receive object: the newest frame with its time, and the words latched at the last read of RXSTAT. -/
structure CanObj where
  frame : CanFrame
  ns : Nat
  sec : Nat
  new : Bool
  lost : Bool
  deriving DecidableEq, Repr

/-- The CAN port (R326 to R337). -/
structure CanSt where
  /-- Q34 … Q37, oldest first -/
  txq : List (List CanFrame) := [[], [], [], []]
  errq : List Word := []
  logq : List Word := []
  objs : List (Nat × CanObj) := []
  shadow : List (Nat × CanObj) := []
  /-- waiting for 11 recessive bits after a restart -/
  integrating : Bool := true
  /-- detection: good frames on the candidate, its start, BRS seen; CAN_BTR and CAN_DBTR as last written -/
  good : Nat := 0
  candAt : Nat := 0
  brs : Bool := false
  written : Word × Word := (0x1F1F7E00, 0x19091C00)
  alive : Nat := 0
  limitAt : Nat := 0
  /-- the frame in transmission, with its queue (R331) -/
  onBus : Option (Nat × CanFrame) := none
  /-- instants of the latest accepted CAN_TXGO and of the latest entry to bus-off, since power-on -/
  goAt : Option Nat := none
  offAt : Option Nat := none
  /-- bytes 0 … 6 of the limit frame as the last control sample found them (R332) -/
  limits : List Byte := List.replicate 7 0
  deriving DecidableEq, Repr

/-- The I²C port (R338 to R344). -/
structure IicSt where
  /-- the pointer P -/
  ptr : Nat := 0
  /-- window bytes 0x00 … 0x2F as last refreshed -/
  win : List Byte := List.replicate 48 0
  /-- status bytes 0x30 … 0x3D as last compared, and SEQ -/
  status : List Byte := List.replicate 14 0
  seq : Nat := 0
  /-- the bytes of the call in progress; whether it holds the bus now, and whether its retry waits for MINGAP -/
  call : Option (List Byte) := none
  onBus : Bool := false
  gap : Bool := false
  /-- one more call waits (Q44) -/
  waiting : Bool := false
  busFree : Bool := true
  /-- the module is addressed as target in the transaction that won arbitration (Table 16.5) -/
  target : Bool := false
  /-- instant at which the bus was last seen in use -/
  usedAt : Nat := 0
  /-- end of the last call or the last NACK -/
  lastAt : Option Nat := none
  /-- Q45: first offset and count -/
  q45 : List (Nat × Nat) := []
  deriving DecidableEq, Repr

/-! ## Tiles, recorder and update -/

/-- A tile under recovery: region, index and what it holds. -/
structure Recovery where
  region : Nat
  tile : Nat
  use : TileUse
  deriving DecidableEq, Repr

/-- Tiles and the background scrub (R377 to R384). -/
structure TilSt where
  recovering : List Recovery := []
  /-- queues that have been full (TIL_QSTAT.FULL_SEEN) -/
  full : List Nat := []
  /-- next tile of a background pass under way (0: none), operating time at which the next pass is due, instant of the last loads -/
  cursor : Nat := 0
  passAt : Nat := 0
  loadAt : Nat := 0
  /-- lanes fenced since the last reset: tiles they held open for writing bear the suspect mark (R244); and the tiles (region, index) whose
  mark has cleared since the last fence, by a load that passed or by recovery (R381) -/
  suspect : List Nat := []
  cleared : List (Nat × Nat) := []
  /-- background pass of each lane over its own tiles: next tile (0: none under way), operating time at which the next pass is due (R383) -/
  lanePass : List (Nat × Nat) := List.replicate 5 (0, 0)
  /-- a host scrub: its memory, first tile, tiles in its range and its job -/
  scrub : Option (Nat × Nat × Nat × Nat) := none
  deriving DecidableEq, Repr

/-- The recorder (R387 to R394). -/
structure RecSt where
  cur : RecInt := {}
  /-- pending records under a freeze, and records in Q42, oldest first -/
  pend : List RecInt := []
  q42 : List RecInt := []
  /-- reads in Q43 (R385) -/
  q43 : Nat := 0
  /-- sum and count of CVI_I in the present second -/
  iSum : Int := 0
  iN : Nat := 0
  /-- a whole hour was passed in PARK; the PARK seconds of the present PARK -/
  hourDue : Bool := false
  parkSec : Nat := 0
  /-- seconds of RUN and HALT since the last REC_FREEZE -/
  frozenSec : Nat := 0
  /-- instant of the last second of operating time; a record was being written when the freeze began -/
  tickAt : Nat := 0
  inWrite : Bool := false
  wrapRaised : Bool := false
  deriving DecidableEq, Repr

/-- Firmware update (R397 to R408). -/
structure UpdSt where
  /-- the open update: KIND, STREAM, RESULT, BASECRC, RESCRC -/
  open_ : Option (Nat × Nat × Nat × Nat × Nat) := none
  data : List Byte := []
  job : Option Nat := none
  /-- operating time of the confirmation of the trial's start -/
  trialOp : Option Nat := none
  /-- the staging area of the delta body has lost a tile (R401) -/
  fault : Bool := false
  /-- pieces of a full body in Q46 (R385) -/
  q46 : Nat := 0
  deriving DecidableEq, Repr

/-- Levels at the pads and internal lines that follow from the rest of the state. (DESIGN CHOICE: log entry 69) -/
structure Pads where
  attn : List Bool := [false, false, false, false]
  convEn : Bool := false
  /-- gates of the phases may switch -/
  gates : Bool := false
  /-- GATE_Hq and GATE_Lq of phases 0 … 3 -/
  gate : List (Bool × Bool) := List.replicate 4 (false, false)
  coils : List Bool := [false, false, false]
  /-- the coil supply switch is closed; the valve output pulses -/
  supply : Bool := false
  valve : Bool := false
  /-- gander drives TPA and TPB -/
  tp : Bool := false
  /-- SPI_MISO, CAN_TXD and the I²C lines are the ports' own, no longer idle -/
  host : List Bool := [false, false, false]
  /-- the debug UART's TX is the port's own, no longer idle -/
  debug : Bool := false
  /-- BW_SEL0 and BW_SEL1 are pulled up weakly -/
  bwSel : Bool := true
  /-- the ring ports make transitions -/
  ring : Bool := false
  /-- the Ethernet pairs of ports 1 and 2 carry signals -/
  eth : List Bool := [false, false]
  deriving DecidableEq, Repr

/-- The module. -/
structure State where
  /-- instant of the latest command, ns since power was first applied -/
  now : Nat
  /-- commands that wait, first in first out -/
  pending : List Instr
  /-- register words that differ from their reset words, by rising address -/
  regs : List (Nat × Word)
  time : TimeSt
  rst : RstSt
  host : HostSt
  jobs : List Job
  jobNext : Nat
  cfg : CfgSt
  flash : Flash
  evr : EvrSt
  ring : RingSt
  acq : AcqSt
  cvi : CviSt
  est : EstSt
  lrn : LrnSt
  imp : ImpSt
  ctl : CtlSt
  prt : PrtSt
  thm : ThmSt
  saf : SafSt
  lan : LanSt
  bay : BaySt
  ptp : PtpSt
  eth : EthSt
  can : CanSt
  iic : IicSt
  til : TilSt
  rcd : RecSt
  upd : UpdSt
  pads : Pads
  /-- what has left the module, newest first -/
  out : List OutMsg
  /-- how many open values have been drawn (the model's own counter) -/
  free : Nat
  deriving DecidableEq, Repr

/-- The module right after a power-on reset: every register at its reset value, no image running, flash as shipped. (PRESUMED: log entry 6; DESIGN CHOICE: log entry 7; PRESUMED: log entry 9; PRESUMED: log entry 53) -/
def State.reset : State :=
  { now := 0, pending := [], regs := [(0xa0000, 0x10000#32)], time := {}, rst := { asserted := [(0, 10 * msec)] }, host := {}, jobs := [], jobNext := 1, cfg := {},
    flash := { slots := [{ st := 1, version := Config.imageVersion.toNat, image := Config.shippedImage, gen := 1, shipped := true }, {}] },
    evr := {}, ring := {}, acq := {}, cvi := {}, est := {}, lrn := {}, imp := {}, ctl := {}, prt := {},
    thm := {}, saf := {}, lan := {}, bay := {}, ptp := {}, eth := {}, can := {}, iic := {}, til := {}, rcd := {}, upd := {},
    pads := {}, out := [], free := 0 }

end Sys2Proof.Machine
end

