-- ==== Sys2Proof/Machine/FlashMap.lean ====
section
/-! DEFINITION. The layout of the on-module flash: its regions, their addresses and their erase blocks (R34, Table 1.4). -/

namespace Sys2Proof.Machine

/-- A region of the flash (Table 1.4). -/
inductive FlashRegion where
  | slotA | slotB | config | cal | opt | recorder | spare
  deriving DecidableEq, Repr

/-- All regions, in the order of their addresses. -/
def FlashRegion.all : List FlashRegion := [.slotA, .slotB, .config, .cal, .opt, .recorder, .spare]

/-- Bytes of the flash and of one erase block. -/
def flashSize : Nat := 67108864
def flashBlock : Nat := 65536

/-- The first address of a region. -/
def FlashRegion.start : FlashRegion → Nat
  | .slotA => 0
  | .slotB => 0x0080_0000
  | .config => 0x0100_0000
  | .cal => 0x0110_0000
  | .opt => 0x0111_0000
  | .recorder => 0x0112_0000
  | .spare => 0x0292_0000

/-- The last address of a region. -/
def FlashRegion.end_ : FlashRegion → Nat
  | .slotA => 0x007F_FFFF
  | .slotB => 0x00FF_FFFF
  | .config => 0x010F_FFFF
  | .cal => 0x0110_FFFF
  | .opt => 0x0111_00FF
  | .recorder => 0x0291_FFFF
  | .spare => 0x03FF_FFFF

/-- Bytes of a region, and the erase blocks it takes; the option bytes have a block to themselves. -/
def FlashRegion.size (r : FlashRegion) : Nat := r.end_ + 1 - r.start
def FlashRegion.blocks (r : FlashRegion) : Nat := (r.size + flashBlock - 1) / flashBlock

/-- The region that holds an address; none in the unused remainder of the option block, and past the end. -/
def regionAt (a : Nat) : Option FlashRegion := FlashRegion.all.find? (fun r => decide (r.start ≤ a) && decide (a ≤ r.end_))

/-- The byte at a flash address, where the region holds its content in the order of its bytes: images, the calibration set and the
option bytes; the rest of the calibration region reads 0xFF (R112). Where the configuration, the recorder and the spare blocks hold theirs is not stated: State holds it by its meaning. (DEDUCED: log entry 64) -/
def Flash.byte? (f : Flash) (a : Nat) : Option Byte :=
  match regionAt a with
  | some .slotA => (nth {} f.slots 0).image[a]?
  | some .slotB => (nth {} f.slots 1).image[a - FlashRegion.slotB.start]?
  | some .cal => some (nth 0xFF f.cal (a - FlashRegion.cal.start))
  | some .opt => f.opt[a - FlashRegion.opt.start]?
  | _ => none

/-- The recorder's hourly area, 36 erase blocks of 64 records from the region's start on, and its daily area after it (R392). -/
def hourlyBlocks : Nat := 36
def dailyBlocks : Nat := FlashRegion.recorder.blocks - hourlyBlocks

/-- The number of a region's first block. -/
def FlashRegion.block (r : FlashRegion) : Nat := r.start / flashBlock

/-- A block lies in a region. -/
def FlashRegion.holds (r : FlashRegion) (b : Nat) : Bool := decide (r.block ≤ b) && decide (b < r.block + r.blocks)

/-! ## Wear and retirement of blocks (R384) -/

/-- The block that serves for block `b` of a region: itself, or the spare that took its place. -/
def Flash.phys (f : Flash) (b : Nat) : Nat := (assoc? b f.remap).getD b

/-- Block `b` is erased, and its wear counts. -/
def Flash.erased (f : Flash) (b : Nat) : Flash :=
  { f with wear := assocPut (f.phys b) ((assoc? (f.phys b) f.wear).getD 0 + 1) f.wear }

/-- Block `b` fails its verification: it is retired, the next spare takes its place and is erased for the interrupted write. (DESIGN CHOICE: log entry 65) -/
def Flash.retired (f : Flash) (b : Nat) : Flash :=
  if FlashRegion.spare.blocks ≤ f.retBlocks then f
  else { f with remap := assocPut b (FlashRegion.spare.block + f.retBlocks) f.remap, retBlocks := f.retBlocks + 1 }.erased b

/-- A write to the configuration region, which may erase one of its blocks. -/
def Flash.cfgWritten (f : Flash) : Flash :=
  { f with cfgWrites := f.cfgWrites + 1,
           wear := match Config.configErase f.cfgWrites with
             | none => f.wear
             | some k => (f.erased (FlashRegion.config.block + k.toNat)).wear }

/-- The highest erase count among a region's blocks. -/
def Flash.highest (f : Flash) (r : FlashRegion) : Nat :=
  f.wear.foldl (fun m x => if r.holds x.1 then max m x.2 else m) 0

/-- A lifetime count as u32, which saturates (R9). -/
def satU32 (n : Nat) : Nat := min 4294967295 n

end Sys2Proof.Machine
end

