-- ==== Sys2Proof/Machine/Gate.lean ====
section
/-! DEFINITION. Carriers, compare values and gate commands of the four phases (R161 to R164). Instants within a carrier are counted in its
own steps of 125 ps, eight to the nanosecond. -/

namespace Sys2Proof.Machine

/-- The peak of a carrier in steps. -/
def carrierPeak : Nat := 80000

/-- The carrier counter at the instant `x` (steps): up from 0 at a valley, down from the peak; a count that arrives before the next turn
holds (R161, R164). -/
def Carrier.count (c : Carrier) (x : Nat) : Nat :=
  let e := min carrierPeak (x - 8 * c.turn)
  if c.rise then e else carrierPeak - e

/-- The first instant of the half-period at which the high-side command of the compare value `v` changes: off in a rising half where the
counter reaches `v`, on in a falling half where it has passed below `v`; 0 and values from the peak up hold it (R162). -/
def Carrier.crossing (c : Carrier) (v : Nat) : Option Nat :=
  if c.rise then (if c.hi && decide (v < carrierPeak) then some (8 * c.turn + v) else none)
  else if c.hi || v == 0 then none
  else if carrierPeak ≤ v then some (8 * c.turn)
  else some (8 * c.turn + (carrierPeak - v) + 1)

/-- The carrier followed to the instant `x` under one compare value. A compare value that changed calls for its transition from then on; the
other transition of the half-period waits for the next one (R162). (DEDUCED: log entry 45) -/
def Carrier.follow (c : Carrier) (v x : Nat) : Carrier :=
  if x ≤ c.base then c
  else match c.crossing v with
    | none => { c with base := x }
    | some a =>
      let e := max c.base a
      if e ≤ x then { c with base := x, hi := !c.hi, edge := e } else { c with base := x }

/-- The carrier followed to `x` while the compare value changes from `v` to `w` at `a` ns. -/
def Carrier.to (c : Carrier) (v w a x : Nat) : Carrier := (c.follow v (min x (8 * a))).follow w x

/-- A turn of the carrier at the instant `t` (ns): a valley or a peak, whatever the count has reached (R161). Where the turn comes first it sets
the count to its end, and under the compare value `v` the high side changes there if it had not changed yet (R162, R164). -/
def Carrier.turnAt (c : Carrier) (t : Nat) (valley : Bool) (v : Nat) : Carrier :=
  let late := c.rise != valley && (if valley then !c.hi && v != 0 else c.hi && decide (v < carrierPeak))
  { c with turn := t, rise := valley, hi := c.hi != late, edge := if late then 8 * t else c.edge }

/-- The carrier of phase `q` at the instant `x` (steps). -/
def CtlSt.carrierOf (c : CtlSt) (q x : Nat) : Carrier :=
  (nth {} c.carriers q).to (nth 0 c.cmpOld q) (nth 0 c.cmp q) c.cmpAt x

/-- The carriers followed to the instant `t` (ns). -/
def CtlSt.follow (c : CtlSt) (t : Nat) : CtlSt := { c with carriers := (List.range 4).map (fun q => c.carrierOf q (8 * t)) }

/-- The compare values in force at the instant `t`. -/
def CtlSt.inForce (c : CtlSt) (t : Nat) : List Nat := if c.cmpAt ≤ t then c.cmp else c.cmpOld

/-- New compare values, given at `t` and in force from `a` on, for every phase at once (R162). -/
def CtlSt.compare (c : CtlSt) (t a : Nat) (v : List Nat) : CtlSt :=
  { c.follow t with cmpOld := c.inForce t, cmp := v, cmpAt := a }

/-- From the instant `t` on no duty stands on phase `q` (R246). (DEDUCED: log entry 45) -/
def CtlSt.unduty (c : CtlSt) (q t : Nat) : CtlSt :=
  let z := fun (l : List Nat) => modNth l q (fun _ => 0)
  { c.follow t with cmp := z c.cmp, cmpOld := z (c.inForce t), cmpAt := if c.cmpAt ≤ t then t else c.cmpAt }

/-- The control sample instant number `k` at `t`: phase q has its valley where k mod 4 = q and its peak two instants later (R161). -/
def CtlSt.turns (c : CtlSt) (k t : Nat) : CtlSt :=
  { c.follow t with carriers := ((c.follow t).carriers.zipIdx).map (fun (x, q) =>
      let v := nth 0 (c.inForce t) q
      if k % 4 = q then x.turnAt t true v else if k % 4 = (q + 2) % 4 then x.turnAt t false v else x) }

/-- The gate outputs of a phase that may switch, at the instant `x` (steps): each turns on `dt` after its own command and off with it
(R163). -/
def Carrier.gates (c : Carrier) (dt x : Nat) : Bool × Bool :=
  let on := decide (c.edge + dt ≤ x)
  (c.hi && on, !c.hi && on)

end Sys2Proof.Machine
end

