-- ==== Sys2Proof/Machine/Ops.lean ====
section
/-! DEFINITION. The named operations on the state that every meaning is written with: registers and fields, time, output,
event arrivals, and the frame of a command. -/

namespace Sys2Proof.Machine

/-! ## Register words and fields -/

/-- The mask of a field's bits. -/
def Fld.mask (f : Fld) : Nat := (2 ^ f.w - 1) <<< f.lo

/-- The field lies in its word. -/
def Fld.fits (f : Fld) : Prop := f.lo + f.w ≤ 32

/-- Two fields share no bit. -/
def Fld.apart (f g : Fld) : Prop := f.addr ≠ g.addr ∨ f.lo + f.w ≤ g.lo ∨ g.lo + g.w ≤ f.lo

/-- The field's value in a word. -/
def Fld.of (f : Fld) (v : Word) : Nat := (v.toNat >>> f.lo) % 2 ^ f.w

/-- A word with the field set to the low bits of `x`. -/
def Fld.into (f : Fld) (v : Word) (x : Nat) : Word :=
  (v &&& ~~~(BitVec.ofNat 32 f.mask)) ||| BitVec.ofNat 32 ((x % 2 ^ f.w) <<< f.lo)

/-- The stored word of an address: the listed one, else the reset word. (PRESUMED: log entry 6) -/
def Regs.word (r : List (Nat × Word)) (a : Nat) : Word := (assoc? a r).getD (resetWord a)

/-- Store a word, keeping the list canonical: the reset word is not listed. -/
def Regs.put (r : List (Nat × Word)) (a : Nat) (v : Word) : List (Nat × Word) :=
  if v = resetWord a then assocDel a r else assocPut a v r

/-- The canonical form: addresses rise strictly and no entry equals its reset word. -/
def Regs.wf (r : List (Nat × Word)) : Prop :=
  r.Pairwise (fun p q => p.1 < q.1) ∧ ∀ p ∈ r, p.2 ≠ resetWord p.1

/-- The stored word of a register. -/
def State.word (s : State) (a : Nat) : Word := Regs.word s.regs a

/-- Store a register's word. -/
def State.putWord (s : State) (a : Nat) (v : Word) : State := { s with regs := Regs.put s.regs a v }

/-- A field's value. -/
def State.get (s : State) (f : Fld) : Nat := f.of (s.word f.addr)

/-- A one-bit field as a Bool. -/
def State.flag (s : State) (f : Fld) : Bool := s.get f == 1

/-- A field's value read as two's complement. -/
def State.getI (s : State) (f : Fld) : Int := ofCode f.w (s.get f)

/-- Set a field to the low bits of a number. -/
def State.set (s : State) (f : Fld) (x : Nat) : State := s.putWord f.addr (f.into (s.word f.addr) x)

/-- Set or clear a one-bit field. -/
def State.setB (s : State) (f : Fld) (b : Bool) : State := s.set f (b2n b)

/-- Set a field to a signed value, clipped to its format (R8). -/
def State.setI (s : State) (f : Fld) (x : Int) : State := s.set f (toCode f.w (clipS f.w x))

/-- Set a field to an unsigned value, clipped to its format (R8). -/
def State.setU (s : State) (f : Fld) (x : Int) : State := s.set f (clipU f.w x)

/-- Count in a saturating field; the count that finds it full sets the SAT field (R9). -/
def State.count (s : State) (f sat : Fld) : State :=
  let v := s.get f
  if v + 1 < 2 ^ f.w then s.set f (v + 1) else (s.set f (2 ^ f.w - 1)).setB sat true

/-! ## Time -/

/-- Quartz time in whole ns. -/
def State.quartzNs (s : State) : Nat := s.time.qz / 4294967296

/-- The grid's phase against quartz in ns: positive when the grid is late (R36). -/
def State.gridPhase (s : State) : Int := s.getI F.GLB_GRID_PHASE_ERR

/-- The grid instant of period `p` nearest to the quartz instant `x`. -/
def State.nearGrid (s : State) (x p : Nat) : Nat :=
  (((x : Int) - s.gridPhase + p / 2).fdiv p * p + s.gridPhase).toNat

/-- The number of the grid instant of period `p` nearest to the quartz instant `x`. -/
def State.gridNo (s : State) (x p : Nat) : Nat := (((x : Int) - s.gridPhase + p / 2).fdiv p).toNat

/-- The number of the last grid instant of period `p` that quartz has passed (R35). -/
def State.gridCount (s : State) (p : Nat) : Nat := (((s.quartzNs : Int) - s.gridPhase).fdiv p).toNat

/-- That instant, in quartz ns. -/
def State.gridAt (s : State) (p : Nat) : Nat := (((s.gridCount p * p : Nat) : Int) + s.gridPhase).toNat

/-- Quartz seconds, which wrap at 2^48 (R9). -/
def State.quartzSec (s : State) : Nat := s.quartzNs / sec % 281474976710656

/-- The nanoseconds of quartz within its second. -/
def State.quartzNano (s : State) : Nat := s.quartzNs % sec

/-- Quartz after `d` ns of running at the rate of TIM_ADJ, in 2^−32 ns. -/
def State.quartzAfter (s : State) (d : Nat) : Nat :=
  (s.time.qz + d * ((4294967296 + s.getI F.TIM_ADJ_RATE).toNat))

/-- A packet answers a request. -/
def Pkt.answers (p : Pkt) (id : ReqId) : Bool :=
  p.session == id.session && p.seq == id.seq && p.opcode == id.op && p.flags.testBit 0 && p.key.isEmpty != id.tagged

/-- Discard an update that is being received or applied: the target slot is INVALID already, and the option bytes stay (R401). -/
def State.updDiscard (s : State) : State :=
  if s.get F.UPD_STATE_PHASE = 1 ∨ s.get F.UPD_STATE_PHASE = 2 then
    ({ s with upd := { s.upd with open_ := none, data := [], job := none, fault := false } }.set F.UPD_STATE_PHASE 0).set
      F.UPD_RECV_BYTES 0
  else s

/-- A free session; requests of the provisioning context of its number that wait in the queue stay (R279). -/
def Session.freed (x : Session) : Session := { cmdq := x.cmdq.filter (·.prov) }

/-- An assembly whose session has closed belongs to no session any more. -/
def Assembly.orphan (n : Nat) (a : Assembly) : Assembly := if a.session = n then { a with session := 255 } else a

/-- Close a session: everything of it is discarded (R282), the update it is loading with it (R401); a closed owner releases the lock
(R285). Its jobs go on and belong to no later session (R291). (DEDUCED: log entry 20) -/
def State.closeSession (s : State) (n : Nat) : State :=
  let s1 : State := { s with
    jobs := s.jobs.map (fun (j : Job) => if j.session = n then { j with session := 255 } else j),
    cfg := { s.cfg with asmT := s.cfg.asmT.map (Assembly.orphan n), asmC := s.cfg.asmC.map (Assembly.orphan n) },
    host := { s.host with
      sess := modNth s.host.sess n Session.freed,
      spiOut := s.host.spiOut.filter (fun p => !(p.session == n && !p.key.isEmpty)),
      waiting := s.host.waiting.filter (fun w => w.id.prov || w.id.session != n),
      owner := if s.host.owner = some n then none else s.host.owner,
      closing := s.host.closing.filter (fun c => c.1 ≠ n) } }
  if s1.get F.UPD_STATE_PHASE = 1 ∧ s1.get F.UPD_STATE_SESSION = n then s1.updDiscard else s1

/-- Quartz runs: it has been started and TIME is clock-good, or released by a debug probe (R24, R364). -/
def State.quartzOn (s : State) : Bool := s.time.run && (s.rst.good.testBit 11 || s.rst.forced.testBit 11)

/-- Nanoseconds since an instant. -/
def State.since (s : State) (a : Nat) : Nat := s.now - a

/-- Operating time in seconds (R387). -/
def State.opsec (s : State) : Nat := s.get F.REC_OPSEC

/-! ## Output and open values -/

/-- Something leaves the module. -/
def State.emit (s : State) (m : OutMsg) : State := { s with out := m :: s.out }

/-- The next open value of `w` bits. (DESIGN CHOICE: log entry 14) -/
def State.open_ (s : State) (w : Nat) : BitVec w := Config.freeValue s.free w

/-- The counter of open values moves on. (DESIGN CHOICE: log entry 14) -/
def State.drew (s : State) : State := { s with free := s.free + 1 }

/-! ## Modes -/

/-- RUN. -/
def State.inRun (s : State) : Bool := s.rst.mode == .run

/-- RUN or HALT: the module serves, scans and answers. -/
def State.inService (s : State) : Bool := s.rst.mode == .run || s.rst.mode == .halt

/-- RUN, HALT or PARK: firmware is loaded and the ring scans. -/
def State.started (s : State) : Bool := s.inService || s.rst.mode == .park

/-- The ring is not idle. -/
def State.ringOn (s : State) : Bool :=
  s.started && (s.rst.mode == .park || s.rst.good.testBit 2 || s.rst.forced.testBit 2) && s.get F.RING_STAT_STATE != 0 && s.get F.RING_CTRL_LEN != 0

/-- A host port is under a port reset, which lasts 1 ms (Table 18.1). -/
def State.portHeld (s : State) (unit : Nat) : Bool :=
  match assoc? unit s.rst.portAt with
  | some a => decide (s.now < a)
  | none => false

/-! ## Clock domains (R26, R424) -/

/-- Whether domain `d` is enabled, bit order of GLB_CLKSTAT. -/
def State.domainOn (s : State) (d : Nat) : Bool :=
  let port := fun (p : Nat) => match nth none s.eth.resetAt p with
    | none => true
    | some a => decide (a + msec ≤ s.now)
  match d with
  | 0 | 1 => s.rst.mode != .off
  | 2 => s.inService || s.rst.mode == .recovery || (s.rst.mode == .starting && (s.rst.good.testBit 1 || s.rst.forced.testBit 1))
  | 3 => s.inService || (s.rst.mode == .starting && s.rst.image)
  | 4 | 5 | 6 | 11 => s.inService
  | 7 => s.ringOn && !s.ring.losE
  | 8 => s.ringOn && !s.ring.losW
  | 9 => (s.inService || s.rst.mode == .recovery) && port 0
  | 10 => s.inService && port 1
  | _ => false

/-- Whether domain `d` is clock-good. The recovered ring clocks are good while they run. -/
def State.clockGood (s : State) (d : Nat) : Bool := s.domainOn d && (d == 7 || d == 8 || s.rst.good.testBit d)

/-- Whether the blocks of domain `d` are released: clock-good, or forced by a debug probe (R364). -/
def State.domainGood (s : State) (d : Nat) : Bool := s.clockGood d || (s.domainOn d && s.rst.forced.testBit d)

/-- GLB_CLKSTAT. -/
def State.clkStat (s : State) : Nat :=
  (List.range 12).foldl (fun a d => a + (if s.clockGood d then 2 ^ d else 0) + (if s.domainOn d then 2 ^ (16 + d) else 0)) 0

/-- A domain loses or gains its stored clock-good bit. -/
def State.setGood (s : State) (d : Nat) (b : Bool) : State :=
  { s with rst := { s.rst with good := setBit s.rst.good d b, been := if b then setBit s.rst.been d true else s.rst.been } }

/-- Since when a domain is enabled: the release of the reset, the start of the firmware or the wake, and the end of a port reset (R363). -/
def State.enabledAt (s : State) (d : Nat) : Nat :=
  let a := if d < 2 || (d == 2 && !s.inService) then s.rst.relAt else max s.rst.relAt s.bay.startAt
  if d = 9 ∨ d = 10 then
    match nth none s.eth.resetAt (d - 9) with
    | none => a
    | some r => max a (r + msec)
  else a

/-- A domain has not become clock-good within 10 ms of its enable, AO within 1,000 ms (R363). (DESIGN CHOICE: log entry 3) -/
def State.clockLate (s : State) (d : Nat) : Bool :=
  s.rst.mode != .reset && !s.rst.been.testBit d && decide (s.enabledAt d + (if d = 0 then 1000 else 10) * msec ≤ s.now)

/-- Ethernet port 1 or 2 runs: its domain is clock-good (R24). -/
def State.ethOn (s : State) (port : Nat) : Bool := s.inService && (port == 1 || port == 2) && s.domainGood (8 + port)

/-- Ethernet port `p` runs: in service, in RECOVERY port 1 only, in PARK in its listen window (R294, R374). -/
def State.ethRuns (s : State) (p : Nat) : Bool :=
  s.ethOn p || (s.rst.mode == .recovery && p == 1 && s.domainGood 9) || ((s.rst.mode == .park) && s.rst.listen.any (fun w => w.1 == p))

/-- The line port toward position 0 (BAY_POS.UPPORT) and the other one, as 1 or 2. -/
def State.upPort (s : State) : Nat := s.get F.BAY_POS_UPPORT + 1

/-- The transport's port runs. -/
def State.viaRuns (s : State) (v : Via) : Bool :=
  match v with
  | .spi => true
  | .eth1 => s.ethRuns 1
  | .eth2 => s.ethRuns 2

/-- The port of the line that Q40 (toward lower positions) or Q41 sends out of (R258). -/
def State.relayPort (s : State) (q : Nat) : Nat := if q = 0 then s.upPort else 3 - s.upPort

/-- What Q40 and Q41 send on the line, where their port runs. -/
def State.relayed (s : State) : List OutMsg :=
  [0, 1].flatMap (fun q => if s.ethOn (s.relayPort q) then (nth [] s.bay.relay q).map (OutMsg.forward (s.relayPort q)) else [])

/-- The replies that leave the Ethernet ports, oldest first, each to the source of its request (R273). -/
def State.repliesOut (s : State) : List OutMsg :=
  s.host.sess.flatMap (fun x => (x.replyq.filter (fun p => s.viaRuns p.via)).map (fun p => OutMsg.packet p.via p.src p.pkt))

/-- What the egress queues of the switch send, port by port, the high queue first (R313). (DESIGN CHOICE: log entry 76) -/
def State.egressOut (s : State) (hi : Bool) : List OutMsg :=
  [0, 1, 2].flatMap (fun i => if i = 2 || s.ethRuns (i + 1) then (if hi then (nth ([], []) s.eth.egress i).1 else (nth ([], []) s.eth.egress i).2) else [])

/-- The queues that wait for the Ethernet ports drain where the port runs: the switch's high queues, the relayed packets and after them the
replies (ranks 4 and 6 of Table 19.3), the switch's low queues; the flash reader and writer empty Q43 and Q46; sessions that close after
their reply close (R282). (DESIGN CHOICE: log entry 76) -/
def State.drain (s : State) : State :=
  let left := fun (q : Nat) => if s.ethOn (s.relayPort q) then [] else nth [] s.bay.relay q
  let s1 := { s with out := (s.egressOut true ++ s.relayed ++ s.repliesOut ++ s.egressOut false).reverse ++ s.out,
                     bay := { s.bay with relay := [left 0, left 1] }, rcd := { s.rcd with q43 := 0 }, upd := { s.upd with q46 := 0 },
                     eth := { s.eth with egress := s.eth.egress.zipIdx.map (fun (x, i) => if i = 2 || s.ethRuns (i + 1) then ([], []) else x) },
                     host := { s.host with sess := s.host.sess.map (fun (x : Session) =>
                       { x with replyq := x.replyq.filter (fun p => !s.viaRuns p.via) }) } }
  let waits := fun (id : ReqId) => s1.host.spiOut.any (·.answers id) || s1.host.sess.any (fun x => x.replyq.any (fun p => p.pkt.answers id))
  (s1.host.closing.filter (fun c => !waits c.2)).foldl (fun a c => a.closeSession c.1) s1

/-- Time moves on to the instant of a command. (DESIGN CHOICE: log entry 3) -/
def State.tick (s : State) (t : Nat) : State :=
  if t ≤ s.now then s
  else
    let s1 := if s.quartzOn then { s with time := { s.time with qz := s.quartzAfter (t - s.now) } } else s
    { s1.drain with now := t }

/-- Control samples are taken: RUN or HALT with CTRL and TIME clock-good (R24). (DESIGN CHOICE: log entry 47) -/
def State.sampling (s : State) : Bool := s.inService && s.domainGood 4 && s.domainGood 11

/-- A control sample instant has passed since the last one taken (R35). (DESIGN CHOICE: log entry 3) -/
def State.sampleDue (s : State) : Bool :=
  s.sampling && (match s.ctl.sampNo with
    | none => true
    | some n => decide (n < s.gridCount 5000))

/-- The lanes compute: RUN or HALT with LANE clock-good (R24). -/
def State.lanesOn (s : State) : Bool := s.inService && s.domainGood 3

/-! ## Events -/

/-- The condition of the one LEVEL source of the hosts, SPI_OUTRDY (source 0, R348). -/
def State.levelOn (s : State) (n : Nat) : Bool := n == 0 && !s.host.spiOut.isEmpty

/-- EVR_TGT of a source: the host's register, or the firmware's own setting (R347). (DESIGN CHOICE: log entry 15) -/
def State.tgtWord (s : State) (n : Nat) : Word :=
  if n < 128 then s.word (0x20100 + 4 * n) else Config.firmwareTarget n

/-- Whether a host line's target is asleep (R355). -/
def State.asleep (s : State) (h : Nat) : Bool := (s.get F.EVR_HCTL_SLEEP).testBit h

/-- The target code a source is delivered to: its TGT, or its fallback once moved (R355). -/
def State.targetOf (s : State) (n : Nat) : Nat :=
  if s.evr.moved.contains n then F.EVR_TGT_FB.of (s.tgtWord n) else F.EVR_TGT_TGT.of (s.tgtWord n)

/-- A source's level PRI. -/
def State.priOf (s : State) (n : Nat) : Nat := F.EVR_TGT_PRI.of (s.tgtWord n)

/-- A source's tier under TIERS (R351). -/
def State.tierOf (s : State) (n : Nat) : Nat := s.priOf n * (s.get F.EVR_CTRL_TIERS + 1) / 256

/-- Sources that are pending now, LEVEL sources included. -/
def State.pending? (s : State) : List Nat := if s.levelOn 0 then 0 :: s.evr.pend else s.evr.pend

/-- Sources active on a target, innermost first. -/
def State.activeOn (s : State) (tgt : Nat) : List Nat := (s.evr.act.filter (fun p => p.2 = tgt)).map (·.1)

/-- Whether a pending source is eligible on host line `h` under the mode in force (R351, R352, R355); one that is active still, at
whatever target, waits, as a source holds at most one active occurrence (R349). -/
def State.eligible (s : State) (h n : Nat) : Bool :=
  let act := s.activeOn (8 + h)
  s.targetOf n == 8 + h && decide (act.length < 8) && !s.evr.act.any (fun a => a.1 == n)
    && (!s.asleep h || F.EVR_TGT_WAKE.of (s.tgtWord n) == 1)
    && (if s.get F.EVR_STAT_MODE = 2 then act.all (fun a => decide (s.tierOf n < s.tierOf a)) else act.isEmpty)

/-- The order of presentation: in NORMAL lowest PRI then lowest number, in the other modes lowest number. -/
def State.before (s : State) (a b : Nat) : Bool :=
  if s.get F.EVR_STAT_MODE = 2 ∧ s.priOf a ≠ s.priOf b then decide (s.priOf a < s.priOf b) else decide (a ≤ b)

/-- The source a host line presents (R350 to R353, R356): nothing in TEST, under HOLD and in PARK. -/
def State.presents (s : State) (h : Nat) : Option Nat :=
  if s.get F.EVR_STAT_MODE = 1 || s.flag F.EVR_GDIS_HOLD || s.rst.mode == .park then none
  else (s.pending?.filter (fun n => s.eligible h n)).foldl
    (fun best n => match best with
      | none => some n
      | some b => if s.before b n then some b else some n) none

/-- An arrival at an EDGE source (R349): PEND, CNT, OVF, and the time and DETAIL of the newest arrival. -/
def State.raise (s : State) (n : Nat) (detail : List Byte) : State :=
  let c := (assoc? n s.evr.cnt).getD 0
  let full := 15 ≤ c
  let s1 := { s with evr := { s.evr with
    pend := if s.evr.pend.contains n then s.evr.pend else n :: s.evr.pend,
    cnt := assocPut n (min 15 (c + 1)) s.evr.cnt,
    ovf := if full && !s.evr.ovf.contains n then n :: s.evr.ovf else s.evr.ovf,
    moved := if s.asleep (F.EVR_TGT_TGT.of (s.tgtWord n) - 8) then s.evr.moved else s.evr.moved.filter (· ≠ n),
    last := assocPut n (s.quartzNs, detail) s.evr.last } }
  if full then s1.setB F.EVR_STAT_OVF_SEEN true else s1

/-- Flash blocks of a region that fail their verification are replaced by spare ones (R384); FLASH_SPARE_LOW with fewer than 37 left. -/
def State.blocksFail (s : State) (r : FlashRegion) (bad : List Nat) : State :=
  let f := (bad.filter r.holds).foldl Flash.retired s.flash
  let s1 : State := { s with flash := f }
  if 329 < f.retBlocks ∧ s.flash.retBlocks ≤ 329 then s1.raise 114 [] else s1

/-- The first `n` blocks from block `b` on are erased (R384). -/
def State.eraseBlocks (s : State) (b n : Nat) : State :=
  { s with flash := (List.range n).foldl (fun f i => f.erased (b + i)) s.flash }

/-- Set a one-bit field and, when it was clear, raise an event. -/
def State.setRaise (s : State) (f : Fld) (n : Nat) (detail : List Byte) : State :=
  if s.flag f then s else (s.setB f true).raise n detail

/-! ## Queues (R385) -/

/-- Entries held in hardware queue `n` (Table 19.2). -/
def State.fill (s : State) (n : Nat) : Nat :=
  let x := nth {} s.host.sess (n % 8)
  let spi := fun (bit : Nat) => (s.host.spiOut.filter (fun p => p.session == n % 8 && p.flags % 2 == bit)).length
  if n < 8 then x.cmdq.length
  else if n < 16 then (if x.via = .spi then min 16 (spi 1) else x.replyq.length)
  else if n < 24 then (if x.via = .spi then min 32 (spi 0) else x.eventq.length)
  else if n < 28 then min 8 (s.ring.cmds.filter (fun c => c.queue == n - 24 && !c.held)).length
  else if n < 32 then (s.ring.replies.filter (fun r => r.1.queue == n - 28)).length
  else if n < 34 then (nth [] s.eth.tsq (n - 32)).length
  else if n < 38 then (nth [] s.can.txq (n - 34)).length
  else if n = 38 then s.can.errq.length
  else if n = 39 then s.can.logq.length
  else if n < 42 then (nth [] s.bay.relay (n - 40)).length
  else if n = 42 then s.rcd.q42.length
  else if n = 43 then s.rcd.q43
  else if n = 44 then b2n s.iic.call.isSome + b2n s.iic.waiting
  else if n = 45 then s.iic.q45.length
  else if n = 46 then s.upd.q46
  else if n = 47 then s.host.trace.length
  else 0

/-- The depth of hardware queue `n` (Table 19.2). -/
def queueDepth (n : Nat) : Nat :=
  if n < 16 then 16 else if n < 24 then 32 else if n < 32 then 8 else if n < 34 then 16 else if n < 38 then 8 else if n < 40 then 32
  else if n < 42 then 16 else if n = 42 then 8 else if n = 43 then 4 else if n = 44 then 2 else if n = 45 then 8 else if n = 46 then 32
  else 256

/-- An entry of queue `n` is lost under its full policy (Table 19.11). -/
def State.qLost (s : State) (n : Nat) : State := s.count (F.TIL_QSTAT_LOST.ix n) (F.TIL_QSTAT_SAT.ix n)

/-- Queues that are full now are remembered as having been full. -/
def State.qSeen (s : State) : State :=
  let new := (List.range 48).filter (fun n => decide (queueDepth n ≤ s.fill n) && !s.til.full.contains n)
  if new.isEmpty then s else { s with til := { s.til with full := s.til.full ++ new } }

/-- A tile of lane `l`'s local memory that holds `u` is being recovered (Table 19.1). -/
def State.tileOut (s : State) (l : Nat) (u : TileUse) : Bool := s.til.recovering.any (fun x => x.region == l + 1 && x.use == u)

/-- A tile of the lane that estimates quarter `q` is being recovered. -/
def State.quarterOut (s : State) (q : Nat) (u : TileUse) : Bool :=
  match nth none s.lan.est q with
  | some l => s.tileOut l u
  | none => false

/-- A code tile of main SRAM that supervisor core `c` needs is being recovered, and the core stalls (Table 19.1). -/
def State.coreOut (s : State) (c : Nat) : Bool := s.til.recovering.any (fun x => x.region == 0 && x.use == TileUse.code c)

/-- Lane `l` does not compute: a code tile of its local memory is being recovered (Table 19.1), or its clock is not good yet (R24). -/
def State.laneStalls (s : State) (l : Nat) : Bool :=
  ((nth none s.lan.gate l).isSome && !s.rst.forced.testBit 3) || s.til.recovering.any (fun x => x.region == l + 1 && (match x.use with | .code _ => true | _ => false))

/-- The lane that estimates quarter `q` stalls. -/
def State.quarterStalls (s : State) (q : Nat) : Bool := (nth none s.lan.est q).any s.laneStalls

/-- The table data of quarter `q` stands in a tile that is being recovered, in main SRAM or in its lane: correction is suspended (R121). -/
def State.tablesOut (s : State) (q : Nat) : Bool :=
  s.quarterOut q .tables || s.til.recovering.any (fun x => x.region == 0 && x.use == TileUse.tables)

/-- The cores stand in reset: the supervisor's own, or SYS not clock-good in service (R24, Table 18.3). -/
def State.coresHeld (s : State) : Bool := s.lan.supDown || (s.inService && !s.domainGood 2)

/-- S0 or S1 does not execute: the cores are held, or the core stalls. -/
def State.s0Down (s : State) : Bool := s.coresHeld || s.coreOut 0
def State.s1Down (s : State) : Bool := s.coresHeld || s.coreOut 1

/-- The configuration shadow, the lane assignment or a remap table stands in a tile that is being recovered: commands that need them are
answered TILE_FAULT (Table 19.1, R380). -/
def State.cfgOut (s : State) : Bool := s.til.recovering.any (fun x => x.use == TileUse.config)

/-! ## Jobs -/

/-- Whether the job table has room (R291). -/
def State.jobRoom (s : State) : Bool := s.jobs.length < 8

/-- The next free job id from `n` on: 1 … 65,535 in turn, skipping ids still held (R291). -/
def nextJobId (held : List Nat) : Nat → Nat → Nat
  | 0, n => n
  | k + 1, n => if n = 0 || n > 65535 then nextJobId held k 1
                else if held.contains n then nextJobId held k (n + 1) else n

/-- Enter a job; the id is given back. -/
def State.jobStart (s : State) (op session kind total : Nat) : State × Nat :=
  let id := nextJobId (s.jobs.map (·.id)) 20 s.jobNext
  ({ s with jobs := s.jobs ++ [{ id := id, op := op, session := session, kind := kind, total := total, startedAt := s.now }],
            jobNext := id + 1 }, id)

/-- Change a job. -/
def State.jobMod (s : State) (id : Nat) (f : Job → Job) : State :=
  { s with jobs := s.jobs.map (fun j => if j.id = id then f j else j) }

/-- A job's progress; it does not fall (R292). -/
def State.jobProgress (s : State) (id value total : Nat) : State :=
  s.jobMod id (fun j => { j with value := value, total := total })

/-- A job by its id. -/
def State.job? (s : State) (id : Nat) : Option Job := s.jobs.find? (fun j => j.id = id)

/-! ## The frame of a command -/

/-- The host lines after a change: what each presents, lines whose source was withdrawn unclaimed (R354), and the
sources that wait at a sleeping target (R355). (DEDUCED: log entry 55) -/
def State.present (s : State) : State :=
  let now4 := [s.presents 0, s.presents 1, s.presents 2, s.presents 3]
  let gone := fun h => match nth none s.evr.shown h, nth none now4 h with
    | some _, none => true
    | none, none => s.evr.withdrawn.contains h
    | _, some _ => false
  let waiting := (s.pending?.filter (fun n =>
      decide (8 ≤ s.targetOf n) && s.asleep (s.targetOf n - 8) && !s.evr.moved.contains n))
  { s with evr := { s.evr with
      shown := now4,
      withdrawn := [0, 1, 2, 3].filter gone,
      waits := waiting.map (fun n => (n, (assoc? n s.evr.waits).getD s.now)) } }

/-- The level of CONV_EN: it falls 10 µs after the gates of a stopped loop are low, after a flint cause too (R177, R185). (DEDUCED: log entry 45) -/
def State.convLevel (s : State) : Bool :=
  s.ctl.convEn && ((s.get F.CTL_STAT_STATE != 0 && (s.word 0x8002C).toNat % 512 == 0) || decide (s.now < s.ctl.lowAt + 10 * usec))

/-- The gates may switch: no flint cause is latched (R185), the loop does not hold them low and the module is in RUN. -/
def State.gatesOn (s : State) : Bool := !s.ctl.gatesLow && decide (s.ctl.freeAt ≤ s.now) && (s.word 0x8002C).toNat % 512 == 0 && s.inRun

/-- GATE_Hq and GATE_Lq (R160, R163): both low while the gates may not switch and where no lane holds the token. -/
def State.gatePair (s : State) (q : Nat) : Bool × Bool :=
  if s.gatesOn && (nth none s.lan.tok q).isSome then (s.ctl.carrierOf q (8 * s.now)).gates (s.get F.CTL_PWM_DT) (8 * s.now)
  else (false, false)

/-- The SPI port runs. -/
def State.spiRuns (s : State) : Bool :=
  !s.portHeld 0 && (s.inService || s.rst.mode == .recovery || ((s.rst.mode == .park) && s.rst.listen.any (fun w => w.1 == 3)))

/-- The levels at the pads that follow from the state; an attention line asserts in router mode NORMAL (R366). -/
def State.padsOf (s : State) : Pads :=
  { attn := s.evr.shown.map (fun o => o.isSome && s.get F.EVR_STAT_MODE == 2),
    convEn := s.convLevel,
    gates := s.gatesOn,
    gate := (List.range 4).map s.gatePair,
    coils := [(s.get F.PRT_CONTSTAT_COIL).testBit 0, (s.get F.PRT_CONTSTAT_COIL).testBit 1,
              (s.get F.PRT_CONTSTAT_COIL).testBit 2],
    supply := s.flag F.SAF_STAT_COILSW,
    valve := s.get F.THM_VALVE_DUTY != 0,
    tp := s.saf.swLast.isSome || s.saf.swBad != 0,
    debug := s.inService && !s.coresHeld,
    bwSel := s.rst.mode != .off,
    host := [s.spiRuns, s.inService && !s.portHeld 3 && s.get F.CAN_STAT_STATE != 0, s.inService && !s.portHeld 4],
    ring := s.ringOn && s.get F.RING_STAT_STATE != 0,
    eth := [s.ethRuns 1, s.ethRuns 2] }

/-- The combinational part after a command: host lines, queue marks and pads follow the state. -/
def State.settle (s : State) : State :=
  let s1 := s.present.qSeen
  { s1 with pads := s1.padsOf }

end Sys2Proof.Machine
end

