-- ==== Sys2Proof/Machine/HostOps.lean ====
section
/-! DEFINITION. The host side shared by every opcode: the opcode table, replies with their queue and cache, the checks of
acceptance (R277) and of execution (R297), and the frame `State.host` of a host command. -/

namespace Sys2Proof.Machine

/-- One row of the opcode reference: code, class, least role (0 MONITOR … 3 SERVICE, Table 13.5) and the module states it
executes in (1 RUN, 2 HALT, 4 PARK, 8 RECOVERY; R294, R296). -/
structure OpInfo where
  code : Nat
  cls : Nat
  role : Nat
  states : Nat
  deriving DecidableEq, Repr

/-- The opcode reference (Tables 14.2 to 14.17). -/
def opTable : List OpInfo :=
  [⟨0x0001, 12, 0, 15⟩, ⟨0x0002, 12, 0, 15⟩, ⟨0x0003, 12, 0, 15⟩, ⟨0x0004, 12, 0, 15⟩,
   ⟨0x0101, 12, 0, 3⟩, ⟨0x0102, 12, 2, 3⟩, ⟨0x0103, 12, 2, 3⟩, ⟨0x0104, 12, 0, 3⟩,
   ⟨0x0201, 12, 0, 15⟩, ⟨0x0202, 12, 0, 3⟩, ⟨0x0203, 12, 0, 3⟩, ⟨0x0204, 12, 0, 3⟩, ⟨0x0205, 12, 0, 3⟩,
   ⟨0x0301, 12, 2, 3⟩, ⟨0x0302, 12, 0, 3⟩, ⟨0x0303, 12, 2, 3⟩, ⟨0x0304, 12, 2, 3⟩, ⟨0x0305, 12, 2, 3⟩] ++
  [⟨0x0401, 12, 1, 1⟩, ⟨0x0402, 12, 1, 3⟩, ⟨0x0403, 11, 1, 3⟩, ⟨0x0404, 11, 1, 3⟩, ⟨0x0405, 12, 1, 1⟩,
   ⟨0x0406, 11, 1, 3⟩, ⟨0x0407, 12, 1, 3⟩, ⟨0x0408, 12, 1, 7⟩, ⟨0x0409, 10, 0, 7⟩,
   ⟨0x0501, 12, 0, 7⟩, ⟨0x0502, 12, 1, 1⟩, ⟨0x0503, 12, 1, 1⟩, ⟨0x0504, 12, 1, 1⟩, ⟨0x0505, 12, 2, 3⟩,
   ⟨0x0601, 12, 0, 3⟩, ⟨0x0602, 12, 1, 3⟩, ⟨0x0701, 12, 0, 3⟩, ⟨0x0702, 12, 0, 3⟩, ⟨0x0703, 12, 1, 3⟩,
   ⟨0x0704, 12, 1, 3⟩] ++
  [⟨0x0801, 12, 1, 3⟩, ⟨0x0802, 12, 0, 3⟩, ⟨0x0803, 12, 1, 3⟩, ⟨0x0901, 12, 3, 11⟩, ⟨0x0902, 12, 3, 11⟩,
   ⟨0x0903, 12, 3, 11⟩, ⟨0x0904, 12, 3, 1⟩, ⟨0x0905, 12, 3, 11⟩,
   ⟨0x0A01, 11, 1, 3⟩, ⟨0x0A02, 12, 2, 3⟩, ⟨0x0A03, 12, 1, 3⟩, ⟨0x0B01, 12, 0, 3⟩, ⟨0x0B02, 12, 2, 3⟩,
   ⟨0x0B03, 12, 2, 1⟩, ⟨0x0C01, 12, 0, 7⟩, ⟨0x0C02, 12, 3, 3⟩, ⟨0x0C03, 12, 3, 3⟩, ⟨0x0D01, 12, 0, 3⟩,
   ⟨0x0D02, 12, 2, 3⟩, ⟨0x0D03, 12, 0, 3⟩, ⟨0x0E01, 12, 0, 3⟩, ⟨0x0E02, 12, 1, 7⟩, ⟨0x0F01, 12, 3, 11⟩,
   ⟨0x0F02, 12, 2, 3⟩, ⟨0x0F03, 12, 2, 3⟩]

/-- An opcode's row. -/
def opInfo (c : Nat) : Option OpInfo := opTable.find? (fun o => o.code = c)

/-- The bit of the module's state in `OpInfo.states`; 0 while no packet is acted on. -/
def Mode.bit : Mode → Nat
  | .run => 1 | .halt => 2 | .park => 4 | .recovery => 8
  | .off | .reset | .starting => 0

/-- Opcodes that the boot ROM answers in RECOVERY (R294): the session group, GET_STATUS, RESET and UPD_*. -/
def recoveryOp (c : Nat) : Bool := [1, 2, 3, 4, 0x0201, 0x0F01, 0x0901, 0x0902, 0x0903, 0x0904, 0x0905].contains c

/-- Opcodes executed over untagged SPI in the provisioning state (R279). -/
def provOp (c : Nat) : Bool := [1, 3, 4, 0x0201, 0x0301, 0x0302, 0x0303].contains c

/-- Opcodes the owner lock never bars although their role is above MONITOR, or that it names (R285). -/
def lockFree (c : Nat) : Bool := [0x0409, 0x0601, 0x0703, 0x0704, 0x0701, 0x0702].contains c

/-- Opcodes that may be bay-wide (R284). -/
def bayWideOp (c : Nat) : Bool := [0x0409, 0x0004, 0x0201, 0x0203, 0x0D01].contains c

/-- The result of an opcode: a reply now, a reply later, or none. -/
inductive HRes where
  | reply (status jobid : Nat) (payload : List Byte)
  | later
  deriving DecidableEq, Repr

/-- Status codes of Table 13.7. -/
def stOk : Nat := 0x0000
def stAccepted : Nat := 0x0001
def stBadOpcode : Nat := 0x0010
def stBadLength : Nat := 0x0011
def stBadParam : Nat := 0x0012
def stAuthFail : Nat := 0x0020
def stLocked : Nat := 0x0021
def stRefused : Nat := 0x0030
def stBusy : Nat := 0x0031
def stTileFault : Nat := 0x0040
def stNotBellwether : Nat := 0x0050
def stTimeout : Nat := 0x0060
def stQueueFull : Nat := 0x0070
def stInternal : Nat := 0x00FF

/-- OK with a payload. -/
def HRes.ok (payload : List Byte) : HRes := .reply stOk 0 payload

/-- ACCEPTED with a job. -/
def HRes.job (id : Nat) : HRes := .reply stAccepted id []

/-- An error with DETAIL: REASON and OFFSET (R286). -/
def HRes.err (status reason offset : Nat) : HRes := .reply status 0 (leBytes 2 reason ++ leBytes 2 offset)

/-- An error that names no field. -/
def HRes.no (status reason : Nat) : HRes := .err status reason 0xFFFF

/-- REFUSED_STATE with a reason (Table 14.1). -/
def HRes.refused (reason : Nat) : HRes := .no stRefused reason

/-- The position a reply carries as TARGET: this module's, 0xFF where it has none (Table 13.2). ROLE 3 is standalone. -/
def State.position (s : State) : Nat :=
  if s.flag F.BAY_POS_VALID && s.get F.BAY_POS_ROLE != 3 then s.get F.BAY_POS_POS else 0xFF

/-- The bytes of a packet: header, payload, tag and CRC (R275, R276). -/
def Pkt.bytes (p : Pkt) : List Byte :=
  let h := leBytes 2 0x4C5A ++ leBytes 1 1 ++ leBytes 1 p.flags ++ leBytes 1 p.session ++ leBytes 1 p.cls ++ leBytes 2 p.seq
    ++ leBytes 2 p.opcode ++ leBytes 1 p.target ++ [0] ++ leBytes 2 p.payload.length ++ leBytes 2 p.status
    ++ leBytes 2 p.jobid ++ [0, 0] ++ p.payload
  let b := if p.key = [] then h else h ++ (hmac p.key h).take 16
  b ++ leBytes 4 (crc32c b)

/-- A payload cut into parts of at most 1,400 bytes (R286); at least one part. -/
def parts : Nat → List Byte → List (List Byte)
  | 0, p => [p]
  | n + 1, p => if p.length ≤ 1400 then [p] else p.take 1400 :: parts n (p.drop 1400)

/-- The packets of a reply (R286): flags REPLY, AUTH, MORE, ERR. -/
def State.replyPkts (s : State) (id : ReqId) (status jobid : Nat) (payload : List Byte) : List Pkt :=
  let key := if id.tagged then (nth {} s.host.sess id.session).key else []
  let err := if status = stOk ∨ status = stAccepted then 0 else 16
  let ps := parts 64 payload
  (ps.zipIdx).map (fun (p, i) =>
    { flags := 1 + (if key = [] then 0 else 4) + (if i + 1 < ps.length then 8 else 0) + err, session := id.session,
      cls := id.cls, seq := id.seq, opcode := id.op, target := s.position, status := status, jobid := jobid,
      payload := p, key := key })

/-- A packet enters the SPI output stream; into an empty one it makes the LEVEL source active anew, which goes to its own target where that is
awake (R355). (DEDUCED: log entry 55) -/
def State.toSpi (s : State) (p : Pkt) : State :=
  { s with
    host := { s.host with spiOut := s.host.spiOut ++ [p] },
    evr := { s.evr with moved := if s.host.spiOut.isEmpty && !s.asleep (F.EVR_TGT_TGT.of (s.tgtWord 0) - 8) then s.evr.moved.filter (· ≠ 0)
                                 else s.evr.moved } }

/-- Discard the oldest reply of a session from the SPI stream. -/
def dropOldest (n : Nat) : List Pkt → List Pkt
  | [] => []
  | p :: t => if p.session = n && p.flags % 2 = 1 then t else p :: dropOldest n t

/-- LOST of an event packet (Table 13.8), and the packet with `n` more. -/
def Pkt.lost (p : Pkt) : Nat := uAt p.payload 3 1
def Pkt.lostMore (p : Pkt) (n : Nat) : Pkt :=
  { p with payload := p.payload.take 3 ++ leBytes 1 (min 255 (p.lost + n)) ++ p.payload.drop 4 }

/-- The next event of a session in the SPI stream counts `n` more discarded before it. -/
def moreLost (n k : Nat) : List Pkt → List Pkt
  | [] => []
  | p :: t => if p.session = n && p.flags % 2 = 0 then p.lostMore k :: t else p :: moreLost n k t

/-- Discard the oldest event of a session from the SPI stream; the next one of the session counts it in LOST, with what it counted. -/
def dropEvent (n : Nat) : List Pkt → List Pkt
  | [] => []
  | p :: t => if p.session = n && p.flags % 2 = 0 then moreLost n (p.lost + 1) t else p :: dropEvent n t

/-- The event of session `n` in the SPI stream that stands after `i` others counts `k` more discarded before it. -/
def lostAt (n k : Nat) : Nat → List Pkt → List Pkt
  | _, [] => []
  | 0, p :: t => if p.session = n && p.flags % 2 = 0 then p.lostMore k :: t else p :: lostAt n k 0 t
  | i + 1, p :: t => p :: lostAt n k (if p.session = n && p.flags % 2 = 0 then i else i + 1) t

/-- A list without the matching elements number `first` … `first + count − 1`. -/
def cutBy {α : Type} (p : α → Bool) : Nat → Nat → List α → List α
  | _, _, [] => []
  | first, count, a :: t =>
    if !p a then a :: cutBy p first count t
    else if 0 < first then a :: cutBy p (first - 1) count t
    else if 0 < count then cutBy p 0 (count - 1) t
    else a :: t

/-- Events of session `n` in the SPI stream are discarded without leave of the stream: the next one there, else the session's next event, counts
them in LOST, with what they counted (Table 13.8). (DEDUCED: log entry 20) -/
def State.spiEventsCut (s : State) (n first count : Nat) : State :=
  let ev := fun (p : Pkt) => p.session == n && p.flags % 2 == 0
  let k := (((s.host.spiOut.filter ev).drop first).take count).foldl (fun a p => a + p.lost + 1) 0
  let left := cutBy ev first count s.host.spiOut
  if first < (left.filter ev).length then { s with host := { s.host with spiOut := lostAt n k first left } }
  else { s with host := { s.host with spiOut := left, sess := modNth s.host.sess n (fun (x : Session) => { x with lost := min 255 (x.lost + k) }) } }

/-- A reply packet enters a session's reply queue, on the transport of its request; the oldest of 16 makes room and is counted
(R273, R288). -/
def State.queueReply (s : State) (n : Nat) (via : Via) (src : Nat) (p : Pkt) : State :=
  if via = .spi then
    let mine := (s.host.spiOut.filter (fun q => q.session = n && q.flags % 2 = 1)).length
    if mine < 16 then s.toSpi p
    else ({ s with host := { s.host with spiOut := dropOldest n s.host.spiOut } }.toSpi p).count F.GLB_PKTERR_QFULL F.GLB_PKTERR_SAT |>.qLost (8 + n)
  else
    let x := nth {} s.host.sess n
    let put := fun (q : List RepPkt) => { s with host := { s.host with sess := modNth s.host.sess n (fun y => { y with replyq := q }) } }
    if x.replyq.length < 16 then put (x.replyq ++ [⟨via, src, p⟩])
    else ((put (x.replyq.drop 1 ++ [⟨via, src, p⟩])).count F.GLB_PKTERR_QFULL F.GLB_PKTERR_SAT).qLost (8 + n)

/-- A packet that belongs to no session's queue leaves at once, or through the SPI stream. -/
def State.sendFree (s : State) (via : Via) (src : Nat) (p : Pkt) : State :=
  match via with
  | .spi => s.toSpi p
  | v => s.emit (.packet v src p)

/-- The reply of an accepted request stands in the cache of R283, in the place its acceptance gave it. (DEDUCED: log entry 17) -/
def cachePut (seq : Nat) (ps : List Pkt) (l : List (Nat × List Pkt)) : List (Nat × List Pkt) :=
  l.map (fun c => if c.1 = seq then (seq, ps) else c)

/-- A request is accepted: one of the last four, its reply still to come (R283). (DEDUCED: log entry 17) -/
def cacheOpen (seq : Nat) (l : List (Nat × List Pkt)) : List (Nat × List Pkt) :=
  ((seq, []) :: l.filter (fun c => c.1 ≠ seq)).take 4

/-- Answer a request (R286): packets into the queue and, for a session or a provisioning context, into the cache of R283. -/
def State.answer (s : State) (id : ReqId) (status jobid : Nat) (payload : List Byte) : State :=
  let ps := s.replyPkts id status jobid payload
  if id.prov then
    let s1 := ps.foldl State.toSpi s
    { s1 with host := { s1.host with
        prov := modNth s1.host.prov id.session (fun c => { c with cache := cachePut id.seq ps c.cache }) } }
  else if id.tagged then
    let s1 := ps.foldl (fun a p => a.queueReply id.session id.via id.src p) s
    if id.bcast then s1
    else { s1 with host := { s1.host with
        sess := modNth s1.host.sess id.session (fun x => { x with cache := cachePut id.seq ps x.cache }) } }
  else ps.foldl (fun a p => a.sendFree id.via id.src p) s

/-- Answer with a result. -/
def State.giveRes (s : State) (id : ReqId) (r : HRes) : State :=
  match r with
  | .reply st job p => s.answer id st job p
  | .later => s

/-- The identity of a request for its reply. -/
def reqId (r : Req) (op : Nat) (prov : Bool) : ReqId :=
  { via := r.via, src := r.src, session := r.session, cls := r.cls, seq := r.seq, op := op,
    tagged := r.auth && !prov, bcast := r.target == 0xFE, prov := prov }

/-- The source address of a request, without its port (R273, R281). -/
def srcAddr (r : Req) : Nat := r.src / 65536

/-- AUTH_FAIL under R281: counted, untagged, without payload, at most one a second to a source address; the failures of
an address are kept for the lockout; a session awaiting AUTH becomes free by a failed AUTH. -/
def State.authFail (s : State) (r : Req) (op : Nat) : State :=
  let s0 := s.count F.GLB_PKTERR_AUTHERR F.GLB_PKTERR_SAT
  let s1 : State := if op = 2 then { s0 with host := { s0.host with sess := modNth s0.host.sess r.session (fun (x : Session) =>
      if x.st == .pending then x.freed else x) } } else s0
  let f := (s.now :: ((assoc? (srcAddr r) s.host.fails).getD [])).filter (fun a => decide (s.now < a + 60 * sec))
  let s2 := { s1 with host := { s1.host with fails := assocPut (srcAddr r) f s1.host.fails,
                                             lockout := if 10 ≤ f.length then assocPut (srcAddr r) s.now s1.host.lockout else s1.host.lockout } }
  let recent := match assoc? (srcAddr r) s.host.answered with
    | none => false
    | some a => decide (s.now < a + sec)
  if recent then s2
  else
    let id : ReqId := { reqId r op false with tagged := false }
    let s3 := (s2.replyPkts id stAuthFail 0 []).foldl (fun a p => a.sendFree id.via id.src p) s2
    { s3 with host := { s3.host with answered := assocPut (srcAddr r) s.now s3.host.answered } }

/-- The session of a request. -/
def State.session (s : State) (n : Nat) : Session := nth {} s.host.sess n

/-- Whether the session is open; BYE closes it at once, but for its own reply (R282). -/
def State.isOpen (s : State) (n : Nat) : Bool :=
  decide (n < 8) && (s.session n).st == .opened && !s.host.closing.any (fun c => c.1 == n && c.2.op == 3)

/-- Whether a request is executed untagged in a provisioning context (R279). -/
def State.provisional (s : State) (r : Req) : Bool := s.flag F.GLB_SESS_PROV && r.via == .spi && !r.auth

/-- Whether the owner lock bars an opcode for a session (R285). -/
def State.barred (s : State) (n : Nat) (o : OpInfo) : Bool :=
  match s.host.owner with
  | none => false
  | some h => h != n && decide (0 < o.role) && !lockFree o.code

/-- The number of a listen window's port: 1, 2 Ethernet, 3 SPI. -/
def viaPort : Via → Nat
  | .eth1 => 1
  | .eth2 => 2
  | .spi => 3

/-- The clock of the transport's port is good (R24); SPI runs on SYS. -/
def State.hostClock (s : State) (via : Via) : Bool :=
  match via with
  | .spi => true
  | .eth1 => s.domainGood 9
  | .eth2 => s.domainGood 10

/-- The transport carries Tchiris packets in the module's present state (R294, R374, Table 18.4). -/
def State.portOpen (s : State) (via : Via) : Bool :=
  let bit := match via with | .spi => 0 | .eth1 => 1 | .eth2 => 2
  !s.portHeld bit && match s.rst.mode with
  | .run | .halt => (s.get F.RST_OPT_HOSTPORT).testBit bit && s.hostClock via
  | .park => (s.get F.RST_OPT_HOSTPORT).testBit bit && s.rst.listen.any (fun w => w.1 == viaPort via)
  | .recovery => via != .eth2 && s.hostClock via
  | _ => false

/-- Acceptance of a request given straight to execution: steps 7 and 10 to 13 of Table 13.4. `none`: accepted. -/
def State.refusal (s : State) (op : Nat) (r : Req) : Option HRes :=
  match opInfo op with
  | none => some (.no stBadOpcode 0)
  | some o =>
    if s.rst.mode = .recovery && !recoveryOp op then some (.no stBadOpcode 0)
    else if r.target = 0xFE && !bayWideOp op then some (.no stBadOpcode 0)
    else if r.cls ≠ o.cls then some (.no stBadParam 0)
    else if (s.session r.session).slot < o.role then some (.no stAuthFail 0)
    else if s.barred r.session o then some (.no stLocked 0)
    else none

/-- The session takes an accepted request: L and the time of R282 and R283. (DEDUCED: log entry 17) -/
def State.accept (s : State) (r : Req) : State :=
  { s with host := { s.host with sess := modNth s.host.sess r.session (fun x =>
      if r.target = 0xFE then { x with bl := some r.seq, since := s.now }
      else { x with l := r.seq, since := s.now, cache := cacheOpen r.seq x.cache }) } }

/-- The request leaves its command queue, if it waits there. -/
def State.unqueue (s : State) (op : Nat) (r : Req) : State :=
  { s with host := { s.host with sess := modNth s.host.sess r.session (fun x =>
      { x with cmdq := x.cmdq.filter (fun q => !(q.req == r && q.op == op)) }) } }

/-- Whether the request waits in a command queue. -/
def State.queued (s : State) (op : Nat) (r : Req) : Bool :=
  (s.session r.session).cmdq.any (fun q => q.req == r && q.op == op)

/-- Format checks of R297: the payload's length, its zero padding bytes, its FLAGS byte with the bits it defines, and the walk of a payload
of items. -/
structure Fmt where
  len : List Byte → Bool
  pad : List Nat := []
  flagsAt : Option (Nat × Nat) := none
  walk : List Byte → Option HRes := fun _ => none

/-- A payload of exactly `n` bytes with zero bytes at the given offsets. -/
def Fmt.fixed (n : Nat) (pad : List Nat) : Fmt := { len := fun p => p.length == n, pad := pad }

/-- The first non-zero padding byte. -/
def badPad (p : List Byte) (pad : List Nat) : Option Nat := pad.find? (fun i => nth 0 p i != 0)

/-- The result of the format checks: `none` where they pass. -/
def Fmt.check (f : Fmt) (p : List Byte) : Option HRes :=
  if !f.len p then some (.no stBadLength 0)
  else match badPad p f.pad with
    | some i => some (.err stBadParam 0 i)
    | none => match f.flagsAt with
      | none => f.walk p
      | some (i, bits) => if (nth 0 p i).toNat &&& (0xFF ^^^ bits) ≠ 0 then some (.err stBadParam 0 i) else f.walk p

/-- Execution (R297, R294, R285): format, state, lock, then the opcode's own body. -/
def State.execute (s : State) (op : Nat) (r : Req) (id : ReqId) (fmt : Fmt)
    (body : ReqId → State → State × HRes) : State :=
  match fmt.check r.payload with
  | some e => s.giveRes id e
  | none =>
    match opInfo op with
    | none => s.giveRes id (.no stBadOpcode 0)
    | some o =>
      if o.states &&& s.rst.mode.bit = 0 then s.giveRes id (.refused 0x0001)
      else if !id.prov && s.barred r.session o then s.giveRes id (.no stLocked 0)
      else
        let (s1, res) := body id s
        s1.giveRes id res

/-- A packet executed in a listen window keeps it open (R374). -/
def State.touchWindow (s : State) (via : Via) : State :=
  if s.rst.mode = .park then
    { s with rst := { s.rst with listen := s.rst.listen.map (fun w => if w.1 = viaPort via then (w.1, s.now, w.2.2) else w) } }
  else s

/-- An answer to a request that belongs to no session: untagged, outside every cache. -/
def State.answerFree (s : State) (r : Req) (op : Nat) (res : HRes) : State := s.giveRes { reqId r op false with tagged := false } res

/-- A provisioning context takes an accepted request (R279). -/
def State.ctxAccept (s : State) (r : Req) : State :=
  { s with host := { s.host with prov := modNth s.host.prov r.session (fun c =>
    { used := true, since := s.now, l := r.seq, cache := cacheOpen r.seq (if c.used then c.cache else []) }) } }

/-- A request in a provisioning context in use, accepted or not, keeps it for another 60 s (R279). -/
def State.ctxTouch (s : State) (r : Req) : State :=
  { s with host := { s.host with prov := modNth s.host.prov r.session (fun c => if c.used then { c with since := s.now } else c) } }

/-- The result of steps 10 to 12 of Table 13.4 for a provisioning request. -/
def State.provRefusal (s : State) (op : Nat) (r : Req) : Option HRes :=
  match opInfo op with
  | none => some (.no stBadOpcode 0)
  | some o =>
    if !provOp op || (r.target == 0xFE && !bayWideOp op) || (s.rst.mode == .recovery && !recoveryOp op) then some (.no stBadOpcode 0)
    else if r.cls ≠ o.cls then some (.no stBadParam 0)
    else none

/-- Requests over Ethernet find the module closed while it is in the provisioning state (R279). -/
def State.provClosed (s : State) (r : Req) : Bool := s.flag F.GLB_SESS_PROV && r.via != .spi

/-- A host command at execution. Requests while no packet is acted on are discarded. A request that waits in its command
queue leaves it; one given straight to execution passes the checks of acceptance first. -/
def State.host_ (s : State) (op : Nat) (r : Req) (fmt : Fmt) (body : ReqId → State → State × HRes) : State :=
  if !s.portOpen r.via || s.s0Down then s
  else if s.provisional r then
    if 8 ≤ r.session then s.answerFree r op (.no stBadParam 0)
    else if s.queued op r then ((s.unqueue op r).touchWindow r.via).execute op r (reqId r op true) fmt body
    else
      let s1 := s.ctxAccept r
      match s1.provRefusal op r with
      | some e => s1.giveRes (reqId r op true) e
      | none => (s1.touchWindow r.via).execute op r (reqId r op true) fmt body
  else if s.provClosed r || !s.isOpen r.session || !r.auth then (s.unqueue op r).authFail r op
  else
    let id := reqId r op false
    if s.queued op r then ((s.unqueue op r).touchWindow r.via).execute op r id fmt body
    else
      let s1 := s.accept r
      match s1.refusal op r with
      | some e => s1.giveRes id e
      | none => (s1.touchWindow r.via).execute op r id fmt body

/-- The reason of lowest code among those that hold (R298). -/
def firstReason : List (Bool × Nat) → Option Nat
  | [] => none
  | (b, c) :: t => if b then some c else firstReason t

/-- An event of a session will enter its queue, or the SPI stream: the oldest of 32 makes room and is counted in LOST (R290). -/
def State.eventRoom (s : State) (n : Nat) : State :=
  let x := s.session n
  if x.via = .spi then
    if 32 ≤ (s.host.spiOut.filter (fun q => q.session == n && q.flags % 2 == 0)).length then
      { s with host := { s.host with spiOut := dropEvent n s.host.spiOut } }.qLost (16 + n)
    else s
  else if x.reliable && decide (32 ≤ x.eventq.length) then
    { s with host := { s.host with sess := modNth s.host.sess n (fun y =>
      { y with eventq := y.eventq.drop 1, lost := min 255 (y.lost + 1) }) } }.qLost (16 + n)
  else s

/-- An event packet enters a session's event queue, or the SPI stream where it is sent once (R289, R290). The session's event sequence
moves on. LOST goes on counting until a packet is delivered: at once where it is sent once, else by its acknowledgement. (DEDUCED: log entry 20) -/
def State.queueEvent (s : State) (n : Nat) (p : Pkt) : State :=
  let up := fun (f : Session → Session) => { s with host := { s.host with sess := modNth s.host.sess n f } }
  let x := s.session n
  match x.via with
  | .spi => (up (fun y => { y with evseq := p.seq, lost := 0 })).toSpi p
  | v => (up (fun y =>
      if y.reliable then { y with evseq := p.seq, eventq := y.eventq ++ [{ seq := p.seq, pkt := p, sends := 1, sentAt := s.now }] }
      else { y with evseq := p.seq, lost := 0 })).emit (.packet v x.src p)

/-- The payload of an event packet (Table 13.8). -/
def State.eventPayload (s : State) (num count lost ns : Nat) (detail : List Byte) : List Byte :=
  let tv := s.flag F.TIM_STAT_VALID
  leBytes 2 num ++ leBytes 1 count ++ leBytes 1 lost
    ++ leBytes 6 (if tv then ns / sec else 0) ++ [0, 0] ++ leBytes 4 (if tv then ns % sec else 0)
    ++ leBytes 4 s.opsec ++ detail

/-- An event packet of a session. -/
def State.eventPkt (s : State) (n num count ns status jobid : Nat) (detail : List Byte) : Pkt :=
  let x := s.session n
  { flags := 2 + (if x.key = [] then 0 else 4), session := n, cls := 12, seq := (x.evseq + 1) % 65536, opcode := 0x0700,
    target := s.position, status := status, jobid := jobid, payload := s.eventPayload num count x.lost ns detail, key := x.key }

/-- An event is sent to a session. -/
def State.sendEvent (s : State) (n num count ns status jobid : Nat) (detail : List Byte) : State :=
  let s1 := s.eventRoom n
  s1.queueEvent n (s1.eventPkt n num count ns status jobid detail)

/-- Completion of a job: its state, final status, end, and the event of R291 to its session. -/
def State.jobEnd (s : State) (id : Nat) (st : JobSt) (final : Nat) (detail : List Byte) : State :=
  match s.job? id with
  | none => s
  | some j =>
    if j.st ≠ .running then s
    else
      let s1 := s.jobMod id (fun j => { j with st := st, final := final, endedAt := s.now,
                                               value := if st = .done then j.total else j.value })
      if !s1.isOpen j.session then s1
      else
        s1.sendEvent j.session 0xFFFF 1 s1.quartzNs final id detail

end Sys2Proof.Machine
end

