-- ==== Sys2Proof/Machine/CanOps.lean ====
section
/-! DEFINITION. Shared operations of the CAN port: restart, rate detection, error confinement, logs and the transmit queues
(R327 to R336). -/

namespace Sys2Proof.Machine

/-! ## Queues and logs -/

/-- An entry of Q38 or Q39, the oldest of 32 making room (R336). -/
def push32 (q : List Word) (v : Nat) : List Word := (if q.length < 32 then q else q.drop 1) ++ [BitVec.ofNat 32 v]

/-- A state change is logged (R336). -/
def State.canLog (s : State) (code arg : Nat) : State :=
  let s1 := if s.can.logq.length < 32 then s else s.qLost 39
  { s1 with can := { s1.can with logq := push32 s.can.logq (code + 256 * arg + 65536 * (s.opsec % 65536)) } }

/-- A transmit frame is discarded and counted. -/
def State.canDrop (s : State) : State := (s.count F.CAN_CNT_TXDROP F.CAN_CNT_SAT).setB F.CAN_STAT_TXDROP_SEEN true

/-- The port takes part in traffic: MODE 1, or MODE 3 after adoption. -/
def State.canNormal (s : State) : Bool :=
  s.inService && (s.get F.CAN_CFG_MODE == 1 || (s.get F.CAN_CFG_MODE == 3 && s.get F.CAN_STAT_ABD == 2))

/-- Error-active or error-passive. -/
def State.canUp (s : State) : Bool := !s.portHeld 3 && (s.get F.CAN_STAT_STATE == 1 || s.get F.CAN_STAT_STATE == 2)

/-- The frame offered at arbitration: the oldest of the lowest-numbered queue that is not empty (R331). -/
def State.canOffer (s : State) : Option (Nat × CanFrame) :=
  (List.range 4).findSome? (fun q => (nth [] s.can.txq q).head?.map (fun f => (q, f)))

/-- The oldest entry of queue `q` is discarded and counted; one in transmission stays and the next oldest goes (R331). (DEDUCED: log entry 58) -/
def State.canEvict (s : State) (q : Nat) : State :=
  let kept := if s.can.onBus.any (fun x => x.1 == q) then 1 else 0
  if (nth [] s.can.txq q).length ≤ kept then s
  else State.canDrop { s with can := { s.can with txq := modNth s.can.txq q (fun l => l.take kept ++ l.drop (kept + 1)) } }

/-- A frame enters queue `q` (0 … 3 for Q34 … Q37): discarded while the port is bus-off, listen-only or stopped (R330); a full
queue gives up its oldest (R331). -/
def State.canPut (s : State) (q : Nat) (f : CanFrame) : State :=
  if !(s.canNormal && s.canUp) then s.canDrop
  else
    let s1 := if (nth [] s.can.txq q).length < 8 then s else (s.canEvict q).qLost (34 + q)
    { s1 with can := { s1.can with txq := modNth s1.can.txq q (fun l => l ++ [f]) } }

/-- A classical frame of eight bytes with a base identifier. -/
def classic (id : Nat) (data : List Byte) : CanFrame := { id := id, ide := false, fdf := false, brs := false, esi := false, data := data }

/-! ## Bit timing and detection (R327, R329) -/

/-- Rate in kbit/s times its divisor: the timing rule of R327 for one phase, with fields holding value − 1. -/
def quanta (brp ts1 ts2 : Nat) : Nat := (brp + 1) * (1 + (ts1 + 1) + (ts2 + 1))

/-- Whether a pair of timing words keeps the rules of R327. -/
def timingOk (b d : Word) : Bool :=
  let n := quanta (F.CAN_BTR_BRP.of b) (F.CAN_BTR_TSEG1.of b) (F.CAN_BTR_TSEG2.of b)
  let m := quanta (F.CAN_DBTR_DBRP.of d) (F.CAN_DBTR_DTSEG1.of d) (F.CAN_DBTR_DTSEG2.of d)
  decide (80 ≤ n) && decide (n ≤ 640) && decide (16 ≤ m) && decide (m ≤ n)
    && decide (F.CAN_BTR_SJW.of b ≤ F.CAN_BTR_TSEG2.of b) && decide (F.CAN_DBTR_DSJW.of d ≤ F.CAN_DBTR_DTSEG2.of d)
    && decide (1 ≤ F.CAN_BTR_TSEG1.of b)

/-- Timing words of a candidate (Table 16.1): BRP and quanta that give the rates at the sample points of the reset values, 80 %
and 75 % as nearly as whole quanta allow. -/
def candTiming (i : Nat) (written : Word × Word) : Word × Word :=
  let nom := fun (q : Nat) => BitVec.ofNat 32 ((q / 5 - 1) * 16777216 + (q / 5 - 1) * 65536 + (q - 1 - q / 5 - 1) * 256)
  let dat := fun (q brp : Nat) =>
    BitVec.ofNat 32 (268435456 + (q / 4 - 1) * 16777216 + (q / 4 - 1) * 65536 + (q - 1 - q / 4 - 1) * 256 + (brp - 1))
  match i with
  | 0 => (nom 160, dat 40 1)
  | 1 => (nom 160, dat 16 1)
  | 2 => (BitVec.ofNat 32 ((nom 160).toNat + 1), dat 40 2)
  | 3 => (BitVec.ofNat 32 ((nom 160).toNat + 1), dat 40 1)
  | 4 => (nom 80, dat 16 1)
  | 5 => (nom 80, dat 40 1)
  | 6 => (BitVec.ofNat 32 ((nom 160).toNat + 3), dat 40 4)
  | _ => written

/-- The lowest enabled candidate from `i` on. -/
def State.candFrom (s : State) (i : Nat) : Option Nat :=
  (List.range 8).find? (fun j => decide (i ≤ j) && (s.get F.CAN_CFG_ABDMASK).testBit j)

/-- A candidate is applied. -/
def State.candApply (s : State) (i : Nat) : State :=
  { s.set F.CAN_STAT_CAND i with can := { s.can with good := 0, brs := false, candAt := s.now } }

/-- The search moves on; after the last enabled candidate the pass has failed and begins again (R329). -/
def State.candNext (s : State) : State :=
  match s.candFrom (s.get F.CAN_STAT_CAND + 1) with
  | some i => s.candApply i
  | none => ((s.setB F.CAN_STAT_ABDFAIL_SEEN true).canLog 6 0).candApply ((s.candFrom 0).getD 0)

/-! ## Restart (R328) -/

/-- The port restarts. (DEDUCED: log entry 58) -/
def State.canRestart (s : State) : State :=
  let m := s.get F.CAN_CFG_MODE
  let s1 := { s with can := { s.can with txq := [[], [], [], []], onBus := none, errq := [], logq := [], integrating := true, limitAt := s.now } }
  let s2 := ((((s1.set F.CAN_ERRCNT_TEC 0).set F.CAN_ERRCNT_REC 0).setB F.CAN_STAT_RECOV false).setB F.CAN_STAT_HELD false).setB
    F.CAN_STAT_DATAVER false
  let s3 := (s2.set F.CAN_STAT_STATE (if m = 0 then 0 else 1)).canLog 7 0
  if m = 3 then (s3.set F.CAN_STAT_ABD 1).candApply ((s3.candFrom 0).getD 0) else s3.set F.CAN_STAT_ABD 0

/-- The port stops in PARK with its queues flushed (R337). -/
def State.canStop (s : State) : State :=
  ({ s with can := { s.can with txq := [[], [], [], []], onBus := none, errq := [], logq := [], integrating := true } }.set F.CAN_STAT_STATE 0).set
    F.CAN_STAT_ABD 0

end Sys2Proof.Machine
end

