-- ==== Sys2Proof/Machine/PrtOps.lean ====
section
/-! DEFINITION. Shared operations of protection: stopping the loop, flint's latches, coils, the contactor sequences, cell
checks and the limit entries (R177, R185 to R198). -/

namespace Sys2Proof.Machine

/-! ## Profile header and limits -/

/-- The stored table of a type for the selected profile, its data without the 16-byte record header (Tables 5.2, 5.3). -/
def State.table? (s : State) (ty : Nat) : Option (List Byte) :=
  (assoc? (256 * s.est.prof + ty) s.est.tabs).map (·.drop 16)

/-- The impedance reference in force: the type 0x05 record whose CRC the profile header names (R155). -/
def State.impRef? (s : State) : Option (List Byte) :=
  match assoc? (256 * s.est.prof + 1) s.est.tabs, assoc? (256 * s.est.prof + 5) s.est.tabs with
  | some h, some x => if uAt h 140 4 ≠ 0 ∧ uAt h 140 4 = uAt x 12 4 then some (x.drop 16) else none
  | _, _ => none

/-- The tables and the profile selected now take effect for all groups at once (R119). -/
def State.latchTables (s : State) : State :=
  if s.est.tabs = s.flash.tables ∧ s.est.prof = s.get F.EST_CFG_PROFILE then s
  else { s with est := { s.est with tabs := s.flash.tables, prof := s.get F.EST_CFG_PROFILE } }

/-- Whether the selected profile is complete: types 1 to 4 present and named by CRC in the header (R118). -/
def profileComplete (tables : List (Nat × List Byte)) (prof : Nat) : Bool :=
  match assoc? (256 * prof + 1) tables, assoc? (256 * prof + 2) tables, assoc? (256 * prof + 3) tables,
      assoc? (256 * prof + 4) tables with
  | some h, some o, some y, some p =>
    uAt h 128 4 == uAt o 12 4 && uAt h 132 4 == uAt y 12 4 && uAt h 136 4 == uAt p 12 4
  | _, _, _, _ => false

/-- No complete profile is selected (R121). -/
def State.noProfile (s : State) : Bool := !profileComplete s.est.tabs s.est.prof

/-- CAPNOM of the selected profile in mAh, which is also 1 C in mA; 0 without a profile. -/
def State.capnom (s : State) : Nat :=
  if s.noProfile then 0 else match s.table? 1 with
    | some h => uAt h 16 4
    | none => 0

/-- A current of x × 0.001 C in mA. -/
def State.cRate (s : State) (x : Nat) : Int := (x * s.capnom / 1000 : Nat)

/-- The charge current CHGRATE × C of the learning job in mA. -/
def State.lrnCharge (s : State) : Int := s.cRate s.lrn.chgRate

/-- The rated current in mA. -/
def State.irated (s : State) : Int := (s.get F.CTL_SPCFG_IRATED * 1000 : Nat)

/-- The reserve taper current TAPER × C in mA, rounded down (R125). -/
def State.taper (s : State) : Int := (s.get F.EST_RES_TAPER * s.capnom / 1000 : Nat)

/-- The entry value that does not limit. -/
def noLimit : Int := 0x7FFFFFFF

/-- Write entry `i` of the limit stack (R192). While entry 4 or 5 reads 0 the instant it began is kept (R197). -/
def State.entryPut (s : State) (i : Nat) (dis chg : Int) : State :=
  let s1 := (s.setI (F.PRT_ENT_DIS.ix8 i) dis).setI (F.PRT_ENT_CHG.ix8 i) chg
  if i = 4 ∨ i = 5 then
    let zero := fun (k : Nat) => s1.getI (F.PRT_ENT_DIS.ix8 k) == 0 && s1.getI (F.PRT_ENT_CHG.ix8 k) == 0
    { s1 with prt := { s1.prt with zeroAt := if zero 4 || zero 5 then some (s.prt.zeroAt.getD s.now) else none } }
  else s1

/-- An entry's source writes it; during a supervisor-only reset entries 1, 3, 4, 5, 7 and 8 hold (R250). -/
def State.entry (s : State) (i : Nat) (dis chg : Int) : State :=
  if s.lan.supDown && [1, 3, 4, 5, 7, 8].contains i then s else s.entryPut i dis chg

/-- Entry 5, measurement integrity (Table 8.3). -/
def State.integrity (s : State) : State :=
  if s.flag F.CVI_SH_STAT_NONE || s.flag F.RING_STAT_GRACE_EXP then s.entry 5 0 0
  else if (s.get F.RING_STAT_UNREACH == 1 && decide (2 ≤ s.get F.RING_CTRL_LEN)) || s.flag F.ACQ_STAT_SEGMIS
      || s.flag F.ACQ_STAT_STRMIS || s.flag F.CVI_SH_STAT_SWERR then s.entry 5 s.taper s.taper
  else s.entry 5 noLimit noLimit

/-! ## Jobs that the converter carries -/

/-- REST_GRANT takes effect (R130): a window opens or is replaced; a length of 0 makes the end of an open window due now. (DEDUCED: log entry 42) -/
def State.restGrant (s : State) (len : Nat) : State :=
  if len = 0 then { s.setB F.EST_FLAGS_RESTING false with est := { s.est with restEnd := s.est.restEnd.map (fun (_ : Nat) => s.now) } }
  else
    { s.setB F.EST_FLAGS_RESTING true with
      est := { s.est with restEnd := some (s.now + len * sec), restClean := if s.est.restEnd.isSome then s.est.restClean else true } }

/-- A NET value arrives (R173); it ends a timeout. -/
def State.netTake (s : State) (v : Int) : State :=
  { s with ctl := { s.ctl with net := some (v, s.now) } }.setB F.CTL_SPSTAT_NETTMO false

/-- SETPOINT and SETPOINT_SOURCE wait for the next control sample instant (R304). -/
def State.setpointHold (s : State) (op : Nat) (p : List Byte) : State :=
  { s with ctl := { s.ctl with spNext := s.ctl.spNext ++ [(op, p)] } }

/-- SETPOINT_SOURCE writes SRC, PMODE and LOCAL together (R304). (DEDUCED: log entry 36) -/
def State.sourceTake (s : State) (p : List Byte) : State :=
  ((s.set F.CTL_SPCFG_SRC (uAt p 0 1)).set F.CTL_SPCFG_PMODE (uAt p 1 1)).set F.CTL_SPLOCAL (uAt p 4 4)

/-- An allocation is applied at control sample instant `n`. -/
def State.allocAt (s : State) (n : Nat) : Bool := s.bay.appliedNo == some n

/-- At control sample instant `n` SETPOINT stores its value as the NET value and SETPOINT_SOURCE its three values (R304). Where an allocation is
applied at the same instant, that is used, and the value of SETPOINT is kept: it is stored, as the later one, at the next instant
(Table 14.18). (DEDUCED: log entry 36) -/
def State.setpointTake (s : State) (n : Nat) : State :=
  let act := fun (a : State) (x : Nat × List Byte) =>
    if x.1 = 0x0403 then (if s.allocAt n then a.setpointHold x.1 x.2 else a.netTake (iAt x.2 0 4)) else a.sourceTake x.2
  s.ctl.spNext.foldl act { s with ctl := { s.ctl with spNext := [] } }

/-- What a learning job stores until it ends. -/
def State.keepLater (s : State) (op : Nat) (p : List Byte) : State := { s with ctl := { s.ctl with later := s.ctl.later ++ [(op, p)] } }

/-- What was stored while a learning job ran takes effect in order (Table 6.4). -/
def State.applyLater (s : State) : State :=
  let act := fun (a : State) (x : Nat × List Byte) =>
    if x.1 = 0x0403 ∨ x.1 = 0x0404 then a.setpointHold x.1 x.2 else a.restGrant (uAt x.2 0 2)
  s.ctl.later.foldl act { s with ctl := { s.ctl with later := [] } }

/-- The learning job is over: the selected set-point source is back. -/
def State.lrnOver (s : State) : State :=
  ({ s with lrn := { s.lrn with job := none, setp := 0 } }.set F.EST_LRN_STAT_PHASE 0).applyLater

/-- A learning job fails with a code (R147). -/
def State.lrnFail (s : State) (code : Nat) : State :=
  match s.lrn.job with
  | none => s
  | some id =>
    (((s.lrnOver.set F.EST_LRN_STAT_LASTDQ code).setB F.EST_LRN_STAT_JOBFAIL_SEEN true).raise 36 []).jobEnd id .failed stRefused []

/-- Jobs leave the table with the memory that held it (R293): what hardware carries out goes on without its job, what the supervisor carries
out ends; a learning job fails with `code`. -/
def State.jobsLost (s0 : State) (gone : Nat → Bool) (code : Nat) : State :=
  let s := if s0.lrn.job.any gone then s0.lrnFail code else s0
  let left := fun (o : Option Nat) => o.filter (fun j => !gone j)
  { s with
    jobs := s.jobs.filter (fun j => !gone j.id),
    imp := { s.imp with job := left s.imp.job }, cvi := { s.cvi with cmJob := left s.cvi.cmJob },
    til := { s.til with scrub := s.til.scrub.filter (fun x => !gone x.2.2.2) },
    prt := { s.prt with seq := s.prt.seq.map (fun (q : Seq) => { q with job := left q.job }) },
    lan := { s.lan with testJob := left s.lan.testJob }, upd := { s.upd with job := left s.upd.job } }

/-- The sweep in progress ends: the sinusoid stops and the points not reached stay NOT_MEASURED (Table 6.6). -/
def State.impEnd (s : State) (st : JobSt) (final : Nat) : State :=
  let s1 := (({ s with
    imp := { s.imp with on := false, job := none, pts := [], iSer := [], vSer := [], stale := [], stopping := false, armed := false,
                        ready := false },
    ring := { s.ring with cmds := s.ring.cmds.filter (fun c => c.use != 4) } }.set F.EST_IMP_STAT_STATE 0).set F.EST_IMP_STAT_AUTO 0)
  match s.imp.job with
  | none => s1
  | some id => s1.jobEnd id st final []

/-- Whether a sweep, host or automatic, is in progress. -/
def State.sweeping (s : State) : Bool := !s.imp.pts.isEmpty

/-- A trip, a safety demand or an opened contactor ends a learning job and a sweep (Tables 6.4, 6.6). -/
def State.endCurrentJobs (s : State) : State :=
  let s1 := s.lrnFail 0
  if s1.sweeping then s1.impEnd .failed stRefused else s1

/-! ## The loop and the gates -/

/-- The loop stops (R177): gates low, STATE STOPPED, RUN 0, x̂ discarded. CONV_EN falls 10 µs later by its own row. -/
def State.loopStop (s : State) : State :=
  let s1 := { s with ctl := { s.ctl.compare s.now s.now [0, 0, 0, 0] with
    gatesLow := true, lowAt := if s.ctl.gatesLow then s.ctl.lowAt else s.now, x := [], stopReq := false, warm := 0 } }
  (s1.set F.CTL_CTRL_RUN 0).set F.CTL_STAT_STATE 0

/-- Whether the loop is stopped. -/
def State.loopStopped (s : State) : Bool := s.get F.CTL_STAT_STATE == 0

/-- The converter is disabled: the loop is stopped and CONV_EN is low. -/
def State.convOff (s : State) : Bool := s.loopStopped && !s.convLevel

/-! ## Contactors -/

/-- Whether contactor `k` (0 KP, 1 KN, 2 KPC) reads back closed. -/
def State.fb (s : State) (k : Nat) : Bool := (s.get F.PRT_CONTSTAT_FB).testBit k

/-- Whether coil `k` is on. -/
def State.coil (s : State) (k : Nat) : Bool := (s.get F.PRT_CONTSTAT_COIL).testBit k

/-- Whether all three contactors read back open. -/
def State.allOpen (s : State) : Bool := s.get F.PRT_CONTSTAT_FB == 0

/-- The connection state changes; entry 9 follows it (Table 8.3). (DEDUCED: log entry 49) -/
def State.setConn (s : State) (c : Nat) : State :=
  let s1 := s.set F.PRT_CONTSTAT_CONN c
  if c = 4 then s1.entry 9 noLimit noLimit else s1.entry 9 0 0

/-- A coil switches on, full for PULL ms (R195). -/
def State.coilOn (s : State) (k : Nat) : State :=
  { s.set F.PRT_CONTSTAT_COIL (setBit (s.get F.PRT_CONTSTAT_COIL) k true) with
    prt := { s.prt with coilAt := modNth s.prt.coilAt k (fun _ => s.now), hold := modNth s.prt.hold k (fun _ => false) } }

/-- A coil switches off; a running open sequence keeps the instant. -/
def State.coilOff (s : State) (k : Nat) : State :=
  if !s.coil k then s
  else
    { s.set F.PRT_CONTSTAT_COIL (setBit (s.get F.PRT_CONTSTAT_COIL) k false) with
      prt := { s.prt with
        hold := modNth s.prt.hold k (fun _ => false),
        seq := s.prt.seq.map (fun q => { q with offAt := modNth q.offAt k (fun _ => some s.now) }) } }

/-- All three coils off. -/
def State.coilsOff (s : State) : State := ((s.coilOff 0).coilOff 1).coilOff 2

/-- A WELD bit is set and its event raised (R198). -/
def State.weld (s : State) (k : Nat) : State :=
  let s1 := s.set { F.PRT_CONTSTAT_WELD_P with lo := 16 + k } 1
  s1.raise 50 []

/-- Any WELD bit. -/
def State.welded (s : State) : Bool :=
  s.flag F.PRT_CONTSTAT_WELD_P || s.flag F.PRT_CONTSTAT_WELD_N || s.flag F.PRT_CONTSTAT_WELD_PC

/-- End the running sequence's job. -/
def State.seqJob (s : State) (q : Seq) (ok : Bool) : State :=
  let s1 := { s with prt := { s.prt with seq := none } }
  match q.job with
  | none => s1
  | some id => s1.jobEnd id (if ok then .done else .failed) (if ok then stOk else stRefused) []

/-- A close sequence fails at its step: coils off at once, CONN OPEN, FAILSTEP (R196). -/
def State.closeFail (s : State) (q : Seq) : State :=
  (((s.coilsOff.setConn 0).set F.PRT_CONTSTAT_FAILSTEP q.step).seqJob q false)

/-- The magnitude of the string current of the last control sample, mA. -/
def State.iAbs (s : State) : Nat := s.ctl.iNow.natAbs

/-- Put a sequence in force and show its step as the job's progress. -/
def State.seqPut (s : State) (q : Seq) : State :=
  let s1 := { s with prt := { s.prt with seq := some q } }
  match q.job with
  | none => s1
  | some id => s1.jobProgress id q.step 6

/-- ms of a register field as ns. -/
def State.ms (s : State) (f : Fld) : Nat := s.get f * msec

/-- One transition of the close sequence of Table 8.4 that is due now; `none` when nothing is. -/
def State.closeStep (s : State) (q : Seq) : Option State :=
  let tmo := s.ms F.PRT_CONT_KFBTMO
  let i := s.iAbs
  let past := decide (s.get F.PRT_CFG_PCIMAX * 1000 < i)
  match q.step with
  | 2 =>
    match q.fbAt with
    | none => if q.at_ + tmo ≤ s.now then some (s.closeFail q) else none
    | some a =>
      if s.get F.PRT_PRECH_PCWELD * 100 ≤ i then some ((s.weld 1).closeFail q)
      else if a + 20 * msec ≤ s.now then
        some ((s.coilOn 1).seqPut { q with step := 3, at_ := s.now, knAt := s.now, fbAt := none, lowAt := none })
      else none
  | 3 =>
    if past then some ((s.weld 0).closeFail q)
    else match q.fbAt with
      | none => if q.at_ + tmo ≤ s.now then some (s.closeFail q) else none
      | some a =>
        if s.get F.PRT_PRECH_PCIMIN * 100 < i then
          some (s.seqPut { q with step := 4, at_ := a, lowAt := none })
        else if a + 20 * msec ≤ s.now then some (s.closeFail q) else none
  | 4 =>
    if past then some ((s.weld 0).closeFail q)
    else
      let low := decide (i < s.get F.PRT_PRECH_PCEND * 100)
      let pcEnd := q.at_ + s.get F.PRT_PRECH_PCMAX * 100 * msec
      match q.lowAt with
      | some a =>
        if !low then some (s.seqPut { q with lowAt := none })
        else if a + 10 * msec ≤ s.now && decide (a + 10 * msec ≤ pcEnd) then
          some (((s.coilOn 0).setConn 3).seqPut { q with step := 5, at_ := s.now, fbAt := none, lowAt := none })
        else if pcEnd ≤ s.now then some (s.closeFail q)
        else none
      | none =>
        if low then some (s.seqPut { q with lowAt := some s.now })
        else if pcEnd ≤ s.now then some (s.closeFail q) else none
  | 5 =>
    match q.fbAt with
    | none => if q.at_ + tmo ≤ s.now then some (s.closeFail q) else none
    | some a => some (s.seqPut { q with step := 6, at_ := a, fbAt := none })
  | 6 =>
    if s.coil 2 then
      if q.at_ + 20 * msec ≤ s.now then some ((s.coilOff 2).seqPut { q with knAt := s.now }) else none
    else if !s.fb 2 then some ((s.setConn 4).seqJob q true)
    else if q.knAt + tmo ≤ s.now then some ((s.weld 2).closeFail q) else none
  | _ => none

/-- A coil of an open sequence goes off, one that was off already counts from now. -/
def State.openCoil (s : State) (k : Nat) : State :=
  let s1 := s.coilOff k
  { s1 with prt := { s1.prt with seq := s1.prt.seq.map (fun q => { q with offAt := modNth q.offAt k (fun o => some (o.getD s.now)) }) } }

/-- The feedback of contactor `k` opened later than KFBTMO after its coil-off, or is closed still (R197, step 5). -/
def State.openLate (s : State) (q : Seq) (k : Nat) : Bool :=
  s.fb k || (match nth none q.offAt k, nth none q.openAt k with
    | some a, some b => decide (a + s.ms F.PRT_CONT_KFBTMO < b)
    | _, _ => false)

/-- Whether contactor `k` of an open sequence has opened, or its feedback time has passed. -/
def State.opened (s : State) (q : Seq) (k : Nat) : Bool :=
  !s.fb k || (match nth none q.offAt k with
    | none => false
    | some a => decide (a + s.ms F.PRT_CONT_KFBTMO ≤ s.now))

/-- One transition of the open sequence of R197 that is due now. -/
def State.openStep (s : State) (q : Seq) : Option State :=
  match q.step with
  | 1 =>
    let low := decide (s.iAbs < s.get F.PRT_CFG_IOPEN * 100)
    let stop := fun (a : State) => a.loopStop.seqPut { q with step := 2, at_ := s.now, lowAt := none }
    match q.lowAt with
    | some a =>
      if !low then some (s.seqPut { q with lowAt := none })
      else if a + 5 * msec ≤ s.now then some (stop s)
      else if q.at_ + s.ms F.PRT_CFG_OPENTMO ≤ s.now then some (stop (s.setB F.PRT_CONTSTAT_UNDERLOAD true)) else none
    | none =>
      if low then some (s.seqPut { q with lowAt := some s.now })
      else if q.at_ + s.ms F.PRT_CFG_OPENTMO ≤ s.now then some (stop (s.setB F.PRT_CONTSTAT_UNDERLOAD true)) else none
  | 2 =>
    if q.at_ + msec ≤ s.now then
      let s1 := (s.openCoil 0).openCoil 2
      some (s1.seqPut { (s1.prt.seq.getD q) with step := 3, at_ := s.now })
    else none
  | 3 =>
    if q.at_ + s.ms F.PRT_CONT_KNDLY ≤ s.now then
      let s1 := s.openCoil 1
      some (s1.seqPut { (s1.prt.seq.getD q) with step := 5, at_ := s.now })
    else none
  | 5 =>
    if s.opened q 0 && s.opened q 1 && s.opened q 2 then
      let late := [0, 1, 2].filter (s.openLate q)
      let s1 := late.foldl State.weld s
      some ((s1.setConn 0).seqJob q (late.isEmpty && !q.forced))
    else none
  | _ => none

/-- Run the transitions of the contactor sequence that are due, at most `n`. (DEDUCED: log entry 48) -/
def State.seqPoll : Nat → State → State
  | 0, s => s
  | n + 1, s =>
    match s.prt.seq with
    | none => s
    | some q =>
      match (match q.kind with | .close => s.closeStep q | .open_ => s.openStep q) with
      | none => s
      | some s1 => State.seqPoll n s1

/-- The open sequence starts (R197): CONN OPENING. -/
def State.openStart (s : State) (job : Option Nat) : State :=
  (s.setConn 5).seqPut { kind := .open_, step := 1, at_ := s.now, job := job }

/-- Flint or the supervisor switches all coils off outside the ordinary end of a sequence (Table 8.6): a close sequence
fails; an open sequence goes on to the check of its feedbacks and ends REFUSED_STATE; a connected string is open. -/
def State.coilsTrip (s : State) : State :=
  match s.prt.seq with
  | some q =>
    match q.kind with
    | .close => s.closeFail q
    | .open_ =>
      let s1 := s.coilsOff
      let q1 := s1.prt.seq.getD q
      s1.seqPut { q1 with step := 5, forced := true,
                          offAt := q1.offAt.map (fun o => some (o.getD s.now)) }
  | none => if s.get F.PRT_CONTSTAT_COIL = 0 then s else (s.coilsOff.setConn 0).endCurrentJobs

/-- A close sequence ends when flint acts (Table 8.6, first row). -/
def State.endClose (s : State) : State :=
  match s.prt.seq with
  | some q => match q.kind with
    | .close => s.closeFail q
    | .open_ => s
  | none => s

/-! ## Flint -/

/-- Latch a cause of PRT_TRIP (R185, R186): the bit, FIRST (of causes in one CTRL cycle of 2 ns the lowest bit), the count, the event, the gates low; a close sequence and the
jobs that need the converter end. (DEDUCED: log entry 48) -/
def State.latch (s : State) (bit : Nat) : State :=
  let f : Fld := { F.PRT_TRIP_OC_DIS with lo := bit }
  if s.flag f then s.loopStop
  else
    let s1 := s.set f 1
    let first := s1.get F.PRT_TRIP_FIRST
    let s2 : State := if first = 0 || (decide (s1.now / 2 = s1.prt.firstAt / 2) && decide (bit + 1 < first)) then
        { s1.set F.PRT_TRIP_FIRST (bit + 1) with prt := { s1.prt with firstAt := s1.now } } else s1
    (((s2.count F.PRT_TRIPCNT_COUNT F.PRT_TRIPCNT_SAT).raise 48 []).loopStop.endClose).endCurrentJobs

/-- FIRST clears with the last cause bit (R186). -/
def State.tripFirst (s : State) : State :=
  if (s.word 0x8002C).toNat % 512 = 0 then s.set F.PRT_TRIP_FIRST 0 else s

/-- Any flint cause is latched. -/
def State.tripped (s : State) : Bool := (s.word 0x8002C).toNat % 512 != 0

/-! ## Cell checks -/

/-- One checked value with its limits and margin, in 10 µV; `w` is how many cells it sums (R55, R95, R189). -/
structure Chk where
  v : Int
  hi : Int
  lo : Int
  hhi : Int
  hlo : Int
  m : Int
  w : Nat
  deriving DecidableEq, Repr

/-- The unsigned 20-bit CELLV of channel `c` of a record (Table 2.7). -/
def recCell (r : List Byte) (c : Nat) : Nat :=
  (uAt r (8 + 20 * c / 8) 3 >>> (20 * c % 8)) % 1048576

/-- Cell groups served at position `p`. -/
def State.cells (s : State) (p : Nat) : Nat := s.get (F.ACQ_SEG_CELLS.ix (p - 1))

/-- The suspect inner wires of a position: wire j for bit j − 1 (R94). -/
def State.suspects (s : State) (p : Nat) : List Nat :=
  ((List.range 16).filter (fun b => (s.word (0x40200 + 4 * (p - 1))).toNat.testBit b)).map (· + 1)

/-- The limits of `k` cells taken together, less or plus `pm` (10 µV). -/
def State.chkOf (s : State) (v : Int) (k : Nat) (pm : Int) (m : Int) : Chk :=
  { v := v, hi := (k * s.get F.PRT_VCELL_VMAX * 100 : Nat) - pm, lo := (k * s.get F.PRT_VCELL_VMIN * 100 : Nat) + pm,
    hhi := (k * s.get F.PRT_VHARD_VHMAX * 100 : Nat) - pm, hlo := (k * s.get F.PRT_VHARD_VHMIN * 100 : Nat) + pm, m := m, w := k }

/-- The values of a record that are checked at position `p`: single groups, and pairs of suspect wires (R95). -/
def State.checks (s : State) (p : Nat) (r : List Byte) : List Chk :=
  let n := s.cells p
  let ws := (s.suspects p).filter (fun j => decide (2 ≤ j) && decide (j ≤ n))
  let vhys : Int := (s.get F.PRT_VHDR_VHYS * 100 : Nat)
  let single := (List.range n).filter (fun c => !(ws.contains (c + 1) || ws.contains (c + 2)))
  single.map (fun c => s.chkOf (recCell r c) 1 0 vhys)
    ++ ws.map (fun j => s.chkOf (recCell r (j - 2) + recCell r (j - 1) : Nat) 2 (s.get F.ACQ_PLAUS_PMARGIN * 100 : Nat) (2 * vhys))

/-- The cell limits acting on checked values of position `p` (R189, R190); position 0 stands for a derived sum. -/
def State.cellLimits (s : State) (p : Nat) (cs : List Chk) : State :=
  let past := cs.any (fun c => decide (c.hi < c.v))
  let under := cs.any (fun c => decide (c.v < c.lo))
  let hard := cs.any (fun c => decide (c.hhi < c.v) || decide (c.v < c.hlo))
  let s1 := { s with prt := { s.prt with
    dirtyChg := s.prt.dirtyChg || cs.any (fun c => decide (c.hi - c.m < c.v)),
    dirtyDis := s.prt.dirtyDis || cs.any (fun c => decide (c.v < c.lo + c.m)),
    hardPos := if hard then (if s.prt.hardPos.contains p then s.prt.hardPos else p :: s.prt.hardPos)
               else s.prt.hardPos.filter (· ≠ p) } }
  let s2 := if past then (s1.setRaise F.PRT_LIMIT_BLK_CHG 49 []).setB F.PRT_LIMIT_BLKCHG_SEEN true else s1
  let s3 := if under then (s2.setRaise F.PRT_LIMIT_BLK_DIS 49 []).setB F.PRT_LIMIT_BLKDIS_SEEN true else s2
  if hard then (s3.latch 3).coilsTrip else s3

/-- At the end of a scan a block clears after 3 clean scans with no stale record (R189). -/
def State.blockScan (s : State) (anyStale : Bool) : State :=
  let c := if s.prt.dirtyChg || anyStale then 0 else s.prt.cleanChg + 1
  let d := if s.prt.dirtyDis || anyStale then 0 else s.prt.cleanDis + 1
  let s1 := { s with prt := { s.prt with cleanChg := c, cleanDis := d, dirtyChg := false, dirtyDis := false } }
  let s2 := if 3 ≤ c then s1.setB F.PRT_LIMIT_BLK_CHG false else s1
  if 3 ≤ d then s2.setB F.PRT_LIMIT_BLK_DIS false else s2

/-- Entry 0 from the checked values of a scan (R194), exact and rounded toward zero; unchanged when nothing was checked. -/
def State.headroom (s : State) (cs : List Chk) : State :=
  let band : Int := (2 * s.get F.PRT_VHDR_VHBAND * 100 : Nat)
  let slackHi := minI? (cs.map (fun c => if c.w = 1 then 2 * (c.hi - c.v) else c.hi - c.v))
  let slackLo := minI? (cs.map (fun c => if c.w = 1 then 2 * (c.v - c.lo) else c.v - c.lo))
  match slackHi, slackLo with
  | some h, some l =>
    let f := fun (x : Int) => s.irated * (clip 0 band x) / band
    s.entry 0 (f l) (f h)
  | _, _ => s

/-- PRT_CONNBLK (Table 8.15). (DEDUCED: log entry 48) -/
def State.connBlk (s : State) : Nat :=
  let ins := s.get F.CVI_INS_STAT_STATE
  let st := s.get F.SAF_STAT_STATE
  let ring := s.get F.RING_STAT_STATE
  let bits : List Bool :=
    [!s.inRun, s.tripped, st != 1,
     s.flag F.RING_STAT_LENMIS || s.flag F.RING_STAT_CALFAIL || !(ring == 3 || ring == 4), s.flag F.RING_STAT_GRACE_EXP,
     s.flag F.ACQ_STAT_STRMIS, s.flag F.CVI_SH_STAT_AZINIT, s.flag F.CVI_SH_STAT_NONE, decide (2 ≤ ins),
     s.flag F.CVI_CAL_STAT_DEFAULTS, s.noProfile,
     s.flag F.EST_CFG_REQQUAL && s.est.cells.zipIdx.any (fun (c, i) => c.qual == 1
       && decide (i / 16 < s.get F.RING_CTRL_LEN) && decide (i % 16 < s.cells (i / 16 + 1))), s.welded,
     s.flag F.PRT_CONTSTAT_VCOILLOW, s.flag F.PRT_LIMIT_BLK_CHG || s.flag F.PRT_LIMIT_BLK_DIS]
  bits.zipIdx.foldl (fun a (b, i) => if b then a + 2 ^ i else a) 0

end Sys2Proof.Machine
end

