-- ==== Sys2Proof/Machine/CviOps.lean ====
section
/-! DEFINITION. Shared operations of the current, voltage and insulation block: the calibration set, conversion of codes,
the charge accumulator, the offset and overlap sums, and the failure of a shunt converter (R97 to R114). -/

namespace Sys2Proof.Machine

/-! ## The calibration set -/

/-- The nominal column of Table 4.3. Its AO_TC2 of −34,000 lies outside the field's s16 and stands there at the end of the range (R8); in use
it is `nominalAoTc2`. -/
def nominalCal : List Byte :=
  leBytes 2 1 ++ leBytes 2 96 ++ [0, 0] ++ leBytesI 2 2500 ++ leBytes 4 0x07735940 ++ leBytes 4 0 ++ leBytes 4 0x07735940
    ++ leBytes 4 0 ++ leBytes 4 0 ++ leBytes 4 0x07D00000 ++ leBytes 4 0x05DC0000 ++ leBytes 4 0x07D00000
    ++ leBytes 4 0x07D00000 ++ leBytes 4 1000000 ++ leBytes 4 0x9502F900 ++ leBytes 4 0x9502F900 ++ leBytes 4 0x9502F900
    ++ leBytes 12 0 ++ leBytes 6 0 ++ leBytesI 2 (clipS 16 (-34000)) ++ leBytesI 2 2500 ++ leBytes 14 0

/-- The checks of R113: FORMAT, LENGTH, SERIAL and CRC. -/
def calOk (c : List Byte) : Bool :=
  c.length == 96 && uAt c 0 2 == 1 && uAt c 2 2 == 96 && uAt c 88 4 == Config.serial.toNat
    && uAt c 92 4 == crc32c (c.take 92)

/-- The calibration set in use. -/
def State.cal (s : State) : List Byte := if s.flag F.CVI_CAL_STAT_DEFAULTS then nominalCal else s.flash.cal

/-- The nominal AO_TC2 of Table 4.3, in 0.001 ppm/K². -/
def nominalAoTc2 : Int := -34000

/-- AO_TC2 in use (R113). -/
def State.aoTc2 (s : State) : Int := if s.flag F.CVI_CAL_STAT_DEFAULTS then nominalAoTc2 else iAt s.cal 78 2

/-- Read the stored set (R113). -/
def State.calLoad (s : State) : State :=
  let ok := calOk s.flash.cal
  let s1 := ((s.setB F.CVI_CAL_STAT_VALID ok).setB F.CVI_CAL_STAT_DEFAULTS (!ok))
  let s2 := (s1.set F.CVI_CAL_STAT_ORIGIN (if ok then uAt s.flash.cal 4 1 else 0)).set F.CVI_CAL_STAT_FORMAT 1
  let c := s2.cal
  let s3 := { s2 with cvi := { s2.cvi with ofsA := iAt c 12 4, ofsB := iAt c 20 4 } }
  if ok then s3 else s3.raise 2 []

/-! ## Conversion (R97, R100, R107) -/

/-- The factor (1 + TCG × 10^−8 × (T_c − TCAL) ÷ 100), times 10^10. -/
def State.tcFactor (s : State) (tcg : Int) : Int := 10000000000 + tcg * (s.thm.tc - iAt s.cal 6 2)

/-- A shunt code as a current in 2^−24 mA, to the nearest with ties to even, clipped to the input range of ±62.5 mV, with the mark of a
clipped sample. (DEDUCED: log entry 38; DESIGN CHOICE: log entry 74) -/
def State.shuntI (s : State) (b : Bool) (c : Int) : Int × Bool :=
  let cal := s.cal
  let gain : Int := uAt cal (if b then 16 else 8) 4
  let ofs := if b then s.cvi.ofsB else s.cvi.ofsA
  -- input in nV × 2^24 × 10^10
  let v := (c - ofs) * gain * s.tcFactor (iAt cal (if b then 26 else 24) 2)
  let full : Int := 62500000 * 16777216 * 10000000000
  let vc := clip (-full) full v
  let rsh := s.get F.CVI_SHUNT_RSH
  (divRne (vc * 1000) (rsh * 10000000000), decide (full < v) || decide (v < -full) || c == 8388607 || c == -8388608)

/-- A high-voltage code (0 string, 1 bus, 2 insulation) in 2^−24 mV, to the nearest with ties to even, clipped to ±1.25 V at the tap, with
its overrange. (DESIGN CHOICE: log entry 74) -/
def State.hvV (s : State) (k : Nat) (c : Int) : Int × Bool :=
  let cal := s.cal
  let v := (c - iAt cal (60 + 4 * k) 4) * (uAt cal (48 + 4 * k) 4 : Int) * s.tcFactor (iAt cal 72 2)
  let full : Int := 1250000000 * 16777216 * 10000000000
  let ratio : Int := if k = 2 then (if s.get F.CVI_INS_STAT_LEG = 1 then uAt cal 40 4 else uAt cal 36 4) else uAt cal (28 + 4 * k) 4
  (divRne (clip (-full) full v * ratio) (65536 * 1000000 * 10000000000),
   decide (full < v) || decide (v < -full) || c == 8388607 || c == -8388608)

/-! ## Converters -/

/-- Whether converter A (false) or B (true) has failed. -/
def State.shFailed (s : State) (b : Bool) : Bool := if b then s.flag F.CVI_SH_STAT_BFAIL else s.flag F.CVI_SH_STAT_AFAIL

/-- The two converters alternate: neither failed, none forced. -/
def State.alternating (s : State) : Bool :=
  !s.shFailed false && !s.shFailed true && s.get F.CVI_SH_CFG_FORCE == 0

/-- A converter has failed (R104, R106): marks, event, and the survivor measures, or none does. (DEDUCED: log entry 38) -/
def State.shuntFail (s : State) (b : Bool) : State :=
  if s.shFailed b then s
  else
    let s1 := ((s.setB (if b then F.CVI_SH_STAT_BFAIL else F.CVI_SH_STAT_AFAIL) true).setB F.CVI_SH_STAT_FAIL_SEEN true).raise 24 []
    let s2 := if s1.shFailed (!b) then (s1.setB F.CVI_SH_STAT_NONE true).set F.CVI_I 0
              else (s1.set F.CVI_SH_STAT_MEAS (b2n (!b))).setB F.CVI_SH_STAT_DRIFT true
    ({ s2 with cvi := { s2.cvi with shorted := 0 } }.setB F.CVI_SH_STAT_SWERR false).integrity

/-! ## The insulation monitor's legs (R108, R111) -/

/-- Whether the monitor runs in its mode (R111). -/
def State.insRuns (s : State) : Bool := s.get F.CVI_INS_CFG_MODE == 0 || s.allOpen

/-- Under MODE 1 with a contactor closed both legs open and PAUSED is set (R111). -/
def State.insPause (s : State) : State :=
  { s.setB F.CVI_INS_STAT_PAUSED true with cvi := { s.cvi with insOpen := true, ins := {} } }

/-- INS_LEG_SWITCH (R108, R111): the other leg, after both have been open for 10 ms, where the monitor runs. -/
def State.legSwitch (s : State) : State :=
  if !s.insRuns then s.insPause
  else
    { (s.setB F.CVI_INS_STAT_PAUSED false).set F.CVI_INS_STAT_LEG (1 - s.get F.CVI_INS_STAT_LEG) with
      cvi := { s.cvi with insOpen := false, insDone := false, insAt := s.quartzNs, ins := {} } }

/-- The monitor follows a contactor or its mode (R111): it pauses at once, and goes on with the other leg. (DEDUCED: log entry 40) -/
def State.insFollow (s : State) : State :=
  if !s.inService || s.insRuns != s.flag F.CVI_INS_STAT_PAUSED then s else s.legSwitch

/-- A contactor changed state: the half-period in progress is discarded (R109), and the monitor follows (R111). -/
def State.insMoved (s : State) : State :=
  ({ s with cvi := { s.cvi with ins := { s.cvi.ins with moved := true } } }).insFollow

/-- The initial auto-zero starts (R101): both converters auto-zero, A measures first unless one is forced or has failed; a converter that will
measure alone has DRIFT (R105). No handover lies behind it. -/
def State.azStart (s : State) : State :=
  let one := if s.shFailed false || s.get F.CVI_SH_CFG_FORCE = 2 then 1 else 0
  let s0 := (s.setB F.CVI_SH_STAT_AZINIT true).set F.CVI_SH_STAT_MEAS one
  let s1 : State := { s0.setB F.CVI_SH_STAT_DRIFT (s.shFailed false || s.shFailed true || s.get F.CVI_SH_CFG_FORCE != 0) with
    cvi := { s.cvi with azStart := s.now, azA := (0, 0), azB := (0, 0), hist := [], shorted := 0, winS := none,
                        handAt := 0, insAt := s.quartzNs, ins := {}, insOpen := false, insDone := false } }
  if s1.insRuns then s1.setB F.CVI_INS_STAT_PAUSED false else s1.insPause

/-- Add a code to an offset average. -/
def azAdd (a : Int × Nat) (c : Int) : Int × Nat := (a.1 + c, a.2 + 1)

/-- The mean of an offset average in codes, to the nearest with ties away from zero. (DESIGN CHOICE: log entry 74) -/
def azMean (a : Int × Nat) (d : Int) : Int := if a.2 = 0 then d else divRha a.1 a.2

/-- Offset sums take a sample (R101, R102). -/
def CviSt.azTake (c : CviSt) (azinit : Bool) (eff : Nat) (a b : Int) : CviSt :=
  let inWin := decide (c.handAt + 10 * msec ≤ eff) && decide (eff ≤ c.handAt + 890 * msec)
  { c with azA := if azinit || (c.shorted == 1 && inWin) then azAdd c.azA a else c.azA,
           azB := if azinit || (c.shorted == 2 && inWin) then azAdd c.azB b else c.azB }

/-- The insulation sums take a sample: tap and string voltage of the last and the last but one 250 ms (R108). -/
def InsSums.take (x : InsSums) (stop eff : Nat) (v u : Int) (ovr : Bool) : InsSums :=
  if stop ≤ eff then x
  else if stop ≤ eff + 250 * msec then { x with n1 := x.n1 + 1, v1 := x.v1 + v, u1 := x.u1 + u, ovr := x.ovr || ovr }
  else if stop ≤ eff + 500 * msec then { x with n2 := x.n2 + 1, v2 := x.v2 + v, u2 := x.u2 + u, ovr := x.ovr || ovr }
  else { x with ovr := x.ovr || ovr }

/-- The reported charge: the integer part of the accumulator toward −∞ (R99). -/
def CviSt.q (c : CviSt) : Int := c.acc.fdiv 1099511627776

/-- The accumulator's step of the trapezoid rule, in 2^−40 µC: 5 µs of the mean of two currents in 2^−24 mA, to the nearest with ties to
even. (DESIGN CHOICE: log entry 74) -/
def chargeStep (i0 i1 : Int) : Int := divRne ((i0 + i1) * 4096) 25

/-- A leg of the divider is connected at the instant `x`: the monitor runs and both have been open for 10 ms (R108). -/
def State.legOn (s : State) (x : Nat) : Bool :=
  !s.cvi.insOpen && !s.flag F.CVI_INS_STAT_PAUSED && decide (s.cvi.insAt + 10 * msec ≤ x)

/-- The charge of a strobe, once its snapshot is tagged, enters the recorder's open interval (R390). -/
def State.recCharge (s : State) (dq : Int) : State :=
  let r := s.rcd.cur
  let d := r.qdis + dq.toNat
  let c := r.qchg + (-dq).toNat
  let top := 18446744073709551615
  { s with rcd := { s.rcd with
      cur := { r with qdis := min top d, qchg := min top c, flags := r.flags ||| b2n (decide (top < d) || decide (top < c)) } } }

/-- A control sample in the current and voltage block (R97 to R102, R108, R308): the codes become values, the selected
current enters the accumulator, and the running sums move on. A stream whose domain is not clock-good stands still (R24, R98). -/
def State.cviSample (s : State) (x : SampleIn) : State :=
  let eff := s.gridAt 5000 - 5000
  let sh := s.domainGood 5
  let hv := s.domainGood 6
  let (ia, ca) := s.shuntI false x.a
  let (ib, cb) := s.shuntI true x.b
  let az := s.flag F.CVI_SH_STAT_AZINIT
  let useB := if s.alternating && decide (eff < s.cvi.handAt) then s.get F.CVI_SH_STAT_MEAS == 0 else s.get F.CVI_SH_STAT_MEAS == 1
  let none_ := s.flag F.CVI_SH_STAT_NONE
  let i := if az || none_ then 0 else if useB then ib else ia
  let clipd := sh && !az && !none_ && (if useB then cb else ca)
  let (vs, os) := s.hvV 0 x.vstr
  let (vb, ob) := s.hvV 1 x.vbus
  let (vi, oi) := s.hvV 2 x.vins
  let step := match s.cvi.hist.head? with
    | some p => if p.sh then chargeStep p.i i else 0
    | none => 0
  let acc1 := if az || none_ || !sh then s.cvi.acc else s.cvi.acc + step
  let top : Int := 9223372036854775807 * 1099511627776
  let acc2 := clip (-top) top acc1
  let sm : Samp := { eff := eff, ia := ia, ib := ib, i := i, vs := vs, vb := vb, vi := vi, clip := clipd, so := os, sh := sh, hv := hv, az := az }
  let code := match s.cvi.cmConv with
    | 0 => x.a | 1 => x.b | 2 => x.vstr | 3 => x.vbus | 4 => x.vins | n => nth 0 x.iph (n - 5)
  let runs := if s.cvi.cmConv < 2 then sh else if s.cvi.cmConv < 5 then hv else true
  let meas := runs && s.cvi.cmJob.isSome && decide (s.now < s.cvi.cmSince + s.cvi.cmTime * msec)
  let c0 := if sh then s.cvi.azTake az eff x.a x.b else s.cvi
  let c1 := { c0 with
    hist := (sm :: s.cvi.hist).take 520, acc := acc2,
    ins := if hv && s.legOn eff then s.cvi.ins.take (s.cvi.insAt + s.get F.CVI_INS_CFG_HALF * sec) eff vi vs (os || oi) else s.cvi.ins,
    cmSum := if meas then s.cvi.cmSum + code else s.cvi.cmSum,
    cmSq := if meas then s.cvi.cmSq + code * code else s.cvi.cmSq,
    cmN := if meas then s.cvi.cmN + 1 else s.cvi.cmN }
  let c2 := match c1.tagS with
    | some m => if sh && decide (m ≤ eff + 2500) then { c1 with tagS := none, qS := c1.q, qAt := m, dqS := c1.q - c1.qPrev } else c1
    | none => c1
  let s0 : State := { s with cvi := c2 }
  let s1 := if c1.tagS.isSome && c2.tagS.isNone then s0.recCharge c2.dqS else s0
  let s2 := if acc2 ≠ acc1 then s1.setB F.CVI_SH_STAT_QSAT true else s1
  if !hv then s2
  else
    let s3 := ((s2.setB F.CVI_HV_STAT_STROVR os).setB F.CVI_HV_STAT_BUSOVR ob).setB F.CVI_HV_STAT_INSOVR oi
    let s4 := if os then s3.setB F.CVI_HV_STAT_STROVR_SEEN true else s3
    let s5 := if ob then s4.setB F.CVI_HV_STAT_BUSOVR_SEEN true else s4
    if oi then s5.setB F.CVI_HV_STAT_INSOVR_SEEN true else s5

/-! ## Windowed values (R72, R98) -/

/-- Twice the weight of sample i of a window of W samples. -/
def winWeight (w : Nat) (i : Int) : Nat :=
  let a := i.natAbs
  if w % 2 = 0 then (if 2 * a < w then 2 else if 2 * a = w then 1 else 0) else (if 2 * a ≤ w - 1 then 2 else 0)

/-- The window ACQ_CFG.WIN, 0 meaning 256. -/
def State.win (s : State) : Nat := let w := s.get F.ACQ_CFG_WIN; if w = 0 then 256 else w

/-- The grid index of a sample relative to the instant `m` in quartz ns, to the nearest 5 µs. -/
def gridIdx (m eff : Nat) : Int := divRha ((eff : Int) - m) 5000

/-- Weighted sum over the window about `m` of a value of the samples of a stream, with the sum of the doubled weights. -/
def State.winSum (s : State) (m : Nat) (on : Samp → Bool) (f : Samp → Int) : Int × Nat :=
  (s.cvi.hist.filter on).foldl (fun (a : Int × Nat) x =>
    let w := winWeight s.win (gridIdx m x.eff)
    (a.1 + w * f x, a.2 + w)) (0, 0)

/-- The string channel was in overrange in the window about `m` (R107). -/
def State.winOvr (s : State) (m : Nat) : Bool := s.cvi.hist.any (fun x => x.so && winWeight s.win (gridIdx m x.eff) != 0)

/-- A weighted mean of 2^−24 units, rounded to the nearest unit with ties up. -/
def winRound (a : Int × Nat) : Int := (2 * a.1 + a.2 * 16777216).fdiv (2 * (a.2 * 16777216) : Nat)

end Sys2Proof.Machine
end

