-- ==== Sys2Proof/Machine/AcqOps.lean ====
section
/-! DEFINITION. What the measurement tiles give to their users: records, staleness, cell voltages and temperatures with the
substitutes of Table 9.2 (R67, R71, R78, R95, R209, R210). -/

namespace Sys2Proof.Machine

/-- The last accepted record of a position; a position that has delivered none has none. -/
def State.tile? (s : State) (p : Nat) : Option TileRec :=
  match assoc? p s.ring.tiles with
  | some r => if r.bytes = [] then none else some r
  | none => none

/-- The staleness bit of a position (RING_STALE0, RING_STALE1). -/
def State.stale (s : State) (p : Nat) : Bool := (s.word (0x30010 + 4 * ((p - 1) / 32))).toNat.testBit ((p - 1) % 32)

/-- Set or clear the staleness bit of a position. -/
def State.setStale (s : State) (p : Nat) (b : Bool) : State :=
  let a := 0x30010 + 4 * ((p - 1) / 32)
  s.putWord a (BitVec.ofNat 32 (setBit (s.word a).toNat ((p - 1) % 32) b))

/-- Configured nodes N. -/
def State.len (s : State) : Nat := s.get F.RING_CTRL_LEN

/-- Positions 1 … N. -/
def State.positions (s : State) : List Nat := (List.range s.len).map (· + 1)

/-- The position and channel of a cell group number (R71). -/
def groupPos (g : Nat) : Nat := (g - 1) / 16 + 1
def groupCh (g : Nat) : Nat := (g - 1) % 16

/-- Whether a cell group is configured. -/
def State.groupOk (s : State) (g : Nat) : Bool :=
  decide (1 ≤ g) && decide (g ≤ 640) && decide (groupPos g ≤ s.len) && decide (groupCh g < s.cells (groupPos g))

/-- The configured cell groups, ascending. -/
def State.groups (s : State) : List Nat :=
  s.positions.flatMap (fun p => (List.range (s.cells p)).map (fun c => 16 * (p - 1) + c + 1))

/-- Whether local group `c + 1` of position `p` belongs to a suspect pair, and the lower channel of that pair (R94). (DEDUCED: log entry 70) -/
def State.pairOf (s : State) (p c : Nat) : Option Nat :=
  let ws := s.suspects p
  if ws.contains (c + 1) ∧ 1 ≤ c then some (c - 1) else if ws.contains (c + 2) then some c else none

/-- WIRE_SUSPECT of a cell group. -/
def State.wireSuspect (s : State) (g : Nat) : Bool := (s.pairOf (groupPos g) (groupCh g)).isSome

/-- The reported voltage of a cell group in 10 µV: half the pair sum, rounded down, for a suspect pair (R95). -/
def State.cellV (s : State) (g : Nat) : Nat :=
  match s.tile? (groupPos g) with
  | none => 0
  | some r =>
    match s.pairOf (groupPos g) (groupCh g) with
    | some c => (recCell r.bytes c + recCell r.bytes (c + 1)) / 2
    | none => recCell r.bytes (groupCh g)

/-- The period P of a scan in ms. -/
def State.periodMs (s : State) : Nat :=
  if s.rst.mode = .park then 1000
  else match s.get F.RING_CTRL_RATE with
    | 0 => 1 | 1 => 2 | 2 => 10 | _ => 100

/-! ## Temperatures -/

/-- Thermistor channel `t` is fitted. -/
def State.fitted (s : State) (t : Nat) : Bool := (s.get F.ACQ_CFG_THMASK).testBit t

/-- Channel `t` of position `p` is marked broken. -/
def State.brk (s : State) (p t : Nat) : Bool := (s.get (F.THM_TBRK_BRK.ix (p - 1))).testBit t

/-- The recorded value of a channel, none where no record or the code 0x8000. -/
def State.therm (s : State) (p t : Nat) : Option Int :=
  match s.tile? p with
  | none => none
  | some r => let v := uAt r.bytes (50 + 2 * t) 2
              if v = 0x8000 then none else some (ofCode 16 v)

/-- A value another channel may lean on: fitted, not broken, valid and not stale. -/
def State.thermGood (s : State) (p t : Nat) : Option Int :=
  if decide (1 ≤ p) && decide (p ≤ s.len) && decide (t < 8) && s.fitted t && !s.brk p t && !s.stale p then s.therm p t else none

/-- The median of a list; for an even count the mean of the two middle values; none where it is empty. -/
def median (l : List Int) : Option Int :=
  let m := sortI l
  let n := m.length
  if n = 0 then none
  else if n % 2 = 1 then m[n / 2]?
  else some ((nth 0 m (n / 2 - 1) + nth 0 m (n / 2)) / 2)

/-- `est` of R209: the median of the neighbours. -/
def State.thermEst (s : State) (p t : Nat) : Option Int :=
  median ([if t = 0 then none else s.thermGood p (t - 1), s.thermGood p (t + 1),
    if p = 1 then none else s.thermGood (p - 1) t, s.thermGood (p + 1) t].filterMap id)

/-- Every valid thermistor value of the string. -/
def State.thermAll (s : State) : List Int :=
  s.positions.flatMap (fun p => (List.range 8).filterMap (fun t => if s.fitted t && !s.brk p t then s.therm p t else none))

/-- The substitute of a channel: est, or the highest valid value of the string; none with no valid thermistor (R210). -/
def State.thermSub (s : State) (p t : Nat) : Option Int :=
  match s.thermEst p t with
  | some v => some v
  | none => maxI? s.thermAll

/-- A channel is substituted: unfitted, broken, or without a value. -/
def State.substituted (s : State) (p t : Nat) : Bool := !s.fitted t || s.brk p t || (s.therm p t).isNone

/-- The value of a channel after substitution. -/
def State.chanT (s : State) (p t : Nat) : Option Int := if s.substituted p t then s.thermSub p t else s.therm p t

/-- The thermistor channel of a cell group (R78). -/
def State.chanOf (s : State) (g : Nat) : Nat :=
  let c := groupCh g
  (s.word (if c < 8 then 0x40004 else 0x40008)).toNat >>> (3 * (c % 8)) % 8

/-- T_g: the mapped channel after substitution; with no valid thermistor the last value, or TUSE (R210). -/
def State.tGroup (s : State) (g : Nat) : Int :=
  match s.chanT (groupPos g) (s.chanOf g) with
  | some v => v
  | none => (assoc? g s.thm.tg).getD (s.getI F.THM_DIE_TUSE)

/-- T_g is substituted. -/
def State.tSub (s : State) (g : Nat) : Bool := s.flag F.THM_STAT_NOCELLT || s.substituted (groupPos g) (s.chanOf g)

end Sys2Proof.Machine
end

