-- ==== Sys2Proof/Machine/Float.lean ====
section
/-! DEFINITION. IEEE 754 binary32 and binary64 with rounding to nearest, ties to even: each operation is exact and then
rounded once (R116, R151, R264). -/

namespace Sys2Proof.Machine

/-- A binary format: precision with the hidden bit, and the width of the exponent field. -/
structure FFmt where
  p : Nat
  ew : Nat
  deriving DecidableEq, Repr

def FFmt.b32 : FFmt := ⟨24, 8⟩
def FFmt.b64 : FFmt := ⟨53, 11⟩

/-- The exponent bias. -/
def FFmt.bias (f : FFmt) : Nat := 2 ^ (f.ew - 1) - 1

/-- The exponent of the unit in the last place of the smallest numbers. -/
def FFmt.emin (f : FFmt) : Int := 1 - (f.bias : Int) - (f.p - 1 : Nat)

/-- A datum: sign, magnitude m × 2^e; an infinity; not a number. -/
inductive FVal where
  | fin (neg : Bool) (m : Nat) (e : Int)
  | inf (neg : Bool)
  | nan
  deriving DecidableEq, Repr

/-- The datum that a code means. -/
def FFmt.dec (f : FFmt) (v : Nat) : FVal :=
  let neg := v.testBit (f.p - 1 + f.ew)
  let ex := v / 2 ^ (f.p - 1) % 2 ^ f.ew
  let fr := v % 2 ^ (f.p - 1)
  if ex = 2 ^ f.ew - 1 then (if fr = 0 then .inf neg else .nan)
  else if ex = 0 then .fin neg fr f.emin
  else .fin neg (2 ^ (f.p - 1) + fr) (f.emin + (ex - 1 : Nat))

/-- The sign bit of a code. -/
def FFmt.sgn (f : FFmt) (neg : Bool) : Nat := if neg then 2 ^ (f.p - 1 + f.ew) else 0

/-- The code of an infinity and of the quiet not-a-number. -/
def FFmt.infC (f : FFmt) (neg : Bool) : Nat := f.sgn neg + (2 ^ f.ew - 1) * 2 ^ (f.p - 1)
def FFmt.nanC (f : FFmt) : Nat := f.infC false + 2 ^ (f.p - 2)

/-- Round m × 2^e (`more`: a little above that magnitude) to nearest even. -/
def FFmt.round (f : FFmt) (neg : Bool) (m : Nat) (e : Int) (more : Bool) : Nat :=
  if m = 0 then f.sgn neg
  else
    let len := Nat.log2 m + 1
    let e1 : Int := max (e + ((len : Int) - f.p)) f.emin
    let sh : Int := e1 - e
    let q : Nat :=
      if sh ≤ 0 then m * 2 ^ (-sh).toNat
      else
        let d := 2 ^ sh.toNat
        let q := m / d
        let r := 2 * (m % d) + (if more then 1 else 0)
        if d < r ∨ (r = d ∧ q % 2 = 1) then q + 1 else q
    let (q2, e2) := if q = 2 ^ f.p then (2 ^ (f.p - 1), e1 + 1) else (q, e1)
    if q2 < 2 ^ (f.p - 1) then f.sgn neg + q2
    else
      let ex := (e2 - f.emin).toNat + 1
      if 2 ^ f.ew - 1 ≤ ex then f.infC neg else f.sgn neg + ex * 2 ^ (f.p - 1) + (q2 - 2 ^ (f.p - 1))

/-- The signed integer m of a finite datum. -/
def sgnI (neg : Bool) (m : Nat) : Int := if neg then -(m : Int) else m

/-- Round the exact number i × 2^e; an exact zero gets the sign `z`. -/
def FFmt.ofExact (f : FFmt) (i : Int) (e : Int) (z : Bool) : Nat :=
  if i = 0 then f.sgn z else f.round (decide (i < 0)) i.natAbs e false

/-- The exact sum of two finite data over the lesser exponent. -/
def exactAdd (a : Int) (ea : Int) (b : Int) (eb : Int) : Int × Int :=
  let e := min ea eb
  (a * (2 ^ (ea - e).toNat : Nat) + b * (2 ^ (eb - e).toNat : Nat), e)

/-- Sum. -/
def FFmt.add (f : FFmt) (x y : Nat) : Nat :=
  match f.dec x, f.dec y with
  | .fin nx mx ex, .fin ny my ey =>
    let (i, e) := exactAdd (sgnI nx mx) ex (sgnI ny my) ey
    f.ofExact i e (nx && ny)
  | .inf a, .inf b => if a = b then f.infC a else f.nanC
  | .inf a, .fin .. => f.infC a
  | .fin .., .inf b => f.infC b
  | _, _ => f.nanC

/-- Negation. -/
def FFmt.neg (f : FFmt) (x : Nat) : Nat := x ^^^ f.sgn true

/-- Absolute value. -/
def FFmt.abs (f : FFmt) (x : Nat) : Nat := x % 2 ^ (f.p - 1 + f.ew)

/-- Difference. -/
def FFmt.sub (f : FFmt) (x y : Nat) : Nat := f.add x (f.neg y)

/-- Product. -/
def FFmt.mul (f : FFmt) (x y : Nat) : Nat :=
  match f.dec x, f.dec y with
  | .fin nx mx ex, .fin ny my ey => f.round (nx != ny) (mx * my) (ex + ey) false
  | .inf a, .inf b => f.infC (a != b)
  | .inf a, .fin n m _ => if m = 0 then f.nanC else f.infC (a != n)
  | .fin n m _, .inf b => if m = 0 then f.nanC else f.infC (b != n)
  | _, _ => f.nanC

/-- Quotient. -/
def FFmt.div (f : FFmt) (x y : Nat) : Nat :=
  match f.dec x, f.dec y with
  | .fin nx mx ex, .fin ny my ey =>
    if my = 0 then (if mx = 0 then f.nanC else f.infC (nx != ny))
    else
      let k := f.p + 3 + (Nat.log2 my + 1)
      let n := mx * 2 ^ k
      f.round (nx != ny) (n / my) (ex - ey - k) (n % my != 0)
  | .inf _, .inf _ => f.nanC
  | .inf a, .fin n _ _ => f.infC (a != n)
  | .fin n _ _, .inf b => f.sgn (n != b)
  | _, _ => f.nanC

/-- Integer square root by bits, from bit k downward. -/
def isqrt : Nat → Nat → Nat → Nat
  | 0, _, r => r
  | k + 1, n, r => let c := r + 2 ^ k; isqrt k n (if c * c ≤ n then c else r)

/-- Square root. -/
def FFmt.sqrt (f : FFmt) (x : Nat) : Nat :=
  match f.dec x with
  | .fin n m e =>
    if m = 0 then x
    else if n then f.nanC
    else
      let k := 2 * f.p + 4 + (if (e - (2 * f.p + 4 : Nat)) % 2 = 0 then 0 else 1)
      let w := m * 2 ^ k
      let r := isqrt (f.p + f.p + 6) w 0
      f.round false r ((e - k) / 2) (decide (r * r < w))
  | .inf false => x
  | _ => f.nanC

/-- Order of two data: whether x < y; false with a not-a-number. -/
def FFmt.lt (f : FFmt) (x y : Nat) : Bool :=
  match f.dec x, f.dec y with
  | .fin nx mx ex, .fin ny my ey =>
    let (i, _) := exactAdd (sgnI nx mx) ex (-(sgnI ny my)) ey
    decide (i < 0)
  | .inf a, .inf b => a && !b
  | .inf a, .fin .. => a
  | .fin .., .inf b => !b
  | _, _ => false

/-- Whether x ≤ y. -/
def FFmt.le (f : FFmt) (x y : Nat) : Bool :=
  match f.dec x, f.dec y with
  | .nan, _ => false
  | _, .nan => false
  | _, _ => !f.lt y x

/-- An integer times 2^e. -/
def FFmt.ofInt (f : FFmt) (i : Int) (e : Int) : Nat := f.ofExact i e false

/-- The ratio of an integer and a positive integer, rounded once. -/
def FFmt.ofRatio (f : FFmt) (a : Int) (b : Nat) : Nat :=
  if b = 0 then f.nanC
  else if a = 0 then 0
  else
    let k := f.p + 3 + (Nat.log2 b + 1)
    let n := a.natAbs * 2 ^ k
    f.round (decide (a < 0)) (n / b) (-(k : Int)) (n % b != 0)

/-- The datum times an integer `c`, rounded to an integer: nearest, ties to even; infinities give ±2^200. -/
def FFmt.toInt (f : FFmt) (x : Nat) (c : Int) : Int :=
  match f.dec x with
  | .fin n m e =>
    let i := sgnI n m * c
    if 0 ≤ e then i * (2 ^ e.toNat : Nat) else divRne i (2 ^ (-e).toNat)
  | .inf n => if n then -(2 ^ 200 : Nat) else (2 ^ 200 : Nat)
  | .nan => 0

/-- The datum times an integer `c`, rounded toward minus infinity. -/
def FFmt.floor (f : FFmt) (x : Nat) (c : Int) : Int :=
  match f.dec x with
  | .fin n m e =>
    let i := sgnI n m * c
    if 0 ≤ e then i * (2 ^ e.toNat : Nat) else i.fdiv (2 ^ (-e).toNat : Nat)
  | .inf n => if n then -(2 ^ 200 : Nat) else (2 ^ 200 : Nat)
  | .nan => 0

/-! Binary32 words, with the operations by short names. -/

/-- A binary32 number. -/
abbrev F32 := BitVec 32

def F32.ofI (i : Int) : F32 := BitVec.ofNat 32 (FFmt.b32.ofInt i 0)
def F32.ratio (a : Int) (b : Nat) : F32 := BitVec.ofNat 32 (FFmt.b32.ofRatio a b)
def F32.add (x y : F32) : F32 := BitVec.ofNat 32 (FFmt.b32.add x.toNat y.toNat)
def F32.sub (x y : F32) : F32 := BitVec.ofNat 32 (FFmt.b32.sub x.toNat y.toNat)
def F32.mul (x y : F32) : F32 := BitVec.ofNat 32 (FFmt.b32.mul x.toNat y.toNat)
def F32.div (x y : F32) : F32 := BitVec.ofNat 32 (FFmt.b32.div x.toNat y.toNat)
def F32.sqrt (x : F32) : F32 := BitVec.ofNat 32 (FFmt.b32.sqrt x.toNat)
def F32.neg (x : F32) : F32 := BitVec.ofNat 32 (FFmt.b32.neg x.toNat)
def F32.abs (x : F32) : F32 := BitVec.ofNat 32 (FFmt.b32.abs x.toNat)
def F32.lt (x y : F32) : Bool := FFmt.b32.lt x.toNat y.toNat
def F32.le (x y : F32) : Bool := FFmt.b32.le x.toNat y.toNat
def F32.max (x y : F32) : F32 := if F32.lt x y then y else x
def F32.min (x y : F32) : F32 := if F32.lt y x then y else x
def F32.clamp (lo hi x : F32) : F32 := if F32.lt x lo then lo else if F32.lt hi x then hi else x
/-- The number times an integer, to the nearest integer. -/
def F32.toI (x : F32) (c : Int) : Int := FFmt.b32.toInt x.toNat c

/-- The exact value of a finite number as a numerator and a positive denominator. -/
def F32.rat (x : F32) : Int × Nat :=
  match FFmt.b32.dec x.toNat with
  | .fin n m e => if 0 ≤ e then (sgnI n m * (2 ^ e.toNat : Nat), 1) else (sgnI n m, 2 ^ (-e).toNat)
  | _ => (0, 1)

end Sys2Proof.Machine
end

