-- ==== Sys2Proof/Machine/EstOps.lean ====
section
/-! DEFINITION. The estimator of one cell group and what it shares with its users: tables, the update of R116, the rules of
R131, anchors, qualifiers, learning points, records and string-wide values (R115 to R139, R140 to R144). Quantities are
binary32 in V, A, Ω, s and fractions, in the order of R116 (R117). -/

namespace Sys2Proof.Machine

/-! ## Tables (R118, R120) -/

/-- The profile in use, as tables. -/
structure Prof where
  h : List Byte
  ocv : List Byte
  hys : List Byte
  par : List Byte
  deriving DecidableEq, Repr

/-- The selected profile when it is complete. -/
def State.prof? (s : State) : Option Prof :=
  if s.noProfile then none
  else match s.table? 1, s.table? 2, s.table? 3, s.table? 4 with
    | some h, some o, some y, some p => some ⟨h, o, y, p⟩
    | _, _, _, _ => none

/-- Header figures: C in A, VEOC and VEOD in V. -/
def Prof.c (p : Prof) : F32 := F32.ratio (uAt p.h 16 4) 1000
def Prof.veoc (p : Prof) : F32 := F32.ratio (uAt p.h 20 4) 100000
def Prof.veod (p : Prof) : F32 := F32.ratio (uAt p.h 24 4) 100000
def Prof.tbp (p : Prof) (i : Nat) : Int := iAt p.h (32 + 2 * i) 2

/-- Bracketing temperature points and the weight of the upper one, for a temperature within TBP[0] … TBP[15]. -/
def Prof.tw (p : Prof) (t : Int) : Nat × F32 :=
  let i := ((List.range 15).filter (fun i => decide (p.tbp i ≤ t))).foldl max 0
  (i, F32.ratio (t - p.tbp i) (p.tbp (i + 1) - p.tbp i).toNat)

/-- a + w × (b − a). -/
def lerp (w a b : F32) : F32 := F32.add a (F32.mul w (F32.sub b a))

/-- Bracketing SOC points of a column of n points, with the weight, for a SOC clamped to 0 … 1. (DEDUCED: log entry 41) -/
def socW (n : Nat) (soc : F32) : Nat × F32 :=
  let x := F32.mul (F32.clamp 0 (F32.ofI 1) soc) (F32.ofI (n - 1 : Nat))
  let i := min (n - 2) (FFmt.b32.floor x.toNat 1).toNat
  (i, F32.sub x (F32.ofI i))

/-- A table value interpolated in temperature, then in SOC; `v t s` is entry (t, s) of a table of n SOC points. -/
def interp (n : Nat) (v : Nat → Nat → F32) (tw : Nat × F32) (soc : F32) : F32 :=
  let (i, w) := socW n soc
  let col := fun s => lerp tw.2 (v tw.1 s) (v (tw.1 + 1) s)
  lerp w (col i) (col (i + 1))

/-- OCV entries in V, HMAX entries in V, and the parameter entries in Ω and s. -/
def Prof.ocvE (p : Prof) (t s : Nat) : F32 := F32.ratio (uAt p.ocv (4 * (101 * t + s)) 4) 100000
def Prof.hysE (p : Prof) (t s : Nat) : F32 := F32.ratio (uAt p.hys (2 * (21 * t + s)) 2) 100000
def Prof.parE (p : Prof) (r k : Nat) (t s : Nat) : F32 :=
  let o := 16 * ((16 * r + t) * 21 + s)
  match k with
  | 0 => F32.ratio (uAt p.par o 4) 100000000
  | 1 => F32.ratio (uAt p.par (o + 4) 4) 100000000
  | 2 => F32.ratio (uAt p.par (o + 8) 4) 100000000
  | 3 => F32.ratio (uAt p.par (o + 12) 2) 10000
  | _ => F32.ratio (uAt p.par (o + 14) 2) 10

/-- OCV(soc, T). (DEDUCED: log entry 41) -/
def Prof.ocvAt (p : Prof) (tw : Nat × F32) (soc : F32) : F32 := interp 101 p.ocvE tw soc

/-- The slope of OCV in V per unit of SOC (R120). -/
def Prof.slope (p : Prof) (tw : Nat × F32) (soc : F32) : F32 :=
  let (i, _) := socW 101 soc
  let col := fun s => lerp tw.2 (p.ocvE tw.1 s) (p.ocvE (tw.1 + 1) s)
  F32.mul (F32.sub (col (i + 1)) (col i)) (F32.ofI 100)

/-- OCVinv(v, T) (R120). -/
def Prof.ocvInv (p : Prof) (tw : Nat × F32) (v : F32) : F32 :=
  let col := (List.range 101).map (fun s => lerp tw.2 (p.ocvE tw.1 s) (p.ocvE (tw.1 + 1) s))
  if F32.le v (nth 0 col 0) then 0
  else if F32.le (nth 0 col 100) v then F32.ofI 1
  else
    let i := ((List.range 100).filter (fun i => F32.le (nth 0 col i) v)).foldl max 0
    F32.div (F32.add (F32.ofI i) (F32.div (F32.sub v (nth 0 col i)) (F32.sub (nth 0 col (i + 1)) (nth 0 col i)))) (F32.ofI 100)

/-- TRELAX(T) in s. -/
def Prof.trelax (p : Prof) (tw : Nat × F32) : F32 :=
  lerp tw.2 (F32.ofI (uAt p.h (80 + 2 * tw.1) 2)) (F32.ofI (uAt p.h (82 + 2 * tw.1) 2))

/-- A temperature clamped to the table, with the mark that it was. -/
def Prof.clampT (p : Prof) (t : Int) : Int × Bool := (clip (p.tbp 0) (p.tbp 15) t, decide (t < p.tbp 0) || decide (p.tbp 15 < t))

/-! ## One cell group -/

/-- CAP in C. -/
def Cell.capC (c : Cell) : F32 := F32.ratio c.cap 100

/-- soc = QREM ÷ CAP. -/
def Cell.soc (c : Cell) : F32 := F32.ratio c.qrem (655360000 * c.cap)

/-- QREM set to an exact value, within its format (R117). -/
def Cell.setQ (c : Cell) (q : Int) : Cell := { c with qrem := clipS 64 q }

/-- CAP within its format. -/
def capU (x : Int) : Nat := (clip 0 4294967295 x).toNat

/-- QREM set to a fraction of CAP. -/
def Cell.setSoc (c : Cell) (x : F32) : Cell :=
  let (n, d) := F32.rat x
  c.setQ (divRne (n * c.cap * 655360000) d)

/-- What one update of a group takes in. -/
structure EstIn where
  dq : Int
  dtMs : Nat
  iF : F32
  v : Nat
  t : Int
  stale : Bool
  /-- a record of the group has been accepted since start -/
  seen : Bool
  /-- no converter measures: the SOC is held (R134) -/
  lost : Bool
  /-- correction suspended by a tile fault -/
  held : Bool
  op : Nat
  qS : Int
  restMs : Nat
  qrMs : Nat
  pair : Bool
  deriving DecidableEq, Repr

/-- What happened besides the group's new state: candidates as sign, amount in 0.01 C and their count since the last accepted result;
LEARN_RESULT (code, cmeas and ucap), and marks. -/
structure EstOut where
  cell : Cell
  cands : List (Bool × Int × Nat) := []
  results : List (Nat × Nat × Nat) := []
  gated : Bool := false
  conflict : Bool := false
  endAnchor : Bool := false
  deriving DecidableEq, Repr

/-- The registers and figures an update uses. -/
structure EstCfg where
  p : Prof
  gain : F32
  ierr : F32
  vsig : F32
  gate : F32
  floor : F32
  kfi : F32
  bnd : F32
  initUnc : F32
  qrTime : Nat
  eocBand : F32
  weight : Nat
  capUnc : F32
  codeAt : List (Nat × Nat)
  deriving DecidableEq, Repr

/-- The figures of the registers EST_DRIFT, EST_KF, EST_ANCH, EST_CFG and EST_LRN_CFG. -/
def State.estCfg (s : State) (p : Prof) : EstCfg :=
  let taz := if s.get F.CVI_SH_STAT_MEAS = 1 then s.cvi.tazB else s.cvi.tazA
  let drift := if s.flag F.CVI_SH_STAT_DRIFT then F32.ratio (absN (s.getI F.THM_DIE_TEMP - taz)) 10000 else 0
  { p := p, gain := F32.ratio (s.get F.EST_DRIFT_GAINERR) 100000,
    ierr := F32.add (F32.ratio (s.get F.EST_DRIFT_IOFS) 1000) drift,
    vsig := F32.ratio (s.get F.EST_KF_VSIGMA) 10000, gate := F32.ratio (s.get F.EST_KF_GATE) 1000,
    floor := F32.ratio (s.get F.EST_KF_KFLOOR) 1000, kfi := F32.ratio (s.get F.EST_KF_KFIMAX) 100,
    bnd := F32.ratio (s.get F.EST_CFG_DRIFTBND) 1000, initUnc := F32.ratio (s.get F.EST_CFG_INITUNC) 1000,
    qrTime := s.get F.EST_ANCH_QRTIME,
    eocBand := F32.ratio (s.get F.EST_ANCH_EOCBAND) 1000, weight := s.get F.EST_LRN_CFG_WEIGHT,
    capUnc := F32.ratio (s.get F.EST_LRN_CFG_CAPUNC) 1000, codeAt := s.lrn.codeAt }

/-! ### Learning points (R140 to R143) -/

/-- accept(cmeas): CAP moves toward the measured capacity and the SOC is kept (R143). -/
def Cell.accept (c : Cell) (weight : Nat) (cmeas : F32) : Cell :=
  let (n, d) := F32.rat cmeas
  let cap := capU (divRha (16 * c.cap * d + weight * (100 * n - c.cap * d)) (16 * d))
  { c.setQ (if c.cap = 0 then c.qrem else divRne (c.qrem * cap) c.cap) with cap := cap, learned := true, candP := 0, candM := 0 }

/-- candidate(sign, amount): it is counted since the last accepted result (R132, R144). -/
def EstOut.candidate (o : EstOut) (plus : Bool) (amount : Int) : EstOut :=
  let c := if plus then { o.cell with candP := o.cell.candP + 1 } else { o.cell with candM := o.cell.candM + 1 }
  { o with cell := c, cands := o.cands ++ [(plus, amount, if plus then c.candP else c.candM)] }

/-- A group takes a learning point b (R142). -/
def EstOut.point (o : EstOut) (k : EstCfg) (i : EstIn) (sb ub : F32) : EstOut :=
  let c := o.cell
  if i.pair then o
  else
    let b : LPoint := { s := sb, u := ub, q := i.qS, t := i.op }
    let half := F32.ratio 1 2
    let put := fun (x : EstOut) => { x with cell := { x.cell with lp := some b } }
    match c.lp with
    | none => put o
    | some a =>
      let swing := F32.abs (F32.sub sb a.s)
      let reason := ([1, 2, 4, 5, 6, 7, 8, 9].find? (fun r => match assoc? r k.codeAt with
        | some t => decide (a.t ≤ t)
        | none => false)).getD 0
      let nearer := F32.le (F32.abs (F32.sub a.s half)) (F32.abs (F32.sub sb half))
      if reason = 0 ∧ F32.le (F32.ratio 6 10) swing then
        let dq := F32.ratio (i.qS - a.q) 1000000
        let adq := F32.abs dq
        let dt := F32.ofI (i.op - a.t : Nat)
        let cmeas := F32.div adq swing
        let ucap := F32.add (F32.div (F32.add a.u ub) swing)
          (F32.div (F32.add (F32.mul adq k.gain) (F32.mul dt k.ierr)) (F32.mul swing c.capC))
        let cn := F32.ratio (uAt k.p.h 16 4 * 36) 10
        if F32.lt (F32.mul half k.p.c) (F32.div adq dt) then put { o with results := o.results ++ [(3, 0, 0)] }
        else if F32.le (F32.mul dq (F32.sub a.s sb)) 0 then put { o with results := o.results ++ [(10, 0, 0)] }
        else if F32.lt k.capUnc ucap then put { o with results := o.results ++ [(11, 0, 0)] }
        else if F32.lt cmeas (F32.mul half cn) || F32.lt (F32.mul (F32.ratio 11 10) cn) cmeas then
          put { o with results := o.results ++ [(12, 0, 0)] }
        else put { o with cell := c.accept k.weight cmeas,
                          results := o.results ++ [(0, (F32.toI cmeas 100).toNat, (F32.toI ucap 10000).toNat)] }
      else if reason ≠ 0 ∨ nearer then put o
      else o

/-! ### Anchors (R126 to R128, R133) -/

/-- The UNC of an anchor: the larger of `lo` and `mv` mV ÷ H, H in mV per %. -/
def anchorUnc (lo : F32) (mv : Nat) (h : F32) : F32 :=
  if F32.le h 0 then F32.max lo (F32.ofI 1)
  else F32.max lo (F32.div (F32.div (F32.ofI mv) (F32.mul h (F32.ofI 10))) (F32.ofI 100))

/-- Apply an anchor (R128) with the qualifier of Table 5.7: kind 1 rest, 2 quasi-rest, 3 end-of-charge, 4 end-of-discharge. -/
def Cell.anchor (c : Cell) (k : EstCfg) (op kind : Nat) (soc unc : F32) : Cell :=
  let ok := F32.le unc k.bnd
  { c.setSoc soc with
    unc := unc, hyst := if kind = 3 then 0 else c.hyst, ankind := kind, ansoc := (F32.toI soc 10000).toNat, antime := op,
    thru := 0, thruUc := 0,
    qual := if c.qual = 1 then (if kind = 1 && ok then 0 else 1) else if c.qual = 2 then (if ok then 0 else 2) else c.qual }

/-- UNC above the bound turns QUALIFIED into UNANCHORED (R129). -/
def Cell.drift (c : Cell) (k : EstCfg) : Cell := if c.qual = 0 && F32.lt k.bnd c.unc then { c with qual := 2 } else c

/-- The first update of a group (Table 5.7, first row). -/
def Cell.start (k : EstCfg) (tw : Nat × F32) (v : Nat) : Cell :=
  let c : Cell := { init := true, cap := capU (uAt k.p.h 16 4 * 360 : Nat), unc := k.initUnc, qual := 1 }
  c.setSoc (k.p.ocvInv tw (F32.ratio v 100000))

/-- A rest (kind 1) or quasi-rest anchor (kind 2) at the voltage `v`: the point is taken, and the anchor is applied when it lowers UNC and has
not been applied in this run of the timers (R126, R127, R140); the slope H is taken at the SOC being set. (DESIGN CHOICE: log entry 75) -/
def EstOut.tryAnchor (o : EstOut) (k : EstCfg) (i : EstIn) (tw : Nat × F32) (v : F32) (kind : Nat) : EstOut :=
  let soc := k.p.ocvInv tw v
  let u := if kind = 1 then anchorUnc (F32.ratio 5 1000) 2 (k.p.slope tw soc) else anchorUnc (F32.ratio 1 100) 5 (k.p.slope tw soc)
  let o1 := o.point k i soc u
  let c := if kind = 1 then { o1.cell with restPt := true } else o1.cell
  let done := if kind = 1 then c.restDone else c.quasiDone
  { o1 with cell := if !done && F32.lt u c.unc then
      (if kind = 1 then { c.anchor k i.op 1 soc u with restDone := true } else { c.anchor k i.op 2 soc u with quasiDone := true })
    else c }

/-! ### The update (R116, R131) -/

/-- The relaxation-corrected voltage of R126. -/
def vrcOf (v ik rser : F32) (c : Cell) : F32 :=
  F32.sub (F32.add (F32.add (F32.add v (F32.mul ik rser)) c.vfast) c.vslow) c.hyst

/-- The prediction of R116, with the group's series resistance. -/
def Cell.predict (c : Cell) (k : EstCfg) (i : EstIn) (dt ik : F32) (tw : Nat × F32) (clamped : Bool) : Cell × F32 :=
  let p := k.p
  let r := ((List.range 7).filter (fun j => F32.le (F32.ratio (iAt p.h (64 + 2 * j) 2) 1000) (F32.div i.iF p.c))).length
  let soc := c.soc
  let rg := F32.ratio c.rgrow 4096
  let par := fun (n : Nat) => interp 21 (p.parE r n) tw soc
  let rser := F32.mul (par 0) rg
  let af := Config.sliceExp (F32.neg (F32.div dt (par 3)))
  let as := Config.sliceExp (F32.neg (F32.div dt (par 4)))
  let one := F32.ofI 1
  let adq := F32.ratio (absN i.dq) 1000000
  let hmax := interp 21 p.hysE tw soc
  let tgt := if i.dq < 0 then hmax else if i.dq = 0 then 0 else F32.neg hmax
  let hy := F32.add c.hyst (F32.mul (F32.div (F32.mul adq (F32.ratio (uAt p.h 30 2) 100)) c.capC) (F32.sub tgt c.hyst))
  let un := F32.min one (F32.add c.unc (F32.div (F32.add (F32.mul adq k.gain) (F32.mul dt k.ierr)) c.capC))
  let th := c.thruUc + absN i.dq
  ({ c with
     qrem := clipS 64 (c.qrem - i.dq * 65536),
     vfast := F32.add (F32.mul af c.vfast) (F32.mul (F32.mul (F32.sub one af) (F32.mul (par 1) rg)) ik),
     vslow := F32.add (F32.mul as c.vslow) (F32.mul (F32.mul (F32.sub one as) (F32.mul (par 2) rg)) ik),
     hyst := hy, unc := un, tclamp := clamped, thruUc := th, thru := min 4294967295 (th / 1000000) }, rser)

/-- The correction of R116. -/
def Cell.correct (c : Cell) (k : EstCfg) (tw : Nat × F32) (e : F32) : Cell :=
  let h := k.p.slope tw c.soc
  let u3 := F32.div c.unc (F32.ofI 3)
  let pp := F32.mul u3 u3
  let gg := F32.div (F32.mul pp h) (F32.add (F32.mul (F32.mul h h) pp) (F32.mul k.vsig k.vsig))
  let dc := F32.mul (F32.mul gg e) c.capC
  let rest := F32.mul (F32.ofI 3) (F32.sqrt (F32.mul (F32.sub (F32.ofI 1) (F32.mul gg h)) pp))
  { c.setQ (c.qrem + F32.toI dc 65536000000) with unc := F32.min c.unc (F32.max k.floor rest) }

/-- The rules of R131, with the end anchors of Table 5.6. `anch`: an anchor may be applied (R126). `eoc`: the end-of-charge condition has
held for 10 s. A rule that applies an anchor waits as a whole while none may be applied. (DEDUCED: log entry 41) -/
def EstOut.disagree (o : EstOut) (k : EstCfg) (i : EstIn) (tw : Nat × F32) (v ik rser : F32) (anch eoc : Bool) : EstOut :=
  let one := F32.ofI 1
  let c0 := o.cell
  let o1 := if F32.le c0.soc 0 && F32.lt k.p.veod v then
      { o with cell := { c0 with qrem := 0, confE := true, excess := if 0 < i.dq then c0.excess + i.dq else c0.excess }, conflict := true }
    else o
  let c1 := o1.cell
  let o2 := if F32.le one c1.soc && F32.lt v k.p.veoc then
      { o1 with cell := { c1.setSoc one with confF := true, excess := if i.dq < 0 then c1.excess - i.dq else c1.excess }, conflict := true }
    else o1
  let c2 := o2.cell
  let vrc := vrcOf v ik rser c2
  let o3 := if anch && 0 < i.dq && F32.le v k.p.veod then
      let sv := k.p.ocvInv tw vrc
      let x := if c2.confE then o2.candidate true (divRha (c2.excess + F32.toI (F32.mul sv c2.capC) 1000000) 10000)
        else if F32.lt c2.unc (F32.sub c2.soc sv) then o2.candidate false (-(F32.toI (F32.mul (F32.sub c2.soc sv) c2.capC) 100)) else o2
      let u := anchorUnc (F32.ratio 1 100) 5 (k.p.slope tw sv)
      let o' := x.point k i sv u
      { o' with cell := { o'.cell.anchor k i.op 4 sv u with confE := false, confF := false, excess := 0 }, endAnchor := true }
    else o2
  let c3 := o3.cell
  let o4 := if i.dq < 0 && F32.le k.p.veoc v && F32.lt c3.soc (F32.sub one c3.unc) then
      let sv := k.p.ocvInv tw vrc
      let x := o3.candidate false (-(F32.toI (F32.mul (F32.sub sv c3.soc) c3.capC) 100))
      { x with cell := { x.cell.setSoc sv with unc := anchorUnc (F32.ratio 1 100) 5 (k.p.slope tw sv) } }
    else o3
  if anch && eoc then
    let c4 := o4.cell
    let x := if c4.confF then o4.candidate true (divRha c4.excess 10000) else o4
    let u := F32.ratio 5 1000
    let o' := x.point k i one u
    { o' with cell := { o'.cell.anchor k i.op 3 one u with confE := false, confF := false, excess := 0 }, endAnchor := true }
  else o4

/-- SOC_CONFLICT clears when the current reverses and soc moves 1.00 % back (R131). -/
def Cell.unconflict (c : Cell) (dq : Int) : Cell :=
  if (c.confE && decide (dq < 0) && F32.le (F32.ratio 1 100) c.soc)
      || (c.confF && decide (0 < dq) && F32.le c.soc (F32.ratio 99 100)) then
    { c with confE := false, confF := false, excess := 0 }
  else c

/-- One update of a group (R116, R126, R131). -/
def Cell.update (c : Cell) (k : EstCfg) (i : EstIn) : EstOut :=
  let (t, clamped) := k.p.clampT i.t
  let tw := k.p.tw t
  if !c.init then (if !i.seen then { cell := c } else { cell := { Cell.start k tw i.v with tclamp := clamped } })
  else
    let dt := F32.ratio i.dtMs 1000
    let ik := F32.ratio i.dq (1000 * i.dtMs)
    let (c1, rser) := c.predict k i dt ik tw clamped
    if i.stale || i.lost then { cell := { c1 with eoct := 0 }.drift k }
    else
      let v := F32.ratio i.v 100000
      let e := F32.sub v (F32.sub (F32.sub (F32.sub (F32.add (k.p.ocvAt tw c1.soc) c1.hyst) (F32.mul ik rser)) c1.vfast) c1.vslow)
      let inGate := F32.le (F32.abs e) k.gate
      let allowed := !i.held && !clamped && F32.le (F32.abs i.iF) (F32.mul k.kfi k.p.c) && !c1.confE && !c1.confF
      let c2 := if allowed && inGate then c1.correct k tw e else c1
      let anchors := !clamped && !i.held
      let eocNow := i.dq < 0 && F32.le (F32.sub k.p.veoc k.eocBand) v
        && F32.le (F32.abs ik) (F32.mul (F32.ratio (uAt k.p.h 28 2) 1000) k.p.c)
      let c3 := { c2 with eoct := if eocNow then min 65535 (c2.eoct + i.dtMs) else 0 }
      let o0 : EstOut := { cell := c3, gated := !inGate }
      let o1 := o0.disagree k i tw v ik rser anchors (eocNow && decide (10000 ≤ c3.eoct))
      let o2 := { o1 with cell := o1.cell.unconflict i.dq }
      let c4 := o2.cell
      let restNow := F32.le (k.p.trelax tw) (F32.ratio i.restMs 1000)
      let o3 := if anchors && restNow then o2.tryAnchor k i tw (F32.sub v c4.hyst) 1
        else if anchors && !c4.restPt && decide (k.qrTime * 1000 ≤ i.qrMs) then o2.tryAnchor k i tw (vrcOf v ik rser c4) 2
        else o2
      { o3 with cell := o3.cell.drift k }

/-! ## Derived values (R122, R123) -/

/-- A fraction in 0.01 %, rounded to the nearest and clipped to 0 … 10,000. -/
def pct (x : F32) : Nat := (clip 0 10000 (F32.toI x 10000)).toNat

/-- A fraction in 0.01 %, rounded up. (DEDUCED: log entry 41) -/
def pctUp (x : F32) : Nat :=
  let (n, d) := F32.rat (F32.mul x (F32.ofI 10000))
  (-((-n).fdiv d)).toNat

/-- Bottom and top reserve of a group. -/
def State.reserves (s : State) (c : Cell) : F32 × F32 :=
  let w := F32.min c.unc (F32.ratio (s.get F.EST_CFG_MAXWIDEN) 1000)
  (F32.add (F32.ratio (s.get F.EST_RES_BOTRES) 1000) w, F32.add (F32.ratio (s.get F.EST_RES_TOPRES) 1000) w)

/-- Usable SOC (R123). -/
def State.usable (s : State) (c : Cell) : F32 :=
  let (b, t) := s.reserves c
  let one := F32.ofI 1
  F32.clamp 0 one (F32.div (F32.sub c.soc b) (F32.sub (F32.sub one b) t))

/-- The record of a group. -/
def State.cell (s : State) (g : Nat) : Cell := nth {} s.est.cells (g - 1)

/-- Change a group's record. -/
def State.cellMod (s : State) (g : Nat) (f : Cell → Cell) : State :=
  { s with est := { s.est with cells := modNth s.est.cells (g - 1) f } }

/-- The flags that follow from all groups: REST_WANTED with its event, CONFLICT, TCLAMP (R129, Table 5.18). -/
def State.estFlags (s : State) : State :=
  let cs := s.groups.map s.cell
  let bnd := F32.ratio (s.get F.EST_CFG_DRIFTBND) 1000
  let past := cs.any (fun c => c.init && F32.lt bnd c.unc)
  let s1 := (s.setB F.EST_FLAGS_CONFLICT (cs.any (fun c => c.confE || c.confF))).setB F.EST_FLAGS_TCLAMP (cs.any (·.tclamp))
  if past && !s.flag F.EST_FLAGS_REST_FUTILE then s1.setRaise F.EST_FLAGS_REST_WANTED 32 [] else s1.setB F.EST_FLAGS_REST_WANTED false

/-! ## Records, checkpoints and wake (R134 to R136) -/

/-- The 64-byte record of a group (Table 5.9). -/
def Cell.bytes (c : Cell) (absent susp : Bool) : List Byte :=
  if absent then List.replicate 29 0 ++ [16] ++ List.replicate 34 0
  else
    leBytesI 8 c.qrem ++ leBytes 4 c.cap ++ leBytes 4 c.vfast.toNat ++ leBytes 4 c.vslow.toNat ++ leBytes 4 c.hyst.toNat
      ++ leBytes 4 c.unc.toNat ++ leBytes 1 c.qual
      ++ leBytes 1 (b2n susp + 2 * b2n c.confE + 4 * b2n c.confF + 8 * b2n c.tclamp)
      ++ leBytes 2 c.rgrow ++ leBytesI 4 (clipS 32 (divRha c.excess 10000)) ++ leBytes 1 c.ankind ++ [0] ++ leBytes 2 c.ansoc
      ++ leBytes 4 c.antime ++ leBytes 4 c.thru ++ leBytes 2 c.eoct ++ List.replicate 14 0

/-- The quarter of a cell group. -/
def groupQ (g : Nat) : Nat := (g - 1) / 160

/-- The estimator of quarter `q` writes a checkpoint into the older of its two buffers (R135). -/
def State.checkpointOf (s : State) (q : Nat) : State :=
  let k : Ckpt := { runId := s.est.runId, sseq := s.ring.sseq, at_ := s.cvi.qAt, q := s.cvi.qS, cells := (s.est.cells.drop (160 * q)).take 160 }
  if (nth none s.lan.est q).isSome then { s with est := { s.est with ckpt := modNth s.est.ckpt q (fun l => (k :: l).take 2) } } else s

/-- The checkpoints of all quarters (R373). -/
def State.checkpoint (s : State) : State := (List.range 4).foldl State.checkpointOf s

/-- Days in binary32 and the fraction 0.01 % × `rate` per day over them (Tables 5.8 and 5.14). -/
def selfRate (rate ns : Nat) : F32 := F32.mul (F32.ratio rate 10000) (F32.ratio ns (86400 * sec))

/-- Charge that leaves at SDRATE over a duration, in the unit of QREM. -/
def Cell.selfDischarge (c : Cell) (rate ns : Nat) : Int := F32.toI (F32.mul (selfRate rate ns) c.capC) 65536000000

/-- The PARK terms at wake (Table 5.8): self-discharge and uncertainty over the days in PARK; the rest timers stand at the
duration of PARK (R127). -/
def State.parkTerms (s : State) (ns : Nat) : State :=
  let ms := min 4294967295 (ns / msec)
  { s with est := { s.est with
      restMs := ms, qrMs := ms, stringS := none, done := [],
      cells := s.est.cells.map (fun c => if !c.init then c else
        { c.setQ (c.qrem - c.selfDischarge (s.get F.EST_DRIFT_SDRATE) ns) with
          unc := F32.add c.unc (selfRate (s.get F.EST_DRIFT_SDUNC) ns), restPt := false, restDone := false, quasiDone := false }) } }

end Sys2Proof.Machine
end

