-- ==== Sys2Proof/Machine/RecOps.lean ====
section
/-! DEFINITION. The recorder's records: their bytes, merging, closing an interval and writing to flash (R387 to R394). -/

namespace Sys2Proof.Machine

/-- The 12 bytes of SEGX of a position; without a temperature TMAX is held as −32,768 and TMIN as 32,767, and both read 0x8000. -/
def RecInt.seg (r : RecInt) (p : Nat) : List Byte :=
  match assoc? p r.segs with
  | some (vx, vn, tx, tn) => leBytes 4 vx ++ leBytes 4 vn ++ leBytesI 2 tx ++ (if tn = 32767 then leBytes 2 0x8000 else leBytesI 2 tn)
  | none => leBytes 4 0 ++ leBytes 4 0xFFFFF ++ leBytes 2 0x8000 ++ leBytes 2 0x8000

/-- The 1,024 bytes of a record (Table 19.4). -/
def RecEnt.bytes (e : RecEnt) : List Byte :=
  let r := e.r
  let a := leBytes 2 0x5245 ++ leBytes 1 1 ++ leBytes 1 r.kind ++ leBytes 4 e.no ++ leBytes 4 r.opsec ++ leBytes 4 r.dur
    ++ leBytes 4 r.park ++ leBytes 4 r.cyc ++ leBytes 4 r.cycEnd ++ leBytes 2 r.flags ++ leBytes 2 r.merged
    ++ r.ihist.flatMap (leBytes 4) ++ r.soc.flatMap (leBytes 4) ++ r.thist.flatMap (leBytes 4)
    ++ leBytes 8 r.qdis ++ leBytes 8 r.qchg ++ leBytes 4 r.riso ++ leBytes 4 0
    ++ ((List.range 40).map (· + 1)).flatMap r.seg
    ++ ((List.range 40).map (· + 1)).flatMap (fun p => leBytes 4 (min 4294967295 ((assoc? p r.bal).getD 0 / 1000)))
    ++ List.replicate 16 0
  a ++ leBytes 4 (if e.marked then 0 else 0xFFFFFFFF) ++ leBytes 4 (crc32c a)

/-- A saturating sum of 32-bit values; FLAGS.SAT bit 0 is set by the caller where it saturated. -/
def sat32 (a b : Nat) : Nat := min 4294967295 (a + b)

/-- Element by element saturating sums. -/
def sumSat (a b : List Nat) : List Nat := (a.zip b).map (fun p => sat32 p.1 p.2)

/-- Whether any element by element sum saturates. -/
def anySat (a b : List Nat) : Bool := (a.zip b).any (fun p => decide (4294967295 < p.1 + p.2))

/-- SEGX of two records (R392). -/
def mergeSeg (a : List (Nat × (Nat × Nat × Int × Int))) (p : Nat) (x : Nat × Nat × Int × Int) : List (Nat × (Nat × Nat × Int × Int)) :=
  match assoc? p a with
  | none => assocPut p x a
  | some y => assocPut p (max x.1 y.1, min x.2.1 y.2.1, max x.2.2.1 y.2.2.1, min x.2.2.2 y.2.2.2) a

/-- Two records merged, the earlier first (R391, R392). -/
def RecInt.merge (a b : RecInt) (kind : Nat) : RecInt :=
  let q64 := 18446744073709551615
  let sat := anySat a.ihist b.ihist || anySat a.soc b.soc || anySat a.thist b.thist || decide (q64 < a.qdis + b.qdis)
    || decide (q64 < a.qchg + b.qchg) || anySat [a.dur, a.park] [b.dur, b.park] || decide (65535 < a.merged + b.merged) || b.bal.any (fun x => decide (4294967295000 < (assoc? x.1 a.bal).getD 0 + x.2))
  { kind := kind, opsec := a.opsec, dur := sat32 a.dur b.dur, park := sat32 a.park b.park, cyc := a.cyc, cycEnd := b.cycEnd,
    flags := (a.flags ||| b.flags) ||| b2n sat, merged := min 65535 (a.merged + b.merged),
    ihist := sumSat a.ihist b.ihist, soc := sumSat a.soc b.soc, thist := sumSat a.thist b.thist,
    qdis := min q64 (a.qdis + b.qdis), qchg := min q64 (a.qchg + b.qchg), riso := min a.riso b.riso,
    segs := b.segs.foldl (fun l x => mergeSeg l x.1 x.2) a.segs,
    bal := b.bal.foldl (fun l x => assocPut x.1 ((assoc? x.1 l).getD 0 + x.2) l) a.bal }

/-- Close the open interval, balancing times in whole seconds: it waits in Q42, or under a freeze as a pending record, the fifth merged into the newest
(R388, R393); a new interval opens at once. -/
def State.recClose (s : State) : State :=
  let x := s.rcd.cur
  let fl := x.flags ||| (if s.flag F.TIM_STAT_VALID then 0 else 8) ||| (if x.riso = 0xFFFFFFFF then 16 else 0)
  let y := { x with flags := fl, cycEnd := s.get F.REC_PWRCYC, bal := x.bal.map (fun b => (b.1, b.2 / 1000 * 1000)) }
  let fresh : RecInt := { opsec := s.opsec, cyc := s.get F.REC_PWRCYC }
  let r1 := { s.rcd with cur := fresh }
  let s1 :=
    if s.flag F.REC_STATE_FROZEN || decide (8 ≤ s.rcd.q42.length) then
      let p := if s.rcd.pend.length < 4 then s.rcd.pend ++ [y]
               else match s.rcd.pend.getLast? with
                 | some z => s.rcd.pend.dropLast ++ [z.merge y 3]
                 | none => [y]
      { s with rcd := { r1 with pend := p } }
    else { s with rcd := { r1 with q42 := s.rcd.q42 ++ [y] } }
  { s1.set F.REC_STATE_PENDING s1.rcd.pend.length with flash := { s1.flash with opsec := s.opsec } }

/-- The pending records enter Q42 oldest first (R393). -/
def State.recRelease (s : State) : State :=
  let n := 8 - s.rcd.q42.length
  let s1 := { s with rcd := { s.rcd with q42 := s.rcd.q42 ++ s.rcd.pend.take n, pend := s.rcd.pend.drop n } }
  s1.set F.REC_STATE_PENDING s1.rcd.pend.length

/-- The day of a record. -/
def RecInt.day (r : RecInt) : Nat := r.opsec / 86400

/-- The count register follows the flash (Table 19.13). -/
def State.recCount (s : State) : State :=
  (s.set F.REC_COUNT_HOURLY (s.flash.hourly.filter (fun e => !e.marked)).length).set F.REC_COUNT_DAILY s.flash.daily.length

/-- Each whole block of 64 records that are all marked is erased (R392). -/
def eraseMarked : Nat → List RecEnt → List RecEnt
  | 0, l => l
  | n + 1, l =>
    if l.length < 64 then l
    else (if (l.take 64).all (·.marked) then [] else l.take 64) ++ eraseMarked n (l.drop 64)

/-- A record written with SAT set: SAT_SEEN, and event REC_SAT once for it (R391). -/
def State.satWritten (s : State) (r : RecInt) : State :=
  if r.flags % 2 = 0 then s else (s.setB F.REC_STATE_SAT_SEEN true).raise 116 []

/-- `h` blocks of the hourly area and `d` of the daily area are erased, each area's blocks in turn (R384). (DEDUCED: log entry 64; DESIGN CHOICE: log entry 65) -/
def State.recErase (s : State) (h d : Nat) : State :=
  let b := FlashRegion.recorder.block
  let f := (List.range h).foldl (fun (f : Flash) i => f.erased (b + (s.flash.recErased.1 + i) % hourlyBlocks)) s.flash
  let g := (List.range d).foldl (fun (f : Flash) i => f.erased (b + hourlyBlocks + (s.flash.recErased.2 + i) % dailyBlocks)) f
  { s with flash := { g with recErased := (s.flash.recErased.1 + h, s.flash.recErased.2 + d) } }

/-- Merge the unmarked records of day `d` into one daily record (R392). -/
def State.recMerge (s : State) (d : Nat) (early : Bool) : State :=
  let src := s.flash.hourly.filter (fun e => !e.marked && e.r.day == d)
  match src.map (·.r) with
  | [] => s
  | a :: t =>
    let m := t.foldl (fun x y => x.merge y 2) { a with kind := 2 }
    let m := if early then { m with flags := m.flags ||| 4 } else m
    let full := decide (22272 ≤ s.flash.daily.length)
    let daily := (if full then s.flash.daily.drop 64 else s.flash.daily) ++ [RecEnt.mk s.flash.recNext false m]
    let hourly := s.flash.hourly.map (fun e => if !e.marked && e.r.day == d then { e with marked := true } else e)
    let kept := eraseMarked 36 hourly
    let s0 := s.recErase ((hourly.length - kept.length) / 64) (b2n full)
    let s1 := { s0 with flash := { s0.flash with daily := daily, hourly := kept, recNext := s.flash.recNext + 1 } }
    let s2 := (s1.set F.REC_LAST s.flash.recNext).recCount
    let s3 := if early then s2.setB F.REC_STATE_EARLY true else s2
    let s4 := s3.satWritten m
    if full then
      let s5 := s4.setB F.REC_STATE_WRAP true
      if s5.rcd.wrapRaised then s5 else ({ s5 with rcd := { s5.rcd with wrapRaised := true } }).raise 117 []
    else s4

/-- The oldest days are merged early until the hourly area has erased space (R392). -/
def State.recRoom : Nat → State → State
  | 0, s => s
  | n + 1, s =>
    if s.flash.hourly.length < 2304 then s
    else match (s.flash.hourly.filter (fun e => !e.marked)).head? with
      | some e => State.recRoom n (s.recMerge e.r.day true)
      | none => s

/-- At each start the unmarked hourly records of a day whose daily record exists are marked (R392). -/
def State.recStart (s : State) : State :=
  let days := s.flash.daily.map (fun e => e.r.day)
  let hourly := s.flash.hourly.map (fun e => if days.contains e.r.day then { e with marked := true } else e)
  let kept := eraseMarked 36 hourly
  let s1 := s.recErase ((hourly.length - kept.length) / 64) 0
  { s1 with flash := { s1.flash with hourly := kept } }.recCount

/-- A record from Q42 is written to flash with its number (R389, R391, R392). (DEDUCED: log entry 64) -/
def State.recWrite (s : State) : State :=
  match s.rcd.q42 with
  | [] => s
  | r :: t =>
    let s0 := State.recRoom 2304 s
    let s1 := { s0 with rcd := { s0.rcd with q42 := t },
                        flash := { s0.flash with hourly := s0.flash.hourly ++ [RecEnt.mk s0.flash.recNext false r],
                                                 recNext := s0.flash.recNext + 1 } }
    let s2 := (s1.set F.REC_LAST s0.flash.recNext).recCount
    let s3 := s2.satWritten r
    if s3.flag F.REC_STATE_FROZEN then s3 else s3.recRelease

/-- Add to a bin with saturation, and the mark that it saturated. -/
def binAdd (l : List Nat) (i n : Nat) : List Nat × Bool := (modNth l i (fun v => sat32 v n), decide (4294967295 < nth 0 l i + n))

/-- Bin of a value in bins of width `w` from `lo`, `n` bins (R389). -/
def binOf (lo w : Int) (n : Nat) (v : Int) : Nat := (clip 0 (n - 1 : Nat) ((v - lo).fdiv w)).toNat

/-- The recorder's temperatures of position `p`: each fitted channel after substitution; with no valid thermistor of the string the held T_g
of the first group that maps to the channel (R210). -/
def State.recTemps (s : State) (p : Nat) : List Int :=
  (List.range 8).filterMap (fun t =>
    if !s.fitted t then none
    else match s.chanT p t with
      | some v => some v
      | none => (((List.range (s.cells p)).map (fun c => 16 * (p - 1) + c + 1)).find? (fun g => s.chanOf g == t)).map s.tGroup)

/-- One second in RUN or HALT enters the open interval (R390). -/
def State.recSecond (s : State) : State :=
  let i := if s.rcd.iN = 0 then s.getI F.CVI_I else divRne s.rcd.iSum s.rcd.iN
  let r := s.rcd.cur
  let (ih, s1) := binAdd r.ihist (binOf (-1600000) 100000 32 i) 1
  let (so, s2) := binAdd r.soc (binOf 0 500 20 (s.get F.EST_STR_SOC_USOC)) 1
  let ts := s.positions.flatMap s.recTemps
  let (th, s3) := ts.foldl (fun (a : List Nat × Bool) v =>
    let (l, b) := binAdd a.1 (binOf (-4000) 500 24 v) 1
    (l, a.2 || b)) (r.thist, false)
  { s with rcd := { s.rcd with
      iSum := 0, iN := 0,
      cur := { r with ihist := ih, soc := so, thist := th, dur := sat32 r.dur 1,
                      flags := r.flags ||| b2n (s1 || s2 || s3 || decide (4294967295 < r.dur + 1)) } } }

/-- An accepted record enters the open interval: extremes and balancing time (R390). -/
def State.recRecord (s : State) (p : Nat) (raw : List Byte) : State :=
  let n := s.cells p
  let vs := (List.range n).map (fun c => recCell raw c)
  let ts := s.recTemps p
  let r := s.rcd.cur
  let segs := mergeSeg r.segs p (vs.foldl max 0, vs.foldl min 0xFFFFF, (maxI? ts).getD (-32768), (minI? ts).getD 32767)
  let bal := if (uAt raw 2 2).testBit 1 then assocPut p ((assoc? p r.bal).getD 0 + s.periodMs) r.bal else r.bal
  let sat := decide (4294967295000 < (assoc? p bal).getD 0)
  { s with rcd := { s.rcd with cur := { r with segs := segs, bal := bal, flags := r.flags ||| b2n sat } } }

end Sys2Proof.Machine
end

