-- ==== Sys2Proof/Machine/ModeOps.lean ====
section
/-! DEFINITION. Module states and resets: clock domains, HALT, gander's demand, entry to and wake from PARK, and the reach of
each reset (R26, R358 to R375, R424). -/

namespace Sys2Proof.Machine

/-! ## Commands that are dropped (R51, R305) -/

/-- The reply to a BALANCE_PLAN once every node has answered (R305). -/
def State.balanceReply (s : State) : State :=
  match s.host.waiting.find? (fun w => w.why == WaitFor.balance) with
  | none => s
  | some w =>
    let n := uAt w.req.payload 0 1
    let ps := (List.range n).map (fun i => uAt w.req.payload (2 + 34 * i) 1)
    if ps.all (fun p => (assoc? p s.ring.results).isSome) then
      let body := ps.map (fun p => BitVec.ofNat 8 ((assoc? p s.ring.results).getD 0xFF))
      { s with host := { s.host with waiting := s.host.waiting.filter (fun x => x.why != WaitFor.balance) },
               ring := { s.ring with results := [] } }.answer w.id stOk 0 body
    else s

/-- Queued ring commands are dropped; those of a host plan count as unanswered. -/
def State.cmdsLost (s : State) : State :=
  let plan := (s.ring.cmds ++ s.ring.inflight.toList ++ s.ring.replies.map (·.1)).filter (fun c => c.use == 1)
  let s1 : State := { s with ring := { s.ring with
    cmds := [], inflight := none, replies := [], results := plan.foldl (fun l c => assocPut c.pos 0xFF l) s.ring.results } }
  if plan.isEmpty then s1 else s1.balanceReply

/-! ## Ring start-up (R62) -/

/-- The ring begins its start-up; with LEN 0 it stays idle. What the previous start-up left is discarded. (DEDUCED: log entry 31) -/
def State.ringStart (s0 : State) (reset : Bool) : State :=
  let s := s0.cmdsLost
  let s1 := { s with
    ring := { s.ring with
      startDue := s.len != 0, startReset := reset || s.ring.startDue && s.ring.startReset, step5 := false, ahead := false,
      live := false, colSplit := false, split := false, probing := false, probeE := none, probeW := none,
      missed := 0, hbOut := [], hbLast := none, sentS := none, colS := none, calDue := false, graceAt := none, excluded := [],
      tiles := s.ring.tiles.map (fun (x : Nat × TileRec) => (x.1, { x.2 with ever := false, fresh := false, scans := 0 })) },
    acq := { s.acq with owKind := 0, owNodes := [], owBase := [], owScans := 0, resend := [] } }
  ((s1.setB F.ACQ_STAT_OWRUN false).set F.RING_STAT_UNREACH 0).set F.RING_STAT_STATE (if s.len = 0 then 0 else 1)

/-! ## HALT and gander's demand -/

/-- MSTATE follows the mode. -/
def State.setMode (s : State) (m : Mode) : State :=
  let s1 := { s with rst := { s.rst with mode := m } }
  match m with
  | .run => s1.set F.RST_STAT_MSTATE 0
  | .park => s1.set F.RST_STAT_MSTATE 1
  | .halt => s1.set F.RST_STAT_MSTATE 2
  | .recovery => s1.set F.RST_STAT_MSTATE 3
  | _ => s1

/-- Gates low, coils off, jobs that need the converter ended. -/
def State.outputsOff (s : State) : State := s.loopStop.coilsTrip.endCurrentJobs

/-- Gander raises its demand to flint (R185, R220). -/
def State.ganderTrip (s : State) : State := s.latch 6

/-- Gander holds its demand (R185): a safety stop not yet reset, thermal shutdown, fewer than two lanes in service, or TIME lost. -/
def State.ganderHolds (s : State) : Bool :=
  decide (3 ≤ s.get F.SAF_STAT_STATE) || s.flag F.THM_STAT_TSD
    || (s.inService && (decide ((s.lan.st.filter (· == 1)).length < 2) || !s.domainGood 11))

/-- The HALT cause that stands now: 0 none, 1 TSD, 2 GSELF, 3 CLK_FAIL, 4 SAFE lost (R372). -/
def State.haltCause (s : State) : Nat :=
  let f := s.get F.RST_CLKFAIL_FAIL
  if s.flag F.THM_STAT_TSD then 1
  else if s.flag F.SAF_FAULT_GSELF then 2
  else if f.testBit 4 || f.testBit 5 || f.testBit 6 || f.testBit 11 then 3
  else if f.testBit 1 then 4
  else 0

/-! ## Wake (R375, R38, R356) -/

/-- TIM_STAT.STATE changes (R323). -/
def State.timState (s : State) (c : Nat) : State :=
  if s.get F.TIM_STAT_STATE = c then s else (s.set F.TIM_STAT_STATE c).raise 89 []

/-- In FREE and HOLDOVER quartz runs on the rate in force plus the feed-forward of Table 9.1 (R205, R323), within ±500 ppm. (DEDUCED: log entry 56) -/
def State.feedForward (s : State) : State :=
  let st := s.get F.TIM_STAT_STATE
  if s.time.run && (st == 0 || st == 3) then
    s.setI F.TIM_ADJ_RATE (clip (-2147484) 2147484 (s.ptp.base + divRha (s.thm.refPpb * 4294967296) 1000000000))
  else s

/-- Quartz restarts from the AO coarse time; STEPPED and VALID clear and the time state is free-running again (R38, R322). -/
def State.quartzStart (s : State) : State :=
  let s1 := { s with time := { s.time with run := true, qz := s.time.aoSec * sec * 4294967296, secShadow := 0, aoFrac := 0 }, ptp := { base := s.ptp.base },
                     ring := { s.ring with scanNo := none }, ctl := { s.ctl with sampNo := none } }
  ((((s1.setB F.TIM_STAT_STEPPED false).setB F.TIM_STAT_VALID false).set F.TIM_STAT_PORT 0).timState 0).setB F.GLB_GRID_SLEWING false
    |>.set F.GLB_GRID_PHASE_ERR 0 |>.feedForward

/-- RST_WAKETMR counts in PARK only and keeps the remainder (Table 18.16). -/
def State.wakeTimer (s : State) : State :=
  s.set ⟨0x10018, 0, 32⟩ (s.get ⟨0x10018, 0, 32⟩ - (s.now - s.rst.parkAt) / sec)

/-- The reply to a WAKE that waits follows the wake (R306). -/
def State.wakeReply (s : State) : State :=
  let (w, rest) := s.host.waiting.partition (fun x => x.why == .wake)
  w.foldl (fun a x => a.answer x.id stOk 0 []) { s with host := { s.host with waiting := rest } }

/-- An hour boundary passed in PARK closes the interval at wake; the PARK seconds enter it (R388, R390). -/
def State.recWake (s : State) : State :=
  let p := s.rcd.parkSec
  let cur := s.rcd.cur
  let c1 : RecInt := { cur with park := sat32 cur.park p, flags := cur.flags ||| b2n (decide (4294967295 < cur.park + p)) }
  let s1 := { s with rcd := { s.rcd with parkSec := 0, hourDue := false, iSum := 0, iN := 0, cur := c1 } }
  if s.rcd.hourDue then s1.recClose else s1

/-- The bay side begins anew at a start and at a wake: nothing heard yet (R269). -/
def State.bayRestart (s : State) : State :=
  { s with bay := { s.bay with startAt := s.now, heardAt := none, both := 0, cycle := none, sent := false, computed := false,
                               held := none, reports := [], takeNext := false, handover := false, acts := [], grants := [] } }

/-- Timers of sessions, assemblies, restore pieces and the snapshot copy stand still in PARK (R282, R310). -/
def State.parkShift (s : State) : State :=
  let f := fun (a : Nat) => if a < s.rst.parkAt then a + (s.now - s.rst.parkAt) else s.now
  { s with
    host := { s.host with sess := s.host.sess.map (fun (x : Session) => if x.st == .free then x else { x with since := f x.since }) },
    cfg := { s.cfg with asmT := s.cfg.asmT.map (fun (a : Assembly) => { a with since := f a.since }),
                        asmC := s.cfg.asmC.map (fun (a : Assembly) => { a with since := f a.since }) },
    est := { s.est with copyAt := f s.est.copyAt, restore := s.est.restore.map (fun (x : RestoreSt) => { x with since := f x.since }) } }

/-- The running lanes' clocks start anew at a wake. -/
def State.lanesWake (s : State) : State :=
  { s with lan := { s.lan with gate := s.lan.st.map (fun c => if c = 1 ∨ c = 3 then some s.now else none) } }

/-- A full wake by source `src` of Table 18.9, into HALT where a cause stands (R372, R375). (DEDUCED: log entry 55) -/
def State.fullWake (s : State) (src : Nat) : State :=
  let c := if s.haltCause ≠ 0 then s.haltCause else if s.rst.halted then s.get F.RST_STAT_HALTC else 0
  let s1 := (s.set F.RST_WAKESRC_SRC src).set F.RST_WAKESRC_SEEN (s.get F.RST_WAKESRC_SEEN ||| 2 ^ (src - 1))
  let sys := if s.rst.listen.isEmpty then 0 else 4
  let s2 := { s1.lanesWake with rst := { s1.rst with listen := [], halted := false, wdogAt := s.now, evrCopy := none,
                                                     good := s1.rst.good ||| sys, been := s1.rst.been ||| sys }, time := { s1.time with unal := true } }
  let s3 := (((s2.setMode (if c = 0 then .run else .halt)).set F.RST_STAT_HALTC c).setB F.EVR_GDIS_INT false).wakeTimer.quartzStart.setB
    F.GLB_GRID_ALIGNED false
  let s4 := (s3.bayRestart.ringStart false).azStart.parkTerms (s.now - s.rst.parkAt)
  ((s4.parkShift.canRestart).recWake).wakeReply

/-- HALT for a cause (R372): from RUN at once, from PARK by a wake into HALT, at a start through the cause that stands. -/
def State.haltEntry (s : State) (c : Nat) : State :=
  match s.rst.mode with
  | .run => (s.outputsOff.setMode .halt).set F.RST_STAT_HALTC c
  | .park => ({ s with rst := { s.rst with halted := true } }.set F.RST_STAT_HALTC c).fullWake 7
  | _ => s

/-! ## PARK (R373) -/

/-- The I²C port stops: a call in progress and one that waits are dropped (Table 16.6). -/
def State.iicStop (s : State) : State :=
  ({ s with iic := { s.iic with call := none, onBus := false, gap := false, waiting := false, busFree := true, target := false } }.set F.IIC_STAT_ROLE
    0).set ⟨0xF000C, 2, 2⟩ 0

/-- The lanes' final checkpoint and the slowed ring; quartz, converters, ports and the valve (R212) stop and the interval of the recorder
stays open. Rotation is applied by the caller before. (DEDUCED: log entry 50) -/
def State.parkEnter (s0 : State) : State :=
  let s := s0.cmdsLost
  let s1 := s.checkpoint
  let s2 := (s1.setMode .park).setB F.EVR_GDIS_INT true
  let s3 : State := { s2.iicStop with
    rst := { s2.rst with
      parkAt := s.now, listen := [], halted := s.rst.mode == Mode.halt, good := s2.rst.good &&& 3,
      been := s2.rst.been &&& 3, evrCopy := none },
    time := { s2.time with run := false },
    ring := { s2.ring with missed := 0, hbOut := [], hbLast := none, sentS := none, colS := none, scanNo := none,
                           calDue := s2.ringOn && !s2.ring.startDue && !s2.ring.split },
    est := { s2.est with restEnd := none },
    cvi := { s2.cvi with hist := [], winS := none, tagS := none, insOpen := true, ins := {} },
    eth := { s2.eth with macs := [], tsq := [[], []] },
    lrn := { s2.lrn with codeAt := assocPut 8 s.opsec s2.lrn.codeAt },
    rcd := { s2.rcd with parkSec := 0 },
    flash := { s2.flash with opsec := s.opsec } }
  let off : State := { s3.canStop with thm := { s3.thm with valveD := 0, duty95At := none } }.set F.THM_VALVE_DUTY 0
  let s4 := ((off.setB F.EST_FLAGS_RESTING false).setB F.TIM_ETH_LINK false).setB (F.TIM_ETH_LINK.ix 1) false
  if s4.get F.RING_STAT_STATE = 0 then s4 else s4.set F.RING_STAT_STATE 6

/-! ## Resets -/

/-- Fields that AO holds through a reset of system reach (Table 18.2), and the recorder's registers. (DEDUCED: log entry 60) -/
def aoFields : List Fld :=
  [⟨0x10000, 0, 32⟩, F.RST_STAT_REFSAFE, F.RST_STAT_DBGOVR, F.RST_BOOT_ATTEMPTS, F.THM_STAT_TSD, ⟨0xa0010, 0, 32⟩,
   F.SAF_STAT_LATCHED, F.SAF_STAT_FLTLATCH, ⟨0xa0014, 0, 32⟩, ⟨0x110000, 0, 32⟩, ⟨0x110004, 0, 32⟩, ⟨0x110008, 0, 32⟩,
   ⟨0x11000c, 0, 32⟩, ⟨0x110010, 0, 32⟩, ⟨0x110014, 0, 32⟩]

/-- An instant lies in the present SAFE cycle. -/
def State.safeCycle (s : State) (a : Nat) : Bool := decide (2 * s.now / 125 = 2 * a / 125)

/-- The supervisor watchdog is unserved for 2 s, in service or while an image starts (R358). -/
def State.wdogDue (s : State) : Bool :=
  (s.inService || (s.rst.mode == .starting && s.rst.image)) && decide (s.rst.wdogAt + 2 * sec ≤ s.now)

/-- The start is not confirmed within 5 s of the counter's increment (R368). -/
def State.startLate (s : State) : Bool := s.rst.mode == .starting && s.rst.bootAt.any (fun a => decide (a + 5 * sec ≤ s.now))

/-- Gander watches the supervisor's signals, and a failure would be the second within 10 min (R250). -/
def State.supWatched (s : State) : Bool := s.inService && !s.lan.supDown
def State.supSecond (s : State) : Bool := s.supWatched && s.lan.supLast.any (fun a => decide (s.now < a + 600 * sec))

/-- The sources that can still assert in the SAFE cycle of this assertion. -/
def State.dueSources (s : State) : List Nat :=
  [(2, s.wdogDue), (3, s.startLate), (4, s.supSecond), (5, s.supWatched && !s.supSecond), (12, s.clockGood 2)].filterMap
    (fun x => if x.2 then some x.1 else none)

/-- Source `n` meets in one SAFE cycle the reset that has asserted (R361, Table 18.10). -/
def State.coincides (s : State) (n : Nat) : Bool := s.rst.mode == .reset && s.rst.coin.contains n && s.safeCycle s.rst.assertAt

/-- A source of RST_CAUSE is seen (R361). -/
def State.cause (s : State) (n : Nat) : State :=
  let w := (s.word 0x10000).toNat % 1024
  let first := s.get F.RST_CAUSE_FIRST
  let s1 := s.set ⟨0x10000, n, 1⟩ 1
  let same := s.safeCycle s.rst.firstAt
  if w = 0 || (same && decide (n + 1 < first)) then
    { s1.set F.RST_CAUSE_FIRST (n + 1) with rst := { s1.rst with firstAt := s.now } }
  else s1

/-- What survives every reset: the flash, what has left the module, the queue, time since power-on, the supply VCOIL and the draws made. -/
def State.survivors (s r : State) : State :=
  { r with now := s.now, pending := s.pending, flash := s.flash, out := s.out, free := s.free,
           host := { r.host with nonces := s.host.nonces }, prt := { r.prt with vcoil := s.prt.vcoil }, est := { r.est with draws := s.est.draws, runId := s.est.runId } }

/-- A reset of system reach (Table 18.2). The holds of a supervisor or port reset in progress run on (R360), and AO keeps the router's
retention copy, which nothing restores from (R356). (DEDUCED: log entry 55; DEDUCED: log entry 60) -/
def State.systemReset (s : State) : State :=
  let r := s.survivors State.reset
  let r1 := aoFields.foldl (fun a f => a.set f (s.get f)) r
  { r1 with
    time := { aoSec := s.time.aoSec, aoAt := s.time.aoAt },
    rst := { asserted := s.rst.asserted, good := s.rst.good &&& 3, been := s.rst.been &&& 3, firstAt := s.rst.firstAt, wdogAt := s.now,
             holding := s.rst.holding, assertAt := s.rst.assertAt, coin := s.rst.coin,
             due := s.rst.due.filter (fun d => s.safeCycle d.2.2), portAt := s.rst.portAt.filter (fun x => decide (s.now < x.2)),
             evrCopy := if s.rst.mode == .park then some (s.evr, s.regs.filter (fun x => x.1 / 65536 == 2)) else s.rst.evrCopy },
    lan := { r1.lan with supRst := s.lan.supRst.filter (fun a => decide (s.now < a + msec)) },
    eth := { r1.eth with resetAt := s.eth.resetAt.map (fun o => o.filter (fun a => decide (s.now < a + msec))) },
    saf := { swByte := s.saf.swByte },
    rcd := s.rcd }

/-- A source of system reach asserts (R358, R360): its cause bit, the reset, and the earliest release. -/
def State.assertSystem (s : State) (n : Nat) : State :=
  if s.rst.mode = .off then s
  else
    let s1 := s.cause n
    let coin := if s.rst.mode = .reset && s.safeCycle s.rst.assertAt then s.rst.coin else s.dueSources
    let s2 := { s1 with rst := { s1.rst with asserted := s1.rst.asserted ++ [(n, s.now + 100 * usec)], assertAt := s.now, coin := coin } }
    s2.systemReset

/-- A power-on reset, of full reach (R358, R361), for as long as the core rail is out of band. The power cycle counts in flash. -/
def State.fullReset (s : State) : State :=
  let r := s.survivors State.reset
  let pin := s.rst.holding.filter (· == 1)
  { r with rst := { r.rst with asserted := (0, s.now + 10 * msec) :: pin.map (fun n => (n, s.now + 100 * usec)), holding := 0 :: pin, firstAt := s.now } }

/-- The condition of a level source ends: its minimum counts from here. -/
def State.levelEnd (s : State) (n min : Nat) : State :=
  if s.rst.holding.contains n then
    { s with rst := { s.rst with holding := s.rst.holding.filter (· ≠ n), asserted := s.rst.asserted.map (fun x => if x.1 = n then (n, s.now + min) else x) } }
  else s

/-- The core rail is in band: 10 ms to the release; after OFF it is the power-on reset. -/
def State.railGood (s : State) : State := (if s.rst.mode = .off then s.fullReset else s).levelEnd 0 (10 * msec)

/-- RESET_N low for 1 µs. -/
def State.pinLow (s : State) : State :=
  if s.rst.holding.contains 1 then s
  else
    let a := s.assertSystem 1
    { a with rst := { a.rst with holding := a.rst.holding ++ [1] } }

/-- Loss of VAUX: the logic stops; everything of full reach is lost (R370). -/
def State.vauxLost (s : State) : State :=
  let r := s.fullReset
  { r with rst := { r.rst with mode := .off, asserted := [], holding := r.rst.holding.filter (· == 1), good := 0 } }

/-- A supervisor-only reset (Table 18.2): S0, S1, jobs, sessions, owner, staged configuration and assemblies; a port's
queues stay, but packets of the sessions leave them (R282). -/
def State.supervisorReset (s0 : State) : State :=
  let s := s0.jobsLost (fun _ => true) 9
  let s1 : State := { s with
    host := { nonces := s.host.nonces, spiOut := s.host.spiOut.filter (·.key.isEmpty) }, jobNext := 1, cfg := {},
    evr := { s.evr with act := s.evr.act.filter (fun a => decide (2 < a.2)) },
    lrn := { s.lrn with codeAt := assocPut 9 s.opsec s.lrn.codeAt },
    lan := { s.lan with supRst := some s.now, supDown := true },
    rst := { s.rst with due := [] } }
  (s1.setB F.LAN_STAT_SUPRST_SEEN true).updDiscard

/-- The sealed part of a reset request by the opcode or gander: the supervisor-only reset with its cause; under a reset of system reach only
its cause and its hold (R360). -/
def State.assertSupervisor (s : State) (n : Nat) : State :=
  let s1 := s.cause n
  if s1.rst.mode = .reset then { s1 with lan := { s1.lan with supRst := some s.now } } else s1.supervisorReset

end Sys2Proof.Machine
end

