-- ==== Sys2Proof/Machine/Views.lean ====
section
/-! DEFINITION. What a register reads as when its content follows from other state, and the byte forms of the status opcodes
(R11, R287, R335, R349, R423, Tables 14.4 to 14.8). -/

namespace Sys2Proof.Machine

/-- Bits of a list, the first at bit 0. -/
def bitsOf (l : List Bool) : Nat := (l.zipIdx).foldl (fun a (b, i) => if b then a + 2 ^ i else a) 0

/-- GLB_SESS (Table 13.9 and the session registers): sessions open and pending, the owner and the provisioning bit. -/
def State.sessWord (s : State) : Nat :=
  bitsOf (s.host.sess.map (fun x => x.st == .opened)) + 256 * bitsOf (s.host.sess.map (fun x => x.st == .pending))
    + (match s.host.owner with | some n => 65536 * n + 524288 | none => 0) + 16777216 * s.get F.GLB_SESS_PROV

/-- EVR_LINE[h] (Table 17.7). -/
def State.lineWord (s : State) (h : Nat) : Nat :=
  let act := s.activeOn (8 + h)
  (nth none s.evr.shown h).getD 255 + 256 * act.headD 255 + 65536 * act.length + 1048576 * b2n (nth false s.pads.attn h)

/-- EVR_SRC[n] (Table 17.9). -/
def State.srcWord (s : State) (n : Nat) : Nat :=
  let a := s.evr.act.find? (fun p => p.1 = n)
  b2n (s.pending?.contains n) + 2 * b2n a.isSome + 4 * b2n (s.evr.shown.any (fun o => o == some n))
    + 16 * (a.map (·.2)).getD 0 + 256 * (assoc? n s.evr.cnt).getD 0 + 4096 * b2n (s.evr.ovf.contains n)

/-- EVR_TGT[n] with KIND and HOSTOK (Table 17.8). -/
def State.tgtRead (s : State) (n : Nat) : Nat :=
  (s.tgtWord n).toNat % 131072 + (if n = 0 then 131072 else 0) + (if n < 128 then 262144 else 0)

/-- LAN_STATE (Table 11.7). -/
def State.laneWord (s : State) : Nat :=
  let st := s.lan.st
  (st.zipIdx).foldl (fun a (c, i) => a + c * 8 ^ i) 0 + 65536 * ((st.findIdx? (· == 2)).getD 7) + 1048576 * (st.filter (· == 1)).length

/-- LAN_HOURS[n] (Table 11.12): the hours of the lane, saturating; 0 until the assignment has been read. -/
def State.hoursWord (s : State) (n : Nat) : Nat :=
  let h := nth 0 s.lan.hours n
  min 2147483647 h + 2147483648 * b2n (decide (2147483648 ≤ h))

/-- LAN_BIST[n] (Table 11.12). -/
def State.bistWord (s : State) (n : Nat) : Nat :=
  if nth 0 s.lan.st n = 0 then 0xFF00
  else
    let b := nth (0, none) s.flash.bist n
    let age := match b.2 with
      | none => 255
      | some o => min 254 ((s.opsec - o) / 3600)
    let f := ((nth [] s.flash.fences n).filter (fun o => decide (s.opsec < o + 2592000))).length
    b.1 + 256 * age + 65536 * min 32 (nth 0 s.flash.laneTiles n) + 16777216 * min 15 f

/-- LAN_ASSIGN (Table 11.8). -/
def State.assignWord (s : State) : Nat :=
  ((s.lan.tok ++ s.lan.est).zipIdx).foldl (fun a (o, i) => a + (o.getD 7) * 16 ^ i) 0

/-- EST_STAT (Table 5.17). -/
def State.estStatWord (s : State) : Nat :=
  let cs := s.groups.map s.cell
  let n := fun (q : Nat) => (cs.filter (fun c => c.qual == q)).length
  n 0 + 1024 * n 1 + 1048576 * n 2

/-- A word of a stored receive object: RXSTAT live, the others as latched at the last read of RXSTAT (R335). -/
def State.rxWord (s : State) (n k : Nat) : Nat :=
  if k = 0 then
    match assoc? n s.can.objs with
    | none => 0
    | some o => o.frame.data.length + 256 * (b2n o.frame.fdf + 2 * b2n o.frame.brs + 4 * b2n o.frame.esi)
        + 65536 * b2n o.new + 131072 * b2n o.lost
  else
    match assoc? n s.can.shadow with
    | none => 0
    | some o => if k = 1 then o.ns else if k = 2 then o.sec % 4294967296 else if k < 4 then 0 else uAt o.frame.data (4 * (k - 4)) 4

/-- Main SRAM tiles retired and spares remaining (Table 19.8). -/
def State.mainRetired (s : State) : Nat := min 1024 (s.flash.tiles.filter (fun x => x.1 == 0)).length
def State.mainSpares (s : State) : Nat := 1024 - s.mainRetired - s.flash.badSpares

/-- The seconds left to UPD_CONFIRM (R403). -/
def State.trialLeft (s : State) : Nat :=
  match s.upd.trialOp with
  | some a => if s.get F.UPD_STATE_PHASE = 4 then 600 - (s.opsec - a) else 0
  | none => 0

/-- What a register reads as. -/
def State.view (s : State) (a : Nat) : Word :=
  let w := s.word a
  let v := fun (n : Nat) => BitVec.ofNat 32 n
  if a < 0x10000 then
    if a = 0 then v (w.toNat % 65536 + 65536 * Config.stepping.toNat)
    else if a = 4 then Config.serial
    else if a = 8 then v ((nth {} s.flash.slots (s.get F.RST_BOOT_SLOT)).version % 65536 + 65536 * Config.gromVer.toNat)
    else if a = 0x10 then v s.clkStat
    else if a = 0x20 then v s.sessWord
    else w
  else if a < 0x30000 then
    if a < 0x20000 then w
    else if 0x20010 ≤ a ∧ a < 0x20020 then v (s.lineWord ((a - 0x20010) / 4))
    else if 0x20100 ≤ a ∧ a < 0x20400 then v (s.tgtRead ((a - 0x20100) / 4))
    else if 0x20400 ≤ a ∧ a < 0x20700 then v (s.srcWord ((a - 0x20400) / 4))
    else w
  else if a = 0x30000 then
    v (w.toNat - (w.toNat &&& 0x300000) + (s.get F.RST_OPT_EPOLWPOL) * 1048576)
  else if a = 0x50018 then v s.cvi.q1Shadow
  else if a = 0x60014 then v s.estStatWord
  else if a = 0x60018 then F.EST_FLAGS_NOPROFILE.into w (b2n s.noProfile)
  else if a = 0x60034 then F.EST_LRN_STAT_NLEARN.into w (s.est.cells.filter (·.learned)).length
  else if a = 0x80030 then v s.connBlk
  else if a = 0xB0000 then v s.laneWord
  else if a = 0xB0004 then v s.assignWord
  else if 0xB0040 ≤ a ∧ a < 0xB0054 then v (s.hoursWord ((a - 0xB0040) / 4))
  else if 0xB0060 ≤ a ∧ a < 0xB0074 then v (s.bistWord ((a - 0xB0060) / 4))
  else if 0xD0000 ≤ a ∧ a < 0xE0000 then
    if a = 0xD0010 then v s.quartzNano
    else if a = 0xD0014 then v (s.time.secShadow % 4294967296)
    else if a = 0xD0018 then v (s.time.secShadow / 4294967296 % 65536)
    else if a = 0xD0030 then v (w.toNat - w.toNat % 65536 + (nth [] s.eth.tsq 0).length + 256 * (nth [] s.eth.tsq 1).length)
    else if a = 0xD0060 then v (Config.mac.toNat % 4294967296)
    else if a = 0xD0064 then v (Config.mac.toNat / 4294967296)
    else w
  else if 0xE0000 ≤ a ∧ a < 0xF0000 then
    if a = 0xE0020 then s.can.errq.headD 0
    else if a = 0xE0024 then s.can.logq.headD 0
    else if 0xE1000 ≤ a then v (s.rxWord ((a - 0xE1000) / 128) ((a - 0xE1000) % 128 / 4))
    else w
  else if 0x100000 ≤ a ∧ a < 0x110000 then
    if a = 0x100000 then v (s.mainRetired + 4096 * min 15 (s.flash.badSpares + s.flash.laneBad.foldl (· + ·) 0) + 65536 * s.mainSpares)
    else if a = 0x100004 then
      (F.TIL_STAT_RECOVERING.into (F.TIL_STAT_SCRUBBING.into w (b2n (s.til.cursor != 0 || s.til.lanePass.any (fun p => p.1 != 0) || s.til.scrub.isSome))) (b2n (!s.til.recovering.isEmpty)))
    else if a = 0x100010 then v (FlashRegion.spare.blocks - s.flash.retBlocks + 65536 * s.flash.retBlocks)
    else if 0x100100 ≤ a then
      let n := (a - 0x100100) / 4
      v (w.toNat - w.toNat % 512 + s.fill n + 33554432 * b2n (s.til.full.contains n))
    else w
  else if a = 0x120008 ∨ a = 0x12000C then
    let x := nth {} s.flash.slots ((a - 0x120008) / 4)
    v (x.st % 8 + 65536 * x.version)
  else if a = 0x120010 then v s.trialLeft
  else w

/-- The four bytes of a register. -/
def State.rd (s : State) (a : Nat) : List Byte := leBytes 4 (s.view a).toNat

/-- Table 14.7: the GET_STRING reply. -/
def State.stringBytes (s : State) : List Byte :=
  s.rd 0x50010 ++ s.rd 0x5001C ++ s.rd 0x50020 ++ leBytes 4 (s.word 0x50014).toNat ++ leBytes 4 (s.word 0x50018).toNat
    ++ leBytes 2 (s.get F.EST_STR_SOC_USOC) ++ leBytes 2 (s.get F.EST_STR_USOC_LO) ++ leBytes 2 (s.get F.EST_STR_USOC_HI)
    ++ leBytes 2 (s.get F.EST_STR_SOC_UNCMAX) ++ s.rd 0x60028 ++ s.rd 0x6002C ++ s.rd 0x9001C ++ s.rd 0x50034
    ++ leBytes 1 (s.get F.CVI_INS_STAT_STATE) ++ leBytes 1 (s.get F.PRT_CONTSTAT_CONN) ++ leBytes 2 (s.view 0x60018).toNat

/-- Status bytes 0x30 … 0x3D of the I²C window (Table 16.4). -/
def State.iicStatus (s : State) : List Byte :=
  leBytes 1 (s.get F.RST_STAT_MSTATE) ++ leBytes 1 (s.get F.SAF_STAT_STATE) ++ leBytes 1 (s.get F.PRT_CONTSTAT_CONN)
    ++ leBytes 1 (s.get F.CVI_INS_STAT_STATE) ++ s.rd 0x8002C ++ s.rd 0x80030 ++ leBytes 2 (s.view 0x60018).toNat

end Sys2Proof.Machine
end

