-- ==== Sys2Proof/Machine/TimOps.lean ====
section
/-! DEFINITION. Shared operations of network time: PTP messages and timestamps, master selection, the one step of quartz, the servo and the
time states (R36, R317 to R324). Times and corrections are in 2^−16 ns. -/

namespace Sys2Proof.Machine

/-! ## Quartz (R36, R322) -/

/-- Quartz in 2^−16 ns. -/
def State.quartz16 (s : State) : Int := (s.time.qz / 65536 : Nat)

/-- A timestamp at the pads, resolved to one TIME cycle of 4 ns (R319). -/
def State.stamp (s : State) : Nat := s.quartzNs / 4 * 4

/-- A time in ns as an integer in 2^−16 ns. -/
def t16 (ns : Nat) : Int := ns * 65536

/-- A quartz instant kept in the state moves with a step of quartz by `d` ns. -/
def moved (d : Int) (x : Nat) : Nat := ((x : Int) + d).toNat

/-- The instants of the grid that had been taken before a step of quartz from `s` count as taken after it (R36). -/
def State.renumber (s1 s : State) : State :=
  let p := s.periodMs * msec
  { s1 with ctl := { s1.ctl with
              sampNo := s.ctl.sampNo.map (fun n => if n = s.gridCount 5000 then s1.gridCount 5000 else s1.gridCount 5000 - 1),
              startNo := ((s.ctl.startNo : Int) + s1.gridCount 5000 - s.gridCount 5000).toNat },
            ring := { s1.ring with scanNo := s.ring.scanNo.map (fun n =>
              if n = s.gridCount p * s.periodMs then s1.gridCount p * s.periodMs else s1.gridCount p * s.periodMs - s.periodMs) } }

/-- The one step of quartz by `d` ns (R322): the grid keeps its phase and slews toward the nearest whole period (R36). What is timed by
quartz inside the module keeps its place. (DEDUCED: log entry 56) -/
def State.quartzStep (s : State) (d : Int) : State :=
  let m := moved d
  let p : Int := (s.periodMs * msec : Nat)
  let g0 := (s.gridPhase + d) % p
  let g := if p < 2 * g0 then g0 - p else g0
  let s1 := { s with
    time := { s.time with qz := ((s.time.qz : Int) + d * 4294967296).toNat % (281474976710656 * sec * 4294967296) },
    cvi := { s.cvi with hist := s.cvi.hist.map (fun (x : Samp) => { x with eff := m x.eff }), insAt := m s.cvi.insAt, handAt := m s.cvi.handAt,
                        qAt := m s.cvi.qAt, winS := s.cvi.winS.map m, tagS := s.cvi.tagS.map m },
    ring := { s.ring with lastS := m s.ring.lastS, sentS := s.ring.sentS.map m, colS := s.ring.colS.map m },
    est := { s.est with ckpt := s.est.ckpt.map (fun (l : List Ckpt) => l.map (fun (k : Ckpt) => { k with at_ := m k.at_ })) },
    imp := { s.imp with onAt := m s.imp.onAt, phaseAt := m s.imp.phaseAt },
    bay := { s.bay with held := s.bay.held.map (fun (h : Held) => { h with due := m h.due }) } }
  let s2 := s1.setI F.GLB_GRID_PHASE_ERR g
  ((((s2.renumber s).setB F.GLB_GRID_SLEWING (g != 0)).setB F.GLB_GRID_ALIGNED (g == 0 && !s.time.unal)).setB F.TIM_STAT_STEPPED
    true).setB F.TIM_STAT_VALID true

/-! ## Transmit timestamps (R321) -/

/-- A transmit timestamp enters its port's queue; a full queue drops it. -/
def State.txStamp (s : State) (port typ seq : Nat) : State :=
  let q := nth [] s.eth.tsq (port - 1)
  let ns := s.stamp
  if q.length < 16 then
    { s with eth := { s.eth with tsq := modNth s.eth.tsq (port - 1) (fun l => l ++ [(seq, typ, ns / sec % 281474976710656, ns % sec)]) } }
  else if port = 1 then ((s.setB F.TIM_TSQ_OVF1 true).count F.TIM_TSQ_LOST1 F.TIM_TSQ_SAT).qLost 32
  else ((s.setB F.TIM_TSQ_OVF2 true).count F.TIM_TSQ_LOST2 F.TIM_TSQ_SAT).qLost 33

/-! ## Messages -/

/-- The clock identity: the MAC address as a modified EUI-64 without the inverted bit (IEEE 1588 maps an EUI-48 so). -/
def clockId : Nat :=
  let m := Config.mac.toNat
  m / 16777216 * 1099511627776 + 0xFFFE * 16777216 + m % 16777216

/-- The module's port identity of a port (80 bits). -/
def portId (port : Nat) : Nat := clockId * 65536 + port

/-- A PTP message: header of IEEE 1588-2019 with type, sequence, correction and the body after it. -/
def State.ptpBytes (s : State) (port typ seq : Nat) (corr : Int) (body : List Byte) : List Byte :=
  let twoStep := if typ = 3 then 2 else 0
  leBytes 1 typ ++ leBytes 1 0x12 ++ beBytes 2 (34 + body.length) ++ leBytes 1 (s.get F.TIM_CFG_DOMAIN) ++ [0] ++ beBytes 2 (256 * twoStep)
    ++ beBytes 8 (toCode 64 corr) ++ [0, 0, 0, 0] ++ beBytes 10 (portId port) ++ beBytes 2 seq
    ++ leBytes 1 (if typ = 1 then 1 else 5) ++ leBytes 1 0x7F ++ body

/-- The one's complement checksum of the Internet protocols. -/
def inetSum : Nat → List Byte → Nat
  | acc, a :: b :: t => inetSum (acc + a.toNat * 256 + b.toNat) t
  | acc, [a] => acc + a.toNat * 256
  | acc, [] => acc

/-- The checksum of a byte string, folded and complemented. -/
def inetCheck (b : List Byte) : Nat :=
  let x := inetSum 0 b
  let y := x % 65536 + x / 65536
  65535 - (y % 65536 + y / 65536)

/-- An event message of profile 0 (Table 15.1): in UDP from and to port 319, over IPv4 to the primary multicast address 224.0.1.129, without a
UDP checksum and with a time to live of 1. (PRESUMED: log entry 77) -/
def State.ptpUdp (s : State) (msg : List Byte) : List Byte :=
  let h := fun (c : Nat) => [0x45, 0] ++ beBytes 2 (28 + msg.length) ++ [0, 0, 0, 0, 1, 17] ++ beBytes 2 c ++ beBytes 4 (s.get F.TIM_IP4) ++ [224, 0, 1, 129]
  h (inetCheck (h 0)) ++ beBytes 2 319 ++ beBytes 2 319 ++ beBytes 2 (8 + msg.length) ++ [0, 0] ++ msg

/-- A timestamp of ten bytes. -/
def stampBytes (ns : Nat) : List Byte := beBytes 6 (ns / sec % 281474976710656) ++ beBytes 4 (ns % sec)

/-- delayAsymmetry of a port. -/
def State.asym (s : State) (port : Nat) : Int :=
  s.getI { F.TIM_ASYM_0x000D_00204p1ASYM with addr := 0xD0020 + 4 * (port - 1) } * 65536

/-- PTP messages are acted on: enabled, on a port of the module that runs, in the configured domain. -/
def State.ptpOn (s : State) (port domain : Nat) : Bool :=
  s.ethOn port && s.flag F.TIM_CFG_PTPEN && domain == s.get F.TIM_CFG_DOMAIN

/-! ## Master selection (R317) -/

/-- The order of the Best Master Clock Algorithm: the better data set first. -/
def Foreign.key (f : Foreign) : List Nat :=
  [f.a.p1, f.a.cls, f.a.acc, f.a.var, f.a.p2, f.a.gm, f.a.steps, f.a.src, f.port]

/-- Lexicographic order. (DEDUCED: log entry 56) -/
def lexLt : List Nat → List Nat → Bool
  | a :: as, b :: bs => if a < b then true else if b < a then false else lexLt as bs
  | [], _ :: _ => true
  | _, [] => false

/-- Whether two entries are the same sender on the same port. -/
def Foreign.same (f g : Foreign) : Bool := f.port == g.port && f.a.src == g.a.src

/-- A master counts while two of its announces came within the last four announce intervals; the one in use until its announces time out. -/
def Foreign.qualified (f : Foreign) (now : Nat) (sel : Option Foreign) : Bool :=
  match f.times with
  | a :: b :: _ => decide (now ≤ b + 4 * f.a.every) || (sel.any (fun g => f.same g) && decide (now < a + 3 * f.a.every))
  | _ => false

/-- The best of the masters that count at `now`. (DEDUCED: log entry 56) -/
def bestMaster (now : Nat) (sel : Option Foreign) (l : List Foreign) : Option Foreign :=
  (l.filter (fun f => f.qualified now sel)).foldl (fun b f => match b with
    | none => some f
    | some g => if lexLt f.key g.key then some f else some g) none

/-- The state of a port of the ordinary clock, by the names of IEEE 1588. -/
inductive PtpRole where
  | disabled | listening | slave | passive
  deriving DecidableEq, Repr

/-- The state of a port (R317): slave on the port of the master in use, and the other port is then passive. -/
def State.ptpRole (s : State) (port : Nat) : PtpRole :=
  if !(s.ethOn port && s.flag F.TIM_CFG_PTPEN) then .disabled
  else if s.get F.TIM_STAT_PORT = 0 then .listening
  else if s.get F.TIM_STAT_PORT = port then .slave
  else .passive

/-! ## Time states (R323) -/

/-- Time spent in HOLDOVER up to now. -/
def State.heldOver (s : State) : Nat :=
  s.ptp.holdNs + (match s.ptp.holdAt with
    | none => 0
    | some a => s.since a)

/-- HOLDOVER begins: the mean rate of the last 60 s in LOCKED plus the feed-forward. (DEDUCED: log entry 56) -/
def State.holdover (s : State) : State :=
  let st := s.get F.TIM_STAT_STATE
  if st ≠ 1 ∧ st ≠ 2 then s
  else
    let l := s.ptp.rates.map (·.2)
    let s1 := { s with ptp := { s.ptp with base := if l.isEmpty then s.ptp.base else divRne (sumI l) l.length } }
    { (s1.timState 3).feedForward with
      ptp := { s1.ptp with holdAt := some s.now, holdNs := if st = 2 then 0 else s.ptp.holdNs, within := 0, beyond := 0, refused := 0 } }

/-- HOLDOVER ends in LOCKING. -/
def State.relock (s : State) : State :=
  if s.get F.TIM_STAT_STATE ≠ 3 then s
  else { s.timState 1 with ptp := { s.ptp with holdNs := s.heldOver, holdAt := none, within := 0, beyond := 0 } }

/-- LOCKED: from here on the grid counts as aligned once no slew is left (R38). -/
def State.locked (s : State) : State :=
  let s1 := { s.timState 2 with ptp := { s.ptp with holdNs := 0, holdAt := none, rates := [] }, time := { s.time with unal := false } }
  if s1.gridPhase = 0 then s1.setB F.GLB_GRID_ALIGNED true else s1

/-- The master in use follows the announces: a first one moves FREE to LOCKING, and the 3 s without a pair count from there. -/
def State.selectMaster (s : State) : State :=
  match bestMaster s.now s.ptp.sel s.ptp.masters with
  | none => { s.set F.TIM_STAT_PORT 0 with ptp := { s.ptp with sel := none, sync := none } }
  | some f =>
    let changed := match s.ptp.sel with
      | none => true
      | some g => !g.same f
    let s1 : State := { s.set F.TIM_STAT_PORT f.port with ptp := { s.ptp with
      sel := some f, sync := if changed then none else s.ptp.sync, pair := if changed then none else s.ptp.pair,
      pairAt := if s.get F.TIM_STAT_STATE = 0 then s.now else s.ptp.pairAt } }
    if s1.get F.TIM_STAT_STATE = 0 then s1.timState 1 else s1

/-- The masters heard on a port are gone with its link (R312, Table 15.4). -/
def State.portMasters (s : State) (port : Nat) : State :=
  let s1 := { s with ptp := { s.ptp with
    masters := s.ptp.masters.filter (fun f => f.port ≠ port),
    preq := modNth s.ptp.preq (port - 1) (fun _ => none), presp := modNth s.ptp.presp (port - 1) (fun _ => []),
    dreq := if s.get F.TIM_STAT_PORT = port then none else s.ptp.dreq } }
  s1.selectMaster

/-! ## Offsets (R322 to R324) -/

/-- thr of R324. -/
def State.jumpThr (s : State) : Int := ((s.get F.TIM_CFG_JUMPTHR * 100000 : Nat) : Int) * 65536 + (s.heldOver * 65536 / 1000000 : Nat)

/-- The servo uses an offset: the proportional-integral law's new rate, within ±500 ppm. (DESIGN CHOICE: log entry 13; DEDUCED: log entry 56) -/
def State.servo (s : State) (o : Int) : State :=
  let i := s.ptp.integ + o
  let r := clip (-2147484) 2147484 (Config.servo o i)
  { s.setI F.TIM_ADJ_RATE r with ptp := { s.ptp with integ := i, base := r, refused := 0 } }

/-- The counts of intervals within and beyond 1 µs with the changes of state they bring. -/
def State.lockCount (s : State) (o : Int) : State :=
  let a := absN o
  let w : Nat := if a < 65536000 then min 16 (s.ptp.within + 1) else 0
  let b : Nat := if 65536000 < a then min 16 (s.ptp.beyond + 1) else 0
  let s1 := { s with ptp := { s.ptp with within := w, beyond := b } }
  let st := s.get F.TIM_STAT_STATE
  if st = 1 ∧ 16 ≤ w then s1.locked
  else if st = 2 ∧ 16 ≤ b then { s1.timState 1 with ptp := { s1.ptp with holdNs := 0, holdAt := none, within := 0 } }
  else if st = 2 then
    { s1 with ptp := { s1.ptp with
      rates := (s.now, s1.getI F.TIM_ADJ_RATE) :: s1.ptp.rates.filter (fun x => decide (s.now < x.1 + 60 * sec)) } }
  else s1

/-- A measured offset from the selected master. (DEDUCED: log entry 55) -/
def State.offset (s : State) (o : Int) : State :=
  let s0 : State := { s.setI F.TIM_OFS_OFFSET (clipS 32 (divRne o 65536)) with ptp := { s.ptp with pairAt := s.now } }
  if !s.flag F.TIM_STAT_STEPPED then
    let l := s0.ptp.first ++ [o]
    if l.length < 4 then { s0 with ptp := { s0.ptp with first := l } }
    else
      let s1 : State := { s0 with ptp := { s0.ptp with first := [], pair := none, integ := 0 } }
      s1.quartzStep (-(divRne (sumI l) 262144))
  else if s.jumpThr < (absN o : Int) then
    let s1 := ((s0.setB F.TIM_STAT_JUMP_REFUSED true).count F.TIM_STAT_JUMPS F.TIM_STAT_JSAT).raise 88 []
    let n := s1.ptp.refused + 1
    let s2 := { s1 with ptp := { s1.ptp with refused := min 16 n } }
    if 16 ≤ n then s2.holdover else s2.lockCount o
  else (s0.relock.servo o).lockCount o

end Sys2Proof.Machine
end

