-- ==== Sys2Proof/Machine/Frame.lean ====
section
/-! DEFINITION. The frame of a command: the reset a RESET opcode has asked for asserts when it is due, time moves on, the body acts, and
pads and host lines settle. With it the resets of a lane and of a port (R309, R312, R358). -/

namespace Sys2Proof.Machine

/-! ## Port and lane resets (R309, R312) -/

/-- The LINK field of port `p`. -/
def linkF (p : Nat) : Fld := F.TIM_ETH_LINK.ix (p - 1)

/-- A port's link is lost (R312): LOSS counts, the masters heard on the port are gone, its learned addresses too; its first training attempt follows after 20 ms (R374). -/
def State.linkLoss (s : State) (p : Nat) : State :=
  if !s.flag (linkF p) then s
  else
    let s1 := (s.setB (linkF p) false).count (F.TIM_ETH_LOSS.ix (p - 1)) (F.TIM_ETH_LSAT.ix (p - 1))
    let s2 : State := { s1 with rst := { s1.rst with training := modNth s1.rst.training (p - 1) (fun _ => s1.now + 20 * msec) } }
    s2.portMasters p

/-- A port reset (R312): its PHY trains anew in the role that MS then names, its timestamp queue is discarded and its PTP state is
LISTENING again. -/
def State.portReset (s : State) (p : Nat) : State :=
  let s1 : State := { s with eth := { s.eth with
    resetAt := modNth s.eth.resetAt (p - 1) (fun _ => some s.now), tsq := modNth s.eth.tsq (p - 1) (fun _ => []),
    ms := modNth s.eth.ms (p - 1) (fun _ => s.flag (F.TIM_ETH_MS.ix (p - 1))) } }
  (s1.linkLoss p).portMasters p

/-- A reset of one host port: SPI, Ethernet 1 and 2, CAN, I²C (R309). (DEDUCED: log entry 26) -/
def State.unitReset (s : State) (unit : Nat) : State :=
  let s0 := s.cause 7
  let s1 : State := { s0 with rst := { s0.rst with portAt := assocPut unit (s.now + msec) s0.rst.portAt } }
  match unit with
  | 0 =>
    let s2 := (List.range 8).foldl (fun (a : State) n => a.spiEventsCut n 0 a.host.spiOut.length) s1
    { s2 with host := { s2.host with spiOut := [] } }
  | 1 => s1.portReset 1
  | 2 => s1.portReset 2
  | 3 => s1.canRestart
  | 4 =>
    let s2 := s1.iicStop
    { s2 with iic := { s2.iic with ptr := 0, q45 := [] } }
  | _ => s1

/-- A lane reset (R309): a lane in MULE, TESTING or FENCED begins its self-test anew and re-enters MULE through it; while a switch-over is in
progress its mule and a FENCED lane stay what they are (Table 11.1). (DEDUCED: log entry 26) -/
def State.laneReset (s : State) (l : Nat) : State :=
  let c := nth 0 s.lan.st l
  let held := match s.lan.sw with
    | some x => c == 4 || x.mule == l
    | none => false
  if !held && (c == 2 || c == 3 || c == 4) then
    let s1 := s.cause 6
    let st := modNth s1.lan.st l (fun _ => 3)
    { s1 with lan := { s1.lan with st := st, gate := modNth s1.lan.gate l (fun g => if c = 3 then g else some s1.now), testing := (l, c == 2) :: s1.lan.testing.filter (fun x => x.1 ≠ l) },
              flash := { s1.flash with lanes := st }.cfgWritten }
  else s

/-- The reset of a REACH asserts. -/
def State.reachReset (s : State) (reach unit : Nat) : State :=
  match reach with
  | 0 => s.assertSystem 8
  | 1 => s.assertSupervisor 9
  | 2 => s.laneReset unit
  | _ => s.unitReset unit

/-- Resets asked for by RESET assert at their instants, 10 ms after the reply (R309); at most `n` of them. (DEDUCED: log entry 26) -/
def State.dueReset (t : Nat) : Nat → State → State
  | 0, s => s
  | n + 1, s =>
    match s.rst.due with
    | [] => s
    | (reach, unit, a) :: rest =>
      if a ≤ t then
        let s1 := s.tick a
        State.dueReset t n ({ s1 with rst := { s1.rst with due := rest } }.reachReset reach unit)
      else s

/-! ## The frame -/

/-- The state a command given at the instant `t` finds: resets that are due have asserted, and time has moved on. (DESIGN CHOICE: log entry 3) -/
def State.upto (s : State) (t : Nat) : State := (State.dueReset t s.rst.due.length s).tick t

/-- The frame every command has: a reset that is due asserts, time moves on to the command's instant, its body acts, and the host lines
and pads settle. The body moves neither time nor the queue of waiting commands. (DESIGN CHOICE: log entry 3; DESIGN CHOICE: log entry 68) -/
def State.command (s : State) (t : Nat) (body : State → State) : State :=
  let s1 := s.upto t
  ({ body s1 with now := s1.now, pending := s.pending }).settle

/-- A command whose body acts only under a guard; otherwise only time moves on. (DESIGN CHOICE: log entry 5) -/
def State.commandIf (s : State) (t : Nat) (ok : State → Bool) (body : State → State) : State :=
  s.command t (fun s1 => if ok s1 then body s1 else s1)

/-- A host command as a command of the module. -/
def State.hostCommand (s : State) (t op : Nat) (r : Req) (fmt : Fmt) (body : ReqId → State → State × HRes) : State :=
  s.command t (fun s1 => s1.host_ op r fmt body)

end Sys2Proof.Machine
end

