-- ==== Sys2Proof/Machine/Line.lean ====
section
/-! DEFINITION. The line code of the ring (R44, R45): Manchester bits, the three marks, what a channel carries, and what a receiver reads. A
baud is `true` where the line is high. -/

namespace Sys2Proof.Machine

/-- The marks of Table 2.2: start of a frame, end of a frame, start of an inline symbol. -/
inductive Mark where
  | sd | ed | sm
  deriving DecidableEq, Repr

/-- The baud pattern of a mark (Table 2.2). -/
def Mark.bauds : Mark → List Bool
  | .sd => [true, true, false, false]
  | .ed => [false, false, true, true]
  | .sm => [true, true, true, false]

/-- A Manchester bit: 0 is high-to-low and 1 is low-to-high at mid-bit (R44). -/
def bitBauds (b : Bool) : List Bool := [!b, b]

/-- `n` bits of a byte, least significant bit first (R44). -/
def lowBits : Nat → Nat → List Bool
  | 0, _ => []
  | n + 1, v => (v % 2 == 1) :: lowBits n (v / 2)

/-- Bytes on the line. -/
def byteBauds (bs : List Byte) : List Bool := bs.flatMap (fun b => (lowBits 8 b.toNat).flatMap bitBauds)

/-- `n` bit-times of an idle channel: continuous coded 1s (R44). -/
def idleBauds (n : Nat) : List Bool := (List.replicate n true).flatMap bitBauds

/-- An inline symbol: SM and its bytes (R47). -/
def symbolLine (bs : List Byte) : List Bool := Mark.sm.bauds ++ byteBauds bs

/-- A frame: SD, its bytes and ED (R49). -/
def frameLine (bs : List Byte) : List Bool := Mark.sd.bauds ++ byteBauds bs ++ Mark.ed.bauds

/-- A record slot after the frame's preceding content: SD, five idle bit-times and the bytes (R54). -/
def recordLine (bs : List Byte) : List Bool := Mark.sd.bauds ++ idleBauds 5 ++ byteBauds bs

/-- What a receiver makes of the line: bits and marks. -/
inductive LineTok where
  | bit (b : Bool)
  | mark (m : Mark)
  deriving DecidableEq, Repr

/-- What the line carries from a baud boundary on, with `valid` while a valid or idle bit directly precedes: only then is a mark recognised
(R45). Anything else ends the reading. -/
def lineToks : Bool → List Bool → List LineTok
  | _, false :: true :: t => .bit true :: lineToks true t
  | _, true :: false :: t => .bit false :: lineToks true t
  | true, true :: true :: false :: false :: t => .mark .sd :: lineToks false t
  | true, false :: false :: true :: true :: t => .mark .ed :: lineToks false t
  | true, true :: true :: true :: false :: t => .mark .sm :: lineToks false t
  | _, _ => []

/-- The number that bits spell, least significant first. -/
def ofBits : List Bool → Nat
  | [] => 0
  | b :: t => b2n b + 2 * ofBits t

/-- The bytes at the front of what was read, and what follows their whole bytes; `w` holds the bits of the byte under way, the newest first. -/
def tokBytes : List Bool → List LineTok → List Byte × List LineTok
  | w, .bit b :: t =>
    if w.length = 7 then
      let r := tokBytes [] t
      (BitVec.ofNat 8 (ofBits (b :: w).reverse) :: r.1, r.2)
    else tokBytes (b :: w) t
  | _, t => ([], t)

/-- What was read before the first mark `m` is passed over; what follows it. -/
def afterMark (m : Mark) : List LineTok → Option (List LineTok)
  | [] => none
  | .mark k :: t => if k = m then some t else none
  | .bit _ :: t => afterMark m t

/-- Symbols inserted into a frame are passed over (R47): after SM the 48 bits of a strobe (TYPE 0x01) or the 40 bits of a heartbeat; `n`
more tokens belong to one. -/
def passSymbols : Nat → List LineTok → List LineTok
  | n + 1, _ :: t => passSymbols n t
  | 0, .mark .sm :: .bit b :: t => passSymbols (if b then 47 else 39) t
  | 0, x :: t => x :: passSymbols 0 t
  | _, [] => []

/-- A symbol that arrives: the bytes after its SM (R47). -/
def symbolRead (rx : List Bool) : Option (List Byte) := (afterMark .sm (lineToks false rx)).map (fun t => (tokBytes [] t).1)

/-- A frame that arrives: the bytes between SD and ED (R49). -/
def frameRead (rx : List Bool) : Option (List Byte) :=
  match afterMark .sd (passSymbols 0 (lineToks false rx)) with
  | none => none
  | some t =>
    match tokBytes [] t with
    | (bs, .mark .ed :: _) => some bs
    | _ => none

/-- A record slot that arrives: the 96 bytes after SD and its idle guard of five bit-times (R54). -/
def recordRead (rx : List Bool) : Option (List Byte) :=
  match afterMark .sd (passSymbols 0 (lineToks false rx)) with
  | some (.bit true :: .bit true :: .bit true :: .bit true :: .bit true :: t) => some ((tokBytes [] t).1.take 96)
  | _ => none

/-- The polarity of a port inverts every baud (RING_CTRL.EPOL, WPOL). -/
def polarity (inv : Bool) (l : List Bool) : List Bool := if inv then l.map not else l

end Sys2Proof.Machine
end

