-- ==== Sys2Proof/Machine/ThmOps.lean ====
section
/-! DEFINITION. Shared operations of thermal supervision: the step rule, the neighbour median, the die throttle, cell derating and
the chiller request (R202 to R213). -/

namespace Sys2Proof.Machine

/-- idx(T) of the hot form (R206), in 0.01 °C. -/
def idxHot (ts w t : Int) : Nat := if t < ts then 0 else min 10 (((t - ts) / w) + 1).toNat

/-- idx(T) of the cold form (R206). -/
def idxCold (ts w t : Int) : Nat := if ts < t then 0 else min 10 (((ts - t) / w) + 1).toNat

/-- The step n after one evaluation (R206). -/
def stepN (n now back : Nat) : Nat := if n ≤ now then now else min n back

/-- The limit of step n in mA. -/
def State.stepLimit (s : State) (n : Nat) : Int := s.irated * (10 - n : Nat) / 10

/-- A signed byte field in 0.01 °C. -/
def State.degC (s : State) (f : Fld) : Int := s.getI f * 100

/-! ## Die -/

/-- The neighbour data belongs to the ENCL in force (R203). -/
def State.neighOwn (s : State) : Bool := s.thm.neighEncl == s.get F.THM_DIECFG_ENCL

/-- Whether a cross-check takes place (R203): in an enclosure, not standalone and not alone in it. -/
def State.crossChecks (s : State) : Bool :=
  s.get F.THM_DIECFG_ENCL != 0 && s.get F.BAY_POS_ROLE != 3 && !(s.neighOwn && s.thm.alone)

/-- A median is available (R202). -/
def State.medOk (s : State) : Bool := s.crossChecks && s.neighOwn && decide (2 ≤ s.get F.THM_MED_COUNT) && !s.flag F.THM_STAT_NONEIGH && !s.thm.medOld

/-- The temperature in use (R202) and the die throttle (R207). -/
def State.throttle (s : State) : State :=
  let broken := s.flag F.THM_STAT_DBROKEN
  let s1 := if !broken then s.setI F.THM_DIE_TUSE (s.getI F.THM_DIE_TEMP)
            else if s.medOk then s.setI F.THM_DIE_TUSE (s.getI F.THM_MED_MED + (s.get F.THM_DIECFG_SUBM * 100 : Nat)) else s
  let t := s1.getI F.THM_DIE_TUSE
  let n := stepN (s.get F.THM_STAT_DSTEP) (idxHot 10000 200 t) (idxHot 10000 200 (t + 100))
  let s2 := s1.set F.THM_STAT_DSTEP n
  if broken && !s.medOk then s2.entry 2 0 0 else s2.entry 2 (s2.stepLimit n) (s2.stepLimit n)

/-- The sensor is marked broken (R204). -/
def State.dieBroken (s : State) : State := s.setRaise F.THM_STAT_DBROKEN 57 []

/-! ## Cells -/

/-- A channel is marked broken (R209). -/
def State.markBroken (s : State) (p t : Nat) : State :=
  let f := F.THM_TBRK_BRK.ix (p - 1)
  let h := F.THM_TBRK_HOT.ix (p - 1)
  ((s.set f (setBit (s.get f) t true)).set h (setBit (s.get h) t false)).setB F.THM_STAT_CBRK_SEEN true

/-- A value that is no measurement ends the time a channel has stayed near its neighbours (R209). -/
def State.unwell (s : State) (p t : Nat) : State :=
  match assoc? (8 * (p - 1) + t) s.thm.chans with
  | none => s
  | some c =>
    let k := 8 * (p - 1) + t
    { s with thm := { s.thm with chans := if c.devAt.isNone then assocDel k s.thm.chans else assocPut k { c with okAt := none } s.thm.chans } }

/-- A channel is marked deviant, at each check while the deviation holds (R209). -/
def State.markHot (s : State) (p t : Nat) : State :=
  let h := F.THM_TBRK_HOT.ix (p - 1)
  ((s.set h (setBit (s.get h) t true)).setB F.THM_STAT_HOT_SEEN true).raise 59 []

/-- Every fitted channel of the string, as position and channel. -/
def State.channels (s : State) : List (Nat × Nat) :=
  s.positions.flatMap (fun p => ((List.range 8).filter (fun t => s.fitted t)).map (fun t => (p, t)))

/-- A channel of the hot side (TMAX) or of the cold side (TMIN) after substitution (Table 9.2). (DEDUCED: log entry 50) -/
def State.extT (s : State) (hot : Bool) (p t : Nat) : Option Int :=
  let m : Int := (s.get F.THM_CX_MARGIN * 100 : Nat)
  if s.substituted p t then (s.thermSub p t).map (fun v => if hot then v + m else v - m) else s.therm p t

/-- The channels that TMAX and TMIN are formed over: the fitted ones, and unfitted ones a cell group is mapped to (R78). -/
def State.extChannels (s : State) : List (Nat × Nat) :=
  let mapped := s.groups.filterMap (fun g => if s.fitted (s.chanOf g) then none else some (groupPos g, s.chanOf g))
  s.channels ++ mapped.eraseDups

/-- REQ of the chiller from TMAX, TMIN and the duty; a change sends the frame at once (R213). -/
def State.chillerFrame (s : State) : State :=
  let r := s.get F.THM_CHIL_REQ
  let d := leBytes 1 r ++ leBytes 1 s.thm.alive ++ leBytesI 2 (if r = 1 then s.degC F.THM_CHIL_TSUP else 0)
    ++ leBytesI 2 (s.getI F.THM_CEXT_TMAX) ++ leBytesI 2 (s.getI F.THM_CEXT_TMIN)
  { s.canPut 3 (classic (s.get F.THM_CHIL_ID) d) with thm := { s.thm with alive := (s.thm.alive + 1) % 256 } }

/-- REQ follows R213. -/
def State.chillerReq (s : State) : State :=
  let mx := s.getI F.THM_CEXT_TMAX
  let mn := s.getI F.THM_CEXT_TMIN
  let tset := s.degC F.THM_COOL_TSET
  let duty := s.get F.THM_VALVE_DUTY
  let r := s.get F.THM_CHIL_REQ
  let long := match s.thm.duty95At with
    | some a => decide (a + 60 * sec ≤ s.now)
    | none => false
  let on := decide (tset + 300 ≤ mx) || long
  let cool := on || (r == 1 && !(decide (mx ≤ tset) && decide (duty ≤ 500)))
  let heat := decide (mn ≤ s.degC F.THM_CHIL_HEATON) || (s.thm.heat && !decide (s.degC F.THM_CHIL_HEATON + 500 ≤ mn))
  let r2 := if cool then 1 else if heat then 2 else 0
  let s0 := { s with thm := { s.thm with heat := heat } }
  if r2 = r then s0
  else
    let s1 := s0.set F.THM_CHIL_REQ r2
    if s1.flag F.THM_CHIL_EN && s1.inService then s1.chillerFrame else s1

/-- The cell temperatures of a scan (R209 to R211): broken marks, TMAX, TMIN, the step indices and entry 1. -/
def State.thmScan (s : State) : State :=
  let bad := s.channels.filter (fun c => match s.tile? c.1 with
    | some r => r.fresh && uAt r.bytes (50 + 2 * c.2) 2 == 0x8000
    | none => false)
  let s1 := bad.foldl (fun (a : State) c => let b := a.unwell c.1 c.2; if b.brk c.1 c.2 then b else b.markBroken c.1 c.2) s
  if s1.thermAll = [] then (s1.setB F.THM_STAT_NOCELLT true).entry 1 0 0
  else
    let ch := s1.extChannels
    let mx := maxI? (ch.filterMap (fun c => s1.extT true c.1 c.2))
    let mn := minI? (ch.filterMap (fun c => s1.extT false c.1 c.2))
    let tg := s1.groups.foldl (fun (l : List (Nat × Int)) g =>
      match s1.chanT (groupPos g) (s1.chanOf g) with
      | some v => assocPut g v l
      | none => l) s1.thm.tg
    let s2 := ({ s1 with thm := { s1.thm with tg := tg } }.setB F.THM_STAT_NOCELLT false)
    let s3 := (s2.setI F.THM_CEXT_TMAX (mx.getD (s2.getI F.THM_CEXT_TMAX))).setI F.THM_CEXT_TMIN (mn.getD (s2.getI F.THM_CEXT_TMIN))
    let tx := s3.getI F.THM_CEXT_TMAX
    let tn := s3.getI F.THM_CEXT_TMIN
    let hys : Int := (s3.get F.THM_HOT_HYS * 50 : Nat)
    let w := fun (f : Fld) => ((s3.get f * 100 : Nat) : Int)
    let hot := fun (i : Nat) (st : Fld) (wd : Fld) =>
      stepN (nth 0 s3.thm.idx i) (idxHot (s3.degC st) (w wd) tx) (idxHot (s3.degC st) (w wd) (tx + hys))
    let cold := fun (i : Nat) (st : Fld) (wd : Fld) =>
      stepN (nth 0 s3.thm.idx i) (idxCold (s3.degC st) (w wd) tn) (idxCold (s3.degC st) (w wd) (tn - hys))
    let a := hot 0 F.THM_HOT_DSTART F.THM_HOT_DSTEP
    let b := hot 1 F.THM_HOT_CSTART F.THM_HOT_CSTEP
    let c := cold 2 F.THM_COLD_DSTART F.THM_COLD_DSTEP
    let d := cold 3 F.THM_COLD_CSTART F.THM_COLD_CSTEP
    let s4 := ({ s3 with thm := { s3.thm with idx := [a, b, c, d] } }.set F.THM_STAT_CSTEP_DIS (max a c)).set F.THM_STAT_CSTEP_CHG (max b d)
    (s4.entry 1 (s4.stepLimit (max a c)) (s4.stepLimit (max b d))).chillerReq

end Sys2Proof.Machine
end

