-- ==== Sys2Proof/Machine/RingOps.lean ====
section
/-! DEFINITION. Shared operations of the ring master: symbols and frames, the command queues Q24 to Q27, acquisition settings sent to
nodes, balancing plans, open-wire runs, and the unreachable count (R46 to R53, R60, R66, R67, R74, R85, R93). -/

namespace Sys2Proof.Machine

/-! ## Frames (R46, R47, R49) -/

/-- A strobe symbol (Table 2.3) after its mark. -/
def strobeBytes (sseq nside : Nat) (park : Bool) : List Byte :=
  let b := leBytes 1 1 ++ leBytes 1 sseq ++ leBytes 1 nside ++ [0] ++ leBytes 1 (if park then 4 else 0)
  b ++ leBytes 1 (crc8 b)

/-- A heartbeat symbol (Table 2.4). -/
def heartbeatBytes (hseq : Nat) (park : Bool) : List Byte :=
  let b := leBytes 1 2 ++ leBytes 1 hseq ++ [0] ++ leBytes 1 (if park then 4 else 0)
  b ++ leBytes 1 (crc8 b)

/-- A frame: eight header bytes with their CRC-8, the body, and the CRC-32C (R49). -/
def frameBytes (h body : List Byte) : List Byte :=
  let x := h ++ leBytes 1 (crc8 h) ++ body
  x ++ leBytes 4 (crc32c x)

/-- A command frame (Table 2.5); its reply bytes leave as 0x00. (DESIGN CHOICE: log entry 73) -/
def commandBytes (hop cmd cseq : Nat) (payload : List Byte) (rlen : Nat) : List Byte :=
  frameBytes (leBytes 1 0x10 ++ leBytes 1 hop ++ leBytes 1 cmd ++ [0] ++ leBytes 1 cseq ++ leBytes 1 payload.length ++ leBytes 1 rlen)
    (payload ++ List.replicate rlen 0)

/-- A collect frame header as it leaves a port. -/
def collectBytes (sseq nside : Nat) (park : Bool) : List Byte :=
  frameBytes (leBytes 1 0x20 ++ leBytes 1 (if park then 4 else 0) ++ leBytes 1 sseq ++ leBytes 1 nside ++ [0, 0, 0]) []

/-- A burst upload frame for 128 samples or fewer (Table 2.5). -/
def burstBytes (hop ch start count : Nat) : List Byte :=
  frameBytes (leBytes 1 0x30 ++ leBytes 1 hop ++ leBytes 1 ch ++ [0] ++ leBytes 2 start ++ leBytes 1 count)
    (List.replicate ((count * 5 + 1) / 2) 0)

/-! ## Who is served -/

/-- The module is parked. -/
def State.parked (s : State) : Bool := s.rst.mode == .park

/-- Nodes served: those found, at most N. -/
def State.served (s : State) : Nat := min (s.get F.RING_STAT_FOUND) s.len

/-- Nodes served from the east and from the west port in split operation. -/
def State.eReach (s : State) : Nat := s.get F.RING_BREAK_EREACH
def State.wReach (s : State) : Nat := s.get F.RING_BREAK_WREACH

/-- A position is out of reach in split operation (R66). -/
def State.cutOff (s : State) (p : Nat) : Bool :=
  s.ring.split && !(decide (p ≤ s.eReach) || decide (s.len < p + s.wReach))

/-- The west port serves a position. -/
def State.fromWest (s : State) (p : Nat) : Bool := s.ring.split && !decide (p ≤ s.eReach)

/-- Only the west port is live: what an unsplit ring is asked leaves there (Table 2.9, step 1). -/
def State.soleWest (s : State) : Bool := !s.ring.split && s.ring.losE && !s.ring.losW

/-- The port at which what leaves a port of the ring comes back: the other one in an intact ring (R43), the same one where the ring is turned
back by a wrap (R65). -/
def State.backPort (s : State) (west : Bool) : Bool := if s.ring.split || s.ring.losE || s.ring.losW then west else !west

/-- The positions served: from the east port on, or from the west port where it alone is live. -/
def State.servedPos (s : State) : List Nat :=
  if s.soleWest then s.positions.drop (s.len - s.served) else s.positions.take s.served

/-- A position has been stale for three scans, or is cut off (R67). -/
def State.unreachable (s : State) (p : Nat) : Bool :=
  s.cutOff p || (match assoc? p s.ring.tiles with
    | some r => decide (3 ≤ r.scans)
    | none => false)

/-- The unreachable count with its consequences: UNREACH, the grace timer (R67) and entry 5. (DEDUCED: log entry 33) -/
def State.reach (s : State) : State :=
  let n := (s.positions.filter (fun p => s.unreachable p)).length
  let s1 := s.set F.RING_STAT_UNREACH n
  let bad := decide (2 ≤ n) || (decide (0 < n) && n == s.len)
  let s2 := { s1 with ring := { s1.ring with graceAt := if bad then some (s1.ring.graceAt.getD s.now) else none } }
  s2.integrity

/-! ## The ring's clock and what leaves a port (R35, R44, R58, R60, R61) -/

/-- The clock the ring is timed by: quartz, and in PARK the AO count (R38). -/
def State.ringNs (s : State) : Nat := if s.parked then s.now else s.quartzNs

/-- The next scan instant S, at or after the present (R35); in PARK the next second of the AO count. -/
def State.nextS (s : State) : Nat :=
  if s.parked then s.time.aoAt + (s.now - s.time.aoAt + sec - 1) / sec * sec
  else
    let p : Nat := s.periodMs * msec
    (((s.quartzNs : Int) - s.gridPhase + p - 1).fdiv p * p + s.gridPhase).toNat

/-- S − NSIDE × t_hop in 0.25 ns (R58). -/
def State.strobeAt (s : State) (nside : Nat) : Nat := 4 * s.nextS - nside * s.get F.RING_THOP_THOP

/-- The largest NSIDE of the strobes of a scan; 0 with no node served. -/
def State.nside (s : State) : Nat := if s.ring.split then max s.eReach s.wReach else s.served

/-- A port's polarity is inverted (the option bytes, as RING_CTRL.EPOL and WPOL show). -/
def State.portInv (s : State) (west : Bool) : Bool := (s.get F.RST_OPT_EPOLWPOL).testBit (b2n west)

/-- The bauds leave a port, its mark at an instant in 0.25 ns. -/
def State.ringLine (s : State) (west : Bool) (at4 : Nat) (l : List Bool) : State :=
  s.emit (.ring west at4 (polarity (s.portInv west) l))

/-- A symbol leaves a port now. -/
def State.ringSymbol (s : State) (west : Bool) (b : List Byte) : State := s.ringLine west (4 * s.ringNs) (symbolLine b)

/-- A frame leaves a port now. -/
def State.ringFrame (s : State) (west : Bool) (b : List Byte) : State := s.ringLine west (4 * s.ringNs) (frameLine b)

/-- A bit-time in ns (Table 2.1). -/
def State.bitNs (s : State) : Nat := if s.parked then 250 else 20

/-- The time a frame takes with the heartbeats that pass inside it in split operation, 42 bit-times each (R47, R66). -/
def State.withSymbols (s : State) (d : Nat) : Nat := if s.ring.split then d + (d / (50 * usec) + 1) * (42 * s.bitNs) else d

/-- What takes `dur` ns from now is back at a master port at least 2 µs before the next strobe leaves (R60). -/
def State.clearOfStrobe (s : State) (dur : Nat) : Bool :=
  let next := if s.ring.sentS = some s.nextS then s.nextS + s.periodMs * msec else s.nextS
  !s.ringOn || decide (4 * (s.ringNs + dur + 2 * usec) + s.nside * s.get F.RING_THOP_THOP ≤ 4 * next)

/-- No strobe is to leave within 2 µs (R60). -/
def State.symbolFree (s : State) : Bool :=
  s.ring.sentS == some s.nextS || decide (4 * s.ringNs + 4 * (2 * usec) ≤ s.strobeAt s.nside)

/-- W, the averaging window in samples (Table 3.10). -/
def State.window (s : State) : Nat := if s.get F.ACQ_CFG_WIN = 0 then 256 else s.get F.ACQ_CFG_WIN

/-- The instant at which the collect header of the scan leaves: S + W × 2.5 µs + 10 µs (R61). -/
def State.collectAt (s : State) : Nat := s.ring.lastS + s.window * 2500 + 10 * usec

/-! ## Commands (R50 to R53, R60) -/

/-- A frame enters its queue; where that is full its producer keeps it for the next scan (Table 19.2). -/
def State.ringPut (s : State) (c : RingCmd) : State :=
  let full := decide (8 ≤ s.fill (24 + c.queue)) || s.ring.cmds.any (fun x => x.queue == c.queue && x.held)
  { s with ring := { s.ring with cmds := s.ring.cmds ++ [{ c with held := full }] } }

/-- At a scan the producers whose frames found a full queue try again, in order. (DEDUCED: log entry 34) -/
def State.retryHeld (s : State) : State :=
  let put := fun (l : List RingCmd) (c : RingCmd) =>
    l ++ [{ c with held := c.held && decide (8 ≤ (l.filter (fun x => x.queue == c.queue && !x.held)).length) }]
  { s with ring := { s.ring with cmds := s.ring.cmds.foldl put [] } }

/-- Queue a command: position 0 is a broadcast out of a port. Queues alternate high and low priority of the east and west port. -/
def State.ringQueue (s : State) (west : Bool) (pos cmd : Nat) (payload : List Byte) (rlen use : Nat) (high : Bool) : State :=
  s.ringPut { queue := (if west then 2 else 0) + (if high then 0 else 1), pos := pos, west := west, cmd := cmd,
              payload := payload, rlen := rlen, tries := 0, use := use }

/-- A command to a position, out of the port that serves it; position 0 is a broadcast. (DEDUCED: log entry 34) -/
def State.ringCmd (s : State) (pos cmd : Nat) (payload : List Byte) (rlen use : Nat) (high : Bool) : State :=
  s.ringQueue (s.soleWest || pos != 0 && s.fromWest pos) pos cmd payload rlen use high

/-- A broadcast from every active port: both in split operation. -/
def State.ringBroadcast (s : State) (cmd : Nat) (payload : List Byte) (rlen : Nat) : State :=
  let s1 := s.ringCmd 0 cmd payload rlen 0 true
  if s.ring.split then s1.ringQueue true 0 cmd payload rlen 0 true else s1

/-- HOP of a command (R50). -/
def State.hop (s : State) (c : RingCmd) : Nat := if c.pos = 0 then 0xFF else if c.west then s.len - c.pos + 1 else c.pos

/-- The period code and the payload of ACQ_CFG (Table 3.2). -/
def State.acqPayload (s : State) (cells : Nat) : List Byte :=
  leBytes 1 (s.get F.ACQ_CFG_WIN) ++ leBytes 1 (if s.parked then 4 else s.get F.RING_CTRL_RATE) ++ leBytes 2 (s.get F.ACQ_CFG_QLEAD)
    ++ leBytes 1 (s.get F.ACQ_CFG_THMASK) ++ leBytes 1 cells

/-- ACQ_CFG is broadcast (R74). (DEDUCED: log entry 35) -/
def State.acqBroadcast (s : State) : State := if s.ringOn then s.ringBroadcast 3 (s.acqPayload 0) 1 else s

/-- An addressed ACQ_CFG to every position that serves fewer than 16 groups (R74). -/
def State.acqCells (s : State) : State :=
  (s.servedPos.filter (fun p => s.cells p != 16)).foldl (fun a p => a.ringCmd p 3 (a.acqPayload (a.cells p)) 1 0 false) s

/-- A BALANCE command to a position (Table 3.6): 16 timers and the phase. -/
def State.balanceCmd (s : State) (p : Nat) (timers : List Nat) (phase use : Nat) : State :=
  s.ringCmd p 4 (timers.flatMap (leBytes 2) ++ leBytes 1 phase ++ [0]) 1 use false

/-- All-zero timers to every node (R87); the plan under way ends: nothing of it is sent again. -/
def State.balanceZero (s0 : State) : State :=
  let once := fun (c : RingCmd) => if c.cmd = 4 then { c with again := false } else c
  let s : State := { s0 with ring := { s0.ring with cmds := s0.ring.cmds.map once, inflight := s0.ring.inflight.map once,
                                                    replies := s0.ring.replies.map (fun r => (once r.1, r.2)) },
                             acq := { s0.acq with resend := [] } }
  if s.ringOn then s.positions.foldl (fun a p => a.balanceCmd p (List.replicate 16 0) 0 0) s else s

/-! ## Open-wire runs (R90 to R93) -/

/-- MASK of every inner wire of a node with n cell groups. -/
def innerMask (n : Nat) : Nat := 2 ^ n - 2

/-- Start a run of kind 0 after start-up, 1 periodic, 2 by START; one in progress, or a
ring start-up, holds a START until it ends (R93). (DEDUCED: log entry 70) -/
def State.owStart (s : State) (kind node : Nat) : State :=
  if s.flag F.ACQ_STAT_OWRUN || s.ring.startDue || !s.ringOn then
    if kind = 2 && !s.acq.owHeld.contains node then { s with acq := { s.acq with owHeld := s.acq.owHeld ++ [node] } } else s
  else
    let ps := if node = 0 then s.servedPos else [node]
    let ps := ps.filter (fun p => decide (p ≤ s.len) && decide (2 ≤ s.cells p) && !s.cutOff p && !s.ring.excluded.contains p)
    let s1 := ps.foldl (fun a p => a.ringCmd p 6 (leBytes 2 (innerMask (a.cells p)) ++ leBytes 1 (a.get F.ACQ_OW_CFG_DV)
      ++ leBytes 1 (a.get F.ACQ_OW_CFG_REPS)) 1 3 false) s
    { s1.setB F.ACQ_STAT_OWRUN true with
      acq := { s1.acq with owKind := kind, owNodes := ps, owBase := [], owScans := 0, owIdx := [], owDev := [], owAt := s.now } }

/-- The oldest START that was held starts its run, where none is in progress (R93). -/
def State.owNext (s : State) : State :=
  match s.acq.owHeld with
  | n :: rest => if s.flag F.ACQ_STAT_OWRUN then s else { s with acq := { s.acq with owHeld := rest } }.owStart 2 n
  | [] => s

end Sys2Proof.Machine
end

