-- ==== Sys2Proof/Machine/Wave.lean ====
section
/-! DEFINITION. The sinusoid of the excitation, the least-squares fit of a series and the arctangent, in fixed point with
64 fraction bits (R148, R151, R158). -/

namespace Sys2Proof.Machine

/-- One in the fixed point of this file. -/
def one64 : Nat := 2 ^ 64

/-- π in units of 2^−64. -/
def pi64 : Nat := 57952155664616982739

/-- sin x for x between 0 and π ÷ 2, both in units of 2^−64, by the power series to x^23. (DEDUCED: log entry 72) -/
def sinFirst (x : Nat) : Int :=
  let x2 : Int := (x * x / one64 : Nat)
  ((List.range 12).foldl (fun (a : Int × Int) k =>
    (a.1 + a.2, -(a.2 * x2).fdiv (one64 * ((2 * k + 2) * (2 * k + 3)) : Nat))) (0, (x : Int))).1

/-- sin(2π × num ÷ den) in units of 2^−64: reduced to the first quadrant, exact on the axes. (DEDUCED: log entry 72) -/
def sine (num den : Nat) : Int :=
  let n := num % den
  let q := 4 * n / den
  let r := 4 * n % den
  let r1 := if q % 2 = 0 then r else den - r
  let v : Int := if r1 = den then (one64 : Nat) else sinFirst (pi64 * r1 / (2 * den))
  if q < 2 then v else -v

/-- cos(2π × num ÷ den) in units of 2^−64. -/
def cosine (num den : Nat) : Int := sine (4 * num + den) (4 * den)

/-- What a fit gives: a and b in units of 2^−64 of the series' unit, and the sum of the squared residuals in 2^−64 of its square. -/
structure WaveFit where
  a : Int
  b : Int
  rss : Int
  deriving DecidableEq, Repr

/-- The cosines and sines of R151 at i = 0 … L − 1 for n whole cycles in L samples. -/
def waveBasis (n len : Nat) : List (Int × Int) := (List.range len).map (fun i => (cosine (n * i % len) len, sine (n * i % len) len))

/-- The least-squares solution of R151. Over whole cycles the constant is orthogonal to the rest, Σ t cos = −L ÷ 2 and
Σ t sin = −(L ÷ 2) cot(πn ÷ L) with t = i − (L − 1) ÷ 2, so the four normal equations are solved in closed form. (DEDUCED: log entry 72) -/
def waveFit (basis : List (Int × Int)) (n len : Nat) (y : List Int) : WaveFit :=
  let f : Int := (one64 : Nat)
  let l : Int := len
  let sy := y.foldl (· + ·) 0
  let syy := y.foldl (fun a v => a + v * v) 0
  -- twice Σ t y
  let st := ((List.range len).zip y).foldl (fun a x => a + (2 * (x.1 : Int) - (l - 1)) * x.2) 0
  let sc := (basis.zip y).foldl (fun a x => a + x.1.1 * x.2) 0
  let ss := (basis.zip y).foldl (fun a x => a + x.1.2 * x.2) 0
  let cot := (cosine n (2 * len) * f).fdiv (sine n (2 * len))
  let num := st * f + 2 * sc + (2 * cot * ss).fdiv f
  let den := f * (l * (l * l - 1)) - 6 * l * (f + (cot * cot).fdiv f)
  let c1 := (6 * num * f).fdiv den
  let a := (2 * sc).fdiv l + c1
  let b := (2 * ss).fdiv l + (cot * c1).fdiv f
  { a := a, b := b, rss := max 0 (syy * f - (sy * sy * f).fdiv l - (c1 * st).fdiv 2 - (a * sc).fdiv f - (b * ss).fdiv f) }

/-- The angle of (x, y) in the first quadrant, to the nearest 0.01°: the bits of the result from the highest down, each kept
where tan of the angle half a unit below is not above y ÷ x. (DEDUCED: log entry 72) -/
def angleFirst (y x : Nat) : Nat :=
  let ge := fun (k : Nat) => decide (k ≤ 9000) &&
    decide ((x : Int) * sine (2 * k - 1) 72000 ≤ (y : Int) * cosine (2 * k - 1) 72000)
  ((List.range 14).reverse).foldl (fun a i => if ge (a + 2 ^ i) then a + 2 ^ i else a) 0

/-- atan2(y, x) in 0.01°, to the nearest, 0 for (0, 0) (R158). (DEDUCED: log entry 72) -/
def angle (y x : Int) : Int :=
  if x = 0 ∧ y = 0 then 0
  else
    let q : Int := angleFirst y.natAbs x.natAbs
    let h := if 0 ≤ x then q else 18000 - q
    if 0 ≤ y then h else -h

end Sys2Proof.Machine
end

