-- ==== Sys2Proof/Machine/ImpOps.lean ====
section
/-! DEFINITION. Shared operations of the impedance sweep: the geometry of a point, its excitation, its samples and the ways a
point ends (R148 to R154). -/

namespace Sys2Proof.Machine

/-! ## A point (R149, R150) -/

/-- The burst path is used above 200 Hz. -/
def ImpPt.burst (p : ImpPt) : Bool := decide (200000 < p.freq)

/-- The sample rate in S/s. -/
def ImpPt.fs (p : ImpPt) : Nat := if p.burst then 10000 else 1000

/-- The record length L. -/
def ImpPt.len (p : ImpPt) : Nat := if p.freq = 0 then 0 else (divRha (p.cycles * p.fs * 1000 : Nat) p.freq).toNat

/-- The actual frequency in mHz. -/
def ImpPt.actual (p : ImpPt) : Nat := if p.len = 0 then 0 else (divRha (p.cycles * p.fs * 1000 : Nat) p.len).toNat

/-- Settling cycles m = ⌈max(1, 0.5 s × f)⌉. -/
def ImpPt.settling (p : ImpPt) : Nat := max 1 ((p.cycles * p.fs + 2 * p.len - 1) / (2 * p.len))

/-- The duration of `c` cycles in ns, rounded up. -/
def ImpPt.time (p : ImpPt) (c : Nat) : Nat := (c * p.len * sec + p.cycles * p.fs - 1) / (p.cycles * p.fs)

/-- The conditions of R149 on a requested point. -/
def ImpPt.ok (p : ImpPt) : Bool :=
  decide (50 ≤ p.freq) && decide (p.freq ≤ 2000000) && p.cycles != 0 && decide (p.len ≤ (if p.burst then 4096 else 600000))

/-- The point under way. -/
def State.impPt (s : State) : Option ImpPt := s.imp.pts[s.imp.k]?

/-- The sinusoid's half-periods completed `t` ns after it started. -/
def ImpPt.halves (p : ImpPt) (t : Nat) : Nat := 2 * p.cycles * p.fs * t / (p.len * sec)

/-- The excitation added to the reference at this control sample, in mA (R148). -/
def State.excitation (s : State) : Int :=
  match s.impPt with
  | none => 0
  | some p =>
    if !s.imp.on || p.len = 0 then 0
    else
      let den := p.len * sec
      divRne (s.imp.apt * sine (p.cycles * p.fs * (s.quartzNs - s.imp.onAt)) den) one64

/-! ## Results -/

/-- The addresses of the real part and the imaginary part of group `g` at point `k`. (DESIGN CHOICE: log entry 44) -/
def impRe (k g : Nat) : Nat := 0x64000 + 5120 * (k % 8) + 8 * (g - 1)
/-- DESIGN CHOICE: log entry 44. (DESIGN CHOICE: log entry 44) -/
def impIm (k g : Nat) : Nat := 0x64004 + 5120 * (k % 8) + 8 * (g - 1)

/-- An invalid result with its code (Table 6.5). -/
def State.impBad (s : State) (k g code : Nat) : State := (s.putWord (impRe k g) 0x80000000).putWord (impIm k g) (BitVec.ofNat 32 code)

/-- Every group's result of a point with one code; numbers that hold no group read ABSENT. -/
def State.impAll (s : State) (k code : Nat) : State :=
  ((List.range 640).map (· + 1)).foldl (fun a g => a.impBad k g (if a.groupOk g then code else 3)) s

/-- The sweep goes on with the next point, or completes (R153). -/
def State.impNext (s : State) : State :=
  let s1 := { s with imp := { s.imp with k := s.imp.k + 1, on := false, clips := 0, restarts := 0, clipped := false, iSer := [],
                                         vSer := [], stale := [], armed := false, ready := false,
                                         after := s.ring.lastS } }
  if s1.imp.k < s1.imp.pts.length then (s1.set F.EST_IMP_STAT_STATE 0).set F.EST_IMP_STAT_POINT s1.imp.k
  else
    let n := 65536 * s1.imp.pts.length
    let s2 := match s1.imp.job with
      | some id => s1.jobProgress id n n
      | none => s1
    ((s2.impEnd .done stOk).setB F.EST_IMP_STAT_DONE_SEEN true).raise 37 []

/-- The point starts again from settling. -/
def State.impAgain (s : State) : State :=
  { s.set F.EST_IMP_STAT_STATE 0 with
    imp := { s.imp with on := false, clipped := false, iSer := [], vSer := [], stale := [], armed := false, ready := false,
                        after := s.ring.lastS } }

/-- A switch-over or a swap abandons a point that settles or correlates; the second time it stays NOT_MEASURED (Table 6.6). (DEDUCED: log entry 43) -/
def State.impAbandon (s : State) : State :=
  let st := s.get F.EST_IMP_STAT_STATE
  if !s.sweeping || !(st == 1 || st == 2) || s.imp.ready then s
  else
    let s1 := s.setB F.EST_IMP_STAT_ABORT_SEEN true
    if s1.imp.restarts = 0 then { s1.impAgain with imp := { s1.impAgain.imp with restarts := 1 } } else s1.impNext

/-! ## Samples (R149, R150) -/

/-- The groups fitted: a suspect pair through its lower group, as the pair sum (R151). -/
def State.impGroups (s : State) : List Nat :=
  s.groups.filter (fun g => match s.pairOf (groupPos g) (groupCh g) with
    | some c => groupCh g == c
    | none => true)

/-- The voltage of a fitted series in 10 µV: the group's, or the pair sum. -/
def State.impV (s : State) (g : Nat) : Nat :=
  match s.tile? (groupPos g) with
  | none => 0
  | some r => if s.wireSuspect g then recCell r.bytes (groupCh g) + recCell r.bytes (groupCh g + 1) else recCell r.bytes (groupCh g)

/-- At the end of a scan: BURST_ARM goes out at least two scans before settling ends, and a synchronous point takes its sample. -/
def State.impScan (s : State) : State :=
  match s.impPt with
  | none => s
  | some p =>
    let st := s.get F.EST_IMP_STAT_STATE
    if st = 1 && p.burst && !s.imp.armed then
      let end_ := s.imp.onAt + p.time p.settling
      let left := (end_ + msec - 1 - s.ring.lastS) / msec
      if left ≤ 100 then
        let arm := fun (a : State) (pos : Nat) => a.ringCmd pos 7
          (leBytes 2 (2 ^ a.cells pos - 1) ++ leBytes 1 20 ++ leBytes 2 p.len ++ leBytes 1 ((a.ring.sseq + left) % 256)) 1 0 false
        let s1 := s.positions.foldl arm s
        { s1 with imp := { s1.imp with armed := true } }
      else s
    else if st = 2 && !p.burst && decide (s.imp.iSer.length < p.len) then
      let gs := s.impGroups
      { s with imp := { s.imp with
          iSer := s.cvi.iS :: s.imp.iSer,
          vSer := gs.foldl (fun l g => assocPut g (s.impV g :: (assoc? g l).getD []) l) s.imp.vSer,
          stale := gs.foldl (fun l g => if s.stale (groupPos g) && !l.contains g then g :: l else l) s.imp.stale } }
    else s

/-- A sample of the current stream as a burst point takes it: every 20th one, from the strobe that opened correlation. -/
def State.burstSample (s : State) (x : Samp) : State :=
  match s.impPt with
  | none => s
  | some p =>
    let i := gridIdx s.imp.phaseAt x.eff
    if s.get F.EST_IMP_STAT_STATE = 2 && p.burst && decide (0 ≤ i) && i % 20 == 0 && decide (s.imp.iSer.length < p.len) then
      { s with imp := { s.imp with iSer := x.i :: s.imp.iSer } }
    else s

/-- A control sample during a burst point. -/
def State.impCurrent (s : State) : State :=
  match s.cvi.hist.head? with
  | some x => s.burstSample x
  | none => s

/-- The samples of a burst upload frame that returned (R53): channel, samples from START on; a lost frame makes the group STALE. -/
def State.burstTake (s : State) (c : RingCmd) (reply : Option (List Byte)) : State :=
  let ch := uAt c.payload 0 1
  let n := uAt c.payload 3 1
  let g := 16 * (c.pos - 1) + ch + 1
  match reply with
  | none => { s with imp := { s.imp with stale := g :: s.imp.stale } }
  | some b =>
    let d := b.drop 8
    let v := (List.range n).map (fun i => (uAt d (20 * i / 8) 3 >>> (20 * i % 8)) % 1048576)
    { s with imp := { s.imp with vSer := assocPut g (v.reverse ++ (assoc? g s.imp.vSer).getD []) s.imp.vSer } }

end Sys2Proof.Machine
end

