-- ==== Sys2Proof/Machine/Est.lean ====
section
/-! DEFINITION. State of charge estimation: the update of a quarter, string values, rest windows, snapshot and restore (R115 to
R139), with the learning points and due conditions of R141 to R144. -/

namespace Sys2Proof.Machine

/-! ## The update of a quarter (R115, R116, R134) -/

/-- A string-wide condition of Table 6.1 held at this scan: its operating time is kept, and a learning job fails with it (R141, R147). -/
def State.lrnCode (s : State) (code : Nat) (holds : Bool) : State :=
  if holds then
    let s1 := { s with lrn := { s.lrn with codeAt := assocPut code s.opsec s.lrn.codeAt } }
    if code = 8 then s1 else s1.lrnFail code
  else s

/-- Quarters that hold a configured group. -/
def State.quarters (s : State) : List Nat := (List.range 4).filter (fun q => s.groups.any (fun g => groupQ g == q))

/-- The string-wide conditions of Table 6.1, judged once per scan (R141). `dq` µC in `ms` ms. -/
def State.lrnScan (s : State) (p : Prof) (dq : Int) (ms : Nat) (first : Bool) : State :=
  let ts := s.groups.map s.tGroup
  let hi := maxI? ts
  let lo := minI? ts
  let range := ts.any (fun t => decide (t < 1500) || decide (3500 < t))
  let spread := match hi, lo with
    | some a, some b => decide (800 < a - b)
    | _, _ => false
  let peak := F32.lt p.c (F32.abs (F32.ratio dq (1000 * ms)))
  let gap := s.flag F.CVI_SH_STAT_AZINIT || s.flag F.CVI_SH_STAT_OVR || s.flag F.CVI_SH_STAT_NONE || s.flag F.CVI_SH_STAT_QSAT
  let lane := !first && s.quarters.any (fun q => nth 0 s.est.lastUpd q != 0 && decide (nth 0 s.est.lastUpd q + sec < s.now))
  ((((s.lrnCode 1 range).lrnCode 2 spread).lrnCode 4 peak).lrnCode 5 gap).lrnCode 6 lane

/-- The string-wide part of an update: IF (R116), the rest timers (R127) and the learning conditions (R141). -/
def State.estString (s : State) (p : Prof) (dq : Int) (ms : Nat) : State :=
  let dt := F32.ratio ms 1000
  let ik := F32.ratio dq (1000 * ms)
  let first := s.est.stringS.isNone
  let below := fun (div : Nat) => F32.lt (F32.abs ik) (F32.div p.c (F32.ofI div))
  let run := fun (div t : Nat) => if below div then (if first then t else min 4294967295 (t + ms)) else 0
  let rest := run (s.get F.EST_ANCH_RESTDIV) s.est.restMs
  let qr := run (s.get F.EST_ANCH_QRDIV) s.est.qrMs
  let s1 := { s with est := { s.est with
    iF := F32.add s.est.iF (F32.mul (F32.sub ik s.est.iF) dt), restMs := rest, qrMs := qr, stringS := some s.ring.lastS,
    restClean := s.est.restClean && below (s.get F.EST_ANCH_RESTDIV),
    cells := s.est.cells.map (fun (c : Cell) =>
      { c with restPt := c.restPt && rest != 0, restDone := c.restDone && rest != 0, quasiDone := c.quasiDone && qr != 0 }) } }
  let s2 := if s1.lrn.started then s1
    else { s1.set F.EST_LRN_LAST_LEARNLAST s1.opsec with lrn := { s1.lrn with started := true } }
  s2.lrnScan p dq ms first

/-- The inputs of a group's update (Table 5.1). -/
def State.estIn (s : State) (g : Nat) (dq : Int) (ms : Nat) : EstIn :=
  let fresh := (s.tile? (groupPos g)).any (·.fresh) && !s.stale (groupPos g)
  { dq := dq, dtMs := ms, iF := s.est.iF, v := s.cellV g, t := s.tGroup g,
    stale := !fresh, seen := (s.tile? (groupPos g)).isSome, lost := s.flag F.CVI_SH_STAT_NONE, held := s.tablesOut (groupQ g), op := s.opsec, qS := s.cvi.qS,
    restMs := s.est.restMs, qrMs := s.est.qrMs, pair := s.wireSuspect g }

/-- The state of a suspect pair: means of charge and capacity, the larger UNC plus half the SOC difference (R134); a reset of either group
starts the pair again. (DEDUCED: log entry 41) -/
def pairCell (a b : Cell) : Cell :=
  if a.init && b.init then
    { a with qrem := (a.qrem + b.qrem) / 2, cap := (a.cap + b.cap) / 2,
             unc := F32.min (F32.ofI 1) (F32.add (F32.max a.unc b.unc) (F32.div (F32.abs (F32.sub a.soc b.soc)) (F32.ofI 2))) }
  else {}

/-- The state of a group that shares the pair's filter: its learning point, learned bit and candidates stay its own (R140). -/
def Cell.shared (own pair : Cell) : Cell :=
  { pair with lp := own.lp, learned := own.learned, candP := own.candP, candM := own.candM }

/-- DUE is set and LEARN_DUE raised once (R144). -/
def State.learnDue (s : State) : State :=
  let s1 := s.setB F.EST_LRN_STAT_DUE true
  if s1.lrn.dueRaised then s1 else ({ s1 with lrn := { s1.lrn with dueRaised := true } }).raise 35 []

/-- A capacity candidate (R132, R144): its event, and DUE once its count is reached. -/
def State.candidate (s : State) (g : Nat) (x : Bool × Int × Nat) : State :=
  let s1 := (s.setB F.EST_FLAGS_CANDIDATE_SEEN true).raise 33 (leBytes 2 g ++ [0, 0] ++ leBytesI 4 (clipS 32 x.2.1))
  let n := s1.get F.EST_LRN_CFG_CANDCNT
  if n ≠ 0 ∧ n ≤ x.2.2 then s1.learnDue else s1

/-- A verdict on a learning cycle (R142, R143). -/
def State.learnResult (s : State) (g : Nat) (x : Nat × Nat × Nat) : State :=
  let d := leBytes 2 g ++ leBytes 1 x.1 ++ [0] ++ leBytes 4 x.2.1 ++ leBytes 4 x.2.2
  if x.1 = 0 then (s.setB F.EST_LRN_STAT_RESULT_SEEN true).raise 34 d
  else ((s.setB F.EST_LRN_STAT_REJECT_SEEN true).set F.EST_LRN_STAT_LASTDQ x.1).raise 34 d

/-- Every configured group has its learned bit: the cycle is complete (R143). -/
def State.learnedAll (s : State) : State :=
  let gs := s.groups.filter (fun g => !s.wireSuspect g)
  if !gs.isEmpty && gs.all (fun g => (s.cell g).learned) then
    let s1 := { s with est := { s.est with cells := s.est.cells.map (fun (c : Cell) => { c with learned := false }) },
                       lrn := { s.lrn with dueRaised := false } }
    (s1.set F.EST_LRN_LAST_LEARNLAST s1.opsec).setB F.EST_LRN_STAT_DUE false
  else s

/-- What followed from one group's update. -/
def State.estOut (s : State) (g : Nat) (old : Cell) (o : EstOut) : State :=
  let s1 := s.cellMod g (fun _ => o.cell)
  let s2 := if o.gated then s1.setB F.EST_FLAGS_GATED_SEEN true else s1
  let s3 := if o.conflict && !(old.confE || old.confF) then s2.setB F.EST_FLAGS_CONFLICT_SEEN true else s2
  let s4 := o.cands.foldl (fun a x => a.candidate g x) s3
  let s5 := o.results.foldl (fun a x => a.learnResult g x) s4
  if o.endAnchor then s5.setB F.EST_FLAGS_REST_FUTILE false else s5

/-- One group is updated; a suspect pair is updated through its lower group and copied to the upper (R134). (DEDUCED: log entry 41) -/
def State.estGroup (s : State) (p : Prof) (dq : Int) (ms g : Nat) : State :=
  match s.pairOf (groupPos g) (groupCh g) with
  | none =>
    let c := s.cell g
    s.estOut g c (c.update (s.estCfg p) (s.estIn g dq ms))
  | some lc =>
    let low := 16 * (groupPos g - 1) + lc + 1
    if g = low then
      let c := pairCell (s.cell g) (s.cell (g + 1))
      s.estOut g c (c.update (s.estCfg p) (s.estIn g dq ms))
    else s.cellMod g (fun own => own.shared (s.cell low))

/-- CHGLOST: every group becomes UNQUALIFIED (R134). -/
def State.chargeLost (s : State) : State :=
  let s1 := s.setB F.EST_FLAGS_CHGLOST true
  { s1 with est := { s1.est with cells := s1.est.cells.map (fun c => if c.init then { c with qual := 1 } else c) } }

/-- REST_FUTILE clears when the recorded group's SOC has moved by 10.00 % (R130). -/
def State.futile (s : State) : State :=
  if s.flag F.EST_FLAGS_REST_FUTILE && s.est.futGroup != 0
      && decide (1000 ≤ ((pct (s.cell s.est.futGroup).soc : Int) - s.est.futSoc).natAbs) then
    s.setB F.EST_FLAGS_REST_FUTILE false
  else s

/-- ESTIMATOR_UPDATE of quarter `q`: once per scan, by the lane that estimates it; at a strobe on a whole 100 ms the state goes into the
quarter's checkpoint (R135). -/
def State.estUpdate (s : State) (q : Nat) : State :=
  let write := fun (x : State) => if x.gridNo x.ring.lastS msec % 100 = 0 then x.checkpointOf q else x
  match s.prof? with
  | none => write s
  | some p =>
    let lost := s.flag F.CVI_SH_STAT_NONE
    let dq := if lost then 0 else s.cvi.qS - s.cvi.qPrev
    let ms := s.periodMs
    let s1 := if lost then s.chargeLost else s
    let s2 := if s1.est.stringS = some s1.ring.lastS then s1 else s1.estString p dq ms
    let gs := s2.groups.filter (fun g => groupQ g == q)
    let s3 := gs.foldl (fun a g => a.estGroup p dq ms g) s2
    let s4 := { s3 with est := { s3.est with done := q :: s3.est.done, lastUpd := modNth s3.est.lastUpd q (fun _ => s3.now) } }
    write s4.learnedAll.futile.estFlags

/-- Every record of the quarter is in tiles, or the scan has ended (R39). -/
def State.quarterIn (s : State) (q : Nat) : Bool :=
  s.ring.ended || (s.groups.filter (fun g => groupQ g == q)).all (fun g => (s.tile? (groupPos g)).any (·.fresh))

/-- Q(S) of the last strobe stands, or no charge is measured (R106). -/
def State.chargeIn (s : State) : Bool := s.cvi.tagS.isNone || s.flag F.CVI_SH_STAT_NONE || !s.domainGood 5

def execEstimatorUpdate (t : Nat) (q : Nat) (s : State) : Host.Outcome State Fault Refusal :=
  .next (s.commandIf t (fun s => s.lanesOn && decide (q < 4) && !s.est.done.contains q && s.chargeIn && s.quarterIn q
    && (nth none s.lan.est q).isSome && !s.quarterOut q .cells && !s.quarterStalls q && decide (0 < s.ring.lastS)) (fun s => s.estUpdate q))

/-! ## String values (R124, R125, R157) -/

/-- Charge a group can still give and take within its reserves, in C. -/
def State.groupCharge (s : State) (c : Cell) : F32 × F32 :=
  let (b, t) := s.reserves c
  let cap := c.capC
  (F32.max 0 (F32.mul (F32.sub c.soc b) cap), F32.max 0 (F32.mul (F32.sub (F32.sub (F32.ofI 1) t) c.soc) cap))

/-- The least of a list of binary32 numbers. -/
def minF : List F32 → F32
  | [] => 0
  | a :: t => t.foldl F32.min a

/-- The energy of a charge `q` moved from every group by `q ÷ (2 CAP)` in the direction `dis`, to the nearest Wh
(Table 5.5). (DESIGN CHOICE: log entry 75) -/
def State.energy (s : State) (p : Prof) (q : F32) (dis : Bool) (gs : List Nat) : Nat :=
  let v := gs.foldl (fun (a : F32) g =>
    let c := s.cell g
    let d := F32.div q (F32.mul (F32.ofI 2) c.capC)
    let x := if dis then F32.sub c.soc d else F32.add c.soc d
    F32.add a (p.ocvAt (p.tw (p.clampT (s.tGroup g)).1) x)) 0
  (clip 0 4294967295 (F32.toI (F32.div (F32.mul q v) (F32.ofI 3600)) 1)).toNat

/-- Entry 3, the reserve taper (R125). -/
def State.taperEntry (s : State) : State :=
  s.entry 3 (if s.get F.EST_STR_USOC_LO = 0 then s.taper else noLimit) (if s.get F.EST_STR_USOC_HI = 10000 then s.taper else noLimit)

/-- The string values of Table 5.5 and EST_SOH. -/
def State.stringValues (s : State) : State :=
  match s.prof? with
  | none => s.taperEntry
  | some p =>
    let gs := s.groups.filter (fun g => (s.cell g).init)
    let cs := gs.map s.cell
    if cs.isEmpty then s.taperEntry
    else
      let qd := minF (cs.map (fun c => (s.groupCharge c).1))
      let qc := minF (cs.map (fun c => (s.groupCharge c).2))
      let us := cs.map (fun c => pct (s.usable c))
      let sum := F32.add qd qc
      let usoc := if F32.le sum 0 then 0 else pct (F32.div qd sum)
      let unc := (cs.map (fun c => pctUp c.unc)).foldl max 0
      let capnom := s.capnom * 360
      let capmin := if capnom = 0 then 0 else (cs.map (fun c => (divRha (c.cap * 10000 : Nat) capnom).toNat)).foldl min 65535
      let s1 := (((s.set F.EST_STR_USOC_LO (us.foldl min 10000)).set F.EST_STR_USOC_HI (us.foldl max 0)).set F.EST_STR_SOC_USOC usoc).set
        F.EST_STR_SOC_UNCMAX (min 65535 unc)
      let s2 := (s1.set F.EST_STR_EDIS (s.energy p qd true gs)).set F.EST_STR_ECHG (s.energy p qc false gs)
      ((s2.set F.EST_SOH_CAPMIN capmin).set F.EST_SOH_RGMAX ((cs.map (·.rgrow)).foldl max 0)).taperEntry

/-- The window of the I²C target is refreshed with the string values (Table 16.4). -/
def State.iicRefresh (s : State) : State := { s with iic := { s.iic with win := s.stringBytes } }

def execStringValuesUpdate (t : Nat) (s : State) : Host.Outcome State Fault Refusal :=
  .next (s.commandIf t (fun s => s.inService && !s.s1Down) (fun s => s.stringValues.iicRefresh))

def execLearnIntervalExpiry (t : Nat) (s : State) : Host.Outcome State Fault Refusal :=
  .next (s.commandIf t (fun s => s.inService && s.lrn.started
    && decide (s.get F.EST_LRN_LAST_LEARNLAST + s.get F.EST_LRN_CFG_DAYS * 86400 ≤ s.opsec)) State.learnDue)

/-! ## Rest windows (R130) -/

def execRestGrant (t : Nat) (r : Req) (s : State) : Host.Outcome State Fault Refusal :=
  .next (s.hostCommand t 0x0406 r (Fmt.fixed 4 [2, 3]) (fun _ s =>
    let n := uAt r.payload 0 2
    if n = 65535 then (s, .err stBadParam 0 0)
    else if s.lrn.job.isSome then
      (s.keepLater 0x0406 r.payload, .ok [])
    else (s.restGrant n, .ok [])))

/-- The group with the highest UNC among those over the drift bound. -/
def State.worst (s : State) : Option Nat :=
  let bnd := F32.ratio (s.get F.EST_CFG_DRIFTBND) 1000
  (s.groups.filter (fun g => (s.cell g).init && F32.lt bnd (s.cell g).unc)).foldl (fun b g => match b with
    | none => some g
    | some h => if F32.lt (s.cell h).unc (s.cell g).unc then some g else some h) none

/-- The quasi-rest anchor at the end of a clean window, for a group whose rest anchor has not fired, from its last record (R130). (DEDUCED: log entry 42) -/
def State.windowAnchor (s : State) (p : Prof) (g : Nat) : State :=
  let c := s.cell g
  let i := s.estIn g s.cvi.dqS s.periodMs
  let (t, clamped) := p.clampT i.t
  let stale := s.stale (groupPos g) || !(s.tile? (groupPos g)).any (·.ever)
  if !c.init || c.restDone || stale || i.lost || clamped || i.held then s
  else
    let k := s.estCfg p
    let tw := p.tw t
    let r := ((List.range 7).filter (fun j => F32.le (F32.ratio (iAt p.h (64 + 2 * j) 2) 1000) (F32.div i.iF p.c))).length
    let rser := F32.mul (interp 21 (p.parE r 0) tw c.soc) (F32.ratio c.rgrow 4096)
    let vrc := vrcOf (F32.ratio i.v 100000) (F32.ratio i.dq (1000 * i.dtMs)) rser c
    let o := ({ cell := { c with quasiDone := false } } : EstOut).tryAnchor k i tw vrc 2
    s.estOut g c { o with cell := { o.cell with quasiDone := o.cell.quasiDone || c.quasiDone } }

/-- REST_WINDOW_END (R130). -/
def State.restWindowEnd (s : State) : State :=
  let s1 := { s.setB F.EST_FLAGS_RESTING false with est := { s.est with restEnd := none, restClean := true } }
  if !s.est.restClean then s1
  else
    let s2 := match s1.prof? with
      | some p => s1.groups.foldl (fun (a : State) g => a.windowAnchor p g) s1
      | none => s1
    let s3 := match s2.worst with
      | some g => { s2.setB F.EST_FLAGS_REST_FUTILE true with est := { s2.est with futGroup := g, futSoc := pct (s2.cell g).soc } }
      | none => s2
    s3.estFlags

def execRestWindowEnd (t : Nat) (s : State) : Host.Outcome State Fault Refusal :=
  .next (s.commandIf t (fun s => s.inService && s.est.restEnd.any (fun e => decide (e ≤ s.now))) State.restWindowEnd)

/-! ## Reset of groups -/

def execEstResetCell (t : Nat) (r : Req) (s : State) : Host.Outcome State Fault Refusal :=
  .next (s.hostCommand t 0x0505 r (Fmt.fixed 4 []) (fun _ s =>
    let f := uAt r.payload 0 2
    let n := uAt r.payload 2 2
    if s.lrn.job.isSome then (s, .no stBusy 0x000F)
    else if f = 0 ∨ 640 < f then (s, .err stBadParam 0 0)
    else if n = 0 ∨ 640 < n ∨ 641 < f + n then (s, .err stBadParam 0 2)
    else ({ s with est := { s.est with resetReq := s.est.resetReq ++ [(f, n)] } }, .ok [])))

/-! ## Snapshot (R136, R137) -/

/-- LAYOUT: the CRC over the 40 CELLS values (Table 5.10). -/
def State.layout (s : State) : Nat := crc32c (((List.range 40).map (· + 1)).map (fun p => BitVec.ofNat 8 (s.cells p)))

/-- The CRC of the selected profile's header record; 0 without one. -/
def State.profCrc (s : State) : Nat :=
  match assoc? (256 * s.get F.EST_CFG_PROFILE + 1) s.flash.tables with
  | some r => uAt r 12 4
  | none => 0

/-- The 49,152 bytes of a snapshot (Table 5.10). -/
def State.snapshot (s : State) : List Byte :=
  let tv := s.flag F.TIM_STAT_VALID
  let flags := b2n (s.flag F.EST_FLAGS_REST_WANTED) + 2 * b2n (s.flag F.EST_FLAGS_REST_FUTILE) + 4 * b2n (s.flag F.EST_FLAGS_RESTING)
  let a := leBytes 2 0x5345 ++ [1] ++ leBytes 1 (b2n tv) ++ leBytes 4 49152 ++ s.rd 0x6001C ++ leBytes 4 Config.serial.toNat
    ++ leBytes 4 s.profCrc ++ leBytes 2 s.groups.length ++ leBytes 1 s.ring.sseq ++ leBytes 1 (s.get F.EST_CFG_PROFILE)
    ++ leBytes 6 s.quartzSec ++ [0, 0] ++ leBytes 4 s.quartzNano ++ leBytes 4 s.opsec ++ leBytes 4 (s.get F.REC_PWRCYC)
    ++ leBytes 4 s.est.runId ++ leBytesI 8 s.cvi.qS ++ leBytes 4 s.layout ++ leBytes 4 0 ++ leBytes 4 flags
    ++ leBytes 4 s.est.iF.toNat ++ leBytes 4 s.est.restMs ++ leBytes 4 s.est.qrMs ++ leBytes 2 s.est.futSoc ++ [0, 0]
    ++ s.rd 0x60038 ++ List.replicate 8040 0
  let b := ((List.range 640).map (· + 1)).flatMap (fun g => (s.cell g).bytes (!s.groupOk g) (s.wireSuspect g))
  let c := a ++ b ++ List.replicate 60 0
  c ++ leBytes 4 (crc32c c)

/-- The requests that wait for a capture are answered with the first piece. -/
def State.captureReplies (s : State) (copy : List Byte) : State :=
  let (w, rest) := s.host.waiting.partition (fun x => x.why == WaitFor.capture && x.since != s.ring.lastS)
  w.foldl (fun a x => a.answer x.id stOk 0 (slice copy 0 (uAt x.req.payload 4 2))) { s with host := { s.host with waiting := rest } }

/-- The copy is taken. -/
def State.takeCopy (s : State) : State :=
  let c := s.snapshot
  { s with est := { s.est with copy := some c, copyAt := s.now } }

def execEstSnapshotRead (t : Nat) (r : Req) (s : State) : Host.Outcome State Fault Refusal :=
  .next (s.hostCommand t 0x0501 r { len := fun p => p.length == 8, pad := [7], flagsAt := some (6, 1) } (fun id s =>
    let o := uAt r.payload 0 4
    let n := uAt r.payload 4 2
    if n = 0 ∨ 1024 < n then (s, .err stBadParam 0 4)
    else if 49152 < o + n then (s, .err stBadParam 0 0)
    else if uAt r.payload 6 1 = 1 ∧ o = 0 then
      if s.parked then
        let s1 := s.takeCopy
        (s1, .ok (slice (s1.est.copy.getD []) 0 n))
      else
        ({ s with host := { s.host with waiting := s.host.waiting ++
            [({ why := .capture, id := id, req := r, since := s.ring.lastS } : Waiting)] } }, .later)
    else match s.est.copy with
      | none => (s, .refused 0)
      | some c => ({ s with est := { s.est with copyAt := s.now } }, .ok (slice c o n))))

/-- The estimator has done its update of this scan: every quarter with a lane and groups. -/
def State.scanUpdated (s : State) : Bool :=
  s.noProfile || s.quarters.all (fun q => s.est.done.contains q || (nth none s.lan.est q).isNone)

def execSnapshotCapture (t : Nat) (s : State) : Host.Outcome State Fault Refusal :=
  .next (s.commandIf t (fun s => s.inService && s.scanUpdated
    && s.host.waiting.any (fun x => x.why == WaitFor.capture && x.since != s.ring.lastS)) (fun s =>
    let s1 := s.takeCopy
    s1.captureReplies (s1.est.copy.getD [])))

def execSnapshotCopyExpire (t : Nat) (s : State) : Host.Outcome State Fault Refusal :=
  .next (s.commandIf t (fun s => s.inService && s.est.copy.isSome && decide (s.est.copyAt + 600 * sec ≤ s.now))
    (fun s => { s with est := { s.est with copy := none } }))

/-! ## Restore (R138, R139) -/

/-- The snapshot a set of pieces spells, when every byte is there. -/
def assemble (ps : List (Nat × List Byte)) : Option (List Byte) :=
  let put := fun (a : List (Option Byte)) (p : Nat × List Byte) => a.take p.1 ++ p.2.map some ++ a.drop (p.1 + p.2.length)
  let full := ps.foldl put (List.replicate 49152 none)
  if full.all (·.isSome) then some (full.filterMap id) else none

/-- Time of capture of a snapshot in whole seconds and ns. -/
def snapTime (b : List Byte) : Int := (uAt b 24 6 * sec + uAt b 32 4 : Nat)

/-- The checks of R138 on a complete snapshot: the refusal, or whether FORCE was needed. -/
def State.restoreCheck (s : State) (b : List Byte) (elapsed : Nat) (force : Bool) : HRes ⊕ Bool :=
  let crcOk := uAt b 49148 4 == crc32c (b.take 49148)
  let prof := uAt b 16 4 == s.profCrc
  let auto := elapsed == 4294967295
  let dt : Int := (s.quartzNs : Int) - snapTime b
  if s.get F.PRT_CONTSTAT_FB ≠ 0 then .inl (.refused 0x0002)
  else if !s.inRun then .inl (.refused 0x0001)
  else if uAt b 0 2 ≠ 0x5345 ∨ uAt b 2 1 ≠ 1 ∨ uAt b 4 4 ≠ 49152 ∨ !crcOk then .inl (.no stBadParam 0)
  else if uAt b 8 4 ≠ (s.word 0x6001C).toNat ∨ uAt b 20 2 ≠ s.groups.length ∨ uAt b 56 4 ≠ s.layout then .inl (.no stBadParam 0)
  else if !prof && !force then .inl (.no stBadParam 0)
  else if auto && (!(uAt b 3 1).testBit 0 || !s.flag F.TIM_STAT_VALID) then .inl (.refused 0)
  else if auto && decide (dt < 0) then .inl (.no stBadParam 0)
  else .inr (!prof)

/-- EST_RESTORE stores a piece; with APPLY the complete snapshot is checked and applied at a later strobe (R138). An APPLY
before all bytes are there is refused with the piece kept, and one while an accepted restore waits is answered BUSY. -/
def execEstRestore (t : Nat) (r : Req) (s : State) : Host.Outcome State Fault Refusal :=
  .next (s.hostCommand t 0x0502 r
    { len := fun p => decide (12 ≤ p.length) && p.length == 12 + uAt p 4 2, pad := [7], flagsAt := some (6, 3) } (fun id s =>
    let o := uAt r.payload 0 4
    let n := uAt r.payload 4 2
    let fl := uAt r.payload 6 1
    if n = 0 ∨ 1024 < n then (s, .err stBadParam 0 4)
    else if 49152 < o + n then (s, .err stBadParam 0 0)
    else
      let old := match s.est.restore with
        | some x => x.bytes
        | none => []
      let ps := old ++ [(o, r.payload.drop 12)]
      let s1 := { s with est := { s.est with restore := some { bytes := ps, since := s.now } } }
      if fl.testBit 0 && s.est.apply.isSome then (s, .no stBusy 0)
      else if !fl.testBit 0 then (s1, .ok [])
      else match assemble ps with
        | none => (s1, .refused 0)
        | some b =>
          match s.restoreCheck b (uAt r.payload 8 4) (fl.testBit 1) with
          | .inl e => (s, e)
          | .inr forced =>
            ({ s with est := { s.est with restore := none, apply := some (b, uAt r.payload 8 4, forced, s.now), applyDue := false },
                      host := { s.host with waiting := s.host.waiting ++ [({ why := .restore, id := id, req := r, since := s.now } : Waiting)] } }, .later)))

/-- The record of group `g` of a snapshot as a cell (Table 5.9). -/
def snapCell (b : List Byte) (g : Nat) : Cell :=
  let o := 8128 + 64 * (g - 1)
  let f := uAt b (o + 29) 1
  { init := true, qrem := iAt b o 8, cap := uAt b (o + 8) 4, vfast := BitVec.ofNat 32 (uAt b (o + 12) 4),
    vslow := BitVec.ofNat 32 (uAt b (o + 16) 4), hyst := BitVec.ofNat 32 (uAt b (o + 20) 4), unc := BitVec.ofNat 32 (uAt b (o + 24) 4),
    qual := uAt b (o + 28) 1, confE := f.testBit 1, confF := f.testBit 2, tclamp := f.testBit 3, rgrow := uAt b (o + 30) 2,
    excess := iAt b (o + 32) 4 * 10000, ankind := uAt b (o + 36) 1, ansoc := uAt b (o + 38) 2, antime := uAt b (o + 40) 4,
    thru := uAt b (o + 44) 4, thruUc := uAt b (o + 44) 4 * 1000000, eoct := uAt b (o + 48) 2 }

/-- One group is restored (R139). -/
def State.restoreCell (s : State) (b : List Byte) (ns : Nat) (forced same : Bool) (live : Cell) (g : Nat) : Cell :=
  let x := snapCell b g
  let dq : Int := if same then s.cvi.qS - iAt b 48 8 else 0
  let t := if same then 0 else ns
  let gain := F32.ratio (s.get F.EST_DRIFT_GAINERR) 100000
  let q := clipS 64 (x.qrem - dq * 65536 - x.selfDischarge (s.get F.EST_DRIFT_SDRATE) t)
  let u1 := F32.add (F32.add x.unc (F32.div (F32.mul (F32.ratio dq.natAbs 1000000) gain) x.capC)) (selfRate (s.get F.EST_DRIFT_SDUNC) t)
  let u2 := if forced then F32.add u1 (F32.ratio 5 100) else u1
  let x1 := { x with qrem := q, unc := u2, vfast := if same then x.vfast else 0, vslow := if same then x.vslow else 0,
                     qual := if forced && x.qual != 1 then 2 else x.qual }
  let bnd := F32.ratio (s.get F.EST_CFG_DRIFTBND) 1000
  let y := if x1.qual = 1 then live
    else if live.qual = 1 || F32.le x1.unc live.unc then
      { x1 with qual := if F32.le x1.unc bnd then 0 else 2, restPt := live.restPt, restDone := live.restDone,
                quasiDone := live.quasiDone }
    else live.setQ (if live.cap = 0 then live.qrem else divRne (live.qrem * x1.cap) live.cap)
  { y with cap := x1.cap, rgrow := x1.rgrow, learned := false, lp := none, candP := live.candP, candM := live.candM }

/-- RESTORE_APPLY (R139). (DEDUCED: log entry 42) -/
def State.restoreApply (s : State) : State :=
  match s.est.apply with
  | none => s
  | some (b, elapsed, forced, _) =>
    let ns := if elapsed = 4294967295 then ((s.quartzNs : Int) - snapTime b).toNat else elapsed * sec
    let same := uAt b 44 4 == s.est.runId
    let cells := (s.est.cells.zipIdx).map (fun (c, i) => if s.groupOk (i + 1) then s.restoreCell b ns forced same c (i + 1) else c)
    let s1 := { s with est := { s.est with cells := cells.map (fun (c : Cell) => { c with learned := false }), apply := none, applyDue := false },
                       lrn := { s.lrn with started := true } }
    let s2 := ((s1.setB F.EST_FLAGS_RESTORED_SEEN true).setB F.EST_FLAGS_ASSUMED_REST (!same)).setB F.EST_FLAGS_CHGLOST false
    let s3 := (s2.set F.EST_LRN_LAST_LEARNLAST (uAt b 84 4)).lrnCode 7 true
    let (w, rest) := s3.host.waiting.partition (fun x => x.why == .restore)
    (w.foldl (fun (a : State) x => a.answer x.id stOk 0 []) { s3 with host := { s3.host with waiting := rest } }).estFlags

/-- RESTORE_APPLY: at the first strobe S_a at least 1 ms after the check, after the update of that strobe (R138). -/
def execRestoreApply (t : Nat) (s : State) : Host.Outcome State Fault Refusal :=
  .next (s.commandIf t (fun s => s.inService && s.est.applyDue && s.chargeIn && s.scanUpdated) State.restoreApply)

def execRestoreDiscard (t : Nat) (s : State) : Host.Outcome State Fault Refusal :=
  .next (s.commandIf t (fun s => s.inService && (match s.est.restore with
    | some x => decide (x.since + 60 * sec ≤ s.now)
    | none => false)) (fun s => { s with est := { s.est with restore := none } }))

end Sys2Proof.Machine
end

