-- ==== Sys2Proof/Machine/LanOps.lean ====
section
/-! DEFINITION. Shared operations of the lanes block: assignment and its storage, fencing, adoption with catch-up, and the start and
end of a switch-over (R237 to R249). -/

namespace Sys2Proof.Machine

/-! ## Who holds what -/

/-- The lane that holds token `q`. -/
def State.laneOf (s : State) (q : Nat) : Option Nat := nth none s.lan.tok q

/-- LAN_STATE code of a lane. -/
def State.laneSt (s : State) (l : Nat) : Nat := nth 0 s.lan.st l

/-- The ACTIVE lanes in the order of their tokens, as token and lane. -/
def State.actives (s : State) : List (Nat × Nat) :=
  (List.range 4).filterMap (fun q => match s.laneOf q with
    | some l => if s.laneSt l = 1 then some (q, l) else none
    | none => none)

/-- Phases driven: those whose token a lane in ACTIVE holds. -/
def State.driven (s : State) : List Nat := s.actives.map (·.1)

/-- The lane in MULE. -/
def State.mule? (s : State) : Option Nat := s.lan.st.findIdx? (· == 2)

/-- The token of a lane. -/
def State.tokenOf (s : State) (l : Nat) : Option Nat := s.lan.tok.findIdx? (· == some l)

/-- The assignment is written to flash at every change, and NOSPARE follows (R238). (DEDUCED: log entry 52) -/
def State.laneStore (s : State) : State :=
  { s.setB F.LAN_STAT_NOSPARE s.mule?.isNone with
    flash := { s.flash with hours := s.lan.hours, assign := s.lan.tok.map (fun (o : Option Nat) => o.getD 7),
                            quarters := s.lan.est.map (fun (o : Option Nat) => o.getD 7), lanes := s.lan.st }.cfgWritten }

/-- The clock of lane `l` runs: every ACTIVE and TESTING lane's, and the mule's during a switch-over (R25). -/
def State.laneClock (s : State) (l : Nat) : Bool :=
  s.inService && (s.laneSt l == 1 || s.laneSt l == 3 || s.lan.sw.any (fun x => x.mule == l))

/-- A lane's state changes; its clock gate opens or closes with it (Table 11.1, R25). (DEDUCED: log entry 52) -/
def State.setLane (s : State) (l c : Nat) : State :=
  let ran := s.laneSt l == 1 || s.laneSt l == 3 || s.lan.sw.any (fun x => x.mule == l)
  { s with lan := { s.lan with
    st := modNth s.lan.st l (fun _ => c),
    gate := modNth s.lan.gate l (fun g => if c = 1 ∨ c = 3 then (if ran then g else some s.now) else none) } }

/-- A lane is cleared of consecutive disagreements. -/
def State.setMiss (s : State) (l n : Nat) : State := s.set ⟨0xB0014, 3 * l, 3⟩ n
def State.miss (s : State) (l : Nat) : Nat := s.get ⟨0xB0014, 3 * l, 3⟩

/-- Fences of a lane in the last 720 operating hours. -/
def State.fences (s : State) (l : Nat) : Nat :=
  ((nth [] s.flash.fences l).filter (fun o => decide (s.opsec < o + 2592000))).length

/-! ## Quarters (R248, R249) -/

/-- One prediction step without correction from the checkpoint (R248). -/
def State.catchCell (s : State) (p : Prof) (dq : Int) (ms g : Nat) (c : Cell) : Cell :=
  if !c.init || ms = 0 || !s.groupOk g then c
  else
    let i := s.estIn g dq ms
    let k := s.estCfg p
    let (t, clamped) := p.clampT i.t
    (c.predict k i (F32.ratio ms 1000) (F32.ratio dq (1000 * ms)) (p.tw t) clamped).1.drift k

/-- A lane takes a quarter over: its last complete checkpoint, caught up to the latest strobe with a snapshot, so that its next update is at
the strobe after that; groups without updates since become UNQUALIFIED, and those of a checkpoint of another run start again as in the first
row of Table 5.7 (R135, R248, R249). -/
def State.catchUp (s : State) (q : Nat) : State :=
  let put := fun (same : Bool) (cs : List Cell) =>
    let cs' := if !same then List.replicate 160 {} else if s.lan.orphan.contains q then cs.map (fun (c : Cell) => { c with qual := 1 }) else cs
    { s with est := { s.est with done := if s.cvi.tagS.isNone then q :: s.est.done else s.est.done, cells := s.est.cells.take (160 * q) ++ cs' ++ s.est.cells.drop (160 * q + 160) },
             lan := { s.lan with orphan := s.lan.orphan.filter (· ≠ q) } }
  match (nth [] s.est.ckpt q).head? with
  | none => put true (List.replicate 160 {})
  | some k =>
    let same := k.runId == s.est.runId
    match s.prof? with
    | none => put same k.cells
    | some p => put same ((k.cells.zipIdx).map (fun (c, i) =>
        s.catchCell p (s.cvi.qS - k.q) ((s.cvi.qAt - k.at_) / msec) (160 * q + i + 1) c))

/-- The ACTIVE lane that serves the lowest-numbered quarter, and no second one, adopts quarter `q` (R249). -/
def State.adopt (s : State) (q : Nat) : State :=
  let serves := fun (l : Nat) => (s.lan.est.filter (· == some l)).length
  match ((List.range 4).filterMap (fun k => nth none s.lan.est k)).find? (fun l => s.laneSt l == 1 && decide (serves l < 2)) with
  | some l => { s with lan := { s.lan with est := modNth s.lan.est q (fun _ => some l) } }.catchUp q
  | none => { s with lan := { s.lan with orphan := if s.lan.orphan.contains q then s.lan.orphan else q :: s.lan.orphan } }

/-! ## Switch-over (R247) -/

/-- The mule's switch-over for token `q` begins: its clock gate opens, SW = PREPARING; a point of a sweep is abandoned (R154). -/
def State.switchStart (s : State) (q m : Nat) : State :=
  ({ s with lan := { s.lan with sw := some { tok := q, mule := m }, gate := modNth s.lan.gate m (fun _ => some s.now) } }.set F.LAN_STAT_SW 1).impAbandon

/-- The host's self-test of the mule has failed (R251). -/
def State.testJobEnd (s : State) : State :=
  match s.lan.testJob with
  | some j => { s with lan := { s.lan with testJob := none } }.jobEnd j .failed stRefused []
  | none => s

/-- A token without a lane: the mule takes it, or it waits and its quarter is adopted (R247, R249, R255). A lane that undergoes its
self-test as the mule ends it and serves. (DEDUCED: log entry 52) -/
def State.orphaned (s : State) (q : Nat) : State :=
  let s0 := match s.mule?, s.lan.testing.find? (fun x => x.2 && s.laneSt x.1 == 3) with
    | none, some (l, _) =>
      let s1 := { s.setLane l 2 with lan := { (s.setLane l 2).lan with testing := s.lan.testing.filter (fun x => x.1 ≠ l) } }
      s1.testJobEnd
    | _, _ => s
  match s0.lan.sw, s0.mule? with
  | none, some m => s0.switchStart q m
  | _, _ =>
    let s1 := { s0 with lan := { s0.lan with waitTok := s0.lan.waitTok ++ [q] } }
    if (nth none s1.lan.est q).isNone then s1.adopt q else s1

/-- Fewer than two ACTIVE lanes: gander raises its demand (R249). (DEDUCED: log entry 52) -/
def State.twoLanes (s : State) : State := if s.actives.length < 2 then s.ganderTrip else s

/-- A fenced lane enters TESTING once no switch-over is in progress (Table 11.1). -/
def State.testFenced (s : State) : State :=
  if s.lan.sw.isSome then s
  else
    let ls := (List.range 5).filter (fun l => s.laneSt l == 4)
    let one := fun (a : State) (l : Nat) => { a.setLane l 3 with lan := { (a.setLane l 3).lan with testing := (l, false) :: a.lan.testing } }
    if ls.isEmpty then s else (ls.foldl one s).laneStore

/-- The fence of a lane that is not the mule of a running switch-over (R243, R244): the cause, the revocation of token and quarters, no duty on
its phase (R246), and what follows. A lane of another state than ACTIVE or MULE is not fenced (Table 11.1). -/
def State.fenceLane (s : State) (l cause : Nat) : State :=
  let c := s.laneSt l
  if !(c == 1 || c == 2) || decide (5 ≤ l) then s
  else
    let tok := s.tokenOf l
    let qs := (List.range 4).filter (fun q => nth none s.lan.est q == some l)
    let s1 := (((s.setLane l 4).set F.LAN_STAT_CAUSE cause).set F.LAN_STAT_FLANE l).setB F.LAN_STAT_FENCE_SEEN true
    let s2 := { s1.cause 6 with
      lan := { s1.lan with tok := s1.lan.tok.map (fun o => if o = some l then none else o),
                           est := s1.lan.est.map (fun o => if o = some l then none else o),
                           silent := modNth s1.lan.silent l (fun _ => 0) },
      til := { s1.til with cleared := [], suspect := if s1.til.suspect.contains l then s1.til.suspect else l :: s1.til.suspect },
      flash := { s1.flash with fences := modNth s1.flash.fences l (fun f => s.opsec :: f.take 15) } }
    let s3 := s2.setMiss l 0
    let s4 := match tok with
      | some q =>
        let a := { s3 with ctl := s3.ctl.unduty q s3.now }.orphaned q
        (qs.filter (· ≠ q)).foldl State.adopt a
      | none => qs.foldl State.adopt s3
    s4.twoLanes.laneStore.testFenced

/-- A lane that becomes MULE takes a token that waits (R249). -/
def State.muleNext (s : State) : State :=
  match s.lan.sw, s.mule?, s.lan.waitTok with
  | none, some m, q :: rest => { s with lan := { s.lan with waitTok := rest } }.switchStart q m
  | _, _, _ => s

/-- The switch-over is over; what waited for its end goes on. -/
def State.switchEnd (s : State) : State :=
  ((({ s with lan := { s.lan with sw := none } }.set F.LAN_STAT_SW 0).raise 72 []).testFenced).muleNext

/-- The mule of the running switch-over is fenced and the switch-over abandoned (Table 11.2, R247). -/
def State.abandon (s : State) (x : Switch) (cause : Nat) : State :=
  let s1 := { s with lan := { s.lan with sw := none } }.set F.LAN_STAT_SW 0
  let s2 := (s1.set F.LAN_GAP_LAST 0xFFF).setB F.LAN_STAT_SWFAIL_SEEN true
  let s3 := { s2 with lan := { s2.lan with waitTok := x.tok :: s2.lan.waitTok } }
  let s4 := if (nth none s3.lan.est x.tok).isNone then s3.adopt x.tok else s3
  (s4.fenceLane x.mule cause).switchEnd

/-- A lane is fenced (R243); with the mule of a running switch-over that switch-over is abandoned. -/
def State.fence (s : State) (l cause : Nat) : State :=
  match s.lan.sw with
  | some x => if x.mule == l then s.abandon x cause else s.fenceLane l cause
  | none => s.fenceLane l cause

/-- The token is granted and the mule becomes ACTIVE (Table 11.2, step 9); the gap runs to the sample that follows. -/
def State.grant (s : State) (x : Switch) : State :=
  let s1 := s.setLane x.mule 1
  let s2 := { s1 with lan := { s1.lan with tok := modNth s1.lan.tok x.tok (fun _ => some x.mule),
                                           est := modNth s1.lan.est x.tok (fun _ => some x.mule) } }
  let s3 := (s2.set F.LAN_GAP_LAST (min 4095 (x.samples + 1))).set F.LAN_GAP_MAX (max (s.get F.LAN_GAP_MAX) (min 4095 (x.samples + 1)))
  ((s3.setB F.LAN_STAT_SWDONE_SEEN true).switchEnd).laneStore

/-! ## Witness checks (R242) -/

/-- The quarters with an estimator that an ACTIVE lane serves. -/
def State.estQuarters (s : State) : List Nat := (List.range 4).filter (fun k => (nth none s.lan.est k).any (fun l => s.laneSt l == 1))

/-- The lane of the quarter `d` places after quarter `k`, counted among the quarters with an estimator. -/
def State.laneAfter (s : State) (k d : Nat) : Option Nat :=
  match s.estQuarters.findIdx? (· == k) with
  | some i => nth none s.lan.est (nth 0 s.estQuarters ((i + d) % s.estQuarters.length))
  | none => none

/-- The quarter's owner is witnessed by another quarter's lane, on at least one fitted group of the round's eight. -/
def State.witnessed (s : State) (k : Nat) : Bool :=
  decide (2 ≤ s.estQuarters.length) && s.estQuarters.contains k &&
    (List.range 8).any (fun i => s.groupOk (160 * k + (s.lan.round + 20 * i) % 160 + 1))

/-- What the repetition for quarter `k` shows: the lane in the minority is fenced with cause WITNESS, and agreement is transient; with fewer
than three ACTIVE lanes nobody is fenced. (DEDUCED: log entry 52) -/
def State.witnessAgain (s : State) (v : Witness) (k : Nat) : State :=
  let lane := match v with
    | .owner => s.laneAfter k 0
    | .first => s.laneAfter k (s.estQuarters.length - 1)
    | .second => s.laneAfter k 1
    | .agree | .apart => none
  if (s.laneAfter k 0).isNone then s
  else if v = .agree then s.setB F.LAN_STAT_WITTRANS_SEEN true
  else if s.actives.length < 3 then (s.setB F.LAN_STAT_WITTRANS_SEEN true).raise 74 []
  else match lane with
    | some l => s.fence l 5
    | none => s

/-- The witness checks of a strobe on a whole second: what waits is repeated, a new mismatch waits, and the round advances. -/
def State.witness (s : State) (bad : List Nat) (again : List (Nat × Witness)) : State :=
  let s1 := s.lan.suspect.foldl (fun a k => a.witnessAgain ((assoc? k again).getD .agree) k) s
  { s1 with lan := { s1.lan with suspect := s.estQuarters.filter (fun k => bad.contains k && s.witnessed k), round := (s.lan.round + 1) % 20 } }

end Sys2Proof.Machine
end

