-- ==== Sys2Proof/Machine/Ring.lean ====
section
/-! DEFINITION. The ring master: strobes, collect frames, records, the end of a scan, heartbeats, breaks and start-up (R43 to R68),
with the segment and string checks of R79 to R81. -/

namespace Sys2Proof.Machine

/-! ## Strobes -/

/-- The ring scans: start-up is over and the ring is not idle. -/
def State.scanning (s : State) : Bool := s.ringOn && !(s.get F.RING_STAT_STATE == 1 || s.get F.RING_STAT_STATE == 2)

/-- One strobe symbol leaves a port, S − NSIDE × t_hop (R58); a port that serves no node sends none (Table 2.3). -/
def State.strobeOne (s : State) (west : Bool) (nside : Nat) : State :=
  if nside = 0 then s
  else s.ringLine west (s.strobeAt nside) (symbolLine (strobeBytes s.ring.sseq nside s.parked))

/-- STROBE_EMIT (R58): the next SSEQ leaves each active port with the count of nodes it serves, for the coming scan instant. -/
def State.strobe (s : State) : State :=
  let s1 := { s with ring := { s.ring with sseq := (s.ring.sseq + 1) % 256, sentS := some s.nextS, ahead := true } }
  if s.ring.split then (s1.strobeOne false s.eReach).strobeOne true s.wReach else s1.strobeOne false s.served

/-- The strobe of the coming scan instant is due: its instant S − NSIDE × t_hop has come, S is not before the first one allowed, and it has
not left yet (R58, R62, R66); the broadcasts of step 5 of start-up come first (Table 2.9). -/
def State.strobeDue (s : State) : Bool :=
  s.scanning && !s.ring.step5 && decide (s.ring.firstS + s.ringNs ≤ s.now + s.nextS) && s.ring.sentS != some s.nextS
    && decide (s.strobeAt s.nside ≤ 4 * (s.ringNs + 1))

def execStrobeEmit (t : Nat) (s : State) : Host.Outcome State Fault Refusal := .next (s.commandIf t State.strobeDue State.strobe)

/-- One collect header leaves a port, S + W × 2.5 µs + 10 µs (R61). -/
def State.collectOne (s : State) (west : Bool) (nside : Nat) : State :=
  if nside = 0 then s else s.ringLine west (4 * s.collectAt) (frameLine (collectBytes s.ring.sseq nside s.parked))

/-- COLLECT_FRAME_SEND (R54, R61): one collect frame leaves each active port in a scan. -/
def State.collect (s : State) : State :=
  let s1 := { s with ring := { s.ring with colS := some s.ring.lastS, colSplit := s.ring.split } }
  if s.ring.split then (s1.collectOne false s.eReach).collectOne true s.wReach else s1.collectOne false s.served

/-- How long a collect frame takes with the record slots of 775 bit-times that nodes append (R54), there and back. -/
def State.collectNs (s : State) : Nat :=
  s.withSymbols ((100 + 775 * s.nside) * s.bitNs + (if s.ring.split then 2 else 1) * s.nside * s.get F.RING_THOP_THOP / 4)

/-- The collect frame of a scan whose strobe left is due, has not left, and returns in time (R54, R60, R61). -/
def State.collectDue (s : State) : Bool :=
  s.scanning && s.ring.live && s.ring.colS != some s.ring.lastS && decide (s.collectAt ≤ s.ringNs) && s.clearOfStrobe s.collectNs

def execCollectFrameSend (t : Nat) (s : State) : Host.Outcome State Fault Refusal := .next (s.commandIf t State.collectDue State.collect)

/-- EST_RESET_CELL takes effect at the strobe (R133): the groups start again at their next update. -/
def State.applyResets (s : State) : State :=
  let hit := fun (g : Nat) => s.est.resetReq.any (fun r => decide (r.1 ≤ g) && decide (g < r.1 + r.2))
  if s.est.resetReq = [] then s
  else
    let cells := (s.est.cells.zipIdx).map (fun (c, i) => if hit (i + 1) && s.groupOk (i + 1) then ({} : Cell) else c)
    { s with est := { s.est with cells := cells, resetReq := [] } }

/-- The number of the last scan instant passed: milliseconds of the grid, and in PARK seconds of the AO count (R35, R38). -/
def State.scanCount (s : State) : Nat :=
  if s.parked then s.time.aoSec + (s.now - s.time.aoAt) / sec else s.gridCount (s.periodMs * msec) * s.periodMs

/-- That instant S, in ns of the ring's clock. -/
def State.scanAt (s : State) : Nat :=
  if s.parked then s.time.aoAt + (s.now - s.time.aoAt) / sec * sec else s.gridAt (s.periodMs * msec)

/-- A scan instant has passed since the last one taken (R35). (DESIGN CHOICE: log entry 3) -/
def State.scanDue (s : State) : Bool :=
  s.started && (s.parked || s.quartzOn) && (match s.ring.scanNo with
    | none => true
    | some n => decide (n < s.scanCount))

/-- SCAN_STROBE (R35, R37): the charge snapshot and the windowed values are to be tagged to S; committed tables take effect (R119), a restore
becomes due (R138), and on whole seconds the lanes witness (R242). In PARK only the ring acts. -/
def State.scanStrobe (s : State) (bad : List Nat) (again : List (Nat × Witness)) : State :=
  let m := s.scanAt
  let s0 := s.retryHeld
  let s1 := { s0 with ring := { s0.ring with lastS := m, scanNo := some s.scanCount, ahead := false, live := s.ring.ahead, ended := false, tiles := s.ring.tiles.map (fun (x : Nat × TileRec) => (x.1, { x.2 with fresh := false })) } }
  if s.parked then s1
  else
    let due := s1.est.applyDue || (match s1.est.apply with
      | some (_, _, _, a) => decide (a + msec ≤ s1.now)
      | none => false)
    let s2 := { s1 with cvi := { s1.cvi with qPrev := s1.cvi.qS, tagS := some m, winS := some m, winAz := s1.flag F.CVI_SH_STAT_AZINIT }, est := { s1.est with done := [], applyDue := due } }
    let s4 := s2.latchTables.applyResets
    if s.scanCount % 1000 = 0 then s4.witness bad again else s4

/-- SCAN_STROBE: `bad` names the quarters whose witness finds a mismatch, `again` what a repetition shows. -/
def execScanStrobe (t : Nat) (bad : List Nat) (again : List (Nat × Witness)) (s : State) : Host.Outcome State Fault Refusal :=
  .next (s.commandIf t State.scanDue (fun s => s.scanStrobe bad again))

/-- What a port received, its polarity taken out (RING_CTRL.EPOL, WPOL). -/
def State.rxLine (s : State) (west : Bool) (rx : List Bool) : List Bool :=
  polarity (s.portInv west) rx

/-! ## Records (R55, R56, R77, R79, R81) -/

/-- A segment's bit of the mismatch registers. -/
def State.segMis (s : State) (p : Nat) : Bool := (s.word (0x40018 + 4 * ((p - 1) / 32))).toNat.testBit ((p - 1) % 32)

/-- Set or clear a segment's bit; ACQ_STAT.SEGMIS and the cap follow (Table 3.4). -/
def State.setSegMis (s : State) (p : Nat) (b : Bool) : State :=
  let a := 0x40018 + 4 * ((p - 1) / 32)
  let s1 := s.putWord a (BitVec.ofNat 32 (setBit (s.word a).toNat ((p - 1) % 32) b))
  (s1.setB F.ACQ_STAT_SEGMIS ((s1.word 0x40018).toNat != 0 || (s1.word 0x4001C).toNat != 0)).integrity

/-- Fine sum minus coarse sum in 10 µV. -/
def State.segDiff (s : State) (p : Nat) (r : List Byte) : Int :=
  sumI ((List.range (s.cells p)).map (fun c => ((recCell r c : Nat) : Int))) - (200 * uAt r 48 2 : Nat)

/-- The segment check agrees (R79). -/
def State.segAgrees (s : State) (p : Nat) (r : List Byte) : Bool :=
  decide ((s.segDiff p r).natAbs ≤ s.get F.ACQ_PLAUS_SEGTOL * 200)

/-- The segment check of a valid record with its persistence (R79, R81). (DEDUCED: log entry 70) -/
def State.segCheck (s : State) (p : Nat) (r : List Byte) : State :=
  let old := (assoc? p s.acq.seg).getD (0, 0)
  let ok := s.segAgrees p r
  let n := s.get F.ACQ_PLAUS_PERSIST
  let new := if ok then (0, min 255 (old.2 + 1)) else (min 255 (old.1 + 1), 0)
  let s1 := { s with acq := { s.acq with seg := assocPut p new s.acq.seg } }
  if !ok && decide (n ≤ new.1) && !s.segMis p then
    ((s1.setSegMis p true).setB F.ACQ_STAT_SEGMIS_SEEN true).raise 16
      (leBytes 1 p ++ [0, 0, 0] ++ leBytesI 4 (divRha (s.segDiff p r) 100))
  else if ok && decide (n ≤ new.2) && s.segMis p then s1.setSegMis p false
  else s1

/-- An open-wire test under way in a node's record: its groups that move alone (R91, R94). (DEDUCED: log entry 35; DEDUCED: log entry 70) -/
def State.owRecord (s : State) (p : Nat) (r : List Byte) : State :=
  if !(s.acq.owNodes.contains p) || !(uAt r 2 2).testBit 4 then s
  else
    let i := (assoc? p s.acq.owIdx).getD 0
    let a1 := { s.acq with owIdx := assocPut p (i + 1) s.acq.owIdx }
    if i % 2 = 0 then
      { s with acq := { a1 with owBase := assocPut p r a1.owBase,
                                owDev := if i % 4 = 0 then a1.owDev.filter (fun x => x.1 != p) else a1.owDev } }
    else
      match assoc? p a1.owBase with
      | none => { s with acq := a1 }
      | some b =>
        let dv := s.get F.ACQ_OW_CFG_DV * 100
        let mv := fun (c : Nat) => ((recCell r c : Int) - recCell b c).natAbs
        let n := s.cells p
        let alone := (List.range n).filter (fun c => decide (dv ≤ mv c) && (c == 0 || decide (2 * mv (c - 1) < dv))
          && (c + 1 == n || decide (2 * mv (c + 1) < dv)))
        let new := (alone.map (fun c => (p, c))).filter (fun x => !a1.owDev.contains x)
        { s with acq := { a1 with owDev := a1.owDev ++ new } }

/-- The position of the record in slot `h` of the frame that comes in at a port: the frame of an intact ring left the east port and comes in
at the west port (R43), or where it was turned back (Table 2.10); in split operation each port has its own. (DEDUCED: log entry 33) -/
def State.slotPos (s : State) (west : Bool) (h : Nat) : Option Nat :=
  if s.ring.colSplit then
    if west then (if 1 ≤ h ∧ h ≤ s.wReach then some (s.len + 1 - h) else none)
    else if 1 ≤ h ∧ h ≤ s.eReach then some h else none
  else if 1 ≤ h ∧ h ≤ s.served then some h else none

/-- A limit violation or a break in PARK is wake source 5 (R184, Table 18.9). (DEDUCED: log entry 33) -/
def State.ringWake (s : State) : State := if s.parked && s.flag F.RST_WAKECFG_RINGWAKE then s.fullWake 5 else s

/-- An accepted record (R55): tile, limits, checks and the recorder. (DEDUCED: log entry 70) -/
def State.takeRecord (s : State) (p : Nat) (raw : List Byte) : State :=
  let rec_ : TileRec := { bytes := raw, scans := 0, ever := true, fresh := true }
  let s1 := ({ s with ring := { s.ring with tiles := assocPut p rec_ s.ring.tiles } }).setStale p false
  let cs := s1.checks p raw
  let bad := cs.any (fun c => decide (c.hi < c.v) || decide (c.v < c.lo))
  let s2 := s1.cellLimits p cs
  if s.parked then (if bad then s2.ringWake else s2)
  else ((s2.segCheck p raw).owRecord p raw).recRecord p raw

/-- NODE_RECORD: an arriving record is checked at its slot; a record with STROBE_MISSED or CONV_FAULT is treated as stale
(R55, R56, R77), and one that fails a check is discarded and counted. (DEDUCED: log entry 32) -/
def State.nodeRecord (s : State) (west : Bool) (slot : Nat) (rx : List Bool) : State :=
  let raw := (recordRead (s.rxLine west rx)).getD []
  match s.slotPos west slot with
  | none => s
  | some p =>
    if s.ring.excluded.contains p then s
    else
      let ok := raw.length == 96 && uAt raw 92 4 == crc32c (raw.take 92) && uAt raw 0 1 == 0x21 && uAt raw 4 1 == s.ring.sseq
        && uAt raw 1 1 == slot
      if !ok then (s.count F.RING_ERRCNT_CRCERR F.RING_ERRCNT_SAT).setStale p true
      else if (uAt raw 2 2).testBit 9 || (uAt raw 2 2).testBit 7 then s.setStale p true
      else s.takeRecord p raw

/-- DESIGN CHOICE: log entry 4. (DESIGN CHOICE: log entry 4) -/
def execNodeRecord (t : Nat) (west : Bool) (slot : Nat) (rx : List Bool) (s : State) : Host.Outcome State Fault Refusal :=
  .next (s.commandIf t State.scanning (fun s => s.nodeRecord west slot rx))

/-! ## The end of a scan -/

/-- Missing records become stale (R39, R55); a node that goes stale leaves an open-wire run (R93). -/
def State.markMissing (s : State) : State :=
  s.positions.foldl (fun (a : State) p =>
    let old := (assoc? p a.ring.tiles).getD { bytes := [], scans := 0, ever := false, fresh := false }
    if old.fresh then a
    else
      let a1 := { a with
        ring := { a.ring with tiles := assocPut p { old with scans := min 255 (old.scans + 1) } a.ring.tiles },
        acq := { a.acq with owNodes := a.acq.owNodes.filter (· != p) } }
      a1.setStale p true) s

/-- The sum of the one unreachable segment from the string voltage, in 10 µV (R67); none while a position has no value. -/
def State.derived (s : State) : Option (Nat × Int) :=
  match s.positions.filter (fun p => s.unreachable p) with
  | [p] =>
    let others := s.positions.filter (fun q => q != p)
    if 2 ≤ s.len && s.positions.all (fun q => (assoc? q s.ring.tiles).any (fun r => r.ever)) then
      let sum := sumI (others.map (fun q => match s.tile? q with
        | some r => ((200 * uAt r.bytes 48 2 : Nat) : Int)
        | none => 0))
      some (p, s.getI F.CVI_VSTR * 100 - sum)
    else none
  | _ => none

/-- The string check of R80 with its persistence (R81); a scan with a stale record or a string overrange (R107) is not evaluated. -/
def State.stringCheck (s : State) : State :=
  if s.len = 0 || s.cvi.ovS || s.positions.any (fun p => s.stale p) then s
  else
    let e := sumI (s.positions.map (fun p => match s.tile? p with
      | some r => ((2000000 * uAt r.bytes 48 2 : Nat) : Int)
      | none => 0)) - s.getI F.CVI_I * (s.get F.ACQ_RLINK_RLINK : Int)
    let v := s.getI F.CVI_VSTR * 1000000
    let mis := decide (s.get F.ACQ_PLAUS_STRTOL * v.natAbs < (e - v).natAbs * 10000)
    let n := s.get F.ACQ_PLAUS_PERSIST
    let c := if mis then (min 255 (s.acq.str.1 + 1), 0) else (0, min 255 (s.acq.str.2 + 1))
    let d := if mis then divRha (e - v) 1000000 else s.acq.strDiff
    let s1 := { s with acq := { s.acq with str := c, strDiff := d } }
    if mis && decide (n ≤ c.1) && !s.flag F.ACQ_STAT_STRMIS then
      ((s1.setB F.ACQ_STAT_STRMIS true).setB F.ACQ_STAT_STRMIS_SEEN true).raise 17 (leBytesI 4 d)
    else if !mis && decide (n ≤ c.2) then s1.setB F.ACQ_STAT_STRMIS false
    else s1

/-- Commands to send again after an open-wire test has ended at their node (Table 3.7). -/
def State.resend (s : State) : State :=
  let free := fun (c : RingCmd) => match s.tile? c.pos with
    | some r => !(uAt r.bytes 2 2).testBit 4
    | none => true
  let (go, wait) := s.acq.resend.partition free
  go.foldl State.ringPut { s with acq := { s.acq with resend := wait } }

/-- The supervisor sends SAFE_EXIT to a node whose record shows the node safe state, once the ring serves it (R68). (DESIGN CHOICE: log entry 73) -/
def State.safeExit (s : State) (fresh : List (Nat × List Byte)) : State :=
  (fresh.filter (fun x => (uAt x.2 2 2).testBit 0 && !s.ring.probing
      && !(s.ring.cmds ++ s.ring.inflight.toList).any (fun c => c.cmd == 9 && (c.pos == x.1 || c.pos == 0)))).foldl
    (fun a x => a.ringCmd x.1 9 [] 1 0 true) s

/-- SCAN_END: the scan-level checks (R39, R67, R80, R81, R189, R194, R209 to R211). -/
def State.scanEnd (s : State) : State :=
  let s0 := s.markMissing.reach
  let s1 := { s0 with ring := { s0.ring with ended := true } }
  let fresh := s1.positions.filterMap (fun p => (s1.tile? p).bind (fun r => if r.fresh then some (p, r.bytes) else none))
  let cs := fresh.flatMap (fun x => s1.checks x.1 x.2)
  let d := s1.derived.map (fun x => let k := s1.cells x.1
    s1.chkOf x.2 k 0 (k * s1.get F.PRT_VHDR_VHYS * 100 : Nat))
  let s2 := match d with
    | some c => if s.parked then (if decide (c.hi < c.v) || decide (c.v < c.lo) then (s1.cellLimits 0 [c]).ringWake else s1.cellLimits 0 [c])
                else s1.cellLimits 0 [c]
    | none => s1
  let s2 := s2.safeExit fresh
  let s3 := s2.blockScan (s2.positions.any (fun p => s2.stale p && !(s2.derived.isSome && s2.unreachable p)))
  if s3.parked then s3
  else
    let s4 := ((((s3.headroom cs).stringCheck.integrity).thmScan).resend).impScan
    let waits := fun (c : RingCmd) => c.cmd == 6
    if s4.flag F.ACQ_STAT_OWRUN && !s4.ring.cmds.any waits && !s4.ring.inflight.any waits then { s4 with acq := { s4.acq with owScans := s4.acq.owScans + 1 } } else s4

def execScanEnd (t : Nat) (s : State) : Host.Outcome State Fault Refusal := .next (s.commandIf t State.scanning State.scanEnd)

/-- GRACE_EXPIRY (R67). -/
def State.graceExpired (s : State) : State :=
  let s1 := ((s.setB F.RING_STAT_GRACE_EXP true).raise 9 []).integrity
  if s1.sweeping then s1.impEnd .failed stRefused else s1

def execGraceExpiry (t : Nat) (s : State) : Host.Outcome State Fault Refusal :=
  .next (s.commandIf t (fun s => s.scanning && !s.flag F.RING_STAT_GRACE_EXP && (match s.ring.graceAt with
    | some a => decide (a + s.get F.RING_CTRL_GRACE * 10 * msec ≤ s.now)
    | none => false)) State.graceExpired)

/-! ## Heartbeat, break and split operation (R64 to R66) -/

/-- A probe heartbeat leaves each port (R66); until both reaches are known every heartbeat serves as a probe. -/
def State.probeSend (s : State) : State :=
  let q := (s.ring.hseq + 1) % 256
  let b := heartbeatBytes q s.parked
  ({ s with ring := { s.ring with hseq := q, hbLast := some s.now, hbOut := s.ring.hbOut ++ [(q, s.now)] } }.ringSymbol false b).ringSymbol true b

/-- HEARTBEAT_EMIT: out of the west port's counter channel in an intact ring, out of both ports in split operation and while probing. -/
def State.heartbeat (s : State) : State :=
  let q := (s.ring.hseq + 1) % 256
  let b := heartbeatBytes q s.parked
  let s1 := { s with ring := { s.ring with hseq := q, hbLast := some s.now,
                                           hbOut := if s.ring.split then [] else s.ring.hbOut ++ [(q, s.now)] } }
  if s.ring.probing then s.probeSend
  else if s.ring.split then (s1.ringSymbol false b).ringSymbol true b
  else s1.ringSymbol true b

/-- A heartbeat is due every 50 µs, the probe of a break at once (R64, R66), and none leaves within 2 µs before a strobe (R60). -/
def State.heartbeatDue (s : State) : Bool :=
  s.ringOn && ((s.ring.probing && s.ring.hbOut.isEmpty) || (match s.ring.hbLast with
    | none => true
    | some a => decide (a + 50 * usec ≤ s.now))) && s.symbolFree

def execHeartbeatEmit (t : Nat) (s : State) : Host.Outcome State Fault Refusal := .next (s.commandIf t State.heartbeatDue State.heartbeat)

/-- Probes leave both ports, clear of a strobe; a port in loss of signal reaches no node. -/
def State.probeStart (s : State) : State :=
  let s1 : State := { s with ring := { s.ring with hbOut := [], probing := true, probeE := if s.ring.losE then some 0 else none,
                                                   probeW := if s.ring.losW then some 0 else none } }
  if s.symbolFree then s1.probeSend else s1

/-- Both reaches are known: split operation begins (R66), with its own strobes at least 30 µs later; SAFE_EXIT follows (R68). (DEDUCED: log entry 33) -/
def State.splitStart (s : State) : State :=
  match s.ring.probeE, s.ring.probeW with
  | some k, some m =>
    let s1 := { s with ring := { s.ring with probing := false, split := true, missed := 0, hbOut := [], live := false,
                                             firstS := s.now + 30 * usec } }
    let s2 := ((s1.set F.RING_BREAK_EREACH (min k s.len)).set F.RING_BREAK_WREACH (min m s.len))
    let s3 := s2.set F.RING_STAT_STATE 4
    (s3.ringBroadcast 9 [] 1).reach
  | _, _ => s

/-- A break is declared (R64, R66). (DEDUCED: log entry 33) -/
def State.declareBreak (s : State) : State :=
  let s1 := ((s.setB F.RING_STAT_BROKEN true).raise 8 []).count F.RING_BREAK_BRKCNT F.RING_BREAK_SAT
  s1.probeStart.splitStart.ringWake

/-- A missed return; the third in a row declares the break (R64). -/
def State.missedReturn (s : State) : State :=
  let n := s.ring.missed + 1
  let s1 := { s with ring := { s.ring with missed := min 3 n } }
  if 3 ≤ n then s1.declareBreak else s1

/-- The time a heartbeat has to return in. -/
def State.hbLimit (s : State) : Nat := (if s.parked then 400 else 100) * usec

/-- A symbol that returned is a heartbeat with a good CRC-8. -/
def hbValid (raw : List Byte) : Bool := raw.length == 5 && uAt raw 0 1 == 2 && uAt raw 4 1 == crc8 (raw.take 4)

/-- The heartbeat symbol in what a port received; nothing where no symbol is recognised. -/
def State.hbRead (s : State) (west : Bool) (rx : List Bool) : List Byte := ((symbolRead (s.rxLine west rx)).getD []).take 5

/-- HEARTBEAT_RETURN is judged in an intact ring: at the east port, with HCNT of every node, not looped, in time. A symbol that cannot be
read counts for the oldest heartbeat under way. (DEDUCED: log entry 31) -/
def State.hbReturn (s : State) (west : Bool) (rx : List Bool) : State :=
  let raw := s.hbRead west rx
  match if hbValid raw then s.ring.hbOut.find? (fun h => h.1 == uAt raw 1 1) else s.ring.hbOut.head? with
  | none => s
  | some h =>
    let s1 := { s with ring := { s.ring with hbOut := s.ring.hbOut.erase h } }
    let ok := !west && hbValid raw && uAt raw 2 1 == s.served && !(uAt raw 3 1).testBit 1 && decide (s.now ≤ h.2 + s.hbLimit)
    if ok then { s1 with ring := { s1.ring with missed := 0 } } else s1.missedReturn

def execHeartbeatReturn (t : Nat) (west : Bool) (rx : List Bool) (s : State) : Host.Outcome State Fault Refusal :=
  .next (s.commandIf t (fun s => s.scanning && !s.ring.split && !s.ring.probing) (fun s => s.hbReturn west rx))

/-- HEARTBEAT_MISSED: the oldest heartbeat under way has not returned in time. -/
def State.hbMissed (s : State) : State := { s with ring := { s.ring with hbOut := s.ring.hbOut.drop 1 } }.missedReturn

def execHeartbeatMissed (t : Nat) (s : State) : Host.Outcome State Fault Refusal :=
  .next (s.commandIf t (fun s => s.scanning && !s.ring.split && !s.ring.probing && (match s.ring.hbOut with
    | h :: _ => decide (h.2 + s.hbLimit ≤ s.now)
    | [] => false)) State.hbMissed)

/-- PROBE_RETURN (R66): a looped probe gives the reach of its port. A probe that is lost is followed by the next heartbeat. (DEDUCED: log entry 33) -/
def State.probeReturn (s : State) (west : Bool) (rx : List Bool) : State :=
  let raw := s.hbRead west rx
  if hbValid raw && s.ring.hbOut.any (fun h => h.1 == uAt raw 1 1) && (uAt raw 3 1).testBit 1 then
    let k := some (uAt raw 2 1)
    { s with ring := { s.ring with probeE := if west then s.ring.probeE else k, probeW := if west then k else s.ring.probeW } }.splitStart
  else s

def execProbeReturn (t : Nat) (west : Bool) (rx : List Bool) (s : State) : Host.Outcome State Fault Refusal :=
  .next (s.commandIf t (fun s => s.ring.probing) (fun s => s.probeReturn west rx))

/-- RING_LOSS_OF_SIGNAL (R44): the channel is dark; a probe under way through it reaches no node. -/
def State.los (s : State) (west b : Bool) : State :=
  { s with ring := { s.ring with losE := if west then s.ring.losE else b, losW := if west then b else s.ring.losW } }

def execRingLossOfSignal (t : Nat) (west : Bool) (s : State) : Host.Outcome State Fault Refusal :=
  .next (s.commandIf t State.ringOn (fun s =>
    let s1 := s.los west true
    if s1.ring.probing then
      { s1 with ring := { s1.ring with probeE := if west then s1.ring.probeE else some (s1.ring.probeE.getD 0),
                                       probeW := if west then some (s1.ring.probeW.getD 0) else s1.ring.probeW } }.splitStart
    else s1))

/-- RING_SIGNAL_RESTORED (R424). -/
def execRingSignalRestored (t : Nat) (west : Bool) (s : State) : Host.Outcome State Fault Refusal :=
  .next (s.commandIf t State.ringOn (fun s => s.los west false))

/-! ## Node commands (R51, R60) -/

/-- The frame of a command or, with use 4 and CMD 0x30, of a burst upload. -/
def State.cmdBytes (s : State) (c : RingCmd) : List Byte :=
  if c.cmd = 0x30 then burstBytes (s.hop c) (uAt c.payload 0 1) (uAt c.payload 1 2) (uAt c.payload 3 1)
  else commandBytes (s.hop c) c.cmd s.ring.cseq c.payload c.rlen

/-- The command served next: high priority first (R61), east before west, the oldest first. (DEDUCED: log entry 34) -/
def State.nextCmd (s : State) : Option RingCmd := [0, 2, 1, 3].findSome? (fun q => s.ring.cmds.find? (fun c => c.queue == q && !c.held))

/-- A frame of `n` bytes returns completely at least 2 µs before the next strobe (R60): bit-times, both marks, and twice the hops. (DEDUCED: log entry 34) -/
def State.fits (s : State) (n : Nat) : Bool :=
  !s.scanning || s.clearOfStrobe (s.withSymbols ((8 * n + 4) * s.bitNs + 2 * s.len * s.get F.RING_THOP_THOP / 4))

/-- RING_COMMAND_SEND. -/
def State.cmdSend (s : State) : State :=
  match s.nextCmd with
  | none => s
  | some c =>
    let b := s.cmdBytes c
    if !s.fits b.length then s
    else
      { s with ring := { s.ring with cmds := s.ring.cmds.erase c, inflight := some { c with tries := c.tries + 1 },
                                     cseq := (s.ring.cseq + 1) % 256 } }.ringFrame c.west b

def execRingCommandSend (t : Nat) (s : State) : Host.Outcome State Fault Refusal :=
  .next (s.commandIf t (fun s => s.ringOn && s.ring.inflight.isNone) State.cmdSend)

/-- The outcome of a command: its result code, none after the third failure (R51, R305, Table 3.7). -/
def State.cmdDone (s : State) (c : RingCmd) (res : Option Nat) (raw : List Byte) : State :=
  let busy := res == some 3 && c.cmd == 4
  let s1 := if busy && c.again then { s with acq := { s.acq with resend := s.acq.resend ++ [{ c with tries := 0, use := 0 }] } } else s
  match c.use with
  | 1 =>
    let code := if busy then 0 else res.getD 0xFF
    { s1 with ring := { s1.ring with results := assocPut c.pos code s1.ring.results } }.balanceReply
  | 3 => if res = some 0 then s1 else { s1 with acq := { s1.acq with owNodes := s1.acq.owNodes.filter (· != c.pos) } }
  | 4 => s1.burstTake c (res.map (fun _ => raw))
  | _ => s1

/-- The waiting replies of Q28 … Q31 are taken, oldest first; `none` is a command that went unanswered. -/
def State.takeReplies (s : State) : State :=
  s.ring.replies.foldl (fun (a : State) r => match r.2 with
    | none => a.cmdDone r.1 none []
    | some b => a.cmdDone r.1 (some (if r.1.pos = 0 || r.1.cmd = 0x30 then 0 else uAt b (8 + r.1.payload.length) 1)) b)
    { s with ring := { s.ring with replies := [] } }

/-- Step 5 of start-up is over once its broadcasts are; the first strobe follows at least 100 µs later (Table 2.9). -/
def State.step5End (s : State) : State :=
  if s.ring.step5 && !(s.ring.cmds ++ s.ring.inflight.toList).any (fun c => c.pos == 0 && (c.cmd == 2 || c.cmd == 3)) then
    { s with ring := { s.ring with step5 := false, firstS := s.now + 100 * usec } }
  else s

/-- RING_COMMAND_RETURN (R51): a frame without EXEC or with a failed CRC, or one that finds its reply queue full (Table 19.2), is sent again
up to twice; a broadcast, which no node marks, is done once it comes back sound. S1 takes the replies unless it is held in reset. (DESIGN CHOICE: log entry 73) -/
def State.cmdReturn (s : State) (rx : Option (List Bool)) : State :=
  match s.ring.inflight with
  | none => s
  | some c =>
    let s0 := { s with ring := { s.ring with inflight := none } }
    let b := (rx.bind (fun l => frameRead (s.rxLine (s.backPort c.west) l))).getD []
    let sound := decide (12 ≤ b.length) && uAt b 7 1 == crc8 (b.take 7) && uAt b (b.length - 4) 4 == crc32c (b.take (b.length - 4))
    let done := sound && (c.pos == 0 || (uAt b 3 1).testBit 1) && decide (s.fill (28 + c.queue) < 8)
    let s1 := if rx.isSome && !sound then s0.count F.RING_ERRCNT_CRCERR F.RING_ERRCNT_SAT else s0
    if !done && decide (c.tries < 3) then { s1 with ring := { s1.ring with cmds := c :: s1.ring.cmds } }
    else
      let s2 := { s1 with ring := { s1.ring with replies := s1.ring.replies ++ [(c, if done then some b else none)] } }.step5End
      if s2.lan.supDown then s2 else s2.takeReplies

def execRingCommandReturn (t : Nat) (rx : Option (List Bool)) (s : State) : Host.Outcome State Fault Refusal :=
  .next (s.commandIf t State.ringOn (fun s => s.cmdReturn rx))

/-! ## Start-up (R57, R62, R425) -/

/-- Whether an IDENT reply is that of a node the module accepts (R425). -/
def identOk (r : Option (List Byte)) : Bool :=
  match r with
  | none => false
  | some b => b.length == 13 && uAt b 0 1 == 0 && uAt b 9 1 == 16 && uAt b 10 1 == 8 && uAt b 11 2 == 4096
      && uAt b 5 2 != 0 && uAt b 5 2 != 0xFFFF

/-- The rounds of probes that a calibration makes: a round whose spread is too wide is repeated up to three times (R57). -/
def calRounds (park : Bool) (rounds : List (List Nat)) : List (List Nat) :=
  let wide := fun (l : List Nat) => decide ((if park then 160 else 16) < l.foldl max 0 - l.foldl min (l.headD 0))
  let tried := rounds.take 4
  tried.take ((tried.takeWhile wide).length + 1)

/-- The calibration of R57 over rounds of loop times in 0.25 ns: spread, t_hop in 0.25 ns, ties away from zero, and whether it succeeded. (DEDUCED: log entry 31; DESIGN CHOICE: log entry 73) -/
def calibrate (park : Bool) (n : Nat) (rounds : List (List Nat)) : Nat × Nat × Bool :=
  let used := (calRounds park rounds).getLastD []
  let spread := used.foldl max 0 - used.foldl min (used.headD 0)
  let hop := if used = [] || n = 0 then 0 else (divRha (used.foldl (· + ·) 0 : Nat) (used.length * n)).toNat
  (spread, hop, used.length == 16 && decide (spread ≤ (if park then 160 else 16)) && decide (340 ≤ hop)
    && decide (hop ≤ (if park then 6120 else 520)))

/-- A frame that start-up sends itself. -/
def State.sendNow (s : State) (west : Bool) (hop cmd : Nat) (payload : List Byte) (rlen : Nat) : State :=
  { s with ring := { s.ring with cseq := (s.ring.cseq + 1) % 256 } }.ringFrame west (commandBytes hop cmd s.ring.cseq payload rlen)

/-- `n` heartbeats that start-up sends out of a port. -/
def State.probesNow (s : State) (west : Bool) : Nat → State
  | 0 => s
  | n + 1 =>
    let q := (s.ring.hseq + 1) % 256
    State.probesNow ({ s with ring := { s.ring with hseq := q } }.ringSymbol west (heartbeatBytes q s.parked)) west n

/-- The timing calibration (R57): 16 probes a round leave east; t_hop, SPREAD and CALFAIL follow. A result of PARK is used in PARK only, and
a failed one leaves the last good one of RUN, or 110 ns (R63). -/
def State.calibration (s : State) (n : Nat) (rounds : List (List Nat)) : State :=
  let (spread, hop, good) := calibrate s.parked n rounds
  let last := if s.parked then s.ring.thopGood else if good then some hop else s.ring.thopGood
  let s1 := s.probesNow false (16 * (calRounds s.parked rounds).length)
  let s2 := (s1.set F.RING_THOP_SPREAD (min 255 spread)).set F.RING_THOP_THOP (if good then hop else last.getD 440)
  let s3 := s2.setB F.RING_STAT_CALFAIL (!good)
  { s3.set F.RING_STAT_STATE (if !good then 5 else if s.parked then 6 else 3) with ring := { s3.ring with thopGood := last } }

/-- TIMING is broadcast (Table 2.9, step 5). -/
def State.timing (s : State) : State := s.ringBroadcast 2 (leBytes 2 (s.get F.RING_THOP_THOP) ++ leBytes 1 s.len ++ [0]) 1

/-- Steps 1 to 3 of Table 2.9: HEAL out of each live port, a heartbeat that counts the nodes (from the other port where east is dark), and
IDENT to each node found, three times where no answer came. -/
def State.findNodes (s : State) (x : StartupIn) : State × Nat :=
  let s1 := (s.los false (!x.east)).los true (!x.west)
  let s2 := if x.east then s1.sendNow false 0xFF 0x0A [] 1 else s1
  let s3 := if x.west then s2.sendNow true 0xFF 0x0A [] 1 else s2
  let from_ := !x.east
  let s4 := if x.east || x.west then s3.probesNow from_ 1 else s3
  let found := if x.east || x.west then min 63 (x.hcnt.getD 0) else 0
  ((List.range (min found 40)).foldl (fun (a : State) i =>
    (List.replicate (if (nth none x.idents i).isNone then 3 else 1) (if from_ then found - i else i + 1)).foldl
      (fun (b : State) h => b.sendNow from_ h 1 [] 13) a) s4, found)

/-- RING_STARTUP: the steps of Table 2.9. (DEDUCED: log entry 31) -/
def State.startup (s : State) (x : StartupIn) : State :=
  let (s2, found) := s.findNodes x
  let bad := (List.range (min found s.len)).filter (fun i => !identOk (nth none x.idents i))
  let place := fun (i : Nat) => if x.east then i + 1 else s.len - found + i + 1
  let mis := found != s.len || !bad.isEmpty
  let s3 := s2.set F.RING_STAT_FOUND found
  let s4 := if mis then s3.setRaise F.RING_STAT_LENMIS 10 [] else s3.setB F.RING_STAT_LENMIS false
  let s5 := s4.calibration found (if x.east && x.west then x.loops else [])
  let s6 := { s5 with
    ring := { s5.ring with excluded := bad.map place, startDue := false, calDue := false, step5 := true, firstS := s.now + 100 * usec, missed := 0,
                           hbOut := [] },
    acq := { s5.acq with planAt := s.now } }
  let s7 := (s6.timing.ringBroadcast 3 (s6.acqPayload 0) 1).ringBroadcast 9 [] 1
  let s8 := s7.acqCells.reach
  let s9 := if s.ring.startReset then s8.owStart 0 0 else s8
  s9.owNext

/-- The timing calibration of the slowed ring in PARK (R57). (DEDUCED: log entry 31) -/
def State.parkCalibration (s : State) (x : StartupIn) : State :=
  ({ s with ring := { s.ring with calDue := false } }.calibration s.served x.loops).timing

def execRingStartup (t : Nat) (x : StartupIn) (s : State) : Host.Outcome State Fault Refusal :=
  .next (s.commandIf t (fun s => s.started && (s.ring.startDue || s.parked && s.ring.calDue
      && s.clearOfStrobe (16 * (calRounds true x.loops).length * s.hbLimit)))
    (fun s => if s.ring.startDue then s.startup x else s.parkCalibration x))

end Sys2Proof.Machine
end

