-- ==== Sys2Proof/Machine/Acq.lean ====
section
/-! DEFINITION. The balancing policy and the open-wire runs (R87, R88, R93, R94). -/

namespace Sys2Proof.Machine

/-- The groups the policy may use: QUALIFIED and not WIRE_SUSPECT (R88). -/
def State.policyGroups (s : State) : List Nat :=
  s.groups.filter (fun g => let c := s.cell g; c.init && c.qual == 0 && c.cap != 0 && !s.wireSuspect g)

/-- The charge of the absolute SOC (R122): QREM within 0 and CAP. -/
def Cell.socQ (c : Cell) : Int := clip 0 (c.cap * 655360000 : Nat) c.qrem

/-- Exact comparison of two SOC values, QREM ÷ CAP. -/
def Cell.socLe (a b : Cell) : Bool := decide (a.socQ * b.cap ≤ b.socQ * a.cap)

/-- The timer of a group against the lowest group (R88), exact before rounding. (DEDUCED: log entry 70) -/
def State.policyTimer (s : State) (m c : Cell) (v : Nat) : Nat :=
  let k : Int := 655360000
  let num := c.socQ * m.cap - m.socQ * c.cap
  if k * (m.cap * c.cap : Nat) * (s.get F.ACQ_BAL_CFG_DEADBAND : Int) < num * 10000 then
    if v = 0 then 65535
    else min 65535 (divRha (num * 1000 * (s.get F.ACQ_RBLEED_RBLEED : Int)) (655360000 * m.cap * 100 * v)).toNat
  else 0

/-- BALANCE_POLICY_PLAN (R87, R88): with no QUALIFIED group nothing is sent; otherwise every node gets its timers, zero for a group the
policy may not use. (DEDUCED: log entry 35) -/
def State.policyPlan (s : State) : State :=
  let gs := s.policyGroups
  let s1 := { s with acq := { s.acq with planAt := s.now } }
  let low := match gs.map s.cell with
    | [] => ({} : Cell)
    | c :: cs => cs.foldl (fun (a : Cell) c => if Cell.socLe a c then a else c) c
  if s.groups.all (fun g => !(s.cell g).init || (s.cell g).qual != 0) then s1
  else s.positions.foldl (fun (a : State) p =>
    a.balanceCmd p ((List.range 16).map (fun c =>
      let g := 16 * (p - 1) + c + 1
      if gs.contains g then s.policyTimer low (s.cell g) (s.cellV g) else 0)) (2 * s.get F.ACQ_BAL_CFG_ALT) 2) s1

def execBalancePolicyPlan (t : Nat) (s : State) : Host.Outcome State Fault Refusal :=
  .next (s.commandIf t (fun s => s.inService && s.scanning && s.get F.ACQ_BAL_CFG_SRC == 0 && s.flag F.ACQ_BAL_CFG_ENABLE
    && decide (s.acq.planAt + s.get F.ACQ_BAL_CFG_PERIOD * 60 * sec ≤ s.now)) State.policyPlan)

/-- OPEN_WIRE_PERIODIC (R93). -/
def execOpenWirePeriodic (t : Nat) (s : State) : Host.Outcome State Fault Refusal :=
  .next (s.commandIf t (fun s => s.inService && s.scanning && s.get F.ACQ_OW_CFG_PERIOD != 0
    && decide (s.acq.owAt + s.get F.ACQ_OW_CFG_PERIOD * 3600 * sec ≤ s.now)) (fun s => s.owStart 1 0))

/-- The verdict on the wires of one position from its result record (R94). (DEDUCED: log entry 70) -/
def State.owVerdict (s : State) (p : Nat) (r : List Byte) : State :=
  let a := 0x40200 + 4 * (p - 1)
  let res := uAt r 6 2
  let inner := innerMask (s.cells p)
  let old := (s.word a).toNat
  let agrees := s.segAgrees p r
  let set := if agrees then old ||| (res &&& inner) else old
  let new := if s.acq.owKind = 2 then set &&& (0xFFFF ^^^ (inner &&& (0xFFFF ^^^ (res &&& 0xFFFF)))) else set
  let s1 := s.putWord a (BitVec.ofNat 32 new)
  let dev := if agrees then (s.acq.owDev.filter (fun x => x.1 == p)).map (fun x => 16 * (p - 1) + x.2 + 1) else []
  dev.foldl (fun (b : State) g => b.raise 18 (leBytes 2 g)) s1

/-- OPEN_WIRE_RUN_END (R93, R94): verdicts of the nodes whose test has ended; a held START begins. (DEDUCED: log entry 37; DEDUCED: log entry 70) -/
def State.owEnd (s : State) : State :=
  let done := s.acq.owNodes.filterMap (fun p => (s.tile? p).bind (fun r =>
    if !(uAt r.bytes 2 2).testBit 4 && (assoc? p s.acq.owIdx).isSome && decide (p ≤ 40) then some (p, r.bytes) else none))
  let s1 := done.foldl (fun (a : State) x => a.owVerdict x.1 x.2) s
  let any := s1.positions.any (fun p => (s1.word (0x40200 + 4 * (p - 1))).toNat != 0)
  let s2 := ((s1.setB F.ACQ_STAT_OWRUN false).setB F.ACQ_STAT_WSUSP any).setB F.ACQ_STAT_OWDONE true
  let s3 := { s2 with acq := { s2.acq with owNodes := [], owBase := [], owIdx := [], owDev := [], owScans := 0 } }.raise 19
    [BitVec.ofNat 8 s.acq.owKind]
  s3.owNext

/-- The test of a node of the run is over: its record showed the test and shows it no more; a node that never showed it does not count
(R92, R94). (DEDUCED: log entry 35) -/
def State.owOver (s : State) (p : Nat) : Bool :=
  (assoc? p s.acq.owIdx).isNone || (s.tile? p).any (fun r => !(uAt r.bytes 2 2).testBit 4)

/-- OPEN_WIRE_RUN_END: the scans of the run have passed and every node's result record is in. -/
def execOpenWireRunEnd (t : Nat) (s : State) : Host.Outcome State Fault Refusal :=
  .next (s.commandIf t (fun s => s.inService && s.flag F.ACQ_STAT_OWRUN
    && decide (4 * s.get F.ACQ_OW_CFG_REPS ≤ s.acq.owScans) && s.acq.owNodes.all s.owOver) State.owEnd)

end Sys2Proof.Machine
end

