-- ==== Sys2Proof/Machine/SafOps.lean ====
section
/-! DEFINITION. Shared operations of the safety functions: stops, demands, diagnostic faults, the switch byte and the contactor
sequences as gander sees them (R217 to R233). -/

namespace Sys2Proof.Machine

/-! ## Configuration -/

/-- Gander runs. -/
def State.ganderRuns (s : State) : Bool := s.rst.mode != .off && s.rst.mode != .reset && s.domainGood 1

/-- STATE of SAF_STAT. -/
def State.safSt (s : State) : Nat := s.get F.SAF_STAT_STATE

/-- Automatic restart mode: a valid latched byte with SW5 closed (R223, R227). -/
def State.autoRestart (s : State) : Bool := s.flag F.SAF_CFG_VALID && s.flag F.SAF_CFG_AUTORST

/-- The accepted state of input `i` (Table 10.11). -/
def State.safIn (s : State) (i : Nat) : Bool := s.flag { F.SAF_IN_ESTOP_A with lo := i }

/-- Whether input `i` (0 … 3) belongs to an enabled function. -/
def State.safUsed (s : State) (i : Nat) : Bool :=
  match i with
  | 0 | 1 => true
  | 2 => s.flag F.SAF_CFG_DOOREN
  | 3 => s.flag F.SAF_CFG_CURTEN
  | _ => false

/-- Every enabled input is healthy. -/
def State.safHealthy (s : State) : Bool := [0, 1, 2, 3].all (fun i => !s.safUsed i || s.safIn i)

/-- The functions in demand now, as the bits of DEMAND. -/
def State.demandBits (s : State) : Nat :=
  b2n (!(s.safIn 0 && s.safIn 1)) + 2 * b2n (s.safUsed 2 && !s.safIn 2) + 4 * b2n (s.safUsed 3 && !s.safIn 3)

/-- THWIN as ns; 0 when the two-hand function is off (Table 10.4). -/
def State.thWin (s : State) : Nat :=
  match s.get F.SAF_CFG_THWIN with
  | 1 => 250 * msec
  | 2 => 500 * msec
  | _ => 0

/-- A two-hand actuation is held (R224). -/
def State.actuated (s : State) : Bool := s.saf.thAt.isSome

/-! ## Stops (R220 to R222) -/

/-- The actions of R220: gander's demand to flint and all coils off, with the STATE that results. -/
def State.stop0 (s : State) (st : Nat) : State :=
  let s1 := { s with saf := { s.saf with cat1At := none } }
  ((s1.ganderTrip.coilsTrip).setB F.SAF_STAT_RAMP false).set F.SAF_STAT_STATE st

/-- After the loop has stopped in a category 1 stop gander raises its demand and STATE becomes DEMAND (R221, R222). -/
def State.stopCheck (s : State) : State :=
  let past := match s.prt.seq with
    | none => true
    | some q => q.kind == .open_ && decide (2 ≤ q.step)
  if s.safSt = 2 && !s.flag F.SAF_STAT_RAMP && past then (s.ganderTrip).set F.SAF_STAT_STATE 3 else s

/-- The running contactor sequence moves as far as it can now. -/
def State.poll (s : State) : State := (s.seqPoll 8).stopCheck

/-- A category 1 stop at acceptance; a sweep and a learning job end at once (Tables 6.4, 6.6): the ramp with the loop RUNNING and CONNECTED, else the open sequence, else R220. -/
def State.stop1 (s : State) : State :=
  if s.get F.PRT_CONTSTAT_CONN != 4 then s.stop0 3
  else
    let s1 := { s with saf := { s.saf with cat1At := some s.now,
                                           step := max (s.get F.CTL_SLEW_SLEW * 5) ((s.ctl.islew.natAbs + 7999) / 8000) } }.set
      F.SAF_STAT_STATE 2
    if s.get F.CTL_STAT_STATE = 2 then s1.endCurrentJobs.setB F.SAF_STAT_RAMP true else (s1.endCurrentJobs.openStart none).poll

/-- The restart latch is set by every demand in manual mode (R223). -/
def State.latchRestart (s : State) : State := if s.autoRestart then s else s.setB F.SAF_STAT_LATCHED true

/-- A new demand of function `k` (0 emergency stop, 1 door, 2 curtain) is accepted (R218 to R222). (DEDUCED: log entry 51) -/
def State.newDemand (s : State) (k : Nat) : State :=
  let s1 := ((s.set F.SAF_STAT_DEMAND (setBit (s.get F.SAF_STAT_DEMAND) k true)).count F.SAF_CNT_DEMANDS F.SAF_CNT_SAT).raise 64 []
  let s2 := s1.latchRestart
  match s2.safSt with
  | 0 => s2.stop0 0
  | 1 => if s2.flag F.SAF_STAT_CAT then s2.stop1 else s2.stop0 3
  | 4 => s2.stop0 3
  | _ => s2

/-! ## Diagnostic faults (R232) -/

/-- A diagnostic fault: its bit, FIRST, the event, the actions of R220, and FAULT; a switch change gives CONFIG_CHANGED. During
START only the bit and the actions (R233). -/
def State.safFault (s : State) (bit : Nat) : State :=
  let f : Fld := { F.SAF_FAULT_DISCREP with lo := bit }
  let s1 := if s.flag f then s else (s.setB f true).raise 65 []
  let s2 := (if s1.get F.SAF_FAULT_FIRST = 0 then s1.set F.SAF_FAULT_FIRST (bit + 1) else s1).setB F.SAF_STAT_FLTLATCH true
  s2.stop0 (if s2.safSt = 0 then 0 else if s2.safSt = 6 || bit == 3 then 6 else 5)

/-- The coil supply switch opens (R230). -/
def State.supplyOpen (s : State) : State := s.setB F.SAF_STAT_COILSW false

/-- The close sequence starts (R196): step 1 reads the feedbacks and, with all coils off, tests the coil supply switch; `supply`: the test
passes (R230). Then KPC is on. -/
def State.closeStart (s : State) (job : Option Nat) (supply : Bool) : State :=
  let q : Seq := { kind := .close, step := 1, at_ := s.now, job := job }
  let s1 := (s.setConn 1).seqPut q
  if !s1.allOpen then (([0, 1, 2].filter (fun k => s1.fb k)).foldl State.weld s1).closeFail q
  else if !supply then (s1.safFault 6).supplyOpen
  else (((s1.setB F.SAF_STAT_COILSW true).setConn 2).coilOn 2).seqPut { q with step := 2 }

/-! ## The switch byte (R226 to R228) -/

/-- The byte of one read cycle: `none` where a switch shows a pattern outside Table 10.3. -/
def switchByte (p1 p2 p3 : Nat) : Option Nat :=
  let even := p1 &&& 0x55
  let odd := p2 &&& 0xAA
  if p1 < 256 ∧ p2 < 256 ∧ p1 = even ∧ p2 = odd ∧ p3 = 0 then some (even + odd) else none

/-- Whether a byte is valid (Table 10.4). -/
def switchOk (b : Nat) : Bool :=
  b / 8 % 4 != 3 && !b.testBit 6 && ((List.range 8).filter (fun i => b.testBit i)).length % 2 == 1

/-- A byte is decoded into SAF_CFG, CAT and SAF_HASH. -/
def State.switchUse (s : State) (b : Nat) : State :=
  let s1 := s.set F.SAF_HASH (crc32c (leBytes 1 b ++ leBytes 2 Config.gromVer.toNat ++ [0]))
  if switchOk b then
    ((s1.set { F.SAF_CFG_CAT with w := 6 } b).setB F.SAF_CFG_VALID true).set F.SAF_STAT_CAT b
  else s1

/-- The stored byte of a power-on: decoded, invalid a fault, and in automatic mode the restart latch clears (R223, R228). -/
def State.switchStore (s : State) (b : Nat) : State :=
  let s1 := { s with saf := { s.saf with swByte := some b } }.switchUse b
  if !switchOk b then s1.safFault 4
  else if s1.autoRestart then s1.setB F.SAF_STAT_LATCHED false else s1

end Sys2Proof.Machine
end

