-- ==== Sys2Proof/Machine/CtlOps.lean ====
section
/-! DEFINITION. Shared operations of the control engine: block floating point, coefficient records, the set-point path, the limits of
a sample, voting and the duty envelope (R165 to R183, R193, R239 to R241). -/

namespace Sys2Proof.Machine

/-! ## Coefficient records (R178) -/

/-- `n` signed words from offset `o`. -/
def s32s (b : List Byte) (o n : Nat) : List Int := (List.range n).map (fun i => iAt b (o + 4 * i) 4)

/-- A list cut into `r` rows of `c` entries. -/
def rowsOf (r c : Nat) (l : List Int) : List (List Int) := (List.range r).map (fun i => (l.drop (c * i)).take c)

/-- A matrix at offset `o`. -/
def matAt (b : List Byte) (o r c : Nat) (e : Int) : Mat := { rows := rowsOf r c (s32s b o (r * c)), e := e }

/-- A mantissa of 18 bits. -/
def mant (x : Int) : Bool := decide (-131072 ≤ x) && decide (x ≤ 131071)

/-- Bytes of the (YSRC, SH) pairs, padded. -/
def pairBytes (p : Nat) : Nat := (2 * p + 3) / 4 * 4

/-- LENGTH of a record of a class (Table 7.7). -/
def coefLen (cls n p m nr : Nat) : Nat :=
  if cls = 1 then 4 * (n * n + n * m + p * n) + pairBytes p + 12 + 4 * m else 4 * (m * n + n * p + m * nr)

/-- The header passes Table 7.6 and the CRC holds. -/
def coefHeaderOk (d : List Byte) : Bool :=
  let cls := uAt d 2 1
  let n := uAt d 8 1
  let p := uAt d 9 1
  let m := uAt d 10 1
  let nr := uAt d 11 1
  decide (32 ≤ d.length) && uAt d 0 2 == 0x4C43 && (cls == 1 || cls == 2) && uAt d 3 1 == 0
    && decide (1 ≤ n) && decide (n ≤ 32) && decide (1 ≤ p) && decide (p ≤ 16) && decide (4 ≤ m) && decide (m ≤ 8)
    && decide (1 ≤ nr) && decide (nr ≤ 4) && uAt d 4 4 == coefLen cls n p m nr && d.length == 32 + uAt d 4 4
    && uAt d 12 2 == 1 && uAt d 14 2 == 0 && [16, 17, 18].all (fun o => decide (-32 ≤ iAt d o 1) && decide (iAt d o 1 ≤ 31))
    && uAt d 19 9 == 0 && uAt d 28 4 == crc32c (d.drop 32)

/-- A structure record, when it passes R178. -/
def structOf (d : List Byte) : Option CtlStruct :=
  let n := uAt d 8 1
  let p := uAt d 9 1
  let m := uAt d 10 1
  let oB := 32 + 4 * n * n
  let oC := oB + 4 * n * m
  let oY := oC + 4 * p * n
  let oP := oY + pairBytes p
  let c : CtlStruct :=
    { n := n, p := p, m := m, nr := uAt d 11 1, a := matAt d 32 n n (iAt d 16 1), b := matAt d oB n m (iAt d 17 1),
      c := matAt d oC p n (iAt d 18 1), ysrc := (List.range p).map (fun i => uAt d (oY + 2 * i) 1),
      sh := (List.range p).map (fun i => iAt d (oY + 2 * i + 1) 1), pmap := (List.range 4).map (fun i => uAt d (oP + i) 1),
      elim := (List.range 8).map (fun i => iAt d (oP + 4 + i) 1), uoff := s32s d (oP + 12) m }
  let ok := coefHeaderOk d && uAt d 2 1 == 1 && (s32s d 32 (n * n + n * m + p * n)).all mant && c.uoff.all mant
    && c.ysrc.all (fun x => decide (x ≤ 8)) && c.sh.all (fun x => decide (-8 ≤ x) && decide (x ≤ 7))
    && (List.range (pairBytes p - 2 * p)).all (fun i => uAt d (oY + 2 * p + i) 1 == 0)
    && c.pmap.all (fun x => decide (x < m))
    && [0, 2, 4, 6].all (fun i => decide (nth 0 c.elim i ≤ nth 0 c.elim (i + 1)))
  if ok then some c else none

/-- A gain record for a structure, when it passes R178. -/
def gainOf (d : List Byte) (t : CtlStruct) : Option Gain :=
  let n := uAt d 8 1
  let p := uAt d 9 1
  let m := uAt d 10 1
  let nr := uAt d 11 1
  let oL := 32 + 4 * m * n
  let oN := oL + 4 * n * p
  let ok := coefHeaderOk d && uAt d 2 1 == 2 && (s32s d 32 (m * n + n * p + m * nr)).all mant
    && n == t.n && p == t.p && m == t.m && nr == t.nr
  if ok then some { n := n, p := p, m := m, nr := nr, k := matAt d 32 m n (iAt d 16 1), l := matAt d oL n p (iAt d 17 1),
                    nm := matAt d oN m nr (iAt d 18 1) }
  else none

/-! ## Block floating point (R168 to R171) -/

/-- round_half_even(x × 2^k). -/
def scaleRhe (x k : Int) : Int := if 0 ≤ k then x * (2 ^ k.toNat : Nat) else divRne x (2 ^ (-k).toNat)

/-- A group of terms of one row: signed products with a group exponent. -/
abbrev Terms := Int × List Int

/-- The accumulator of a row (R169): each term is shifted right to Eref before it is added. -/
def rowAcc (eref : Int) (gs : List Terms) : Int :=
  sumI (gs.flatMap (fun g => g.2.map (fun v => (v * 16).fdiv (2 ^ (eref - g.1).toNat : Nat))))

/-- The largest exponent of a list of groups. -/
def erefOf (es : List Int) : Int := (maxI? es).getD 0

/-- Products of a row with a vector. -/
def prods (r v : List Int) : List Int := (r.zip v).map (fun x => x.1 * x.2)

/-- A stage renormalised as a whole (R170): mantissas, exponent, whether it saturated. `f E` gives the mantissas of a candidate. -/
def renorm (emin emax : Int) (f : Int → List Int) : List Int × Int × Bool :=
  match (List.range (emax - emin + 1).toNat)|>.find? (fun (i : Nat) => (f (emin + (i : Nat))).all mant) with
  | some i => (f (emin + (i : Nat)), emin + (i : Nat), false)
  | none => ((f emax).map (clip (-131072) 131071), emax, true)

/-- A stage from the accumulators of its rows. -/
def renormAcc (emin emax eref : Int) (accs : List Int) : List Int × Int × Bool :=
  renorm emin emax (fun e => accs.map (fun a => scaleRhe a (eref - e - 21)))

/-- What a slice computes in one sample. -/
structure Slice where
  mu : List Int
  x : List Int
  xe : Int
  em : Int
  eo : Int
  ef : Int
  /-- bits of CTL_SATF -/
  sat : Nat
  deriving DecidableEq, Repr

/-- Limit `i` of the stages; an exponent is one of −32 … +31 (R168), whatever the record's limits say. -/
def CtlStruct.lim (t : CtlStruct) (i : Nat) : Int := clip (-32) 31 (nth 0 t.elim i)

/-- One control sample of a slice (R167 to R171): raw measurements, references, carried x̂ and u, and the duty limits. -/
def slice_ (t : CtlStruct) (g : Gain) (raw r x : List Int) (xe : Int) (u : List Int) (dmin dmax : Int) : Slice :=
  let lim := t.lim
  let inp := (raw.zip t.sh) ++ r.map (fun v => (v, 0))
  let (m, em, s0) := renorm (lim 0) (lim 1) (fun e => inp.map (fun v => scaleRhe v.1 (v.2 + 17 - e)))
  let y := m.take t.p
  let rm := m.drop t.p
  -- O: y − C x̂
  let go := erefOf [1 + em, t.c.e + xe]
  let (e, eo, s1) := renormAcc (lim 2) (lim 3) go ((y.zip t.c.rows).map (fun v =>
    rowAcc go [(1 + em, [65536 * v.1]), (t.c.e + xe, (prods v.2 x).map (- ·))]))
  -- X: A x̂ + B u + L e
  let gx := erefOf [t.a.e + xe, t.b.e, g.l.e + eo]
  let (x1, xe1, s2) := renormAcc (lim 4) (lim 5) gx ((t.a.rows.zip (t.b.rows.zip g.l.rows)).map (fun v =>
    rowAcc gx [(t.a.e + xe, prods v.1 x), (t.b.e, prods v.2.1 u), (g.l.e + eo, prods v.2.2 e)]))
  -- F: −K x̂ + N r
  let gf := erefOf [g.k.e + xe1, g.nm.e + em]
  let (f, ef, s3) := renormAcc (lim 6) (lim 7) gf ((g.k.rows.zip g.nm.rows).map (fun v =>
    rowAcc gf [(g.k.e + xe1, (prods v.1 x1).map (- ·)), (g.nm.e + em, prods v.2 rm)]))
  -- U: to exponent 0, clamped
  let u0 := f.map (fun v => scaleRhe v ef)
  let u1 := u0.map (clip (-131072) 131071)
  let mu := u1.map (clip (2 * dmin) (2 * dmax))
  { mu := mu, x := x1, xe := xe1, em := em, eo := eo, ef := ef,
    sat := b2n s0 + 2 * b2n s1 + 4 * b2n s2 + 8 * b2n s3 + 16 * b2n (u0 != u1) + 32 * b2n (u1 != mu) }

/-- CMP of a mantissa (R171). -/
def cmpOf (mu : Int) : Nat := (divRne (mu * 625) 1024).toNat

/-- The compare value that a vector gives to phase `q`. -/
def CtlStruct.cmp (t : CtlStruct) (mu : List Int) (q : Nat) : Nat := cmpOf (nth 0 mu (nth 0 t.pmap q))

/-! ## Measurements (R165) -/

/-- A value in 2^−24 units rounded to the nearest unit, ties to even. -/
def rne24 (x : Int) : Int := divRne x 16777216

/-- The current of phase `q` in 2^−24 mA: the code over 1.25 V full scale, times CTL_PHSCALE. -/
def State.phase (s : State) (x : SampleIn) (q : Nat) : Int := nth 0 x.iph q * (s.get F.CTL_PHSCALE_SCALE * 2000 : Nat)

/-- The sum of the four phase currents. -/
def State.phaseSum (s : State) (x : SampleIn) : Int := sumI ((List.range 4).map (s.phase x))

/-- The raw value of a measurement source (Table 7.2), from the sample latched now. -/
def State.source (s : State) (x : SampleIn) (c : Nat) : Int :=
  let h := s.cvi.hist.head?
  let f := fun (g : Samp → Int) => rne24 ((h.map g).getD 0)
  match c with
  | 1 => f (·.i)
  | 2 => f (·.vs)
  | 3 => f (·.vb)
  | 4 | 5 | 6 | 7 => rne24 (s.phase x (c - 4))
  | 8 => rne24 (s.phaseSum x)
  | _ => 0

/-! ## Set-point path (R173 to R175, R193) -/

/-- The frequency of the pulse input lies outside 1 … 100 kHz; `n` whole periods last `w` × 2 ns. (DEDUCED: log entry 45) -/
def pulseOut (n w : Nat) : Bool := decide (n * 1000000 < 2 * w) || decide (2 * w * 100000 < n * sec)

/-- What the set-point inputs show at a sample: the last 40 analogue codes, range timers, and the pulse frequency (Table 7.4). -/
def State.spInputs (s : State) (x : SampleIn) : State :=
  let c := s.ctl
  let past := decide (33600 < x.sp.natAbs)
  let w := x.periods.foldl (· + ·) 0
  let n := x.periods.length
  let has := decide (0 < w)
  let bad := if has then pulseOut n w else c.pulseBad
  let at_ := if x.edge then some s.now else c.pulseAt
  let good := !bad && at_.any (fun a => decide (s.now < a + 2 * msec))
  let ir := s.irated
  let num := ((n * sec : Nat) - (s.get F.CTL_PULSE_FCTR * 20 * w : Nat) : Int) * ir
  let pt := if has then clip (-ir) ir (divRne num (20 * w * max 1 (s.get F.CTL_PULSE_FSPAN))) else c.pulseT
  { s with ctl := { c with
      spHist := (clipS 16 x.sp :: c.spHist).take 40,
      anaAt := if past then some (c.anaAt.getD s.now) else none,
      anaOkAt := if past then none else some (c.anaOkAt.getD s.now),
      pulseAt := at_, pulseOkAt := if good then some (c.pulseOkAt.getD s.now) else none, pulseBad := bad, pulseT := pt } }

/-- A value of NET or LOCAL as current: with PMODE from power and the string voltage (R175). -/
def State.asCurrent (s : State) (v vstr : Int) : Int :=
  if !s.flag F.CTL_SPCFG_PMODE then v else if vstr < 100000 then 0 else divRne (v * 1000000) vstr.toNat

/-- The target of the selected source (Table 7.4); 0 under its fault. -/
def State.srcTarget (s : State) (vstr : Int) : Int :=
  match s.get F.CTL_SPCFG_SRC with
  | 0 => if s.flag F.CTL_SPSTAT_NETTMO then 0 else s.asCurrent ((s.ctl.net.map (·.1)).getD 0) vstr
  | 1 => if s.flag F.CTL_SPSTAT_ANAOVR then 0
         else divRne (sumI s.ctl.spHist * s.get F.CTL_SPCFG_IRATED) (32 * max 1 s.ctl.spHist.length)
  | 2 => if s.flag F.CTL_SPSTAT_PULSEOVR then 0 else s.ctl.pulseT
  | _ => s.asCurrent (s.getI F.CTL_SPLOCAL) vstr

/-- Phase 1 of a learning job holds the highest V_g once it has come within EOCBAND of the end of charge, and until the job
charges at its full current again (Table 6.3): the highest V_g and the voltage it is held at. -/
def State.lrnHold (s : State) : Option (Nat × Nat) :=
  match s.lrn.job, s.table? 1 with
  | some _, some h =>
    let v := (s.groups.map s.cellV).foldl max 0
    let veoc := uAt h 20 4
    let band := s.get F.EST_ANCH_EOCBAND
    if s.get F.EST_LRN_STAT_PHASE = 1 ∧ (veoc ≤ v + 100 * band ∨ s.lrn.setp ≠ -(s.lrnCharge)) then some (v, veoc - 50 * band) else none
  | _, _ => none

/-- The learning set-point of this sample: while phase 1 holds, the charge current falls where the highest V_g is above the voltage
held, rises to CHGRATE × C at most where it is below, and stays where it is equal; by how much is open. (DEDUCED: log entry 43) -/
def State.lrnStep (s : State) : State :=
  match s.lrnHold with
  | none => s
  | some (v, hold) =>
    let x := ofCode 32 (s.open_ 32).toNat
    let setp := if hold < v then clip s.lrn.setp 0 x else if v < hold then clip (-s.lrnCharge) s.lrn.setp x else s.lrn.setp
    { s.drew with lrn := { s.lrn with setp := setp } }

/-- The target of this sample, with the state after a draw where the learning taper is open. (DEDUCED: log entry 45) -/
def State.target (s : State) (vstr : Int) : State × Int :=
  if s.flag F.SAF_STAT_RAMP then (s, 0)
  else if s.lrn.job.isSome then (s.lrnStep, s.lrnStep.lrn.setp)
  else (s, s.srcTarget vstr)

/-- One direction of the limit of a sample with the entry that binds (R189, R193). -/
def limitOf (rated : Int) (es : List Int) (blocked : Bool) : Int × Nat :=
  if blocked then (0, 0xF)
  else
    let m := minI rated es
    match es.findIdx? (· == m) with
    | some i => (m, i)
    | none => (m, 0xE)

/-- The limits of this sample (R193), written to PRT_LDIS, PRT_LCHG and the binding entries. -/
def State.limits (s : State) : State × Int × Int :=
  let es := fun (f : Fld) => (List.range 10).map (fun i => s.getI (f.ix8 i))
  let d := limitOf s.irated (es F.PRT_ENT_DIS) (s.flag F.PRT_LIMIT_BLK_DIS)
  let c := limitOf s.irated (es F.PRT_ENT_CHG) (s.flag F.PRT_LIMIT_BLK_CHG)
  ((((s.setI F.PRT_LDIS d.1).setI F.PRT_LCHG c.1).set F.PRT_LIMIT_BIND_DIS d.2).set F.PRT_LIMIT_BIND_CHG c.2, d.1, c.1)

/-- Entry 8 (Table 8.3): the cap of the last allocation, not limiting while SRC is not NET, in a learning job or standalone. -/
def State.entry8 (s : State) : State :=
  if s.get F.CTL_SPCFG_SRC != 0 || s.lrn.job.isSome || s.get F.BAY_POS_ROLE == 3 then s.entry 8 noLimit noLimit
  else s.entry 8 s.bay.cap.1 s.bay.cap.2

/-- r_0 of this sample (R174); the ramp of a category 1 stop has its own step (R221). -/
def State.setPoint (s : State) (vstr : Int) : State :=
  let (s1, ldis, lchg) := (s.entry8.entry 6 (s.irated * s.driven.length / 4) (s.irated * s.driven.length / 4)).limits
  let (s2, target) := s1.target vstr
  let step : Int := if s2.flag F.SAF_STAT_RAMP then s2.saf.step else (s2.get F.CTL_SLEW_SLEW * 5 : Nat)
  let i1 := s2.ctl.islew + clip (-step) step (target - s2.ctl.islew)
  let want := i1 + s2.excitation
  let r0 := clip (-lchg) ldis want
  let s3 := { s2 with ctl := { s2.ctl with islew := clip (-lchg) ldis i1 },
                      imp := { s2.imp with clipped := s2.imp.clipped || (s2.imp.on && r0 != want) } }
  (s3.setI F.CTL_SPNOW r0).setB F.CTL_SPSTAT_CLAMPED (r0 != want)

/-! ## Voting (R239 to R241) -/

/-- Two posted vectors agree; an empty one agrees with none. -/
def agree (tol : Nat) (a b : List Int) : Bool :=
  !a.isEmpty && a.length == b.length && (a.zip b).all (fun x => decide ((x.1 - x.2).natAbs ≤ tol))

/-- A set of mutually agreeing vectors. -/
def allAgree (tol : Nat) : List (List Int) → Bool
  | [] => true
  | a :: t => agree tol a a && t.all (agree tol a) && allAgree tol t

/-- Sublists in order, longer heads first. (DEDUCED: log entry 46) -/
def subs {α : Type} : List α → List (List α)
  | [] => [[]]
  | a :: t => (subs t).map (a :: ·) ++ subs t

/-- The selected vector of posted ones in token order: the majority's, of the largest agreeing set; else the one candidate that is in
band on every driven phase; none where the sample is undecided. (DEDUCED: log entry 46) -/
def selectVec (tol : Nat) (inBand : List Int → Bool) (posts : List (List Int)) : Option (List Int) :=
  let a := posts.length
  let sets := (subs posts).filter (fun l => !l.isEmpty && allAgree tol l)
  let maj := sets.filter (fun l => decide (a < 2 * l.length))
  let size := (maj.map List.length).foldl max 0
  match maj.find? (fun l => l.length = size) with
  | some l => l.head?
  | none =>
    let cands := if a = 4 then sets.filter (fun l => l.length = 2) else sets.filter (fun l => l.length = 1)
    match (cands.filterMap List.head?).filter inBand with
    | [v] => some v
    | _ => none

/-! ## Envelope (R182, R183) -/

/-- The band from the voltages of the last broadcast, in 2^−30. (DEDUCED: log entry 45) -/
def State.bandNow (s : State) : Int × Int :=
  let lo : Int := (s.get F.CTL_DLIM_DMIN * 16384 : Nat)
  let hi : Int := (s.get F.CTL_DLIM_DMAX * 16384 : Nat)
  match s.ctl.env with
  | none => (lo, hi)
  | some (k1, k0, band, _) =>
    if s.ctl.vstr < 100000 then (lo, hi)
    else
      let d := divRne (k1 * s.ctl.vbus * 65536) s.ctl.vstr.toNat + k0 * 65536
      let b : Int := (band * 4194304 : Nat)
      (max lo (d - b), min hi (d + b))

/-- A compare value lies in the band. -/
def State.inBand (s : State) (c : Nat) : Bool :=
  decide (s.ctl.band.1 * 80000 ≤ (c * 1073741824 : Nat)) && decide (((c * 1073741824 : Nat) : Int) ≤ s.ctl.band.2 * 80000)

/-! ## Start, swap and warm-up (R176, R177, R179) -/

/-- Nanoseconds to the first control sample instant at least `d` ns ahead. -/
def State.toSample (s : State) (d : Nat) : Nat := s.nearGrid (s.quartzNs + d + 2499) 5000 - s.quartzNs

/-- The active gain bank. -/
def State.bank (s : State) : Option Gain := if s.get F.CTL_BANKSEL_ACTIVE = 0 then s.ctl.bank0 else s.ctl.bank1

/-- A start of the loop is refused (R176, R249): the reason. -/
def State.startRefused (s : State) : Option Nat :=
  if s.bank.isNone || s.ctl.struct.isNone || s.tripped || s.safSt != 1 || s.get F.PRT_CONTSTAT_CONN != 4 || !s.inRun then some 0
  else if s.actives.length < 2 then some 10
  else none

/-- The loop starts (Table 7.5). -/
def State.loopStart (s : State) : State :=
  match s.ctl.struct with
  | none => s
  | some t =>
    ({ s with
      ctl := { s.ctl with
        x := List.replicate t.n 0, xe := t.lim 4, u := t.uoff, duty := t.uoff, islew := 0, warm := 0, convEn := true, stopReq := false,
        startNo := s.gridNo (s.quartzNs + 12499) 5000, oob := [0, 0, 0, 0] },
      lan := { s.lan with undec := 0, silent := [0, 0, 0, 0, 0] } }.set F.CTL_STAT_STATE 1).set F.CTL_CTRL_RUN 1

/-- Warm-up is over: the selected vector of this sample is driven, from the instant its compare values take effect (R162); gander copies the
envelope (R176, R182). -/
def State.warmEnd (s : State) : State :=
  let s1 := { s with ctl := { s.ctl with gatesLow := false, freeAt := s.now + 800, oob := [0, 0, 0, 0],
                                         env := some (s.getI F.CTL_ENV0_K1, s.getI F.CTL_ENV0_K0, s.get F.CTL_ENV1_BAND, s.get F.CTL_ENV1_PERSIST) } }.set F.CTL_STAT_STATE 2
  { s1 with ctl := { s1.ctl with band := s1.bandNow } }

/-- Warm-up has had its WARM samples. -/
def State.warmDue (s : State) : Bool :=
  s.get F.CTL_STAT_STATE == 1 && decide (s.get F.CTL_CTRL_WARM ≤ s.ctl.warm)
    && decide (s.ctl.startNo ≤ s.gridCount 5000)

/-- A pending swap is due; a switch-over defers it (R179, R181). -/
def State.swapDue (s : State) : Bool := s.ctl.swapAt.any (fun a => decide (a ≤ s.now)) && s.lan.sw.isNone

/-- The gain bank selector switches (R179); the COEF_LOAD is answered. -/
def State.gainSwap (s : State) : State :=
  let s1 := { s with ctl := { s.ctl with swapAt := none } }
  let s2 := ((((s1.set F.CTL_BANKSEL_ACTIVE (1 - s.get F.CTL_BANKSEL_ACTIVE)).set F.CTL_BANKSEL_ACTVALID (s.get F.CTL_BANKSEL_SHVALID)).set
    F.CTL_BANKSEL_SHVALID (s.get F.CTL_BANKSEL_ACTVALID)).setB F.CTL_BANKSEL_SWAPPEND false).count F.CTL_BANKSEL_SWAPS F.CTL_BANKSEL_SAT
  let (w, rest) := s2.host.waiting.partition (fun x => x.why == WaitFor.swap)
  (w.foldl (fun (a : State) x => a.answer x.id stOk 0 []) { s2 with host := { s2.host with waiting := rest } }).impAbandon

end Sys2Proof.Machine
end

