-- ==== Sys2Proof/Machine/BayOps.lean ====
section
/-! DEFINITION. Shared operations of the bay: bay frames and their forwarding, the report, the allocation in binary64, rest windows,
and what a module does with its entry (R256 to R270). -/

namespace Sys2Proof.Machine

/-! ## The line (R256 to R259) -/

/-- The strapped role: 0 member, 1 bellwether, 2 alternate, 3 standalone. -/
def State.role (s : State) : Nat := s.get F.BAY_POS_ROLE

/-- The line ports of a role (Table 12.1). -/
def linePorts (role : Nat) : List Nat :=
  match role with
  | 0 => [1, 2]
  | 1 => [2]
  | 2 => [1]
  | _ => []

/-- The module is bellwether or alternate. (DEDUCED: log entry 54) -/
def State.bayEnd (s : State) : Bool := s.role == 1 || s.role == 2

/-- A bay frame (R259). -/
def bayFrame (kind srcpos cycle : Nat) (body : List Byte) : List Byte :=
  let b := leBytes 2 0x4C42 ++ leBytes 1 kind ++ leBytes 1 srcpos ++ leBytes 2 cycle ++ leBytes 2 body.length ++ body
  b ++ leBytes 4 (crc32c b)

/-- A received bay frame that passes its CRC: KIND, SRCPOS, CYCLE and the body (R259). -/
def bayParse (raw : List Byte) : Option (Nat × Nat × Nat × List Byte) :=
  let n := raw.length
  if n < 12 || uAt raw 0 2 != 0x4C42 || uAt raw 6 2 + 12 != n || uAt raw (n - 4) 4 != crc32c (raw.take (n - 4)) then none
  else some (uAt raw 2 1, uAt raw 3 1, uAt raw 4 2, slice raw 8 (n - 12))

/-- A bay frame in an Ethernet frame out of a port (R259): to the broadcast address, VLAN priority 6, EtherType 0x88B5. -/
def bayMsg (port : Nat) (bytes : List Byte) : OutMsg := .bayEth port 0xFFFFFFFFFFFF 6 0x88B5 bytes

/-- A bay frame leaves those of a list of line ports that run (R24). -/
def State.bayOut (s : State) (ports : List Nat) (bytes : List Byte) : State :=
  (ports.filter s.ethOn).foldl (fun a p => a.emit (bayMsg p bytes)) s

/-- A bay frame leaves every line port. -/
def State.baySend (s : State) (kind cycle : Nat) (body : List Byte) : State :=
  s.bayOut (linePorts s.role) (bayFrame kind s.position cycle body)

/-- The other line ports than the one a frame came in on. -/
def State.onward (s : State) (port : Nat) : List Nat := (linePorts s.role).filter (· ≠ port)

/-- A frame is taken from a line port that runs. -/
def State.onLine (s : State) (port : Nat) : Bool := s.ethOn port && (linePorts s.role).contains port

/-- A packet goes toward a position on the line, through Q40 or Q41 (R258); a full queue discards it, and so does a parked member, which
divides its line (R315). -/
def State.lineForward (s : State) (target : Nat) (raw : List Byte) : State :=
  let q := if target < s.get F.BAY_POS_POS then 0 else 1
  let l := nth [] s.bay.relay q
  if !s.inService || !(linePorts s.role).contains (s.relayPort q) then s
  else if 16 ≤ l.length then s.qLost (40 + q)
  else { s with bay := { s.bay with relay := modNth s.bay.relay q (fun _ => l ++ [raw]) } }

/-- ALTPOS follows the position and the map (R257). -/
def State.altPos (s : State) : State :=
  s.setB F.BAY_STAT_ALTPOS (s.role == 2 && s.flag F.BAY_POS_VALID && s.get F.BAY_POS_POS + 1 != s.get F.BAY_STAT_NMAP)

/-- The bay map in force is replaced. -/
def State.mapPut (s : State) (m : List Nat) : State :=
  ({ s with bay := { s.bay with map := m } }.set F.BAY_STAT_NMAP m.length).altPos

/-- A module takes a discovery frame (R257): the first gives its position; a new one is taken when two in a row agree. (DEDUCED: log entry 54) -/
def State.discovered (s : State) (port hop : Nat) : State :=
  let p := hop + 1
  let s1 := { s with bay := { s.bay with hop := some p } }.set F.BAY_POS_UPPORT (port - 1)
  if !s.flag F.BAY_POS_VALID then ((s1.set F.BAY_POS_POS p).setB F.BAY_POS_VALID true).altPos
  else if p ≠ s.get F.BAY_POS_POS ∧ s.bay.hop = some p then ((s1.set F.BAY_POS_POS p).raise 80 []).altPos
  else s1

/-! ## Cycles and reports (R260, R261) -/

/-- The index of the cycle: quartz in 10 ms. -/
def State.cycleIdx (s : State) : Nat := s.quartzNs / (10 * msec)

/-- Whether `ms` of the present cycle have passed. -/
def State.inCycle (s : State) (ms : Nat) : Bool :=
  match s.bay.cycle with
  | none => false
  | some i => decide (i * 10 * msec + ms * msec ≤ s.quartzNs)

/-- L_DIS and L_CHG without entry 8; 0 while a learning job runs. -/
def State.reportLimits (s : State) : Int × Int :=
  if s.lrn.job.isSome then (0, 0)
  else
    let es := fun (f : Fld) => ((List.range 10).filter (· ≠ 8)).map (fun i => s.getI (f.ix8 i))
    ((limitOf s.irated (es F.PRT_ENT_DIS) (s.flag F.PRT_LIMIT_BLK_DIS)).1,
     (limitOf s.irated (es F.PRT_ENT_CHG) (s.flag F.PRT_LIMIT_BLK_CHG)).1)

/-- The string report body (Table 12.2). -/
def State.reportBody (s : State) : List Byte :=
  let l := s.reportLimits
  let flags := [s.flag F.EST_FLAGS_REST_WANTED, s.flag F.EST_FLAGS_RESTING, s.lrn.job.isSome, s.get F.PRT_CONTSTAT_CONN == 4,
                s.get F.CTL_STAT_STATE == 2, s.get F.CTL_SPCFG_SRC == 0, s.flag F.CTL_SPCFG_PMODE]
  let tmax := s.getI F.THM_CEXT_TMAX
  let tmin := s.getI F.THM_CEXT_TMIN
  let hr := fun (h c : Fld) => leBytesI 2 (clipS 16 (min (s.degC h - tmax) (tmin - s.degC c)))
  leBytes 2 ((flags.zipIdx).foldl (fun a (b, i) => if b then a + 2 ^ i else a) 0) ++ leBytes 1 (s.get F.THM_DIECFG_ENCL) ++ [0]
    ++ leBytesI 4 l.1 ++ leBytesI 4 l.2 ++ leBytes 4 (s.word 0x5001C).toNat ++ leBytes 4 (s.word 0x50010).toNat
    ++ leBytes 4 (s.get F.EST_STR_EDIS) ++ leBytes 4 (s.get F.EST_STR_ECHG) ++ leBytes 2 (s.get F.EST_STR_SOC_USOC)
    ++ hr F.THM_HOT_DSTART F.THM_COLD_DSTART ++ hr F.THM_HOT_CSTART F.THM_COLD_CSTART
    ++ leBytes 2 (s.get F.THM_DIE_TEMP) ++ leBytes 2 s.bay.acycle ++ [0, 0]

/-- A report is kept for this cycle at an end of the line. -/
def State.keepReport (s : State) (pos : Nat) (r : Report) : State :=
  { s with bay := { s.bay with reports := assocPut pos r s.bay.reports } }

/-- The module starts to dispatch; after a takeover every open window counts as its own grant, the later at the higher position (R266). -/
def State.dispatchStart (s : State) (takeover : Bool) : State :=
  let open_ := (s.bay.reports.filter (fun x => takeover && (uAt x.2.body 0 2).testBit 1)).map (·.1)
  { ((s.setB F.BAY_POS_DISP true).setB F.BAY_POS_STANDBY false) with
    bay := { s.bay with takeNext := false, both := 0, acts := [], grants := open_.reverse } }

/-- The module stops dispatching and stands by; the 50 ms of R269 count anew. -/
def State.dispatchStop (s : State) : State :=
  { (((s.setB F.BAY_POS_DISP false).setB F.BAY_POS_STANDBY true).set F.BAY_STALE0 0).set F.BAY_STALE1 0 with
    bay := { s.bay with handover := false, both := 0, acts := [], grants := [], heardAt := some s.now } }

/-- A cycle begins (R261): CYCLE, the latched report values, and a role taken from this cycle on. -/
def State.cycleStart (s : State) : State :=
  let i := (s.quartzNs + 5 * msec) / (10 * msec)
  let s1 := s.set F.BAY_CYCLE_CYCLE (i % 65536)
  let s2 := { s1 with bay := { s1.bay with body := s1.reportBody, src := s1.position, cycle := some i, sent := false, computed := false, pold := none } }
  if s2.bay.takeNext then s2.dispatchStart true else s2

/-! ## Bay power (R262) -/

/-- P_bay as it stands, in BAY_PBAY. (DEDUCED: log entry 54) -/
def State.showPbay (s : State) : State := s.setI F.BAY_PBAY s.bay.pbay

/-- P_bay as the allocation of this cycle uses it: a value that came after t_a + 6 ms counts from the next cycle (R272). -/
def State.pbayCycle (s : State) : Int := s.bay.pold.getD s.bay.pbay

/-- A new value of P_bay; it ends a timeout. -/
def State.pbayTake (s : State) (v : Int) : State :=
  let late := s.inCycle 6 && !s.bay.computed
  ({ s with bay := { s.bay with pbay := v, pold := if late then some s.pbayCycle else none, pbayAt := some s.now } }.showPbay).setB F.BAY_STAT_PTMO false

/-- A PCS frame (R262): bytes 0 … 3 and ALIVE in byte 4, which must have changed. -/
def State.pcsFrame (s : State) (data : List Byte) : State :=
  if data.length < 5 || !s.bayEnd || s.get F.BAY_CTRL_PSRC != 1 then s
  else
    let alive := uAt data 4 1
    if s.bay.pcs = some alive then s else { s with bay := { s.bay with pcs := some alive } }.pbayTake (iAt data 0 4)

/-! ## The allocation (R263 to R266), in binary64 -/

/-- The class of a position (R263). -/
inductive PosClass where
  | stale | resting | nonFollowing | eligible | idle
  deriving DecidableEq, Repr

/-- A position as the dispatcher sees it. -/
structure Seat where
  pos : Nat
  cls : PosClass
  body : List Byte
  deriving DecidableEq, Repr

/-- Flag `i` of a report. -/
def repFlag (b : List Byte) (i : Nat) : Bool := (uAt b 0 2).testBit i

/-- A position is stale: not heard in this cycle nor in the one before, or not the module the map names (R263). -/
def State.seatStale (s : State) (p : Nat) : Bool :=
  match assoc? p s.bay.reports with
  | none => true
  | some r => decide (r.idx + 1 < s.bay.cycle.getD 0) || s.bay.map[p]? != some r.serial

/-- The seat of a position; `granted` holds the position that is granted a window in this cycle. -/
def State.seat (s : State) (granted : Option Nat) (p : Nat) : Seat :=
  let b := ((assoc? p s.bay.reports).map (fun r => r.body)).getD []
  let c : PosClass :=
    if s.seatStale p then .stale
    else if repFlag b 1 || granted == some p then .resting
    else if !repFlag b 5 || repFlag b 2 then .nonFollowing
    else if repFlag b 3 && repFlag b 4 && decide ((100000 : Int) ≤ iAt b 12 4) then .eligible
    else .idle
  { pos := p, cls := c, body := b }

/-- Sum in ascending order. -/
def sum64 (l : List Nat) : Nat := l.foldl FFmt.b64.add 0

/-- cap_k in W for a direction (R264). -/
def Seat.cap (x : Seat) (dis : Bool) : Nat :=
  FFmt.b64.ofRatio ((uAt x.body (if dis then 4 else 8) 4 : Int) * iAt x.body 12 4) 1000000

/-- USOC_k ÷ 10,000. -/
def Seat.u (x : Seat) : Nat := FFmt.b64.ofRatio (uAt x.body 28 2 : Int) 10000

/-- w_k (R264): `g` is ± EQG ÷ 10 and `m` the mean. -/
def Seat.weight (x : Seat) (dis : Bool) (g m hrfull : Nat) : Nat :=
  let b := FFmt.b64
  let one := b.ofInt 1 0
  let e := b.ofInt (uAt x.body (if dis then 20 else 24) 4) 0
  let d := b.add one (b.mul g (b.sub x.u m))
  let h := b.div (b.ofRatio (iAt x.body (if dis then 30 else 32) 2) 100) hrfull
  let hc := if b.lt h 0 then 0 else if b.lt one h then one else h
  b.mul (b.mul e (if b.lt d 0 then 0 else d)) hc

/-- A share under calculation: position, w_k, cap_k. -/
structure Share where
  pos : Nat
  w : Nat
  cap : Nat
  deriving DecidableEq, Repr

/-- The loop of R264: the strings still free and what remains to be shared; gives P_k by position and what remains. -/
def divide : Nat → List Share → Nat → List (Nat × Nat) → List (Nat × Nat) × Nat
  | 0, _, rem, acc => (acc, rem)
  | n + 1, free, rem, acc =>
    if free.isEmpty || rem == 0 then (acc, rem)
    else
      let b := FFmt.b64
      let lam := b.div rem (sum64 (free.map (·.w)))
      let sat := free.filter (fun k => b.le k.cap (b.mul lam k.w))
      if sat.isEmpty then (acc ++ free.map (fun k => (k.pos, b.mul lam k.w)), 0)
      else divide n (free.filter (fun k => !b.le k.cap (b.mul lam k.w))) (sat.foldl (fun r k => b.sub r k.cap) rem)
        (acc ++ sat.map (fun k => (k.pos, k.cap)))

/-- The powers P_k in W of the eligible strings, and whether the bay falls short (R264). -/
def State.shares (s : State) (seats : List Seat) (pnet : Nat) : List (Nat × Int) × Bool :=
  let b := FFmt.b64
  let dis := !b.lt pnet 0
  let el := seats.filter (fun x => x.cls == .eligible)
  let g0 := b.ofRatio (s.get F.BAY_CFG_EQG : Int) 10
  let g := if dis then g0 else b.neg g0
  let m := if el.isEmpty then 0 else b.div (sum64 (el.map Seat.u)) (b.ofInt el.length 0)
  let hrfull := b.ofInt (s.get F.BAY_CFG_HRFULL) 0
  let all := el.map (fun x => Share.mk x.pos (x.weight dis g m hrfull) (x.cap dis))
  let (ps, rem) := divide 65 (all.filter (fun k => b.lt 0 k.w && b.lt 0 k.cap)) (b.abs pnet) []
  (el.map (fun x =>
    let w := b.toInt ((assoc? x.pos ps).getD 0) 1
    (x.pos, if dis then w else -w)), b.lt (b.ofInt 1 0) rem)

/-- The second branch of R266: a window for the lowest eligible string that wants one. -/
def State.grantMore (s : State) (b : FFmt) (dis : Bool) (el : List Seat) (resting grants : List Nat) (next : List RestAct)
    (busy : List Nat) (pnet : Nat) : State × Option Nat :=
  let keep := fun (g : List Nat) (l : List RestAct) => { s with bay := { s.bay with grants := g, acts := l } }
  let c := el.find? (fun x => repFlag x.body 0 && !busy.contains x.pos)
  match c with
  | some x =>
    let cs := sum64 ((el.filter (fun y => y.pos != x.pos)).map (·.cap dis))
    let need := b.mul (b.abs pnet) (b.add (b.ofInt 1 0) (b.ofRatio (s.get F.BAY_REST_RESTMARG : Int) 100))
    if resting.length < s.get F.BAY_REST_MAXREST ∧ b.le need cs then
      (keep (x.pos :: grants) (RestAct.mk x.pos (s.get F.BAY_REST_RESTLEN) 5 :: next), some x.pos)
    else (keep grants next, none)
  | none => (keep grants next, none)

/-- Rest actions of a cycle (R266): the state with its grants and repetitions, and the position granted now. -/
def State.restAction (s : State) (pnet : Nat) : State × Option Nat :=
  let b := FFmt.b64
  let dis := !b.lt pnet 0
  let seats := (List.range s.bay.map.length).map (s.seat none)
  let el := seats.filter (fun x => x.cls == .eligible)
  let resting := (seats.filter (fun x => x.cls == .resting)).map (·.pos)
  let cs := fun (x : Option Nat) => sum64 ((el.filter (fun y => some y.pos != x)).map (·.cap dis))
  let acts := s.bay.acts.filter (fun a => decide (0 < a.left) && (resting.contains a.pos != (a.rest != 0)))
  let busy := acts.map (·.pos)
  let grants := s.bay.grants.filter (fun p => resting.contains p || busy.contains p)
  let next := acts.map (fun a => { a with left := a.left - 1 })
  let keep := fun (g : List Nat) (l : List RestAct) => { s with bay := { s.bay with grants := g, acts := l } }
  match grants with
  | p :: rest =>
    if b.lt (cs none) (b.abs pnet) then
      (keep rest (RestAct.mk p 0 5 :: next.filter (fun a => a.pos ≠ p)), none)
    else s.grantMore b dis el resting grants next busy pnet
  | [] => s.grantMore b dis el resting grants next busy pnet

/-- One entry of the allocation (Table 12.5): its 16 bytes. -/
def seatEntry (x : Seat) (p : Int) (rest : Nat) : List Byte :=
  let capf := fun (o : Nat) => leBytes 2 (min 0xFFFE (uAt x.body o 4 / 100))
  let tail := leBytes 2 rest ++ slice (x.body ++ List.replicate 40 0) 34 2 ++ slice (x.body ++ List.replicate 40 0) 2 1
  let watts := repFlag x.body 6
  match x.cls with
  | .eligible =>
    let target := if watts then p else FFmt.b64.toInt (FFmt.b64.ofRatio (p * 1000000) (iAt x.body 12 4).toNat) 1
    leBytesI 4 target ++ capf 4 ++ capf 8 ++ tail ++ leBytes 1 (1 + (if watts then 8 else 0)) ++ [0, 0]
  | .idle | .nonFollowing => leBytes 4 0 ++ capf 4 ++ capf 8 ++ tail ++ [0, 0, 0]
  | .resting => leBytes 4 0 ++ leBytes 4 0 ++ tail ++ [4, 0, 0]
  | .stale => leBytes 4 0 ++ leBytes 4 0 ++ tail ++ [2, 0, 0]

/-- An allocation is held for the apply instant (Table 12.4); of two for one cycle the one without ALTERNATE stands (Table 12.6).
A module whose quartz is not locked applies it 3 ms after receipt. -/
def State.hold (s : State) (cycle : Nat) (body : List Byte) : State :=
  let alt := (uAt body 13 1).testBit 2
  let q := s.quartzNs
  let due := if s.get F.TIM_STAT_STATE = 2 then (q / (10 * msec) + 1) * (10 * msec) else q + 3 * msec
  let ta := match s.bay.cycle with
    | some i => s.now - (q - i * (10 * msec))
    | none => s.now
  let h : Held := { cycle := cycle, alt := alt, body := body, due := due, ta := ta }
  let stands := match s.bay.held with
    | some o => o.cycle == cycle && alt && !o.alt
    | none => false
  if stands then s else { s with bay := { s.bay with held := some h } }

/-- The power in use (R270) and P_net (R263), in binary64. -/
def State.bayPower (s : State) (heard : Nat) (seats : List Seat) : Nat × Nat :=
  let b := FFmt.b64
  let n := s.bay.map.length
  let p0 := b.ofInt s.pbayCycle 0
  let p := if heard < n then b.mul p0 (b.ofRatio (heard : Int) n) else p0
  let off := sum64 ((seats.filter (fun x => x.cls == .nonFollowing)).map (fun x =>
    b.ofRatio (iAt x.body 12 4 * iAt x.body 16 4) 1000000))
  (p, b.sub p off)

/-- The dispatcher computes and sends the allocation of the cycle (R263 to R266, R270). -/
def State.allocate (s : State) : State :=
  let b := FFmt.b64
  let n := s.bay.map.length
  let idx := s.bay.cycle.getD 0
  let ps := List.range n
  let now_ := s.bay.reports.filter (fun x => x.2.idx == idx)
  let heard := (now_.filter (fun x => decide (x.1 < n))).length
  let maperr := now_.any (fun x => s.bay.map[x.1]? != some x.2.serial)
  let (pb, pnet) := s.bayPower heard (ps.map (s.seat none))
  let (s1, granted) := s.restAction pnet
  let seats := ps.map (s1.seat granted)
  let (powers, short) := s1.shares seats pnet
  let split := decide (heard < n)
  let rest := fun (p : Nat) => ((s1.bay.acts.find? (fun a => a.pos == p)).map (·.rest)).getD 0xFFFF
  let entries := seats.flatMap (fun x => seatEntry x ((assoc? x.pos powers).getD 0) (rest x.pos))
  let palloc := sumI (powers.map (·.2))
  let aflags := b2n short + 2 * b2n split + 4 * b2n (s1.role == 2) + 8 * b2n s1.bay.handover
  let body := leBytesI 4 (clipS 32 (b.toInt pb 1)) ++ leBytesI 4 (clipS 32 (b.toInt pnet 1)) ++ leBytesI 4 (clipS 32 palloc)
    ++ leBytes 1 n ++ leBytes 1 aflags ++ leBytes 1 (s1.get F.BAY_CFG_BAYID) ++ [0] ++ entries
  -- a position beyond the map that reports is treated as stale (R263)
  let stale := (seats.filter (fun x => x.cls == .stale)).map (·.pos) ++ (now_.filter (fun x => decide (n ≤ x.1))).map (·.1)
  let word := fun (lo : Nat) => (List.range 32).foldl (fun a i => if stale.contains (lo + i) then a + 2 ^ i else a) 0
  let s2 := ((((s1.setI F.BAY_PBAY (b.toInt pb 1)).setI F.BAY_PNET (b.toInt pnet 1)).setI F.BAY_PALLOC palloc).set F.BAY_STALE0
    (word 0)).set F.BAY_STALE1 (word 32)
  let s3 := ((s2.set F.BAY_STAT_NHEARD heard).setU F.BAY_STAT_NREST (seats.filter (fun x => x.cls == .resting)).length).setB
    F.BAY_STAT_MAPERR maperr
  let s4 := if short then (s3.setRaise F.BAY_STAT_SHORT 81 []).setB F.BAY_STAT_SHORT_SEEN true else s3.setB F.BAY_STAT_SHORT false
  let s5 := if split then s4.setRaise F.BAY_STAT_SPLIT 83 [] else s4.setB F.BAY_STAT_SPLIT false
  let s6 := if stale.isEmpty then s5 else s5.setB F.BAY_STAT_STALE_SEEN true
  let s7 := (s6.baySend 2 (idx % 65536) body).hold (idx % 65536) body
  let s8 := { s7 with bay := { s7.bay with computed := true, pold := none } }
  if s8.bay.handover then s8.dispatchStop else s8

/-! ## At each module (R267, R268) -/

/-- REST of the own entry, as a REST_GRANT of that length: while a learning job runs it is stored until the job ends (R267, Table 6.4). -/
def State.restEntry (s : State) (r : Nat) : State :=
  if r = 0xFFFF || s.flag F.EST_FLAGS_RESTING != decide (r = 0) then s
  else if s.lrn.job.isSome then s.keepLater 0x0406 (leBytes 2 r)
  else s.restGrant r

/-- Neighbour temperatures of the entries that share the own ENCL. -/
def State.neighbours (s : State) (h : Held) : State :=
  let n := uAt h.body 12 1
  let own := s.get F.THM_DIECFG_ENCL
  let others := (List.range n).filter (fun k => k != s.position && uAt h.body (16 + 16 * k + 12) 1 == own)
  let vals := others.map (fun k => (k, (iAt h.body (16 + 16 * k + 10) 2, h.ta)))
  let s0 := if s.neighOwn then s else { s with thm := { s.thm with neighEncl := own, neigh := [], neighNew := false, neighAt := none } }
  let s1 := { s0 with thm := { s0.thm with alone := vals.isEmpty && s0.thm.neighAt.isNone } }
  if vals.isEmpty then (if s1.thm.alone then s1.setB F.THM_STAT_NONEIGH false else s1)
  else
    ({ s1 with thm := { s1.thm with neigh := vals.foldl (fun l (x : Nat × (Int × Nat)) => assocPut x.1 x.2 l) [],
                                    neighNew := true, neighAt := some s.now } }.setB F.THM_STAT_NONEIGH false).throttle

/-- The own entry takes effect. -/
def State.applyEntry (s : State) (h : Held) : State :=
  let s0 := { s with bay := { s.bay with held := none } }
  let p := s.position
  if uAt h.body 12 1 ≤ p || h.body.length < 16 + 16 * uAt h.body 12 1 then s0
  else
    let e := slice h.body (16 + 16 * p) 16
    let target := iAt e 0 4
    let s1 := { s0 with bay := { s0.bay with applied := some s.now, appliedNo := some (s.gridNo h.due 5000), acycle := h.cycle,
                                             cap := ((uAt e 4 2 * 100 : Nat), (uAt e 6 2 * 100 : Nat)) } }
    (((s1.setI F.BAY_ALLOC target).netTake target).entry8.restEntry (uAt e 8 2)).neighbours h

/-- An allocation from the other end of the line is heard. -/
def State.hear (s : State) (body : List Byte) : State :=
  let alt := (uAt body 13 1).testBit 2
  let other := (s.role == 1 && alt) || (s.role == 2 && !alt)
  if !other then s
  else
    let i := s.cycleIdx
    let n := if s.bay.heardIdx = i then max 1 s.bay.both else if s.bay.heardIdx + 1 = i then s.bay.both + 1 else 1
    let s1 := { s with bay := { s.bay with heardAt := some s.now, heardIdx := i, both := if s.flag F.BAY_POS_DISP then n else 0 } }
    if s1.role = 2 then (if s1.flag F.BAY_POS_DISP && decide (3 ≤ s1.bay.both) then s1.dispatchStop else s1)
    else if (uAt body 13 1).testBit 3 && !s1.flag F.BAY_POS_DISP then { s1 with bay := { s1.bay with takeNext := true } }
    else s1

end Sys2Proof.Machine
end

