-- ==== Sys2Proof/Machine/Bay.lean ====
section
/-! DEFINITION. The commands of the bay: discovery, the dispatch cycle, reports, allocations, timeouts, and the bay opcodes
(R256 to R271). -/

namespace Sys2Proof.Machine

/-- DISCOVERY_SEND (R257): at start and every 1 s; the bellwether's own position is 0. -/
def State.discover (s : State) : State :=
  let s1 := { s with bay := { s.bay with discAt := some s.now } }
  let s2 := (s1.set F.BAY_POS_POS 0).setB F.BAY_POS_VALID true
  s2.baySend 3 (s2.get F.BAY_CYCLE_CYCLE) ([0] ++ leBytes 1 (s.get F.BAY_CFG_BAYID) ++ [0, 0])

def execDiscoverySend (t : Nat) (s : State) : Host.Outcome State Fault Refusal :=
  .next (s.commandIf t (fun s => s.inService && s.role == 1 && (match s.bay.discAt with
    | none => true
    | some a => decide (a + sec ≤ s.now))) State.discover)

/-- DISCOVERY_RECEIVE (R257): position and up port, and the frame goes on with its new HOP. -/
def State.discovery (s : State) (port : Nat) (raw : List Byte) : State :=
  match bayParse raw with
  | some (3, src, cyc, body) =>
    let hop := uAt body 0 1
    if body.length ≠ 4 ∨ 63 ≤ hop then s
    else (s.discovered port hop).bayOut (s.onward port) (bayFrame 3 src cyc (leBytes 1 (hop + 1) ++ body.drop 1))
  | _ => s

def execDiscoveryReceive (t port : Nat) (raw : List Byte) (s : State) : Host.Outcome State Fault Refusal :=
  .next (s.commandIf t (fun s => s.onLine port && s.role != 1) (fun s => s.discovery port raw))

/-- DISPATCH_CYCLE_START (R261), within half a control sample of a whole 10 ms of quartz. (DEDUCED: log entry 54) -/
def State.cycleDue (s : State) : Bool :=
  let i := (s.quartzNs + 5 * msec) / (10 * msec)
  s.inService && decide ((s.quartzNs : Int) - i * 10 * msec < 5000) && decide ((i : Int) * 10 * msec - s.quartzNs < 5000)
    && s.bay.cycle != some i

def execDispatchCycleStart (t : Nat) (s : State) : Host.Outcome State Fault Refusal :=
  .next (s.commandIf t State.cycleDue State.cycleStart)

/-- REPORT_SEND (R260): out of both line ports; an end of the line keeps its own report. -/
def State.report (s : State) : State :=
  let i := s.bay.cycle.getD 0
  let s1 := { s with bay := { s.bay with sent := true } }.bayOut (linePorts s.role) (bayFrame 1 s.bay.src (i % 65536) s.bay.body)
  if s1.bayEnd then s1.keepReport s.bay.src { idx := i, body := s.bay.body, serial := Config.serial.toNat } else s1

def execReportSend (t : Nat) (s : State) : Host.Outcome State Fault Refusal :=
  .next (s.commandIf t (fun s => s.inService && s.role != 3 && !s.bay.sent && s.inCycle 2) State.report)

/-- REPORT_RECEIVE (R260, R261): the frame goes on along the line; an end keeps a report of this cycle that is in time. (DEDUCED: log entry 54) -/
def State.reportIn (s : State) (port : Nat) (raw : List Byte) (serial : Nat) : State :=
  match bayParse raw with
  | some (1, src, cyc, body) =>
    let s1 := s.bayOut (s.onward port) raw
    match s.bay.cycle with
    | none => s1
    | some i =>
      if s.bayEnd && body.length == 40 && decide (src < 64) && cyc == i % 65536 && (!s.inCycle 6 || s.quartzNs == i * 10 * msec + 6 * msec)
      then s1.keepReport src { idx := i, body := body, serial := serial }
      else s1
  | _ => s

def execReportReceive (t port : Nat) (raw : List Byte) (serial : Nat) (s : State) : Host.Outcome State Fault Refusal :=
  .next (s.commandIf t (fun s => s.onLine port) (fun s => s.reportIn port raw serial))

/-- ALLOCATION_COMPUTE (R264) at the report deadline. -/
def execAllocationCompute (t : Nat) (s : State) : Host.Outcome State Fault Refusal :=
  .next (s.commandIf t (fun s => s.inService && s.flag F.BAY_POS_DISP && !s.bay.computed && s.inCycle 6) State.allocate)

/-- ALLOCATION_RECEIVE (R267, R269): the frame goes on, is heard by an end of the line, and is held. -/
def State.allocationIn (s : State) (port : Nat) (raw : List Byte) : State :=
  match bayParse raw with
  | some (2, _, cyc, body) =>
    let s1 := s.bayOut (s.onward port) raw
    if body.length < 16 then s1 else (s1.hear body).hold cyc body
  | _ => s

def execAllocationReceive (t port : Nat) (raw : List Byte) (s : State) : Host.Outcome State Fault Refusal :=
  .next (s.commandIf t (fun s => s.onLine port) (fun s => s.allocationIn port raw))

/-- ALLOCATION_APPLY (R267) at the apply instant. -/
def State.allocApply (s : State) : State :=
  match s.bay.held with
  | none => s
  | some h => if h.due ≤ s.quartzNs then s.applyEntry h else s

def execAllocationApply (t : Nat) (s : State) : Host.Outcome State Fault Refusal :=
  .next (s.commandIf t (fun s => s.inService) State.allocApply)

/-- ALLOCATION_TIMEOUT (R268). -/
def execAllocationTimeout (t : Nat) (s : State) : Host.Outcome State Fault Refusal :=
  .next (s.commandIf t (fun s => s.inService && s.role != 3
      && decide (s.bay.applied.getD s.bay.startAt + s.get F.BAY_CFG_ALLOCTMO * 10 * msec ≤ s.now))
    (fun s => { s with bay := { s.bay with cap := (0, 0) } }.entry8))

/-- PBAY_TIMEOUT (R262). -/
def execPbayTimeout (t : Nat) (s : State) : Host.Outcome State Fault Refusal :=
  .next (s.commandIf t (fun s => s.inService && s.bayEnd && s.get F.BAY_CTRL_PTMO != 0
      && decide (s.bay.pbayAt.getD s.bay.startAt + s.get F.BAY_CTRL_PTMO * 10 * msec ≤ s.now))
    (fun s => ({ s with bay := { s.bay with pbay := 0 } }.showPbay).setB F.BAY_STAT_PTMO true))

/-- BELLWETHER_START_TIMEOUT (R269). -/
def execBellwetherStartTimeout (t : Nat) (s : State) : Host.Outcome State Fault Refusal :=
  .next (s.commandIf t (fun s => s.inService && s.role == 1 && !s.flag F.BAY_POS_DISP && s.bay.heardAt.isNone
      && decide (s.bay.startAt + 50 * msec ≤ s.now)) (fun s => s.dispatchStart false))

/-- ALTERNATE_TAKEOVER (R269): it dispatches from the next cycle. -/
def execAlternateTakeover (t : Nat) (s : State) : Host.Outcome State Fault Refusal :=
  .next (s.commandIf t (fun s => s.inService && s.role == 2 && !s.flag F.BAY_POS_DISP && !s.bay.takeNext
      && decide (s.bay.heardAt.getD s.bay.startAt + 50 * msec ≤ s.now))
    (fun s => ({ s with bay := { s.bay with takeNext := true } }.setB F.BAY_STAT_TAKEOVER_SEEN true).raise 82 []))

/-- BAY_SETPOINT (R262). -/
def execBaySetpoint (t : Nat) (r : Req) (s : State) : Host.Outcome State Fault Refusal :=
  .next (s.hostCommand t 0x0A01 r (Fmt.fixed 4 []) (fun _ s =>
    if !s.bayEnd then (s, .no stNotBellwether 0)
    else if s.get F.BAY_CTRL_PSRC = 1 then (s, .refused 0x0009)
    else (s.pbayTake (iAt r.payload 0 4), .ok [])))

/-- The reply of BAY_MAP: the map in force. -/
def State.mapBytes (s : State) : List Byte :=
  [0] ++ leBytes 1 s.bay.map.length ++ [0, 0] ++ s.bay.map.flatMap (leBytes 4)

/-- BAY_MAP (Table 14.14). -/
def execBayMap (t : Nat) (r : Req) (s : State) : Host.Outcome State Fault Refusal :=
  .next (s.hostCommand t 0x0A02 r
    { len := fun p => p.isEmpty || (decide (4 ≤ p.length) && p.length == 4 + 4 * uAt p 1 1), pad := [2, 3], flagsAt := some (0, 1) }
    (fun _ s =>
      let p := r.payload
      let n := uAt p 1 1
      if !s.bayEnd then (s, .no stNotBellwether 0)
      else if p.isEmpty then (s, .ok s.mapBytes)
      else if 64 < n then (s, .err stBadParam 0 1)
      else if (uAt p 0 1).testBit 0 && s.get F.UPD_STATE_PHASE == 2 then (s, .no stBusy 0x000F)
      else
        let m := (List.range n).map (fun i => uAt p (4 + 4 * i) 4)
        let s1 := s.mapPut m
        let s2 := if (uAt p 0 1).testBit 0 then { s1 with cfg := { s1.cfg with bayMap := some m } } else s1
        (s2, .ok s2.mapBytes)))

/-- RELAY (R258): the inner packet leaves along the line and the reply follows the inner one. (DEDUCED: log entry 19) -/
def execRelay (t : Nat) (r : Req) (s : State) : Host.Outcome State Fault Refusal :=
  .next (s.hostCommand t 0x0A03 r { len := fun p => decide (24 ≤ p.length) && decide (p.length ≤ 1400) } (fun id s =>
    let dst := uAt r.payload 10 1
    if 63 < dst || s.role == 3 || !s.flag F.BAY_POS_VALID || dst == s.get F.BAY_POS_POS then (s, .err stBadParam 0 10)
    else
      ({ s with host := { s.host with waiting := s.host.waiting ++ [{ why := .relay, id := id, req := r, since := s.now : Waiting }] } }.lineForward
        dst r.payload, .later)))

/-- RELAY_TIMEOUT (R258): relays without a reply for 500 ms end. -/
def State.relayExpire (s : State) : State :=
  let (late, rest) := s.host.waiting.partition (fun w => w.why == .relay && decide (w.since + 500 * msec ≤ s.now))
  late.foldl (fun (a : State) w => a.giveRes w.id (.no stTimeout 0)) { s with host := { s.host with waiting := rest } }

def execRelayTimeout (t : Nat) (s : State) : Host.Outcome State Fault Refusal :=
  .next (s.command t State.relayExpire)

/-- A reply goes on by the port opposite the one it came in by: the way its request came (R258). (DEDUCED: log entry 19) -/
def State.lineBack (s : State) (via : Via) (raw : List Byte) : State :=
  let port := 3 - viaPort via
  let q := if port = s.upPort then 0 else 1
  let l := nth [] s.bay.relay q
  if s.role = 3 || !s.inService then s
  else if 16 ≤ l.length then s.qLost (40 + q)
  else { s with bay := { s.bay with relay := modNth s.bay.relay q (fun _ => l ++ [raw]) } }

/-- A reply from the line (R258): where a relay waits for it, its parts are joined and the outer reply follows the last; any other goes
on along the line. (DEDUCED: log entry 19) -/
def State.lineReply (s : State) (via : Via) (raw : List Byte) : State :=
  let same := fun (w : Waiting) => w.why == .relay && slice w.req.payload 4 1 == slice raw 4 1 && slice w.req.payload 6 4 == slice raw 6 4
    && uAt w.req.payload 10 1 == uAt raw 10 1
  match s.host.waiting.find? same with
  | none => s.lineBack via raw
  | some w =>
    let all := w.got ++ raw
    let others := fun (l : List Waiting) => l.filter (fun x => !(x == w))
    if (uAt raw 3 1).testBit 3 then
      { s with host := { s.host with waiting := others s.host.waiting ++ [{ w with got := all }] } }
    else
      { s with host := { s.host with waiting := others s.host.waiting } }.giveRes w.id
        (if all.length ≤ 1400 then .ok all else .no stBadLength 0)

end Sys2Proof.Machine
end

