-- ==== Sys2Proof/Machine/Can.lean ====
section
/-! DEFINITION. The commands of the CAN FD port: restart, reception, rate detection, errors, recovery and transmission (R326 to R337). -/

namespace Sys2Proof.Machine

/-- CAN_PORT_RESTART (R328). -/
def execCanPortRestart (t : Nat) (s : State) : Host.Outcome State Fault Refusal :=
  .next (s.commandIf t (fun s => s.inService) State.canRestart)

/-- CAN_BUS_INTEGRATION (R328): 11 recessive bits have passed. -/
def execCanBusIntegration (t : Nat) (s : State) : Host.Outcome State Fault Refusal :=
  .next (s.commandIf t (fun s => s.inService && s.get F.CAN_STAT_STATE != 0 && !s.portHeld 3)
    (fun s => { s with can := { s.can with integrating := false } }))

/-- The controller listens: running, past integration and not bus-off. -/
def State.canListens (s : State) : Bool := s.inService && s.canUp && !s.can.integrating

/-- The search for the bit rate is under way (R329). -/
def State.canSearching (s : State) : Bool := s.get F.CAN_STAT_ABD == 1

/-! ## Reception (R334, R335) -/

/-- The enabled object a frame belongs to. -/
def State.rxObject (s : State) (f : CanFrame) : Option Nat :=
  (List.range 128).find? (fun n => s.flag (F.CAN_RXID_EN.ix n) && s.get (F.CAN_RXID_ID.ix n) == f.id && s.flag (F.CAN_RXID_IDE.ix n) == f.ide)

/-- A frame overwrites its object; an unread one is lost. -/
def State.rxStore (s : State) (f : CanFrame) (at_ : Nat) : State :=
  match s.rxObject f with
  | none => s
  | some n =>
    let unread := match assoc? n s.can.objs with
      | none => false
      | some o => o.new
    let lost := unread || (match assoc? n s.can.objs with
      | none => false
      | some o => o.lost)
    let s1 : State := { s with can := { s.can with
      objs := assocPut n { frame := f, ns := at_ % sec, sec := at_ / sec % 281474976710656, new := true, lost := lost } s.can.objs } }
    if unread then (s1.count F.CAN_CNT_RXLOST F.CAN_CNT_SAT).setB F.CAN_STAT_RXLOST_SEEN true else s1

/-- A correct frame lowers REC as ISO 11898-1 has it: by 1 up to 127, and from above to some value from 119 to 127. (DEDUCED: log entry 58) -/
def State.recDown (s : State) : State :=
  let r := s.get F.CAN_ERRCNT_REC
  if !s.canNormal || r = 0 then s
  else if r ≤ 127 then s.set F.CAN_ERRCNT_REC (r - 1)
  else (s.set F.CAN_ERRCNT_REC (119 + (s.open_ 32).toNat % 9)).drew

/-- Error-passive ends when both counters are at most 127 (R330). -/
def State.canActive (s : State) : State :=
  if s.get F.CAN_STAT_STATE = 2 ∧ s.get F.CAN_ERRCNT_TEC ≤ 127 ∧ s.get F.CAN_ERRCNT_REC ≤ 127 then
    (s.set F.CAN_STAT_STATE 1).canLog 2 0
  else s

/-- The candidate is adopted (R329): its timing as live values, normal operation without a restart. -/
def State.canAdopt (s : State) : State :=
  let i := s.get F.CAN_STAT_CAND
  let (b, d) := candTiming i s.can.written
  let s1 := ((s.putWord 0xE0004 b).putWord 0xE0008 d).set F.CAN_STAT_ABD 2
  (if s.can.brs then s1.setB F.CAN_STAT_DATAVER true else s1).canLog 5 i

/-- A good frame during the search or after adoption (R329). (DEDUCED: log entry 58) -/
def State.canDetect (s : State) (f : CanFrame) : State :=
  if s.canSearching then
    let s1 : State := { s with can := { s.can with good := s.can.good + 1, brs := s.can.brs || f.brs } }
    if s1.can.good = 8 then s1.canAdopt else s1
  else if s.get F.CAN_STAT_ABD = 2 && f.brs then s.setB F.CAN_STAT_DATAVER true else s

/-- CAN_FRAME_RECEIVE; the start-of-frame bit was `ago` ns earlier. A PCS frame goes to dispatch. A remote frame counts as a frame received
without error and is ignored otherwise (R326). (DEDUCED: log entry 58) -/
def State.canFrame (s : State) (f : CanFrame) (ago : Nat) : State :=
  if f.rtr then (s.canDetect f).recDown.canActive
  else
  let s1 := ((s.canDetect f).rxStore f (s.quartzNs - ago)).recDown.canActive
  if !f.ide && f.id == s.get F.BAY_CTRL_PCSID then s1.pcsFrame f.data else s1

def execCanFrameReceive (t : Nat) (f : CanFrame) (ago : Nat) (s : State) : Host.Outcome State Fault Refusal :=
  .next (s.commandIf t State.canListens (fun s => s.canFrame f ago))

/-- CAN_ABD_DWELL_TIMEOUT (R329). -/
def execCanAbdDwellTimeout (t : Nat) (s : State) : Host.Outcome State Fault Refusal :=
  .next (s.commandIf t (fun s => s.inService && s.canSearching
    && decide (s.can.candAt + s.get F.CAN_CFG_ABDDWELL * 10 * msec ≤ s.now)) State.candNext)

/-! ## Errors (R330) -/

/-- Bus-off is entered: queues flushed, the event, recovery at once or held; a CAN_TXGO of the same moment counts as dropped (Table 16.6). -/
def State.busOff (s : State) : State :=
  let s1 := (((s.set F.CAN_STAT_STATE 3).setB F.CAN_STAT_BUSOFF_SEEN true).canLog 3 0).canLog 7 0
  let go := s.can.goAt == some s.now
  let s2 : State := { (if go then s1.canDrop else s1) with can := { s1.can with txq := [[], [], [], []], onBus := none, goAt := none, offAt := some s.now } }
  let s3 := if s.flag F.CAN_CFG_BOHOLD then s2.setB F.CAN_STAT_HELD true else s2.setB F.CAN_STAT_RECOV true
  s3.raise 96 []

/-- The state that the counters call for. -/
def State.confine (s : State) : State :=
  if 255 < s.get F.CAN_ERRCNT_TEC then s.busOff
  else if s.get F.CAN_STAT_STATE = 1 ∧ (127 < s.get F.CAN_ERRCNT_TEC ∨ 127 < s.get F.CAN_ERRCNT_REC) then
    ((s.set F.CAN_STAT_STATE 2).setB F.CAN_STAT_PASSIVE_SEEN true).canLog 1 0
  else s

/-- The entry of an error in Q38. -/
def State.errEntry (s : State) (typ : Nat) (tx dph : Bool) : State :=
  let s1 := if s.can.errq.length < 32 then s else s.qLost 38
  { s1 with can := { s1.can with
    errq := push32 s.can.errq (typ + 8 * b2n tx + 16 * b2n dph + 256 * s.get F.CAN_ERRCNT_TEC + 16777216 * s.get F.CAN_ERRCNT_REC) } }

/-- CAN_ERROR: TYPE 1 … 5, direction, phase, and the increment that ISO 11898-1 gives the case (0, 1 or 8). In listen-only the counters
stay at 0, and a search leaves the candidate; a frame in transmission stays queued. (DEDUCED: log entry 58) -/
def State.canError (s : State) (typ : Nat) (tx dph : Bool) (inc : Nat) : State :=
  if !s.canNormal then
    let s1 := s.errEntry typ tx dph
    if s.canSearching then s1.candNext else s1
  else
    let s0 : State := if tx then { s with can := { s.can with onBus := none } } else s
    let s1 := if tx then s0.set F.CAN_ERRCNT_TEC (min 511 (s.get F.CAN_ERRCNT_TEC + inc))
              else s0.set F.CAN_ERRCNT_REC (min 255 (s.get F.CAN_ERRCNT_REC + inc))
    (s1.errEntry typ tx dph).confine

def execCanError (t typ : Nat) (tx dph : Bool) (inc : Nat) (s : State) : Host.Outcome State Fault Refusal :=
  .next (s.commandIf t (fun s => s.canListens && decide (1 ≤ typ) && decide (typ ≤ 5) && [0, 1, 8].contains inc)
    (fun s => s.canError typ tx dph inc))

/-- A write of CAN_CTRL.RECOVER starts a held recovery. -/
def State.canRecover (s : State) : State :=
  if s.flag F.CAN_STAT_HELD then (s.setB F.CAN_STAT_HELD false).setB F.CAN_STAT_RECOV true else s

/-- CAN_RECOVERY_COMPLETE. -/
def State.canRecovered (s : State) : State :=
  (((((s.set F.CAN_STAT_STATE 1).setB F.CAN_STAT_RECOV false).set F.CAN_ERRCNT_TEC 0).set F.CAN_ERRCNT_REC 0).canLog 4 0).raise 97 []

def execCanRecoveryComplete (t : Nat) (s : State) : Host.Outcome State Fault Refusal :=
  .next (s.commandIf t (fun s => s.inService && !s.portHeld 3 && s.get F.CAN_STAT_STATE == 3 && s.flag F.CAN_STAT_RECOV) State.canRecovered)

/-! ## Transmission (R331 to R333) -/

/-- The frame in transmission has left: without BRS while the data rate is not verified (R329), with ESI in an FD frame of an error-passive
port (R326). -/
def State.canDone (s : State) (q : Nat) (f : CanFrame) : State :=
  let s1 : State := { s with can := { s.can with onBus := none, txq := modNth s.can.txq q (fun l => if l.head? = some f then l.drop 1 else l) } }
  let s2 := s1.emit (.can { f with brs := f.brs && s.flag F.CAN_STAT_DATAVER, esi := f.fdf && s.get F.CAN_STAT_STATE == 2 })
  (s2.set F.CAN_ERRCNT_TEC (s.get F.CAN_ERRCNT_TEC - 1)).canActive

/-- CAN_FRAME_TRANSMITTED: at an arbitration the frame offered goes on the bus; it leaves, or it lost arbitration and stays queued (R331). (DEDUCED: log entry 58) -/
def State.canSent (s : State) (e : CanTx) : State :=
  match e, s.can.onBus with
  | .start, none => { s with can := { s.can with onBus := s.canOffer } }
  | .sent, some x => s.canDone x.1 x.2
  | .lost, some _ => { s with can := { s.can with onBus := none } }
  | _, _ => s

def execCanFrameTransmitted (t : Nat) (e : CanTx) (s : State) : Host.Outcome State Fault Refusal :=
  .next (s.commandIf t (fun s => s.canListens && s.canNormal) (fun s => s.canSent e))

/-- The limit frame (Table 16.3) with the values of the last control sample; an older one not yet sent is discarded (Table 16.6). -/
def State.limitFrame (s : State) : State :=
  let d := s.can.limits ++ leBytes 1 s.can.alive
  let s1 : State := { s with can := { s.can with alive := (s.can.alive + 1) % 256, limitAt := s.now } }
  let s2 := if (nth [] s1.can.txq 0).isEmpty || !(s.canNormal && s.canUp) then s1 else s1.canEvict 0
  s2.canPut 0 (classic (s.get F.CAN_TXCFG_STATID) d)

def execCanLimitFrame (t : Nat) (s : State) : Host.Outcome State Fault Refusal :=
  .next (s.commandIf t (fun s => s.inService && s.canUp && s.flag F.CAN_TXCFG_STATEN
    && decide (s.can.limitAt + s.get F.CAN_TXCFG_STATPER * 10 * msec ≤ s.now)) State.limitFrame)

/-- The staged frame with a length. -/
def State.canStaged (s : State) (len : Nat) : CanFrame :=
  { id := s.get F.CAN_TXH_ID, ide := s.flag F.CAN_TXH_IDE, fdf := s.flag F.CAN_TXH_FDF, brs := s.flag F.CAN_TXH_BRS, esi := false,
    data := ((List.range 16).flatMap (fun j => leBytes 4 (s.get (F.CAN_TXD.ix j)))).take len }

/-- The refusal of a CAN_TXGO write (R333): status and reason. One that meets the entry to bus-off is not refused: its frame is discarded and
counted (Table 16.6). (DEDUCED: log entry 58) -/
def State.txgoRefused (s : State) (len : Nat) : Option (Nat × Nat) :=
  let f := s.canStaged len
  if !([0, 1, 2, 3, 4, 5, 6, 7, 8, 12, 16, 20, 24, 32, 48, 64].contains len) || (decide (8 < len) && !f.fdf)
      || (f.fdf && !s.flag F.CAN_CFG_FDEN) || (f.brs && !f.fdf) || (!f.ide && decide (0x7FF < f.id)) then some (stBadParam, 0)
  else if !(s.canNormal && (s.canUp || s.can.offAt == some s.now)) then some (stRefused, 0)
  else none

/-- A CAN_TXGO write that is accepted queues the staged frame into Q35 or Q36. -/
def State.txgo (s : State) (v : Nat) : State :=
  let s1 := s.canPut (1 + v / 256 % 2) (s.canStaged (v % 128))
  { s1 with can := { s1.can with goAt := some s.now } }

/-- An identifier is enabled in two objects, or lies above 0x7FF without IDE (R334). -/
def rxidBad (ids : List Nat) : Bool :=
  let on := ids.filter (fun v => v.testBit 30)
  ids.any (fun v => !v.testBit 29 && decide (0x7FF < v % 536870912)) || decide ((on.map (fun v => v % 1073741824)).eraseDups.length < on.length)

end Sys2Proof.Machine
end

