-- ==== Sys2Proof/Machine/Iic.lean ====
section
/-! DEFINITION. The commands of the I²C port: the target window and its mailbox, and attention calls (R338 to R345). -/

namespace Sys2Proof.Machine

/-- The port is enabled and clocked. -/
def State.iicOn (s : State) : Bool := s.inService && !s.portHeld 4 && s.flag F.IIC_CFG_EN

/-! ## Target (R341, R342) -/

/-- The window byte at an offset. -/
def State.winByte (s : State) (p : Nat) : Byte :=
  if p < 48 then nth 0 s.iic.win p
  else if p < 0x3E then nth 0 s.iicStatus (p - 48)
  else if p = 0x3E then BitVec.ofNat 8 s.iic.seq
  else if p < 0x80 then 0
  else nth 0 (leBytes 4 (s.word (0xF0080 + (p - 0x80) / 4 * 4)).toNat) (p % 4)

/-- A byte written at P: the mailbox takes it, the lower half discards it. -/
def State.mbxPut (s : State) (p : Nat) (b : Byte) : State :=
  if p < 0x80 then s else s.set ⟨0xF0080 + (p - 0x80) / 4 * 4, 8 * (p % 4), 8⟩ b.toNat

/-- Write bytes from P on. -/
def State.winWrite : State → Nat → List Byte → State
  | s, _, [] => s
  | s, p, b :: t => State.winWrite (s.mbxPut p b) ((p + 1) % 256) t

/-- A mailbox write is posted to Q45; a full queue merges it into the newest entry. -/
def State.mbxPost (s : State) (first n : Nat) : State :=
  if n = 0 then s
  else
    let q := s.iic.q45
    let q' := if q.length < 8 then q ++ [(first, n)]
      else match q.getLast? with
        | some (f, m) => q.dropLast ++ [(f, m + n)]
        | none => [(first, n)]
    { s with iic := { s.iic with q45 := q' } }

/-- The bus has been used and is free again after R340; a transaction served as target is over. -/
def State.busUsed (s : State) : State :=
  let s1 : State := { s with iic := { s.iic with busFree := false, usedAt := s.now, target := false } }
  (if s.iic.target then s1.set F.IIC_STAT_ROLE 0 else s1).setB F.IIC_STAT_BUSY true

/-- The module answers to its own address alone, which is neither the general call nor 11110xx (R338, Table 16.14). -/
def State.addressed (s : State) (addr : Nat) : Bool := addr == s.get F.IIC_CFG_TADDR

/-- IIC_TARGET_WRITE: the bytes acknowledged, the last one cut short by a START or STOP in its acknowledge slot where `cut` (R342). -/
def State.targetWrite (s : State) (bytes : List Byte) (cut : Bool) : State :=
  let bs := if cut then bytes.dropLast else bytes
  let s1 := if cut then (s.count F.IIC_ERR_PROTO_ERR F.IIC_ERR_SAT).setB F.IIC_STAT_PROTO_SEEN true else s
  match bs with
  | [] => s1.busUsed
  | p :: t =>
    let p0 := p.toNat
    let hit := (List.range t.length).filter (fun i => decide (0x80 ≤ (p0 + i) % 256))
    let s2 := s1.winWrite p0 t
    let s3 : State := { s2 with iic := { s2.iic with ptr := (p0 + t.length) % 256 } }
    (s3.mbxPost ((p0 + hit.headD 0) % 256) hit.length).busUsed

/-- A write transaction; one to another address is not acknowledged and only occupies the bus. -/
def execIicTargetWrite (t : Nat) (x : IicBytes) (cut : Bool) (s : State) : Host.Outcome State Fault Refusal :=
  .next (s.commandIf t State.iicOn (fun s => if s.addressed x.addr then s.targetWrite x.bytes cut else s.busUsed))

/-- IIC_TARGET_READ: `n` bytes from P on, of one coherent copy. -/
def State.targetRead (s : State) (n : Nat) : State :=
  let bs := (List.range n).map (fun i => s.winByte ((s.iic.ptr + i) % 256))
  let s1 : State := { s with iic := { s.iic with ptr := (s.iic.ptr + n) % 256 } }
  (s1.emit (.iic bs)).busUsed

/-- A read transaction; one from another address is not acknowledged and only occupies the bus. -/
def execIicTargetRead (t : Nat) (x : IicCount) (s : State) : Host.Outcome State Fault Refusal :=
  .next (s.commandIf t State.iicOn (fun s => if s.addressed x.addr then s.targetRead x.n else s.busUsed))

/-- IIC_MAILBOX_DRAIN: S0 takes an entry; the event carries first offset and count. -/
def State.mbxDrain (s : State) : State :=
  match s.iic.q45 with
  | [] => s
  | (f, n) :: t =>
    let s1 : State := { s with iic := { s.iic with q45 := t } }
    s1.raise 104 (leBytes 1 f ++ leBytes 1 (min 255 n))

def execIicMailboxDrain (t : Nat) (s : State) : Host.Outcome State Fault Refusal :=
  .next (s.commandIf t (fun s => s.inService && !s.s0Down) State.mbxDrain)

/-! ## Attention calls (R343, R344) -/

/-- CALLPEND and ROLE follow the calls. -/
def State.callShow (s : State) : State :=
  (s.setB F.IIC_STAT_CALLPEND (s.iic.call.isSome || s.iic.waiting)).set F.IIC_STAT_ROLE (if s.iic.onBus then 2 else if s.iic.target then 1 else 0)

/-- MINGAP has passed since the last call or NACK. -/
def State.gapOver (s : State) : Bool :=
  match s.iic.lastAt with
  | none => true
  | some a => decide (a + s.get F.IIC_ATTN_MINGAP * msec ≤ s.now)

/-- The bytes of a call: address with W, HREG, and 0x30 … 0x3F as they stand now. -/
def State.callBytes (s : State) : List Byte :=
  leBytes 1 (2 * s.get F.IIC_ATTN_HADDR) ++ leBytes 1 (s.get F.IIC_ATTN_HREG) ++ (List.range 16).map (fun i => s.winByte (0x30 + i))

/-- A call that may start does: a retry, or the waiting call after MINGAP; both wait for bus free. (DEDUCED: log entry 59) -/
def State.callStart (s : State) : State :=
  if !s.iic.busFree || s.iic.onBus then s.callShow
  else match s.iic.call with
    | some _ =>
      if s.iic.gap && !s.gapOver then s.callShow
      else ({ s with iic := { s.iic with onBus := true, gap := false, busFree := false } }.setB F.IIC_STAT_BUSY true).callShow
    | none =>
      if !s.iic.waiting || !s.gapOver then s.callShow
      else
        let s1 : State := { s with iic := { s.iic with
          call := some s.callBytes, onBus := true, gap := false, waiting := false, busFree := false } }
        ((s1.set F.IIC_ARB_RETRIES 0).setB F.IIC_STAT_BUSY true).callShow

/-- An attempt fails: a retry within the budget, after MINGAP where `gap`, else the call is dropped. -/
def State.callFail (s : State) (gap : Bool) : State :=
  let n := s.get F.IIC_ARB_RETRIES
  let s1 : State := { s with iic := { s.iic with onBus := false, usedAt := s.now, lastAt := if gap then some s.now else s.iic.lastAt } }
  if n < s.get F.IIC_CFG_RETRY then
    ({ s1 with iic := { s1.iic with gap := gap } }.set F.IIC_ARB_RETRIES (n + 1)).callShow
  else
    ((({ s1 with iic := { s1.iic with call := none, gap := false, lastAt := some s.now } }.setB F.IIC_STAT_ATTNFAIL_SEEN true).raise 105
      [])).callShow

/-- A bus error (Table 16.5). -/
def State.busError (s : State) : State := (s.count F.IIC_ERR_BUSERR F.IIC_ERR_SAT).setB F.IIC_STAT_BUSERR_SEEN true

/-- The bus free time of the mode in ns (R340). (DEDUCED: log entry 59) -/
def State.freeTime (s : State) : Nat :=
  match s.get F.IIC_CFG_SPEED with
  | 0 => 4700
  | 1 => 1300
  | _ => 500

/-- The bus is free (R340): both lines have been high, and so unused, for the bus free time after a STOP, or for 100 µs without one. -/
def State.lineIdle (s : State) (x : BusIdle) : Bool :=
  decide (s.iic.usedAt ≤ x.since) && decide (x.since + (if x.stop then s.freeTime else 100 * usec) ≤ s.now)

/-- IIC_BUS_FREE (R340). -/
def execIicBusFree (x : BusIdle) (s : State) : Host.Outcome State Fault Refusal :=
  .next (s.commandIf x.t (fun s => s.iicOn && !s.iic.onBus && s.lineIdle x)
    (fun s => ({ s with iic := { s.iic with busFree := true, target := false } }.setB F.IIC_STAT_BUSY false).callStart))

/-- IIC_ATTN_CALL_END: 0 complete, 1 NACK, 2 START or STOP of another controller. -/
def State.callEnd (s : State) (how : Nat) : State :=
  match s.iic.call with
  | none => s
  | some b =>
    if !s.iic.onBus then s
    else if how = 0 then
      let s1 : State := { s with iic := { s.iic with call := none, onBus := false, lastAt := some s.now, usedAt := s.now } }
      (s1.emit (.iic b)).callShow
    else if how = 1 then s.callFail true
    else s.busError.callFail false

def execIicAttnCallEnd (t how : Nat) (s : State) : Host.Outcome State Fault Refusal :=
  .next (s.commandIf t State.iicOn (fun s => s.callEnd how))

/-- IIC_ARBITRATION_LOST in a byte and bit of the call; in the address byte to the own address the transaction is served as target. (DEDUCED: log entry 59) -/
def State.arbLost (s : State) (byte : Nat) (x : ArbLoss) : State :=
  if !s.iic.onBus then s
  else
    let s0 : State := { s with iic := { s.iic with target := byte == 0 && s.addressed x.addr } }
    ((((s0.set F.IIC_ARB_BYTE byte).set F.IIC_ARB_BIT x.bit).setB F.IIC_STAT_ARB_SEEN true).count F.IIC_ERR_ARBCNT F.IIC_ERR_SAT).callFail false

def execIicArbitrationLost (t byte : Nat) (x : ArbLoss) (s : State) : Host.Outcome State Fault Refusal :=
  .next (s.commandIf t (fun s => s.iicOn && decide (byte < 256) && decide (x.bit < 8)) (fun s => s.arbLost byte x))

/-- The hang has lasted: a stretch of the module's own call longer than STRTMO, or SDA held low for STRTMO (Table 16.5). -/
def State.hangDue (s : State) (x : BusHang) : Bool :=
  let lim := x.since + s.get F.IIC_CFG_STRTMO * msec
  if x.sda then decide (lim ≤ s.now) else s.iic.onBus && decide (lim < s.now)

/-- IIC_STRETCH_TIMEOUT: a bus error unless SCL pulses freed SDA; the call in progress is tried again after bus free. (DEDUCED: log entry 59) -/
def State.stretch (s : State) (x : BusHang) : State :=
  let s1 := if x.sda && x.freed then s else s.busError
  if s.iic.onBus then s1.callFail false else s1

def execIicStretchTimeout (t : Nat) (x : BusHang) (s : State) : Host.Outcome State Fault Refusal :=
  .next (s.commandIf t (fun s => s.iicOn && s.hangDue x) (fun s => s.stretch x))

/-- The four groups of status bytes (IIC_ATTN.MASK). -/
def statusGroups (b : List Byte) : List (List Byte) := [b.take 4, slice b 4 4, slice b 8 4, slice b 12 2]

/-- IIC_ATTN_SCHEDULE: a change in a selected group increments SEQ and schedules a call. (DEDUCED: log entry 55) -/
def State.attnSchedule (s : State) : State :=
  let now_ := s.iicStatus
  let pairs := ((statusGroups s.iic.status).zip (statusGroups now_)).zipIdx
  let hit := s.flag F.IIC_ATTN_EN && pairs.any (fun x => (s.get F.IIC_ATTN_MASK).testBit x.2 && x.1.1 != x.1.2)
  let s1 : State := { s with iic := { s.iic with status := now_ } }
  if hit then { s1 with iic := { s1.iic with seq := (s1.iic.seq + 1) % 256, waiting := true } }.callStart else s1

def execIicAttnSchedule (t : Nat) (s : State) : Host.Outcome State Fault Refusal :=
  .next (s.commandIf t State.iicOn State.attnSchedule)

/-- IIC_MINGAP_EXPIRY. -/
def execIicMingapExpiry (t : Nat) (s : State) : Host.Outcome State Fault Refusal :=
  .next (s.commandIf t (fun s => s.iicOn && s.gapOver) State.callStart)

end Sys2Proof.Machine
end

