-- ==== Sys2Proof/Machine/Prt.lean ====
section
/-! DEFINITION. Flint and the contactors: overcurrent, gate faults, barrier loss, and the close and open sequences
(R185 to R200). -/

namespace Sys2Proof.Machine

/-- Flint is armed: every state with the module started, PARK included, and a start under way (R184). -/
def State.armed (s : State) : Bool := s.started || s.rst.mode == .starting

/-! ## Overcurrent and gate faults (R185, R187) -/

/-- An overcurrent comparator asserts. -/
def State.overcurrent (s : State) (chg : Bool) : State :=
  let p := if chg then { s.prt with ocChg := true, ocChgAt := some s.now } else { s.prt with ocDis := true, ocDisAt := some s.now }
  let s1 := { s with prt := p }.latch (b2n chg)
  if s1.flag F.PRT_CFG_OCOPEN then s1.coilsTrip else s1

def execOvercurrentComparator (t : Nat) (chg : Bool) (s : State) : Host.Outcome State Fault Refusal :=
  .next (s.commandIf t State.armed (fun s => s.overcurrent chg))

def execOvercurrentComparatorRelease (t : Nat) (chg : Bool) (s : State) : Host.Outcome State Fault Refusal :=
  .next (s.command t (fun s => { s with prt :=
    if chg then { s.prt with ocChg := false, ocChgAt := none } else { s.prt with ocDis := false, ocDisAt := none } }))

/-- OC_HOLD_CHECK: the comparator is still asserted 1 ms after its latch. -/
def execOcHoldCheck (t : Nat) (chg : Bool) (s : State) : Host.Outcome State Fault Refusal :=
  .next (s.commandIf t (fun s => s.armed && !s.flag F.PRT_CFG_OCOPEN
      && (if chg then s.prt.ocChgAt else s.prt.ocDisAt).any (fun a => decide (a + msec ≤ s.now)))
    (fun s =>
      let p := if chg then { s.prt with ocChgAt := none } else { s.prt with ocDisAt := none }
      ({ s with prt := p }.latch 8).coilsTrip))

def execGateFault (t ph : Nat) (s : State) : Host.Outcome State Fault Refusal :=
  .next (s.commandIf t (fun s => s.armed && decide (ph < 4))
    (fun s =>
      let s1 := if s.flag F.PRT_TRIP_DESAT then s else s.set F.PRT_TRIP_DESATPH ph
      { s1 with prt := { s1.prt with desat := modNth s1.prt.desat ph (fun _ => true) } }.latch 2))

def execDesatRelease (t ph : Nat) (s : State) : Host.Outcome State Fault Refusal :=
  .next (s.command t (fun s => { s with prt := { s.prt with desat := modNth s.prt.desat ph (fun _ => false) } }))

/-! ## Barrier loss (R22, R188) -/

/-- A crossing is silent now. -/
def State.silent (s : State) (x : Crossing) : Bool := s.cvi.lost.any (fun p => p.1 == x)

/-- The group a loss belongs to (Table 8.14): 0 shunt, 1 HV, 3 supply or both shunt bitstreams. (DEDUCED: log entry 48) -/
def State.barGroup (s : State) (x : Crossing) : Nat :=
  match x with
  | .shuntA => if s.silent .shuntB then 3 else 0
  | .shuntB => if s.silent .shuntA then 3 else 0
  | .string | .bus | .ins => 1
  | .supply => 3

/-- Barrier loss of a crossing. -/
def State.barrierLoss (s : State) (x : Crossing) : State :=
  let g := s.barGroup x
  let s1 := if s.flag F.PRT_TRIP_BARRIER && g != 3 then s else s.set F.PRT_TRIP_BARGRP g
  let s2 := { s1 with cvi := { s1.cvi with lost := if s1.silent x then s1.cvi.lost else (x, s1.now) :: s1.cvi.lost,
                                           back := s1.cvi.back.filter (fun p => p.1 != x) } }
  let s3 := s2.latch 4
  match x with
  | .shuntA => s3.shuntFail false
  | .shuntB => s3.shuntFail true
  | _ => s3

def execBarrierLoss (t : Nat) (x : Crossing) (s : State) : Host.Outcome State Fault Refusal :=
  .next (s.commandIf t State.inService (fun s => s.barrierLoss x))

def execBarrierRestored (t : Nat) (x : Crossing) (s : State) : Host.Outcome State Fault Refusal :=
  .next (s.commandIf t (fun s => s.silent x)
    (fun s => { s with cvi := { s.cvi with lost := s.cvi.lost.filter (fun p => p.1 != x), back := (x, s.now) :: s.cvi.back } }))

/-- A crossing has been silent for 10 ms. -/
def State.silentLong (s : State) (x : Crossing) : Bool :=
  s.cvi.lost.any (fun p => p.1 == x && decide (p.2 + 10 * msec ≤ s.now))

def execBarrierLossCoilTimeout (t : Nat) (s : State) : Host.Outcome State Fault Refusal :=
  .next (s.commandIf t (fun s => s.silentLong .string || s.silentLong .bus || s.silentLong .ins || s.silentLong .supply
      || (s.silentLong .shuntA && s.silentLong .shuntB)) State.coilsTrip)

/-- A crossing has shown transitions, or the supply has been in band, for 10 ms. -/
def State.crossingOk (s : State) (x : Crossing) : Bool :=
  !s.silent x && s.cvi.back.all (fun p => p.1 != x || decide (p.2 + 10 * msec ≤ s.now))

/-- A position is checked against the cell limits now (R55, R67, R190): its record is not stale, or it is the derived sum (0) of the one
unreachable segment. -/
def State.hardChecked (s : State) (p : Nat) : Bool :=
  if p = 0 then s.get F.RING_STAT_UNREACH == 1
  else decide (p ≤ s.len) && !s.ring.excluded.contains p && !s.stale p

/-- The release condition of cause `bit` of PRT_TRIP (Table 8.2, R187). (DEDUCED: log entry 48) -/
def State.releasable (s : State) (bit : Nat) : Bool :=
  match bit with
  | 0 => !s.prt.ocDis
  | 1 => !s.prt.ocChg
  | 2 => s.prt.desat.all (! ·)
  | 3 => !s.prt.hardPos.any s.hardChecked
  | 4 =>
    (match s.get F.PRT_TRIP_BARGRP with
     | 0 => (s.shFailed false || s.crossingOk .shuntA) && (s.shFailed true || s.crossingOk .shuntB)
     | 1 => s.crossingOk .string && s.crossingOk .bus && s.crossingOk .ins
     | _ => s.crossingOk .supply)
  | 5 => true
  | 6 => !s.ganderHolds
  | 7 => s.clockGood 4
  | 8 => !s.prt.ocDis && !s.prt.ocChg && s.allOpen
  | _ => false

/-- A W1C write to PRT_TRIP (R186): the written causes whose release condition holds clear; FIRST with the last. -/
def State.tripClear (s : State) (m : Nat) : State :=
  let gone := (List.range 9).filter (fun b => m.testBit b && s.releasable b)
  (gone.foldl (fun (a : State) b => a.set { F.PRT_TRIP_OC_DIS with lo := b } 0) s).tripFirst

/-! ## Contactors (R195 to R198) -/

/-- STRING_CONNECT; `supply`: the coil supply test of step 1 passes (R230). -/
def execStringConnect (t : Nat) (r : Req) (supply : Bool) (s : State) : Host.Outcome State Fault Refusal :=
  .next (s.hostCommand t 0x0401 r (Fmt.fixed 0 []) (fun id s =>
    if s.get F.PRT_CONTSTAT_CONN = 4 then (s, .ok [])
    else if s.prt.seq.isSome then (s, .no stBusy 0)
    else match firstReason ((s.thWin != 0 && !s.actuated, 0x000C)
        :: (List.range 15).map (fun n => (s.connBlk.testBit n, 0x0100 + n))) with
      | some c => (s, .refused c)
      | none =>
        if !s.jobRoom then (s, .no stBusy 0)
        else
          let (s1, j) := s.jobStart 0x0401 id.session 1 6
          (s1.closeStart (some j) supply, .job j)))

/-- A disconnect of a string that is being closed: coils off at once, then a job that checks the feedbacks (R304). -/
def State.openCheck (s : State) (job : Nat) : State :=
  (s.endClose.setConn 5).seqPut { kind := .open_, step := 5, at_ := s.now, offAt := [some s.now, some s.now, some s.now], job := some job }

def execStringDisconnect (t : Nat) (r : Req) (s : State) : Host.Outcome State Fault Refusal :=
  .next (s.hostCommand t 0x0402 r (Fmt.fixed 0 []) (fun id s =>
    match s.prt.seq with
    | none =>
      if s.get F.PRT_CONTSTAT_CONN = 0 then (s, .ok [])
      else if !s.jobRoom then (s, .no stBusy 0)
      else
        let (s1, j) := s.jobStart 0x0402 id.session 1 6
        ((s1.openStart (some j)).poll, .job j)
    | some q =>
      if q.kind == .open_ && q.job.isSome then (s, .no stBusy 0)
      else if !s.jobRoom then (s, .no stBusy 0)
      else
        let (s1, j) := s.jobStart 0x0402 id.session 1 6
        if q.kind == .close then ((s1.openCheck j).poll, .job j) else (s1.seqPut { q with job := some j }, .job j)))

def execCloseSequenceTimer (t : Nat) (s : State) : Host.Outcome State Fault Refusal :=
  .next (s.commandIf t (fun s => s.prt.seq.any (fun q => q.kind == .close)) State.poll)

def execOpenSequenceTimer (t : Nat) (s : State) : Host.Outcome State Fault Refusal :=
  .next (s.commandIf t (fun s => s.prt.seq.any (fun q => q.kind == .open_)) State.poll)

/-- AUTO_OPEN_START (R197): insulation TRIP or GRACE_EXP with the limits at 0 for 1 s. -/
def execAutoOpenStart (t : Nat) (s : State) : Host.Outcome State Fault Refusal :=
  .next (s.commandIf t (fun s => s.inService && s.prt.seq.isNone && s.get F.PRT_CONTSTAT_CONN == 4
      && (s.get F.CVI_INS_STAT_STATE == 2 || s.flag F.RING_STAT_GRACE_EXP) && s.prt.zeroAt.any (fun a => decide (a + sec ≤ s.now)))
    (fun s => (s.openStart none).poll))

/-- The contactor whose closing a close sequence waits for. -/
def Seq.waits (q : Seq) : Option Nat :=
  if q.kind != .close then none else match q.step with
    | 2 => some 2 | 3 => some 1 | 5 => some 0 | _ => none

/-- A feedback closes (R198). -/
def State.fbClosed (s : State) (k : Nat) : State :=
  if !s.coil k then s.weld k
  else match s.prt.seq with
    | none => s
    | some q => if q.waits = some k then { s with prt := { s.prt with seq := some { q with fbAt := some s.now } } }.poll else s

/-- A feedback opens (R177, R198): with its coil on uncommanded; with no sequence the loop stops and the string is open. In every case the
loop stops and the jobs that need the converter end (Tables 6.4, 6.6). -/
def State.fbOpened (s : State) (k : Nat) : State :=
  if s.coil k then ((s.setB F.PRT_CONTSTAT_UNCMD true).loopStop).coilsTrip
  else if s.prt.seq.isNone && s.get F.PRT_CONTSTAT_CONN == 4 && k != 2 then ((s.loopStop.coilsOff).setConn 0).endCurrentJobs
  else
    let s1 := s.loopStop.endCurrentJobs
    let seq := s1.prt.seq.map (fun (q : Seq) => { q with openAt := modNth q.openAt k (fun _ => some s.now) })
    { s1 with prt := { s1.prt with seq := seq } }.poll

def execContactorFeedbackChange (t k : Nat) (closed : Bool) (s : State) : Host.Outcome State Fault Refusal :=
  .next (s.commandIf t (fun s => s.rst.mode != .off && decide (k < 3) && s.fb k != closed)
    (fun s =>
      let s1 := (s.set F.PRT_CONTSTAT_FB (setBit (s.get F.PRT_CONTSTAT_FB) k closed)).insMoved
      if closed then s1.fbClosed k else s1.fbOpened k))

def execCoilPullEnd (t k : Nat) (s : State) : Host.Outcome State Fault Refusal :=
  .next (s.commandIf t (fun s => decide (k < 3) && s.coil k && decide (nth 0 s.prt.coilAt k + s.ms F.PRT_CONT_PULL ≤ s.now))
    (fun s => { s with prt := { s.prt with hold := modNth s.prt.hold k (fun _ => true) } }))

/-- COIL_CURRENT_FAULT of output `k` while on: open below 50 mA, short above 3.5 A (R195). -/
def execCoilCurrentFault (t k : Nat) (short : Bool) (s : State) : Host.Outcome State Fault Refusal :=
  .next (s.commandIf t (fun s => decide (k < 3) && s.coil k)
    (fun s => if short then (s.setB F.PRT_CONTSTAT_COILSHORT true).coilOff k else s.setB F.PRT_CONTSTAT_COILOPEN true))

def execVcoilLow (t : Nat) (s : State) : Host.Outcome State Fault Refusal :=
  .next (s.command t (fun s =>
    let s1 := { s with prt := { s.prt with vcoil := false } }
    if s1.rst.mode == .off || s1.rst.mode == .reset then s1 else s1.setB F.PRT_CONTSTAT_VCOILLOW true))

def execVcoilRestored (t : Nat) (s : State) : Host.Outcome State Fault Refusal :=
  .next (s.command t (fun s => { s with prt := { s.prt with vcoil := true } }.setB F.PRT_CONTSTAT_VCOILLOW false))

end Sys2Proof.Machine
end

