-- ==== Sys2Proof/Machine/Tim.lean ====
section
/-! DEFINITION. The commands of the Precision Time Protocol and the time opcodes (R317 to R325). -/

namespace Sys2Proof.Machine

/-! ## Announce, Sync and Follow_Up -/

/-- PTP_ANNOUNCE (R317). -/
def State.announce (s : State) (port : Nat) (a : Announce) : State :=
  let old := s.ptp.masters.find? (fun f => f.port == port && f.a.src == a.src)
  let f : Foreign := { port := port, a := a, times := s.now :: ((old.map (·.times)).getD []).take 3 }
  let s1 : State := { s with ptp := { s.ptp with masters := f :: s.ptp.masters.filter (fun g => !f.same g) } }
  s1.selectMaster

def execPtpAnnounce (t port : Nat) (a : Announce) (s : State) : Host.Outcome State Fault Refusal :=
  .next (s.commandIf t (fun s => s.ptpOn port a.domain) (fun s => s.announce port a))

/-- A message comes from the selected master on the slave port. -/
def State.fromMaster (s : State) (port : Nat) (m : PtpMsg) : Bool :=
  s.ptpOn port m.domain && (match s.ptp.sel with
    | none => false
    | some f => f.port == port && f.a.src == m.src)

/-- PTP_SYNC (R317, R319): the arrival at the pads less its correction and the asymmetry of the link. -/
def State.syncIn (s : State) (port : Nat) (m : PtpMsg) : State :=
  { s with ptp := { s.ptp with sync := some (port, m.src, m.seq, t16 s.stamp - m.corr - s.asym port) } }

def execPtpSync (t port : Nat) (m : PtpMsg) (s : State) : Host.Outcome State Fault Refusal :=
  .next (s.commandIf t (fun s => s.fromMaster port m) (fun s => s.syncIn port m))

/-- The path delay in force: of the link under profile 2, else of the path. -/
def State.pathDelay (s : State) (port : Nat) : Int :=
  if s.get F.TIM_CFG_PROFILE = 2 then nth 0 s.ptp.linkDelay (port - 1) else s.ptp.delay

/-- PTP_FOLLOW_UP (R322, R324): an offset from the master. -/
def State.followUp (s : State) (port : Nat) (m : PtpMsg) : State :=
  match s.ptp.sync with
  | none => s
  | some (p, src, seq, arr) =>
    if p ≠ port ∨ src ≠ m.src ∨ seq ≠ m.seq then s
    else
      let org := t16 m.stamp + m.corr
      let s1 : State := { s with ptp := { s.ptp with sync := none, pair := some (arr, org) } }
      s1.offset (arr - org - s.pathDelay port)

def execPtpFollowUp (t port : Nat) (m : PtpMsg) (s : State) : Host.Outcome State Fault Refusal :=
  .next (s.commandIf t (fun s => s.fromMaster port m) (fun s => s.followUp port m))

/-! ## Delay mechanisms -/

/-- PTP_DELAY_REQ_SEND: the slave port's Delay_Req, or under profile 2 a port's Pdelay_Req; its timestamp enters the port's queue. Profile 0
needs the module's IPv4 address (R316). -/
def State.delayReq (s : State) (port : Nat) : State :=
  if s.get F.TIM_CFG_PROFILE = 2 then
    let n := nth 0 s.ptp.pseq (port - 1)
    let s1 : State := { s with ptp := { s.ptp with
      pseq := modNth s.ptp.pseq (port - 1) (fun x => (x + 1) % 65536), preq := modNth s.ptp.preq (port - 1) (fun _ => some (n, none)) } }
    (s1.emit (.eth port 0x88F7 (s.ptpBytes port 2 n (-s.asym port) (List.replicate 20 0)))).txStamp port 2 n
  else if s.ptpRole port ≠ .slave || (s.get F.TIM_CFG_PROFILE == 0 && s.get F.TIM_IP4 == 0) then s
  else
    let n := s.ptp.dseq
    let s1 : State := { s with ptp := { s.ptp with dseq := (n + 1) % 65536, dreq := some (n, none) } }
    let b := s.ptpBytes port 1 n (-s.asym port) (List.replicate 10 0)
    (s1.emit (if s.get F.TIM_CFG_PROFILE = 0 then .eth port 0x0800 (s.ptpUdp b) else .eth port 0x88F7 b)).txStamp port 1 n

def execPtpDelayReqSend (t port : Nat) (s : State) : Host.Outcome State Fault Refusal :=
  .next (s.commandIf t (fun s => s.ptpOn port (s.get F.TIM_CFG_DOMAIN) && s.flag (F.TIM_ETH_LINK.ix (port - 1)))
    (fun s => s.delayReq port))

/-- PTP_DELAY_RESP: a path delay sample from the last pair, the request's transmit time and its arrival at the master. -/
def State.delayResp (s : State) (m : PtpMsg) : State :=
  match s.ptp.dreq, s.ptp.pair with
  | some (n, some t3), some (arr, org) =>
    if n ≠ m.seq then s
    else { s with ptp := { s.ptp with dreq := none, delay := ((arr - org) + (t16 m.stamp - t3) - m.corr).fdiv 2 } }
  | _, _ => s

def execPtpDelayResp (t port : Nat) (m : PtpMsg) (s : State) : Host.Outcome State Fault Refusal :=
  .next (s.commandIf t (fun s => s.fromMaster port m && s.get F.TIM_CFG_PROFILE != 2) (fun s => s.delayResp m))

/-- PTP_PDELAY_REQ: answered with Pdelay_Resp; its Pdelay_Resp_Follow_Up follows the timestamp. -/
def State.pdelayReq (s : State) (port : Nat) (m : PtpMsg) : State :=
  let s1 : State := { s with ptp := { s.ptp with
    presp := modNth s.ptp.presp (port - 1) (fun l => (m.seq, m.src, m.corr) :: l.take 15) } }
  (s1.emit (.eth port 0x88F7 (s.ptpBytes port 3 m.seq 0 (stampBytes s.stamp ++ beBytes 10 m.src)))).txStamp port 3 m.seq

def execPtpPdelayReq (t port : Nat) (m : PtpMsg) (s : State) : Host.Outcome State Fault Refusal :=
  .next (s.commandIf t (fun s => s.ptpOn port m.domain && s.get F.TIM_CFG_PROFILE == 2) (fun s => s.pdelayReq port m))

/-- PTP_PDELAY_RESP: the response with its arrival and its follow-up give the link delay. -/
def State.pdelayResp (s : State) (port : Nat) (m f : PtpMsg) : State :=
  match nth none s.ptp.preq (port - 1) with
  | some (n, some t1) =>
    if n ≠ m.seq ∨ f.seq ≠ m.seq ∨ f.src ≠ m.src then s
    else
      let d := ((t16 s.stamp - t1) - (t16 f.stamp - t16 m.stamp) - (m.corr + s.asym port) - f.corr).fdiv 2
      { s with ptp := { s.ptp with preq := modNth s.ptp.preq (port - 1) (fun _ => none),
                                   linkDelay := modNth s.ptp.linkDelay (port - 1) (fun _ => d) } }
  | _ => s

def execPtpPdelayResp (t port : Nat) (m f : PtpMsg) (s : State) : Host.Outcome State Fault Refusal :=
  .next (s.commandIf t (fun s => s.ptpOn port m.domain && s.get F.TIM_CFG_PROFILE == 2) (fun s => s.pdelayResp port m f))

/-- TX_TIMESTAMP_DRAIN (R321): the stack takes the oldest timestamp of a port and goes on with the exchange it belongs to. -/
def State.txDrain (s : State) (port : Nat) : State :=
  match nth [] s.eth.tsq (port - 1) with
  | [] => s
  | (seq, typ, sc, ns) :: _ =>
    let s1 : State := { s with eth := { s.eth with tsq := modNth s.eth.tsq (port - 1) (fun l => l.drop 1) } }
    let x := t16 (sc * sec + ns)
    if typ = 1 then
      { s1 with ptp := { s1.ptp with dreq := s1.ptp.dreq.map (fun d => if d.1 = seq then (d.1, some x) else d) } }
    else if typ = 2 then
      { s1 with ptp := { s1.ptp with
        preq := modNth s1.ptp.preq (port - 1) (fun o => o.map (fun d => if d.1 = seq then (d.1, some x) else d)) } }
    else
      match (nth [] s1.ptp.presp (port - 1)).find? (fun r => r.1 == seq) with
      | none => s1
      | some (_, src, corr) =>
        let s2 : State := { s1 with ptp := { s1.ptp with
          presp := modNth s1.ptp.presp (port - 1) (fun l => l.filter (fun r => r.1 != seq)) } }
        s2.emit (.eth port 0x88F7 (s.ptpBytes port 10 seq corr (stampBytes (sc * sec + ns) ++ beBytes 10 src)))

def execTxTimestampDrain (t port : Nat) (s : State) : Host.Outcome State Fault Refusal :=
  .next (s.commandIf t (fun s => s.ethOn port) (fun s => s.txDrain port))

/-! ## Losses -/

/-- PTP_SYNC_TIMEOUT (R323): no valid pair for 3 s. -/
def execPtpSyncTimeout (t : Nat) (s : State) : Host.Outcome State Fault Refusal :=
  .next (s.commandIf t (fun s => s.inService && (s.get F.TIM_STAT_STATE == 1 || s.get F.TIM_STAT_STATE == 2)
    && decide (s.ptp.pairAt + 3 * sec ≤ s.now)) State.holdover)

/-- PTP_MASTER_LOST (R323): no Announce of the selected master for three announce intervals; another master that is announced takes its
place, otherwise HOLDOVER. -/
def State.masterLost (s : State) : State :=
  match s.ptp.sel with
  | none => s
  | some f =>
    if f.times.headD 0 + 3 * f.a.every ≤ s.now then
      let s1 : State := { s with ptp := { s.ptp with masters := s.ptp.masters.filter (fun g => !f.same g) } }
      let s2 := s1.selectMaster
      if s2.ptp.sel.isNone then s2.holdover else s2
    else s

def execPtpMasterLost (t : Nat) (s : State) : Host.Outcome State Fault Refusal :=
  .next (s.commandIf t (fun s => s.inService) State.masterLost)

/-! ## Opcodes (R308, R322, Table 14.16) -/

def execTimeGet (t : Nat) (r : Req) (s : State) : Host.Outcome State Fault Refusal :=
  .next (s.hostCommand t 0x0D01 r (Fmt.fixed 0 []) (fun _ s =>
    let st := s.get F.TIM_STAT_STATE
    (s, .ok (leBytes 6 s.quartzSec ++ [0, 0] ++ leBytes 4 s.quartzNano
      ++ leBytes 1 (bitsOf [s.flag F.TIM_STAT_VALID, st == 2, st == 3, s.flag F.TIM_STAT_JUMP_REFUSED]) ++ [0, 0, 0]))))

def execTimeStep (t : Nat) (r : Req) (s : State) : Host.Outcome State Fault Refusal :=
  .next (s.hostCommand t 0x0D02 r (Fmt.fixed 12 [6, 7]) (fun _ s =>
    let ns := uAt r.payload 8 4
    if 1000000000 ≤ ns then (s, .err stBadParam 0 8)
    else if s.flag F.TIM_STAT_STEPPED || s.get F.TIM_STAT_STATE == 2 then (s, .refused 0x000B)
    else
      let x : Nat := uAt r.payload 0 6 * sec + ns
      let s1 : State := { s with ptp := { s.ptp with first := [], pair := none, sync := none }, time := { s.time with unal := false } }
      (s1.quartzStep ((x : Int) - s.quartzNs), .ok [])))

def execTimeStatus (t : Nat) (r : Req) (s : State) : Host.Outcome State Fault Refusal :=
  .next (s.hostCommand t 0x0D03 r (Fmt.fixed 0 []) (fun _ s =>
    let gm := match s.ptp.sel with
      | none => 0
      | some f => f.a.gm
    (s, .ok (leBytes 1 (s.get F.TIM_STAT_STATE) ++ leBytes 1 (s.get F.TIM_STAT_PORT) ++ leBytes 1 (s.get F.TIM_STAT_STEPPED) ++ [0]
      ++ leBytes 4 (s.get F.TIM_OFS_OFFSET) ++ leBytes 4 (s.get F.TIM_ADJ_RATE) ++ beBytes 8 gm
      ++ leBytes 2 (s.get F.TIM_STAT_JUMPS) ++ [0, 0]))))

/-- What a write or commit of TIM_CFG brings (Table 15.4, Table 15.5): PTP off; a change of profile, domain or TCEN applies at
once, so that masters of another domain are gone, and ends LOCKED in LOCKING. -/
def State.timCfgHook (s : State) (old : Word) : State :=
  let changed := decide ((old.toNat ^^^ (s.word 0xD0000).toNat) &&& 0xFF13 ≠ 0)
  if !s.flag F.TIM_CFG_PTPEN then
    let s1 : State := { s with ptp := { base := s.ptp.base } }
    (s1.set F.TIM_STAT_PORT 0).timState 0
  else if changed then
    let l := s.ptp.masters.filter (fun f => f.a.domain == s.get F.TIM_CFG_DOMAIN)
    let s1 := { s with ptp := { s.ptp with masters := l, sel := s.ptp.sel.filter (fun f => f.a.domain == s.get F.TIM_CFG_DOMAIN), sync := none } }.selectMaster
    if s.get F.TIM_STAT_STATE = 2 then
      { s1.timState 1 with ptp := { s1.ptp with holdNs := 0, holdAt := none, within := 0, beyond := 0 } }
    else s1
  else s

end Sys2Proof.Machine
end

