-- ==== Sys2Proof/Machine/RegAccess.lean ====
section
/-! DEFINITION. A register access as the register fabric carries it out (R11 to R15, R298 to R300, R423): the read with its side effects,
the checks of a write, and what a changed value brings. The configuration commit uses the same checks and consequences (R302). -/

namespace Sys2Proof.Machine

/-! ## Blocks held in reset (R423) -/

/-- The block of a register is out of reset: its domain is released and its port not under a port reset. Registers in AO and in the
safety block always answer. (DEDUCED: log entry 24) -/
def State.regUp (s : State) (a : Nat) : Bool :=
  match a / 65536 with
  | 0 | 1 | 10 => true
  | 5 => if a ≤ 0x50018 then s.domainGood 5 else if a ≤ 0x50040 then s.domainGood 6 else s.domainGood 2
  | 6 => s.domainGood 3
  | 7 => s.domainGood 4
  | 13 => if a ≤ 0xD0018 then s.domainGood 11 else if a = 0xD0028 then s.domainGood 9 else if a = 0xD002C then s.domainGood 10
          else s.domainGood 2
  | 14 => s.domainGood 2 && !s.portHeld 3
  | 15 => s.domainGood 2 && !s.portHeld 4
  | _ => s.domainGood 2

/-- What a read returns. -/
def State.readWord (s : State) (a : Nat) : Word := if s.regUp a then s.view a else resetWord a

/-! ## Reads with side effects (R11, R14, R335, R336) -/

/-- A read of RXSTAT of object `n`: NEW and LOST clear and the other words latch. -/
def State.rxLatch (s : State) (n : Nat) : State :=
  match assoc? n s.can.objs with
  | none => s
  | some o => { s with can := { s.can with objs := assocPut n { o with new := false, lost := false } s.can.objs,
                                           shadow := assocPut n o s.can.shadow } }

/-- What a read leaves behind: RC fields cleared, wide values latched, queue entries removed. -/
def State.readEffect (s : State) (a : Nat) : State :=
  if !s.regUp a then s
  else
    let s1 := match regDef? a with
      | none => s
      | some d => if d.rc = 0 then s else s.putWord a (s.word a &&& ~~~(BitVec.ofNat 32 d.rc))
    if a = 0x50014 then { s1 with cvi := { s1.cvi with q1Shadow := (s1.word 0x50018).toNat } }
    else if a = 0xD0010 then { s1 with time := { s1.time with secShadow := s1.quartzSec } }
    else if a = 0xE0020 then { s1 with can := { s1.can with errq := s1.can.errq.drop 1 } }
    else if a = 0xE0024 then { s1 with can := { s1.can with logq := s1.can.logq.drop 1 } }
    else if 0xE1000 ≤ a ∧ a < 0xE5000 ∧ (a - 0xE1000) % 128 = 0 then s1.rxLatch ((a - 0xE1000) / 128)
    else s1

/-- A read: the value and the state after it. -/
def State.readReg (s : State) (a : Nat) : State × Word := (s.readEffect a, s.readWord a)

/-! ## Values a register refuses (R15, R191, R327, R334, R347 and the field tables) -/

/-- The field of a register in a set of register values. -/
def fldOf (c : Nat → Nat) (f : Fld) : Nat := (c f.addr >>> f.lo) % 2 ^ f.w

/-- Identifiers of the 128 receive objects in a set of register values. -/
def rxids (c : Nat → Nat) : List Nat := (List.range 128).map (fun n => c (0xE0400 + 4 * n))

/-- A 7-bit I²C address that the bus reserves. -/
def iicReserved (x : Nat) : Bool := decide (x ≤ 7) || decide (0x78 ≤ x)

/-- A target or fallback code a host may name (R347). -/
def hostTarget (x : Nat) : Bool := x == 0 || (decide (8 ≤ x) && decide (x ≤ 11))

/-- Source numbers below 128 that no event uses; writes of their EVR_TGT have no effect (R348). -/
def namedSource (n : Nat) : Bool :=
  ([0, 1, 2, 8, 9, 10, 16, 17, 18, 19, 24, 25, 26, 32, 33, 34, 35, 36, 37, 40, 41, 48, 49, 50, 56, 57, 58, 59, 64, 65, 66, 67, 72, 73, 74]
    ++ [80, 81, 82, 83, 88, 89, 96, 97, 104, 105]).contains n || (decide (112 ≤ n) && decide (n ≤ 121))

/-- Whether the value of register `a` in a set of register values breaks a rule beyond the plain ranges of its fields. -/
def valueBad (c : Nat → Nat) (a : Nat) : Bool :=
  if a = 0x50030 then decide (fldOf c F.CVI_INS_THR_WARN ≤ fldOf c F.CVI_INS_THR_TRIP)
  else if a = 0x70018 then decide (fldOf c F.CTL_DLIM_DMAX ≤ fldOf c F.CTL_DLIM_DMIN)
  else if a = 0x8001C then
    decide (62500000 < fldOf c F.PRT_OCTHR_OCDIS * fldOf c F.CVI_SHUNT_RSH) || decide (62500000 < fldOf c F.PRT_OCTHR_OCCHG * fldOf c F.CVI_SHUNT_RSH)
  else if a = 0xD0000 then fldOf c F.TIM_CFG_PROFILE == 3
  else if a = 0xE0000 then fldOf c F.CAN_CFG_MODE == 3 && fldOf c F.CAN_CFG_ABDMASK == 0
  else if a = 0xE0004 ∨ a = 0xE0008 then !timingOk (BitVec.ofNat 32 (c 0xE0004)) (BitVec.ofNat 32 (c 0xE0008))
  else if 0xE0400 ≤ a ∧ a < 0xE0600 then rxidBad (rxids c)
  else if a = 0xF0000 then iicReserved (fldOf c F.IIC_CFG_TADDR) || fldOf c F.IIC_CFG_SPEED == 3
  else if a = 0xF0008 then iicReserved (fldOf c F.IIC_ATTN_HADDR)
  else if 0x20100 ≤ a ∧ a < 0x20400 then
    decide (128 ≤ (a - 0x20100) / 4) || (namedSource ((a - 0x20100) / 4) && (!hostTarget (c a % 16) || !hostTarget (c a / 16 % 16)))
  else false

/-- The reason for which the module's state forbids the change of register `a` from `old` to `new` (R105, R154, R302 and the chapters'
tables), the lowest where several hold; DT, DMIN, DMAX, the overcurrent
thresholds and RSH are refused whatever value is written (Tables 7.8, 8.10, 4.5). (DEDUCED: log entry 23; DEDUCED: log entry 30) -/
def State.changeRefused (s : State) (a old new : Nat) : Option Nat :=
  let was := fun (f : Fld) => (old >>> f.lo) % 2 ^ f.w
  let is := fun (f : Fld) => (new >>> f.lo) % 2 ^ f.w
  if (a = 0x70014 ∨ a = 0x70018 ∨ a = 0x8001C) ∧ !s.loopStopped then some 0x0003
  else if a = 0x50004 ∧ !s.convOff then some 0x0003
  else if old = new then none
  else if a = 0x30000 then if was F.RING_CTRL_RATE ≠ is F.RING_CTRL_RATE ∧ is F.RING_CTRL_RATE ≠ 0 ∧ s.sweeping then some 0x000F else none
  else if a = 0x50000 then
    if was F.CVI_SH_CFG_FORCE = is F.CVI_SH_CFG_FORCE then none
    else firstReason [(!s.allOpen, 0x0002), (!s.convOff, 0x0003)]
  else none

/-- Writes of the register have no effect. (DEDUCED: log entry 23) -/
def deadReg (a : Nat) : Bool := decide (0x20100 ≤ a) && decide (a < 0x20300) && !namedSource ((a - 0x20100) / 4)

/-! ## What a changed value brings -/

/-- RING_CTRL.LEN changes (R81, R63): positions that leave the ring lose their mismatch; with LEN 0 the ring idles. -/
def State.lenHook (s : State) (old : Nat) : State :=
  let out := (List.range 40).filter (fun i => decide (s.len < i + 1) && s.segMis (i + 1))
  let s1 := out.foldl (fun (a : State) i => a.setSegMis (i + 1) false) s
  let s2 : State := { s1 with acq := { s1.acq with seg := s1.acq.seg.filter (fun p => decide (p.1 ≤ s.len)) } }
  if s.len = old then s else if s.len = 0 then (s2.cmdsLost.set F.RING_STAT_STATE 0).reach else s2.reach

/-- CVI_SH_CFG.FORCE changes (R105): a forced converter measures alone; with FORCE 0 both alternate again unless one has failed. -/
def State.forceHook (s : State) : State :=
  let f := s.get F.CVI_SH_CFG_FORCE
  let one := s.shFailed false || s.shFailed true
  let s1 : State := { s with cvi := { s.cvi with shorted := 0, handAt := min s.cvi.handAt (s.quartzNs - 5000) } }
  if f = 0 ∨ one then s1.setB F.CVI_SH_STAT_DRIFT one
  else (((s1.set F.CVI_SH_STAT_MEAS (f - 1)).setB F.CVI_SH_STAT_DRIFT true).setB F.CVI_SH_STAT_SWERR false).integrity

/-- PRT_HOSTLIM is entry 7 of the limit stack (Table 8.3). -/
def State.hostLimHook (s : State) : State :=
  let lim := fun (n : Nat) => if n = 0xFFFF then noLimit else ((n * 1000 : Nat) : Int)
  s.entry 7 (lim (s.get F.PRT_HOSTLIM_DIS)) (lim (s.get F.PRT_HOSTLIM_CHG))

/-- What the new value of register `a`, already stored, brings; `old` is the word before. -/
def State.writeHook (s : State) (a : Nat) (old : Word) : State :=
  let new := s.word a
  let changed := fun (f : Fld) => f.of old != f.of new
  if a = 0x30000 then
    let s1 := if changed F.RING_CTRL_LEN then s.lenHook (F.RING_CTRL_LEN.of old) else s
    if changed F.RING_CTRL_RATE then s1.acqBroadcast else s1
  else if a = 0x40000 then if old = new then s else s.acqBroadcast
  else if a = 0x40020 then
    if changed F.ACQ_BAL_CFG_SRC || (changed F.ACQ_BAL_CFG_ENABLE && !s.flag F.ACQ_BAL_CFG_ENABLE) then s.balanceZero else s
  else if a = 0x50000 then if changed F.CVI_SH_CFG_FORCE then s.forceHook else s
  else if a = 0x5002C then s.insFollow
  else if a = 0x8000C then s.hostLimHook
  else if a = 0x90010 ∨ a = 0x90014 then if old = new then s else { s with thm := { s.thm with idx := [0, 0, 0, 0] } }
  else if a = 0xD0000 then s.timCfgHook old
  else if a = 0xE0000 ∨ a = 0xE0004 ∨ a = 0xE0008 then
    { s with can := { s.can with written := (if a = 0xE0004 then new else s.can.written.1, if a = 0xE0008 then new else s.can.written.2) } }.canRestart
  else if a = 0xF0000 then if s.flag F.IIC_CFG_EN then s else s.iicStop
  else if 0x20100 ≤ a ∧ a < 0x20300 then
    if changed { F.EVR_TGT_TGT with addr := a } then
      { s with evr := { s.evr with moved := s.evr.moved.filter (· ≠ (a - 0x20100) / 4) } }
    else s
  else s

/-! ## Write-only and write-1-to-clear bits -/

/-- The bits of a value that W1C clears: a WELD bit is kept while its feedback reads closed (R198). -/
def State.clearable (s : State) (a m : Nat) : Nat :=
  if a = 0x80038 then [0, 1, 2].foldl (fun x k => if s.fb k then setBit x (16 + k) false else x) m else m

/-- The W1C bits `m` of register `a` are written 1. -/
def State.clearBits (s : State) (a m : Nat) : State :=
  if a = 0x8002C then s.tripClear m
  else if 0x20400 ≤ a ∧ a < 0x20700 then
    if m = 0 then s else { s with evr := { s.evr with ovf := s.evr.ovf.filter (· ≠ (a - 0x20400) / 4) } }
  else if 0x100100 ≤ a ∧ a < 0x1001C0 then
    if m = 0 then s else { s with til := { s.til with full := s.til.full.filter (· ≠ (a - 0x100100) / 4) } }
  else
    let s1 := s.putWord a (s.word a &&& ~~~(BitVec.ofNat 32 (s.clearable a m)))
    if a = 0x10000 then if (s1.word a).toNat % 1024 = 0 then s1.set F.RST_CAUSE_FIRST 0 else s1
    else if a = 0x30004 then s1.integrity
    else s1

/-- The write-only bits of register `a` in the value `v`. -/
def State.strobeBits (s : State) (a v : Nat) : State :=
  if a = 0x30000 then if v.testBit 24 && s.convOff then s.ringStart false else s
  else if a = 0x40028 then if v.testBit 19 then s.owStart 2 (s.get F.ACQ_OW_CFG_NODE) else s
  else if a = 0xC0008 then
    if v.testBit 28 && s.role == 2 && s.flag F.BAY_POS_DISP then { s with bay := { s.bay with handover := true } } else s
  else if a = 0xE0014 then if v.testBit 0 then s.canRecover else s
  else if a = 0xE002C then s.txgo v
  else s

/-- CTL_CTRL.RUN is written (R176, R177). -/
def State.runWrite (s : State) (was : Bool) (run : Bool) : State :=
  if run && !was then (if s.loopStopped then s else s.loopStop).loopStart
  else if !run && was then { s with ctl := { s.ctl with stopReq := true } }
  else s

/-! ## The write -/

/-- Why a write is refused: status, reason, and whether the address (rather than the value) is at fault. -/
structure WriteErr where
  status : Nat
  reason : Nat
  atAddr : Bool
  deriving DecidableEq, Repr

/-- The register is one a write can act on: mapped, aligned, outside the safety block, with RW, W1C or WO bits (R15). (DEDUCED: log entry 23) -/
def writable (a : Nat) : Option RegDef :=
  if a % 4 ≠ 0 ∨ a / 65536 = 10 ∨ a = 0x10020 then none
  else match regDef? a with
    | none => none
    | some d => if d.rw = 0 && d.w1c = 0 && d.wo = 0 then none else some d

/-- The checks of a write of the value `v` to register `a`. (DEDUCED: log entry 23) -/
def State.writeErr (s : State) (a v : Nat) : Option WriteErr :=
  match writable a with
  | none => some ⟨stBadParam, 0, true⟩
  | some d =>
    if !s.regUp a then some ⟨stRefused, 0, true⟩
    else
      let old := (s.word a).toNat
      let new := (old &&& (4294967295 - d.rw)) ||| (v &&& d.rw)
      let c := fun (x : Nat) => if x = a then new else (s.word x).toNat
      if d.rw ≠ 0 ∧ !deadReg a ∧ (!d.inRange new || valueBad c a) then some ⟨stBadParam, 0, false⟩
      else match s.changeRefused a old new with
        | some r => some ⟨stRefused, r, false⟩
        | none =>
          if a = 0x70000 ∧ v.testBit 0 ∧ !s.flag F.CTL_CTRL_RUN then
            match s.startRefused with
            | some r => some ⟨stRefused, r, false⟩
            | none => none
          else if a = 0xE002C then
            match s.txgoRefused (v % 128) with
            | some (st, r) => some ⟨st, r, false⟩
            | none => none
          else none

/-- The write itself: RW bits stored, W1C bits cleared, write-only bits acted on, and what the new value brings. -/
def State.writeDo (s : State) (a v : Nat) : State :=
  match writable a with
  | none => s
  | some d =>
    if deadReg a then s
    else
      let old := s.word a
      let new := BitVec.ofNat 32 ((old.toNat &&& (4294967295 - d.rw)) ||| (v &&& d.rw))
      let s1 := if d.rw = 0 then s else (s.putWord a new).writeHook a old
      let s2 := if d.w1c = 0 then s1 else s1.clearBits a (v &&& d.w1c)
      let s3 := s2.strobeBits a v
      if a = 0x70000 then s3.runWrite (old.toNat.testBit 0) (v.testBit 0) else s3

/-- A write with its checks. -/
def State.writeReg (s : State) (a v : Nat) : State × Option WriteErr :=
  match s.writeErr a v with
  | some e => (s, some e)
  | none => (s.writeDo a v, none)

end Sys2Proof.Machine
end

