-- ==== Sys2Proof/Machine/CfgOps.lean ====
section
/-! DEFINITION. Configuration items: which registers hold them, the walk of a CFG_WRITE, the merged set and its checks (R61, R76, R119, R191,
R301, R302, R422). -/

namespace Sys2Proof.Machine

/-! ## Registers as configuration items (R422) -/

/-- The bits of a register that persist: its RW bits but the live-only ones, with EVR_TGT of firmware sources left out (R347). -/
def cfgMask (a : Nat) : Nat :=
  if a % 4 ≠ 0 ∨ (0x20300 ≤ a ∧ a < 0x20400) then 0
  else match regDef? a with
    | none => 0
    | some d => d.rw &&& (4294967295 - d.live)

/-- The bits of a staged value that must read 0: live-only, WO, W1C and RC. -/
def liveMask (a : Nat) : Nat :=
  match regDef? a with
  | none => 0
  | some d => d.live ||| d.wo ||| d.w1c ||| d.rc

/-- The live word of a register with the persisting bits of `v`. -/
def State.cfgWord (s : State) (a : Nat) (v : Word) : Word :=
  let m := BitVec.ofNat 32 (cfgMask a)
  (s.word a &&& ~~~m) ||| (v &&& m)

/-- The registers that are configuration items, ascending. -/
def cfgRegs : List Nat :=
  (regBlocks.flatten.flatMap (fun d => if d.rw = 0 then [] else (List.range d.count).map (fun i => d.base + d.stride * i))).filter
    (fun a => cfgMask a ≠ 0)

/-- The persisting bits of a register's reset word. -/
def cfgReset (a : Nat) : Word := resetWord a &&& BitVec.ofNat 32 (cfgMask a)

/-! ## CFG_WRITE (R301) -/

/-- An item of a payload: the offset of its ID, the ID and the data. -/
structure CfgItem where
  off : Nat
  id : Nat
  data : List Byte
  deriving DecidableEq, Repr

/-- Walk the items from offset `o`: at most `n` of them, or the refusal of the first that does not end within the payload. -/
def cfgWalk (p : List Byte) : Nat → Nat → HRes ⊕ List CfgItem
  | _, 0 => .inr []
  | o, n + 1 =>
    if p.length ≤ o then .inr []
    else if p.length < o + 8 then .inl (.err stBadLength 0 o)
    else
      let l := uAt p (o + 4) 2
      if p.length < o + 8 + l then .inl (.err stBadLength 0 o)
      else match badPad p [o + 6, o + 7] with
        | some i => .inl (.err stBadParam 0 i)
        | none => match cfgWalk p (o + 8 + l) n with
          | .inl e => .inl e
          | .inr t => .inr ({ off := o, id := uAt p o 4, data := slice p (o + 8) l } :: t)

/-- The items of a payload; none where the walk fails. -/
def cfgItems (p : List Byte) : List CfgItem :=
  match cfgWalk p 0 176 with
  | .inl _ => []
  | .inr l => l

/-- The format of a CFG_WRITE: one or more items, 1,400 bytes at most. -/
def cfgFmt : Fmt :=
  { len := fun p => !p.isEmpty && decide (p.length ≤ 1400),
    walk := fun p => match cfgWalk p 0 176 with
      | .inl e => some e
      | .inr _ => none }

/-- The item names a key slot. -/
def CfgItem.isKey (x : CfgItem) : Bool := decide (0xFF000000 ≤ x.id) && decide (x.id ≤ 0xFF000003)

/-- Registers whose rule spans other registers; it is checked on the merged set. -/
def crossRule (a : Nat) : Bool := a == 0x8001C || a == 0xE0004 || a == 0xE0008 || (decide (0xE0400 ≤ a) && decide (a < 0xE0600))

/-- The value of an item breaks its register's own rules. -/
def itemBad (x : CfgItem) : Bool :=
  if x.isKey then x.data.length != 0 && x.data.length != 32
  else if 0x01000000 ≤ x.id then true
  else
    let m := cfgMask x.id
    let v := ofLe x.data
    m == 0 || x.data.length != 4 || v &&& liveMask x.id != 0
      || (match regDef? x.id with
        | none => true
        | some d => !deadReg x.id && !d.inRange (v &&& m))
      || (!deadReg x.id && !crossRule x.id && valueBad (fun a => if a = x.id then v &&& m else (resetWord a).toNat) x.id)

/-- Items enter the staged set. (DEDUCED: log entry 28) -/
def State.stage (s : State) (l : List CfgItem) : State :=
  l.foldl (fun (a : State) x =>
    if x.isKey then { a with cfg := { a.cfg with keys := assocPut (x.id - 0xFF000000) x.data a.cfg.keys } }
    else { a with cfg := { a.cfg with staged := assocPut x.id (BitVec.ofNat 32 (ofLe x.data &&& cfgMask x.id)) a.cfg.staged } }) s

/-! ## CFG_READ (R302) -/

/-- The bytes of an item. -/
def itemBytes (id : Nat) (data : List Byte) : List Byte := leBytes 4 id ++ leBytes 2 data.length ++ [0, 0] ++ data

/-- Every item of the committed configuration, ascending; keys read as zeros. -/
def State.committedItems (s : State) : List (List Byte) :=
  cfgRegs.map (fun a => itemBytes a (leBytes 4 ((assoc? a s.flash.items).getD (cfgReset a)).toNat))
    ++ s.flash.keys.map (fun k => itemBytes (0xFF000000 + k.1) (List.replicate k.2.length 0))

/-- Every staged item. -/
def State.stagedItems (s : State) : List (List Byte) :=
  s.cfg.staged.map (fun x => itemBytes x.1 (leBytes 4 x.2.toNat))
    ++ s.cfg.keys.map (fun k => itemBytes (0xFF000000 + k.1) (List.replicate k.2.length 0))

/-- The whole items that fit in `room` bytes. -/
def fitting : Nat → List (List Byte) → List (List Byte)
  | _, [] => []
  | room, x :: t => if room < x.length then [] else x :: fitting (room - x.length) t

/-! ## The merged set and its checks (R302) -/

/-- Entries of `b` over those of `a`. -/
def mergeItems {α : Type} (a b : List (Nat × α)) : List (Nat × α) := b.foldl (fun l x => assocPut x.1 x.2 l) a

/-- The register items of the merged set; a source that never becomes pending keeps its reset word (R348). -/
def State.mergedItems (s : State) : List (Nat × Word) := (mergeItems s.flash.items s.cfg.staged).filter (fun x => !deadReg x.1)

/-- The tables of the merged set. -/
def State.mergedTables (s : State) : List (Nat × List Byte) := mergeItems s.flash.tables s.cfg.tables

/-- A register's persisting bits in the merged set. -/
def State.merged (s : State) (a : Nat) : Nat := ((assoc? a s.mergedItems).getD (cfgReset a)).toNat

/-- The profile that is selected after the commit. -/
def State.mergedProfile (s : State) : Nat :=
  match assoc? 0x60000 s.mergedItems with
  | none => s.get F.EST_CFG_PROFILE
  | some v => F.EST_CFG_PROFILE.of v

/-- The scan period of a RATE code in ns (Table 2.16). -/
def rateNs (code : Nat) : Nat := match code with | 0 => msec | 1 => 2 * msec | 2 => 10 * msec | _ => 100 * msec

/-- The scan budget of R61 and R76 in a set of register values. -/
def scanFits (c : Nat → Nat) : Bool :=
  let w := if fldOf c F.ACQ_CFG_WIN = 0 then 256 else fldOf c F.ACQ_CFG_WIN
  let n := fldOf c F.RING_CTRL_LEN
  let p := rateNs (fldOf c F.RING_CTRL_RATE)
  decide (w * 2500 + 10000 + 2 * n * 125 + n * 15500 + 30000 + 2000 ≤ p)
    && decide (w * 5000 + fldOf c F.ACQ_CFG_QLEAD * 1000 + 100000 ≤ p)

/-- The order of R191 in a set of register values, for the selected profile of a set of tables. -/
def limitOrder (c : Nat → Nat) (tables : List (Nat × List Byte)) (prof : Nat) : Bool :=
  let vhmin := fldOf c F.PRT_VHARD_VHMIN
  let vmin := fldOf c F.PRT_VCELL_VMIN
  let vmax := fldOf c F.PRT_VCELL_VMAX
  let vhmax := fldOf c F.PRT_VHARD_VHMAX
  let mid := match assoc? (256 * prof + 1) tables with
    | some h => if profileComplete tables prof then decide (vmin * 100 ≤ uAt h 40 4) && decide (uAt h 36 4 ≤ vmax * 100) else decide (vmin < vmax)
    | none => decide (vmin < vmax)
  decide (vhmin < vmin) && mid && decide (vmax < vhmax)

/-- A cell group maps to a thermistor channel outside THMASK (R78). -/
def mapBad (c : Nat → Nat) : Bool :=
  (List.range 16).any (fun j => !(fldOf c F.ACQ_CFG_THMASK).testBit (c (if j < 8 then 0x40004 else 0x40008) >>> (3 * (j % 8)) % 8))

/-- A cold start is not below the hot start of its direction (R211). -/
def startsBad (c : Nat → Nat) : Bool :=
  let v := fun (f : Fld) => ofCode f.w (fldOf c f)
  decide (v F.THM_HOT_DSTART ≤ v F.THM_COLD_DSTART) || decide (v F.THM_HOT_CSTART ≤ v F.THM_COLD_CSTART)

/-- The word a register holds after the commit: the merged item, else the live word. -/
def State.after (s : State) (a : Nat) : Nat := ((assoc? a s.mergedItems).getD (s.word a)).toNat

/-- The commit completes or selects a complete profile (R191). -/
def State.completes (s : State) : Bool :=
  let prof := s.mergedProfile
  profileComplete s.mergedTables prof && !(prof == s.get F.EST_CFG_PROFILE && profileComplete s.flash.tables prof)

/-- The merged set breaks a rule that is answered BAD_PARAM. (DEDUCED: log entry 27) -/
def State.mergedBad (s : State) : Bool :=
  let c := s.merged
  let prof := s.mergedProfile
  !scanFits c || !limitOrder c s.mergedTables prof || (s.completes && !limitOrder s.after s.mergedTables prof) || mapBad c || startsBad c
    || (prof != s.get F.EST_CFG_PROFILE && !profileComplete s.mergedTables prof)
    || valueBad c 0x8001C || s.mergedItems.any (fun x => valueBad c x.1 || (match regDef? x.1 with
      | none => false
      | some d => !d.inRange x.2.toNat))

/-- The reasons for which the present state forbids the commit; the lowest counts (R298). (DEDUCED: log entry 27; DEDUCED: log entry 30) -/
def State.mergedRefused (s : State) : Option Nat :=
  let prof := s.get F.EST_CFG_PROFILE
  let tables := s.cfg.tables.any (fun x => x.1 / 256 == prof && assoc? x.1 s.flash.tables != some x.2)
  let per := s.mergedItems.filterMap (fun x =>
    let new := s.cfgWord x.1 x.2
    if new = s.word x.1 then none else if !s.regUp x.1 then some 0 else s.changeRefused x.1 (s.word x.1).toNat new.toNat)
  let all := (if (tables || s.mergedProfile != prof) && !s.allOpen then [0x0002] else []) ++ per
  match all with
  | [] => none
  | a :: t => some (t.foldl min a)

/-! ## The commit (R302) -/

/-- One register of the merged set becomes live. -/
def State.cfgApply (s : State) (x : Nat × Word) : State :=
  let old := s.word x.1
  let new := s.cfgWord x.1 x.2
  if new = old then s else (s.putWord x.1 new).writeHook x.1 old

/-- Keys of the merged set: a cleared slot holds none. -/
def State.mergedKeys (s : State) : List (Nat × List Byte) := (mergeItems s.flash.keys s.cfg.keys).filter (fun k => !k.2.isEmpty)

/-- The sessions of slots whose key the commit changes close once their replies have been sent (R282). (DEDUCED: log entry 20) -/
def State.keySessions (s : State) : List Nat :=
  (List.range 8).filter (fun n =>
    let x := nth {} s.host.sess n
    x.st != .free && assoc? x.slot s.flash.keys != assoc? x.slot s.mergedKeys && !s.host.closing.any (fun c => c.1 == n))

/-- The provisioning state follows slot 3; its contexts are discarded when it ends (R279). (DEDUCED: log entry 29) -/
def State.provFollow (s : State) : State :=
  if (assoc? 3 s.flash.keys).isSome then
    { s.setB F.GLB_SESS_PROV false with host := { s.host with
        prov := List.replicate 8 {}, sess := s.host.sess.map (fun (x : Session) => { x with cmdq := x.cmdq.filter (fun q => !q.prov) }) } }
  else s.setB F.GLB_SESS_PROV true

/-- The merged set is stored and every value of it applied; the staged set is empty again. (DEDUCED: log entry 27) -/
def State.commit (s : State) (id : ReqId) : State :=
  let items := s.mergedItems
  let s1 : State := { s with
    flash := { s.flash with items := items, keys := s.mergedKeys, tables := s.mergedTables, coefs := mergeItems s.flash.coefs s.cfg.coefs,
                            bayMap := s.cfg.bayMap.getD s.flash.bayMap }.cfgWritten,
    host := { s.host with closing := s.host.closing ++ s.keySessions.map (fun n => (n, id)) },
    cfg := { asmT := s.cfg.asmT, asmC := s.cfg.asmC } }
  let s2 := items.foldl State.cfgApply s1
  let s3 := match s.cfg.bayMap with
    | some m => s2.mapPut m
    | none => s2
  s3.provFollow

/-- A firmware fault enters the trace queue where tracing runs and MASK has the bit of its source (R286, R309); its source, code and arguments
are not stated, and neither is which bit selects which source. (DESIGN CHOICE: log entry 25) -/
def State.traceFault (s : State) : State :=
  let e := leBytes 12 (s.open_ 96).toNat
  let on := s.host.traceMask.any (fun m => m.testBit (uAt e 0 2 % 32))
  let full := decide (256 ≤ s.host.trace.length)
  let s1 : State := { s.drew with host := { s.host with trace :=
    if on then (if full then s.host.trace.drop 1 else s.host.trace) ++ [leBytes 4 s.opsec ++ e] else s.host.trace } }
  if full && on then s1.qLost 47 else s1

/-- Every staged item, table and record is dropped. -/
def State.dropStaged (s : State) : State := { s with cfg := { asmT := s.cfg.asmT, asmC := s.cfg.asmC } }

end Sys2Proof.Machine
end

