-- ==== Sys2Proof/Machine/Learn.lean ====
section
/-! DEFINITION. Capacity learning jobs and online impedance: the learning phases, the points of a sweep, their fit and what
follows from it (R145 to R159). -/

namespace Sys2Proof.Machine

/-! ## The learning job (R145 to R147) -/

/-- The string is connected and the converter runs. -/
def State.carrying (s : State) : Bool := s.inRun && s.get F.PRT_CONTSTAT_CONN == 4 && s.get F.CTL_STAT_STATE == 2

/-- The least of a figure over the initialised groups, in 0.01 C. -/
def State.leastCharge (s : State) (f : Cell → F32) : Nat :=
  (clip 0 4294967295 (F32.toI (minF (((s.groups.map s.cell).filter (·.init)).map f)) 100)).toNat

/-- The string's Q_dis and Q_chg of R122, in 0.01 C. -/
def State.chargeDis (s : State) : Nat := s.leastCharge (fun c => (s.groupCharge c).1)
def State.chargeRoom (s : State) : Nat := s.leastCharge (fun c => (s.groupCharge c).2)

/-- A phase of the job begins: its set-point, its start and what its progress is measured against (Table 6.3). -/
def State.lrnPhase (s : State) (n : Nat) : State :=
  let setp := match n with
    | 1 | 5 => -s.lrnCharge
    | 3 => s.cRate s.lrn.rate
    | _ => 0
  let ref := match n with
    | 1 => s.chargeRoom
    | 3 => s.leastCharge (fun c => F32.mul c.soc c.capC)
    | 5 => (s.lrn.target - s.get F.EST_STR_SOC_USOC) * (s.chargeDis + s.chargeRoom) / 10000
    | _ => 0
  { s.set F.EST_LRN_STAT_PHASE n with lrn := { s.lrn with phaseAt := s.now, phaseQ := s.cvi.qS, phaseRef := ref, setp := setp } }

def execLearnStart (t : Nat) (r : Req) (s : State) : Host.Outcome State Fault Refusal :=
  .next (s.hostCommand t 0x0503 r (Fmt.fixed 6 []) (fun id s =>
    let rate := uAt r.payload 0 2
    let chg := uAt r.payload 2 2
    let tgt := uAt r.payload 4 2
    if !s.carrying then (s, .refused 0)
    else if s.groups.any (fun g => decide (s.tGroup g < 1500) || decide (3500 < s.tGroup g)) then (s, .refused 0)
    else if s.lrn.job.isSome || s.sweeping then (s, .no stBusy 0x000F)
    else if rate < 50 ∨ 200 < rate then (s, .err stBadParam 0 0)
    else if chg < 50 ∨ 500 < chg then (s, .err stBadParam 0 2)
    else if 10000 < tgt ∧ tgt ≠ 65535 then (s, .err stBadParam 0 4)
    else if !s.jobRoom then (s, .no stBusy 0)
    else
      let (s1, j) := s.jobStart 0x0503 id.session 0 10000
      ({ s1 with lrn := { s1.lrn with job := some j, rate := rate, chgRate := chg, target := tgt } }.lrnPhase 1, .job j)))

/-- The highest V_g and a group that has it. -/
def State.highest (s : State) : Option (Nat × Nat) :=
  s.groups.foldl (fun b g => match b with
    | none => some (s.cellV g, g)
    | some x => if x.1 < s.cellV g then some (s.cellV g, g) else some x) none

/-- Whether the phase's end condition of Table 6.3 holds. -/
def State.lrnDone (s : State) : Bool :=
  let gs := s.groups.filter (fun g => (s.cell g).init)
  match s.get F.EST_LRN_STAT_PHASE with
  | 1 => (match s.highest with
    | some (_, g) => decide (10000 ≤ (s.cell g).eoct)
    | none => false)
  | 2 | 4 => gs.all (fun g => (s.cell g).restPt)
  | 3 => (match s.table? 1 with
    | some h => gs.any (fun g => decide (s.cellV g ≤ uAt h 24 4))
    | none => false)
  | 5 => decide (s.lrn.target ≤ s.get F.EST_STR_SOC_USOC)
  | _ => false

/-- The job ends well: the set-point source is restored. -/
def State.lrnEnd (s : State) : State :=
  match s.lrn.job with
  | none => s
  | some id => s.lrnOver.jobEnd id .done stOk []

/-- LEARN_PHASE_END: the next phase begins, or the job ends; RETURN is skipped with TARGET 0xFFFF. -/
def State.lrnNext (s : State) : State :=
  let n := s.get F.EST_LRN_STAT_PHASE
  if n = 5 ∨ (n = 4 ∧ s.lrn.target = 65535) then s.lrnEnd else s.lrnPhase (n + 1)

def execLearnPhaseEnd (t : Nat) (s : State) : Host.Outcome State Fault Refusal :=
  .next (s.commandIf t (fun s => s.lrn.job.isSome && s.lrnDone) State.lrnNext)

/-- The longest time of the present phase: 4 h at rest, else 24 h. -/
def State.lrnLimit (s : State) : Nat := (match s.get F.EST_LRN_STAT_PHASE with | 2 | 4 => 4 | _ => 24) * 3600 * sec

def execLearnPhaseTimeout (t : Nat) (s : State) : Host.Outcome State Fault Refusal :=
  .next (s.commandIf t (fun s => s.lrn.job.isSome && decide (s.lrn.phaseAt + s.lrnLimit < s.now)) (fun s => s.lrnFail 0))

/-- The job's progress in basis points (Table 6.3). -/
def State.lrnProgress (s : State) : Nat :=
  let moved := (s.cvi.qS - s.lrn.phaseQ).natAbs / 10000
  let part := fun (base span top : Nat) => if s.lrn.phaseRef = 0 then base else min top (base + span * moved / s.lrn.phaseRef)
  let relax := match s.prof? with
    | some p => (s.groups.map (fun g => (clip 0 65535 (F32.toI (p.trelax (p.tw (p.clampT (s.tGroup g)).1)) 1)).toNat)).foldl max 1
    | none => 1
  let rest := fun (base top : Nat) => min top (base + s.est.restMs / relax)
  match s.get F.EST_LRN_STAT_PHASE with
  | 1 => part 0 2000 1999
  | 2 => rest 2000 2999
  | 3 => part 3000 5500 8499
  | 4 => rest 8500 9499
  | 5 => part 9500 499 9999
  | _ => 0

/-! ## Starting a sweep (R153, R159) -/

/-- A sweep begins: results and frequencies are cleared. -/
def State.impBegin (s : State) (pts : List ImpPt) (ampl : Nat) (job : Option Nat) : State :=
  let s1 := { s with regs := s.regs.filter (fun (x : Nat × Word) => decide (x.1 < 0x64000) || decide (0x6E000 ≤ x.1)) }
  let s3 := (List.range 8).foldl (fun (a : State) k => a.set (F.EST_IMP_FREQ.ix k) 0) s1
  let s4 := ((s3.set F.EST_IMP_STAT_NPTS pts.length).set F.EST_IMP_STAT_POINT 0).set F.EST_IMP_STAT_STATE 0
  { s4 with imp := { s4.imp with pts := pts, ampl := ampl, job := job, k := 0, clips := 0, restarts := 0, clipped := false, on := false,
                                 armed := false, ready := false, stopping := false, iSer := [], vSer := [], stale := [],
                                 after := s.ring.lastS } }

/-- The points of a request. -/
def sweepPts (p : List Byte) : List ImpPt :=
  (List.range (uAt p 0 1)).map (fun i => { freq := uAt p (4 + 8 * i) 4, cycles := uAt p (8 + 8 * i) 2 })

def execImpedanceSweep (t : Nat) (r : Req) (s : State) : Host.Outcome State Fault Refusal :=
  .next (s.hostCommand t 0x0504 r
    { len := fun p => decide (4 ≤ p.length) && p.length == 4 + 8 * uAt p 0 1,
      pad := 1 :: ((List.range 255).flatMap (fun i => [10 + 8 * i, 11 + 8 * i])) } (fun id s =>
    let n := uAt r.payload 0 1
    let a := uAt r.payload 2 2
    let pts := sweepPts r.payload
    if !s.carrying || s.get F.RING_CTRL_RATE != 0 then (s, .refused 0)
    else if s.lrn.job.isSome || s.sweeping then (s, .no stBusy 0x000F)
    else if n = 0 ∨ 8 < n then (s, .err stBadParam 0 0)
    else if a < 1000 ∨ 20000 < a then (s, .err stBadParam 0 2)
    else match pts.findIdx? (fun p => !p.ok) with
      | some i => (s, .err stBadParam 0 (4 + 8 * i))
      | none =>
        if !s.jobRoom then (s, .no stBusy 0)
        else
          let (s1, j) := s.jobStart 0x0504 id.session 1 (65536 * n + (nth { freq := 0, cycles := 0 } pts 0).cycles)
          (s1.impBegin pts a (some j), .job j)))

/-- Position and total of a sweep's job (R153). -/
def State.impProgress (s : State) : Nat × Nat :=
  match s.impPt with
  | none => (65536 * s.imp.pts.length, 65536 * s.imp.pts.length)
  | some p =>
    let st := s.get F.EST_IMP_STAT_STATE
    let c := if s.imp.ready || st == 3 then p.cycles else if st = 2 ∧ p.len ≠ 0 then s.imp.iSer.length * p.cycles / p.len else 0
    (65536 * s.imp.k + c, 65536 * s.imp.pts.length + p.cycles)

/-- The most cycles R149 allows at a frequency, and the cycles of an automatic point (R159). -/
def autoCycles (freq : Nat) : Nat :=
  let fs := if 200000 < freq then 10000 else 1000
  let mx := if 200000 < freq then 4096 else 600000
  let most := ((2 * mx + 1) * freq - 1) / (2 * fs * 1000)
  min most (max 1 ((2 * freq + 999) / 1000))

/-- IMP_AUTO_SWEEP_DUE (R159): deferred while a host sweep runs (Table 6.6), else retried in 10 min where R153 refuses it. (DEDUCED: log entry 43) -/
def State.autoSweep (s : State) : State :=
  match s.impRef? with
  | none => s
  | some d =>
    if s.sweeping then s
    else if !s.carrying || s.get F.RING_CTRL_RATE != 0 || s.lrn.job.isSome then
      { s with imp := { s.imp with retryAt := s.opsec + 600 } }
    else
      let pts := [uAt d 0 4, uAt d 4 4].map (fun f => ({ freq := f, cycles := autoCycles f } : ImpPt))
      let s1 := (s.impBegin pts (10 * s.get F.EST_IMP_CFG_AMP) none).set F.EST_IMP_STAT_AUTO 1
      { s1 with imp := { s1.imp with autoAt := s.opsec } }

def execImpAutoSweepDue (t : Nat) (s : State) : Host.Outcome State Fault Refusal :=
  .next (s.commandIf t (fun s => s.inService && s.get F.EST_IMP_CFG_AUTOH != 0
    && decide (s.imp.autoAt + 3600 * s.get F.EST_IMP_CFG_AUTOH ≤ s.opsec) && decide (s.imp.retryAt ≤ s.opsec)) State.autoSweep)

/-! ## One point (R148 to R152) -/

/-- IMP_POINT_START at a strobe: the amplitude is fixed and the sinusoid starts; below 1 A the point is skipped. (DEDUCED: log entry 43) -/
def State.impStart (s : State) : State :=
  let a : Int := min (min s.imp.ampl (50 * s.get F.CTL_SPCFG_IRATED)) 20000
  let i0 := s.ctl.islew
  let apt := min a (min (s.getI F.PRT_LDIS - i0) (s.getI F.PRT_LCHG + i0))
  if apt < 1000 then (s.impAll s.imp.k 4).impNext
  else { s.set F.EST_IMP_STAT_STATE 1 with imp := { s.imp with apt := apt, on := true, onAt := s.ring.lastS, clipped := false } }

def execImpPointStart (t : Nat) (s : State) : Host.Outcome State Fault Refusal :=
  .next (s.commandIf t (fun s => s.sweeping && !s.imp.on && !s.imp.ready && s.get F.EST_IMP_STAT_STATE == 0
    && decide (s.imp.after < s.ring.lastS)) State.impStart)

/-- IMP_SETTLING_END: correlation counts from the strobe that ends settling; a burst point takes the samples since that strobe. -/
def State.impSettled (s : State) : State :=
  let s1 := { s.set F.EST_IMP_STAT_STATE 2 with
    imp := { s.imp with phaseAt := s.ring.lastS, iSer := [], vSer := [], stale := [] } }
  s1.cvi.hist.reverse.foldl State.burstSample s1

def execImpSettlingEnd (t : Nat) (s : State) : Host.Outcome State Fault Refusal :=
  .next (s.commandIf t (fun s => s.imp.on && s.get F.EST_IMP_STAT_STATE == 1 && s.impPt.any (fun p =>
      decide (s.imp.onAt + p.time p.settling ≤ s.ring.lastS))) State.impSettled)

/-- The upload frames of a burst point: every channel of every position in pieces of 128 samples (R53). -/
def State.uploads (s : State) (len : Nat) : State :=
  let piece := fun (p c i : Nat) (a : State) =>
    a.ringCmd p 0x30 (leBytes 1 c ++ leBytes 2 (128 * i) ++ leBytes 1 (min 128 (len - 128 * i))) 0 4 false
  let jobs := s.positions.flatMap (fun p => (List.range (s.cells p)).flatMap (fun c => (List.range ((len + 127) / 128)).map (fun i => (p, c, i))))
  jobs.foldl (fun a x => piece x.1 x.2.1 x.2.2 a) s

/-- IMP_CORRELATION_END: the sinusoid stops; a burst point uploads its samples. -/
def State.impCorrelated (s : State) (p : ImpPt) : State :=
  let s1 := { s with imp := { s.imp with on := false } }
  if p.burst then (s1.set F.EST_IMP_STAT_STATE 3).uploads p.len else { s1 with imp := { s1.imp with ready := true } }

def execImpCorrelationEnd (t : Nat) (s : State) : Host.Outcome State Fault Refusal :=
  .next (s.commandIf t (fun s => s.imp.on && s.get F.EST_IMP_STAT_STATE == 2
    && s.impPt.any (fun p => decide (p.len ≤ s.imp.iSer.length)
      && decide (s.imp.phaseAt + p.time p.cycles ≤ s.quartzNs))) (fun s => match s.impPt with
      | some p => s.impCorrelated p
      | none => s))

/-- Upload frames still to come. -/
def State.uploading (s : State) : Bool := s.ring.cmds.any (fun c => c.use == 4) || s.ring.inflight.any (fun c => c.use == 4)

def execImpUploadDone (t : Nat) (s : State) : Host.Outcome State Fault Refusal :=
  .next (s.commandIf t (fun s => s.get F.EST_IMP_STAT_STATE == 3 && !s.imp.ready && !s.uploading)
    (fun s => { s with imp := { s.imp with ready := true } }))

/-! ## The fit (R151, R152, R156, R158) -/

/-- The nearest integer to the square root of x, from ⌊4x⌋. -/
def sqrtQuarter (n : Nat) : Nat := (isqrt (Nat.log2 (n + 1) + 1) n 0 + 1) / 2

/-- Integer square root to the nearest. -/
def sqrtNear (n : Nat) : Nat := sqrtQuarter (4 * n)

/-- The series of a group, oldest first. -/
def State.impSeries (s : State) (p : ImpPt) (g : Nat) : List Int :=
  let ser := fun (x : Nat) => ((assoc? x s.imp.vSer).getD []).reverse
  let l := if p.burst && s.wireSuspect g then ((ser g).zip (ser (g + 1))).map (fun x => x.1 + x.2) else ser g
  l.map (fun (v : Nat) => (v : Int))

/-- The impedance of a group in µΩ, or its code (R151, R152), against the fit of the current in 2^−24 mA. -/
def State.impZ (s : State) (p : ImpPt) (basis : List (Int × Int)) (i : WaveFit) (g : Nat) : (Int × Int) ⊕ Nat :=
  let pair := s.wireSuspect g
  if s.imp.stale.contains g || (pair && s.imp.stale.contains (g + 1)) || (s.impSeries p g).length ≠ p.len then .inr 2
  else
    let v := waveFit basis p.cycles p.len (s.impSeries p g)
    if (v.a * v.a + v.b * v.b) * (p.len * p.len : Nat) < 200 * one64 * v.rss then .inr 1
    else
      -- Z = −X_v ÷ X_i with X = a − j b; 10 µV over 2^−24 mA is 2^24 × 10,000 µΩ
      let d := (i.a * i.a + i.b * i.b).toNat
      let re := -(v.a * i.a + v.b * i.b)
      let im := v.b * i.a - v.a * i.b
      let k : Nat := if pair then 2 * d else d
      .inl (divRha (re * 167772160000) k, divRha (im * 167772160000) k)

/-- RGROW from a result at FRG (R156). -/
def State.growth (s : State) (p : Prof) (d : List Byte) (g : Nat) (re : Int) : State :=
  let tw := p.tw (p.clampT (s.tGroup g)).1
  let rref := interp 21 (fun t q => F32.ofI (uAt d (32 + 4 * (21 * t + q)) 4)) tw (s.cell g).soc
  let (n, m) := F32.rat rref
  let rg := if n ≤ 0 then 32768 else clip 2048 32768 (divRha (4096 * re * 100 * m) n.toNat)
  let w := s.get F.EST_IMP_CFG_RGW
  if w = 0 then s
  else s.cellMod g (fun c => { c with rgrow := (clip 0 65535 (divRha (16 * c.rgrow + w * (rg - c.rgrow)) 16)).toNat })

/-- The inferred internal temperature (R158): the temperature at which the reference phase equals φ, and whether φ lies beyond. -/
def innerTemp (p : Prof) (d : List Byte) (soc : F32) (phi : Int) : Int × Bool :=
  let (i, w) := socW 21 soc
  let ph := fun (t : Nat) => lerp w (F32.ofI (iAt d (1376 + 2 * (21 * t + i)) 2)) (F32.ofI (iAt d (1376 + 2 * (21 * t + i + 1)) 2))
  let x := F32.ofI phi
  let up := F32.lt (ph 0) (ph 15)
  let le := fun (a b : F32) => if up then F32.le a b else F32.le b a
  if F32.lt x (ph 0) && up || F32.lt (ph 0) x && !up then (p.tbp 0, true)
  else if F32.lt (ph 15) x && up || F32.lt x (ph 15) && !up then (p.tbp 15, true)
  else
    let j := ((List.range 15).filter (fun j => le (ph j) x)).foldl max 0
    let f := F32.div (F32.sub x (ph j)) (F32.sub (ph (j + 1)) (ph j))
    (p.tbp j + F32.toI f (p.tbp (j + 1) - p.tbp j), false)

/-- EST_TINT of a group from a result at FT. -/
def State.inner (s : State) (p : Prof) (d : List Byte) (g : Nat) (re im : Int) : State :=
  let (t, beyond) := innerTemp p d (s.cell g).soc (angle im re)
  { s.putWord (0x6E000 + 4 * (g - 1)) (BitVec.ofNat 32 (toCode 16 t + 16777216 + 33554432 * b2n beyond)) with
    imp := { s.imp with tintAt := assocPut g s.now s.imp.tintAt } }

/-- Whether the actual frequency lies within ±2 % of another. -/
def near (f g : Nat) : Bool := decide ((50 * (f : Int) - 50 * g).natAbs ≤ g)

/-- The result of one group is written, with what follows from it. -/
def State.impResult (s : State) (p : ImpPt) (g : Nat) (z : (Int × Int) ⊕ Nat) : State :=
  match z with
  | .inr c => s.impBad s.imp.k g c
  | .inl (re, im) =>
    let top : Int := 2147483647
    let s1 := (s.putWord (impRe s.imp.k g) (BitVec.ofInt 32 (clip (-top) top re))).putWord (impIm s.imp.k g)
      (BitVec.ofInt 32 (clip (-top - 1) top im))
    match s.prof?, s.impRef? with
    | some pr, some d =>
      let s2 := if near p.actual (uAt d 0 4) && !s.wireSuspect g then s1.growth pr d g re else s1
      if near p.actual (uAt d 4 4) then s2.inner pr d g re im else s2
    | _, _ => s1

/-- IMP_FIT_DONE: the results of a whole point are written together; a clipped point is repeated once. (DESIGN CHOICE: log entry 44) -/
def State.impFit (s : State) (p : ImpPt) : State :=
  let k := s.imp.k
  if s.imp.clipped && s.imp.clips == 0 then
    let s1 := (s.setB F.EST_IMP_STAT_CLIP_SEEN true).impAgain
    { s1 with imp := { s1.imp with clips := 1 } }
  else
    let s0 := if s.imp.clipped then s.setB F.EST_IMP_STAT_CLIP_SEEN true else s
    let basis := waveBasis p.cycles p.len
    let i := waveFit basis p.cycles p.len s0.imp.iSer.reverse
    let m2 := (i.a * i.a + i.b * i.b).toNat
    -- one mA in the fit's units, squared
    let unit : Nat := 2 ^ 176
    let amp := sqrtQuarter (4 * m2 / unit)
    let weak := decide ((4 * m2 : Nat) < s0.imp.apt * s0.imp.apt * unit)
    let s1 := (s0.set (F.EST_IMP_FREQ.ix (k % 8)) p.actual).set (F.EST_IMP_IAMP.ix (k % 8)) amp
    if s0.imp.clipped || weak then (s1.impAll k 4).impNext
    else
      let one := fun (x : State) (g : Nat) =>
        let z := x.impZ p basis i g
        let y := x.impResult p g z
        if x.wireSuspect g then y.impResult p (g + 1) z else y
      let none_ := (((List.range 640).map (· + 1)).filter (fun g => !s1.groupOk g)).foldl (fun (x : State) g => x.impBad k g 3) s1
      (s1.impGroups.foldl one none_).impNext

def execImpFitDone (t : Nat) (s : State) : Host.Outcome State Fault Refusal :=
  .next (s.commandIf t (fun s => s.imp.ready && s.sweeping) (fun s => match s.impPt with
    | some p => s.impFit p
    | none => s))

/-- TINT_AGE_TICK (R158): AGE of each inferred temperature is the whole hours since its result, at most 0xFE. -/
def State.tintTick (s : State) : State :=
  s.imp.tintAt.foldl (fun (a : State) x => a.set (F.EST_TINT_AGE.ix (x.1 - 1)) (min 254 ((s.now - x.2) / (3600 * sec)))) s

def execTintAgeTick (t : Nat) (s : State) : Host.Outcome State Fault Refusal := .next (s.commandIf t State.started State.tintTick)

end Sys2Proof.Machine
end

