-- ==== Sys2Proof/Machine/Cal.lean ====
section
/-! DEFINITION. Calibration: CAL_READ, CAL_WRITE, CAL_MEASURE and its end (R113, R114, R308), and TRACE (R309). -/

namespace Sys2Proof.Machine

def execCalRead (t : Nat) (r : Req) (s : State) : Host.Outcome State Fault Refusal :=
  .next (s.hostCommand t 0x0C01 r (Fmt.fixed 0 []) (fun _ s => (s, .ok s.flash.cal)))

/-- The set as stored: ORIGIN 1 and a CRC to match. -/
def calSeal (p : List Byte) : List Byte :=
  let b := (modNth p 4 (fun _ => 1)).take 92
  b ++ leBytes 4 (crc32c b)

/-- The offsets of the converters' own auto-zero stay (Table 4.3: the set's are used until the first one). -/
def State.keepOfs (s : State) (c : CviSt) : State := { s with cvi := { s.cvi with ofsA := c.ofsA, ofsB := c.ofsB } }

/-- The calibration block is erased and its first `n` bytes are programmed. (DEDUCED: log entry 39) -/
def State.calProgram (s : State) (p : List Byte) (n : Nat) : State :=
  let c := calSeal p
  { s with flash := { s.flash with cal := c.take n ++ List.replicate (c.length - min n c.length) 0xFF }.erased FlashRegion.cal.block }

/-- The set is erased, programmed, read back and in use; where it does not read back the block stands erased, and the set in use is the
nominal one (R113). (DEDUCED: log entry 39) -/
def State.calStore (s : State) (p : List Byte) (w : FlashDone) : State × HRes :=
  let s1 := s.blocksFail .cal w.bad
  if w.ok then ((s1.calProgram p 96).calLoad.keepOfs s.cvi, .ok [])
  else ((s1.calProgram p 0).calLoad.keepOfs s.cvi |>.traceFault, .no stInternal 0)

/-- CAL_WRITE (R114). -/
def State.calWrite (s : State) (r : Req) (w : FlashDone) : State × HRes :=
  if s.get F.UPD_STATE_PHASE = 2 then (s, .no stBusy 0x000F)
  else match firstReason [(!s.allOpen, 0x0002), (!s.convOff, 0x0003)] with
    | some c => (s, .refused c)
    | none =>
      if !calOk r.payload then (s, .no stBadParam 0)
      else if 1 < uAt r.payload 4 1 then (s, .err stBadParam 0 4)
      else match w.cut with
        | some n => (s.calProgram r.payload (min 95 n), .later)
        | none => s.calStore r.payload w

/-- Where power is lost during the write the module stops with it, and no reply leaves (R114, R370). -/
def execCalWrite (t : Nat) (r : FlashReq) (s : State) : Host.Outcome State Fault Refusal :=
  .next (s.command t (fun s =>
    let s1 := s.host_ 0x0C02 r.req (Fmt.fixed 96 []) (fun _ s => s.calWrite r.req r.flash)
    if r.flash.cut.isSome then s1.vauxLost else s1))

/-! ## CAL_MEASURE (R308) -/

/-- The measurement begins; a shunt converter that is named measures the current while it lasts. (DEDUCED: log entry 38) -/
def State.calStart (s : State) (conv time job : Nat) : State :=
  let s1 : State := { s with cvi := { s.cvi with cmConv := conv, cmSince := s.now, cmTime := time, cmSum := 0, cmSq := 0, cmN := 0,
                                                 cmJob := some job } }
  if 1 < conv ∨ !s.alternating ∨ s.flag F.CVI_SH_STAT_AZINIT ∨ s.get F.CVI_SH_STAT_MEAS = conv then s1
  else { s1.set F.CVI_SH_STAT_MEAS conv with cvi := { s1.cvi with shorted := if s1.cvi.shorted = conv + 1 then 0 else s1.cvi.shorted } }

def execCalMeasure (t : Nat) (r : Req) (s : State) : Host.Outcome State Fault Refusal :=
  .next (s.hostCommand t 0x0C03 r (Fmt.fixed 4 [1]) (fun id s =>
    let conv := uAt r.payload 0 1
    let time := uAt r.payload 2 2
    if 8 < conv then (s, .err stBadParam 0 0)
    else if time < 10 ∨ 60000 < time then (s, .err stBadParam 0 2)
    else if (conv = 0 ∧ s.shFailed false) ∨ (conv = 1 ∧ s.shFailed true) then (s, .refused 0x0009)
    else if s.cvi.cmJob.isSome || !s.jobRoom then (s, .no stBusy 0)
    else
      let (s1, j) := s.jobStart 0x0C03 id.session 0 10000
      (s1.calStart conv time j, .job j)))

/-- MEAN, SD and N: the mean and the standard deviation over all samples in 2^−16 code. (DESIGN CHOICE: log entry 74) -/
def CviSt.calDetail (c : CviSt) : List Byte :=
  let n := c.cmN
  let mean : Int := if n = 0 then 0 else divRne (c.cmSum * 65536) n
  let var := (n * c.cmSq - c.cmSum * c.cmSum).toNat
  let sd := if n = 0 then 0 else sqrtNear (var * 4294967296 / (n * n))
  leBytesI 8 mean ++ leBytes 4 (min 4294967295 sd) ++ leBytes 4 n

/-- The measurement ends. (DEDUCED: log entry 39) -/
def State.calDone (s : State) : State :=
  match s.cvi.cmJob with
  | none => s
  | some j => { s with cvi := { s.cvi with cmJob := none } }.jobEnd j .done stOk s.cvi.calDetail

def execCalMeasureDone (t : Nat) (s : State) : Host.Outcome State Fault Refusal :=
  .next (s.commandIf t (fun s => s.inService && s.cvi.cmJob.isSome && decide (s.cvi.cmSince + s.cvi.cmTime * msec ≤ s.now)) State.calDone)

/-! ## TRACE (R309) -/

/-- The payload of TRACE: CMD, padding, MASK. (DESIGN CHOICE: log entry 25) -/
def traceFmt : Fmt := Fmt.fixed 8 [1, 2, 3]

/-- TRACE in one of its forms: CMD names another form, or none. -/
def traceCmd (cmd : Nat) (r : Req) (body : State → State × HRes) (s : State) : State × HRes :=
  if uAt r.payload 0 1 = cmd then body s else (s, .err stBadParam 0 0)

def execTraceStop (t : Nat) (r : Req) (s : State) : Host.Outcome State Fault Refusal :=
  .next (s.hostCommand t 0x0F03 r traceFmt (fun _ => traceCmd 0 r (fun s =>
    ({ s with host := { s.host with traceMask := none } }, .ok []))))

/-- DESIGN CHOICE: log entry 25. (DESIGN CHOICE: log entry 25) -/
def execTraceStart (t : Nat) (r : Req) (s : State) : Host.Outcome State Fault Refusal :=
  .next (s.hostCommand t 0x0F03 r traceFmt (fun _ => traceCmd 1 r (fun s =>
    ({ s with host := { s.host with traceMask := some (uAt r.payload 4 4) } }, .ok []))))

/-- The entries a reply takes, oldest first, at most the 255 that NENT counts. -/
def State.traceRead (s : State) : State × HRes :=
  let l := s.host.trace.take 255
  ({ s with host := { s.host with trace := s.host.trace.drop 255 } }, .ok (leBytes 1 l.length ++ [0, 0, 0] ++ l.flatten))

def execTraceRead (t : Nat) (r : Req) (s : State) : Host.Outcome State Fault Refusal :=
  .next (s.hostCommand t 0x0F03 r traceFmt (fun _ => traceCmd 2 r State.traceRead))

end Sys2Proof.Machine
end

