-- ==== Sys2Proof/Machine/Cfg.lean ====
section
/-! DEFINITION. The configuration opcodes: CFG_WRITE, CFG_READ, CFG_COMMIT with and without DISCARD, TABLE_LOAD and COEF_LOAD with their
assemblies (R119, R155, R178 to R180, R278, R301 to R303). -/

namespace Sys2Proof.Machine

/-! ## Items -/

/-- The request comes with the SERVICE role: from its session, or in a provisioning context (R279). -/
def State.service (s : State) (id : ReqId) : Bool := id.prov || (s.session id.session).slot == 3

def execCfgWrite (t : Nat) (r : Req) (s : State) : Host.Outcome State Fault Refusal :=
  .next (s.hostCommand t 0x0301 r cfgFmt (fun id s =>
    let l := cfgItems r.payload
    match (if s.service id then none else l.find? CfgItem.isKey), l.find? itemBad with
    | some x, _ => (s, .err stAuthFail 0 x.off)
    | none, some x => (s, .err stBadParam 0 x.off)
    | none, none => (s.stage l, .ok [])))

def execCfgRead (t : Nat) (r : Req) (s : State) : Host.Outcome State Fault Refusal :=
  .next (s.hostCommand t 0x0302 r (Fmt.fixed 8 [1, 6, 7]) (fun _ s =>
    let sel := uAt r.payload 0 1
    let n := uAt r.payload 4 2
    if 1 < sel then (s, .err stBadParam 0 0)
    else if n = 0 ∨ 128 < n then (s, .err stBadParam 0 4)
    else if sel = 0 ∧ s.cfgOut then (s, .no stTileFault 0)
    else
      let l := fitting 1396 (((if sel = 0 then s.committedItems else s.stagedItems).drop (uAt r.payload 2 2)).take n)
      (s, .ok (leBytes 2 l.length ++ [0, 0] ++ l.flatten))))

/-- The payload of CFG_COMMIT. -/
def commitFmt : Fmt := { len := fun p => p.length == 4, pad := [1, 2, 3], flagsAt := some (0, 1) }

/-- The checks of a commit in the order of R302, and the commit. `w`: whether the copy reads back as written, and the blocks that failed meanwhile. -/
def State.cfgCommit (s : State) (id : ReqId) (w : FlashDone) : State × HRes :=
  if s.cfgOut then (s, .no stTileFault 0)
  else if s.get F.UPD_STATE_PHASE = 2 then (s, .no stBusy 0x000F)
  else if !s.service id && !s.cfg.keys.isEmpty then (s, .no stAuthFail 0)
  else if s.mergedBad then (s, .no stBadParam 0)
  else match s.mergedRefused with
    | some c => (s, .refused c)
    | none => 
      let s1 := s.blocksFail .config w.bad
      if w.ok then (s1.commit id, .ok []) else (s1.traceFault, .no stInternal 0)

def execCfgCommit (t : Nat) (r : Req) (w : FlashDone) (s : State) : Host.Outcome State Fault Refusal :=
  .next (s.hostCommand t 0x0303 r commitFmt (fun id s =>
    if uAt r.payload 0 1 = 0 then s.cfgCommit id w else (s, .err stBadParam 0 0)))

def execCfgDiscard (t : Nat) (r : Req) (s : State) : Host.Outcome State Fault Refusal :=
  .next (s.hostCommand t 0x0303 r commitFmt (fun _ s =>
    if uAt r.payload 0 1 = 1 then (s.dropStaged, .ok []) else (s, .err stBadParam 0 0)))

/-! ## Assemblies (R303) -/

/-- A piece of a record joins its assembly, or is refused. (DEDUCED: log entry 28) -/
def joinPiece (a : Option Assembly) (session now most off total : Nat) (data : List Byte) : HRes ⊕ Assembly :=
  if most < total then .inl (.err stBadParam 0 4)
  else if off = 0 then
    if total < data.length then .inl (.err stBadParam 0 0) else .inr { session := session, total := total, data := data, since := now }
  else match a with
    | none => .inl (.err stBadParam 0 0)
    | some x =>
      if x.session ≠ session then .inl (.no stBusy 0)
      else if off ≠ x.data.length ∨ total < off + data.length then .inl (.err stBadParam 0 0)
      else if total ≠ x.total then .inl (.err stBadParam 0 4)
      else .inr { x with data := x.data ++ data, since := now }

/-! ## Tables (R118, R119, R155) -/

/-- A list of integers rises; strictly where `s`. -/
def rising (s : Bool) : List Int → Bool
  | a :: b :: t => (if s then decide (a < b) else decide (a ≤ b)) && rising s (b :: t)
  | _ => true

/-- LENGTH of a table of a type (Table 5.3); 0 where the type is none. -/
def tableLen (ty : Nat) : Nat := match ty with | 1 => 256 | 2 => 6464 | 3 => 672 | 4 => 43008 | 5 => 2048 | _ => 0

/-- The header of a table record (Table 5.2) and its CRC. -/
def tableHeaderOk (d : List Byte) : Bool :=
  decide (16 ≤ d.length) && uAt d 0 2 == 0x4C54 && decide (1 ≤ uAt d 2 1) && decide (uAt d 2 1 ≤ 5) && decide (uAt d 3 1 ≤ 3)
    && uAt d 4 4 == tableLen (uAt d 2 1) && d.length == 16 + uAt d 4 4 && uAt d 8 2 == 1 && uAt d 10 2 == 0 && uAt d 12 4 == crc32c (d.drop 16)

/-- PHASE of SOC point `q` over the temperature points. -/
def phaseCol (h : List Byte) (q : Nat) : List Int := (List.range 16).map (fun t => iAt h (1376 + 2 * (21 * t + q)) 2)

/-- The data of a table pass R119 or R155. -/
def tableDataOk (ty : Nat) (h : List Byte) : Bool :=
  if ty = 1 then
    rising true ((List.range 16).map (fun i => iAt h (32 + 2 * i) 2)) && rising false ((List.range 7).map (fun i => iAt h (64 + 2 * i) 2))
      && decide (uAt h 24 4 < uAt h 20 4) && (List.range 16).all (fun i => uAt h (80 + 2 * i) 2 != 0)
  else if ty = 2 then
    (List.range 16).all (fun t => rising true ((List.range 101).map (fun q => (uAt h (4 * (101 * t + q)) 4 : Int))))
  else if ty = 5 then
    let f := fun (x : Nat) => decide (50 ≤ x) && decide (x ≤ 2000000)
    f (uAt h 0 4) && f (uAt h 4 4) && (List.range 336).all (fun i => uAt h (32 + 4 * i) 4 != 0)
      && ((List.range 21).all (fun q => rising true (phaseCol h q)) || (List.range 21).all (fun q => rising true ((phaseCol h q).map (- ·))))
  else true

/-- A completed table record is staged, or refused with nothing kept. (DEDUCED: log entry 28) -/
def State.tableTake (s : State) (d : List Byte) : State × HRes :=
  let s1 : State := { s with cfg := { s.cfg with asmT := none } }
  if tableHeaderOk d && tableDataOk (uAt d 2 1) (d.drop 16) then
    ({ s1 with cfg := { s1.cfg with tables := assocPut (256 * uAt d 3 1 + uAt d 2 1) d s1.cfg.tables } }, .ok [])
  else (s1, .no stBadParam 0)

def execTableLoad (t : Nat) (r : Req) (s : State) : Host.Outcome State Fault Refusal :=
  .next (s.hostCommand t 0x0304 r { len := fun p => decide (9 ≤ p.length) && decide (p.length ≤ 1400) } (fun id s =>
    match joinPiece s.cfg.asmT id.session s.now 43024 (uAt r.payload 0 4) (uAt r.payload 4 4) (r.payload.drop 8) with
    | .inl e => (s, e)
    | .inr a =>
      if a.data.length = a.total then s.tableTake a.data else ({ s with cfg := { s.cfg with asmT := some a } }, .ok [])))

/-! ## Coefficients (R178 to R180) -/

/-- A gain bank fits the structure's dimensions. -/
def Gain.fits (g : Gain) (c : CtlStruct) : Bool := g.n == c.n && g.p == c.p && g.m == c.m && g.nr == c.nr

/-- ACTVALID and SHVALID follow the banks. -/
def State.bankBits (s : State) : State :=
  let a := s.get F.CTL_BANKSEL_ACTIVE
  (s.setB F.CTL_BANKSEL_ACTVALID (if a = 0 then s.ctl.bank0 else s.ctl.bank1).isSome).setB F.CTL_BANKSEL_SHVALID
    (if a = 0 then s.ctl.bank1 else s.ctl.bank0).isSome

/-- A structure record comes into use; banks whose dimensions no longer match become invalid. -/
def State.structPut (s : State) (c : CtlStruct) : State :=
  let keep := fun (g : Option Gain) => g.bind (fun x => if x.fits c then some x else none)
  { s with ctl := { s.ctl with struct := some c, bank0 := keep s.ctl.bank0, bank1 := keep s.ctl.bank1 } }.bankBits

/-- A gain record goes into the inactive bank. -/
def State.gainPut (s : State) (g : Gain) : State :=
  (if s.get F.CTL_BANKSEL_ACTIVE = 0 then { s with ctl := { s.ctl with bank1 := some g } }
   else { s with ctl := { s.ctl with bank0 := some g } }).bankBits

/-- The record in use after a completed COEF_LOAD, or its refusal: BAD_PARAM under R178, a structure only with the loop stopped and the
gates low, a gain record not while a swap is pending. -/
def State.coefUse (s : State) (d : List Byte) : HRes ⊕ State :=
  if uAt d 2 1 = 1 then
    match structOf d with
    | none => .inl (.no stBadParam 0)
    | some c => if s.loopStopped && s.ctl.gatesLow then .inr (s.structPut c) else .inl (.refused 0x0003)
  else match s.ctl.struct.bind (gainOf d) with
    | none => .inl (.no stBadParam 0)
    | some g => if s.ctl.swapAt.isSome then .inl (.no stBusy 0) else .inr (s.gainPut g)

/-- A swap to the inactive bank is requested: pending until the first control sample at least 10 µs on; the reply follows it. -/
def State.swapAsk (s : State) (id : ReqId) (r : Req) : State × HRes :=
  if s.ctl.swapAt.isSome then (s, .no stBusy 0)
  else if !s.flag F.CTL_BANKSEL_SHVALID then (s, .refused 0)
  else
    ({ s.setB F.CTL_BANKSEL_SWAPPEND true with
       ctl := { s.ctl with swapAt := some (s.now + s.toSample 10000) },
       host := { s.host with waiting := s.host.waiting ++ [({ why := .swap, id := id, req := r, since := s.now } : Waiting)] } }, .later)

/-- A completed record with its FLAGS: a record that fails is discarded, a refusal by the state changes nothing
and leaves the assembly without this piece. (DEDUCED: log entry 28) -/
def State.coefTake (s : State) (id : ReqId) (r : Req) (d : List Byte) : State × HRes :=
  let swap := (uAt r.payload 8 1).testBit 0
  let keep := (uAt r.payload 8 1).testBit 1
  let clear := fun (a : State) => { a with cfg := { a.cfg with asmC := none } }
  if d.isEmpty then (if swap then (clear s).swapAsk id r else (clear s, .ok []))
  else if keep && s.get F.UPD_STATE_PHASE == 2 then (s, .no stBusy 0x000F)
  else match s.coefUse d with
    | .inl (.reply st j p) => (if st = stBadParam then clear s else s, .reply st j p)
    | .inl .later => (s, .later)
    | .inr a =>
      let a1 := clear (if keep then { a with cfg := { a.cfg with coefs := assocPut (uAt d 2 1) d a.cfg.coefs } } else a)
      if !swap then (a1, .ok [])
      else match a1.swapAsk id r with
        | (b, .later) => (b, .later)
        | (_, e) => (s, e)

def execCoefLoad (t : Nat) (r : Req) (s : State) : Host.Outcome State Fault Refusal :=
  .next (s.hostCommand t 0x0305 r
    { len := fun p => decide (12 ≤ p.length) && decide (p.length ≤ 1400), pad := [9, 10, 11], flagsAt := some (8, 3) } (fun id s =>
    match joinPiece s.cfg.asmC id.session s.now 8192 (uAt r.payload 0 4) (uAt r.payload 4 4) (r.payload.drop 12) with
    | .inl e => (s, e)
    | .inr a =>
      if a.data.length = a.total then s.coefTake id r a.data else ({ s with cfg := { s.cfg with asmC := some a } }, .ok [])))

/-- LOAD_ASSEMBLY_TIMEOUT: 60 s without a piece; the timers stand still in PARK. -/
def execLoadAssemblyTimeout (t : Nat) (coef : Bool) (s : State) : Host.Outcome State Fault Refusal :=
  .next (s.commandIf t (fun s => s.inService
      && (if coef then s.cfg.asmC else s.cfg.asmT).any (fun a => decide (a.since + 60 * sec ≤ s.now)))
    (fun s => if coef then { s with cfg := { s.cfg with asmC := none } } else { s with cfg := { s.cfg with asmT := none } }))

end Sys2Proof.Machine
end

