-- ==== Sys2Proof/Machine/Ctl.lean ====
section
/-! DEFINITION. The control engine: the control sample, the envelope, start and stop of the loop, and the faults of the set-point
sources (R35, R160 to R183, R239 to R249). -/

namespace Sys2Proof.Machine

/-! ## One control sample -/

/-- The reference vector (R166). -/
def State.refs (s : State) (nr : Nat) : List Int :=
  (s.getI F.CTL_SPNOW :: (List.range 3).map (fun j => s.getI (F.CTL_REF.ix j))).take nr

/-- Flags of the stages: CTL_SATF, and CTL_SAT when one of its bits goes from 0 to 1 (R170). -/
def State.satFlags (s : State) (bits : Nat) : State :=
  let f : Fld := { F.CTL_SATF_SAT_M with w := 6 }
  let old := s.get f
  let new := old ||| bits
  if new = old then s else (s.set f new).raise 40 []

/-- The vector lane `l` posts; none while a tile of its code or of its coefficient banks is being recovered (Table 19.1). -/
def State.posted (s : State) (x : SampleIn) (m : Nat) (own : List Int) (l : Nat) : List Int :=
  if s.tileOut l .coefs || s.laneStalls l then [] else match nth none x.posts l with
  | none => own
  | some v => if v.length = m then v else []

/-- Counts of the lanes after the compare (R241, R243): disagreements with the selected vector, and samples without a post. -/
def State.laneCounts (s : State) (sel : Option (List Int)) (ps : List (Nat × List Int)) : State :=
  ps.foldl (fun (a : State) p =>
    let b := { a with lan := { a.lan with silent := modNth a.lan.silent p.1 (fun n => if p.2.isEmpty then n + 1 else 0) } }
    match sel with
    | none => b
    | some v => b.setMiss p.1 (if agree (b.get F.LAN_CFG_VOTETOL) v p.2 then 0 else min 7 (b.miss p.1 + 1))) s

/-- The envelope check of the driven phases (R183): counts, and two or more phases trip. -/
def State.envCheck (s : State) : State :=
  let per := match s.ctl.env with
    | some (_, _, _, p) => p
    | none => 7
  let oob := (s.ctl.oob.zipIdx).map (fun (n, q) => if s.driven.contains q && !s.inBand (nth 0 s.ctl.cmp q) then n + 1 else 0)
  let s1 := { s with ctl := { s.ctl with oob := oob } }
  if 2 ≤ (oob.filter (fun n => decide (per ≤ n))).length then ((s1.setB F.CTL_STAT_ENVTRIP_SEEN true).raise 41 []).ganderTrip else s1

/-- The one phase that has been out of band for PERSIST samples. -/
def State.envPhase (s : State) : Option Nat :=
  let per := match s.ctl.env with
    | some (_, _, _, p) => p
    | none => 7
  match (List.range 4).filter (fun q => decide (per ≤ nth 0 s.ctl.oob q)) with
  | [q] => some q
  | _ => none

/-- The fences that follow from a compare, in the order of the tokens; of two causes the lower code (R183, R241, R243, R255). -/
def State.laneFences (s : State) (env : Option Nat) : State :=
  let cause := fun (p : Nat × Nat) =>
    if 64 ≤ nth 0 s.lan.silent p.2 then some 1 else if s.get F.LAN_CFG_MISS ≤ s.miss p.2 then some 2
    else if env = some p.1 then some 3 else none
  s.actives.foldl (fun (a : State) p => match cause p with
    | none => a
    | some c =>
      let b := if c = 3 then (a.setB F.CTL_STAT_ENVFENCE_SEEN true).raise 41 [] else a
      b.fence p.2 c) s

/-- The mule's shadow samples (Table 11.2, step 8): 16 agreeing ones in a row; a disagreement fences it, an undecided sample starts
them again. (DEDUCED: log entry 46) -/
def State.shadow (s : State) (sel : Option (Option (List Int))) (post : Nat → List Int) : State :=
  match s.lan.sw with
  | none => s
  | some x =>
    match x.shadow with
    | none => s
    | some n =>
      let put := fun (k : Nat) (u : Bool) => { s with lan := { s.lan with sw := some { x with shadow := some k, undec := u } } }
      match sel with
      | none => put (min 16 (n + 1)) false
      | some none => put 0 true
      | some (some v) =>
        if x.undec then put 0 false
        else if agree (s.get F.LAN_CFG_VOTETOL) v (post x.mule) then put (min 16 (n + 1)) false else s.abandon x 4

/-- The slices compute, the lanes vote and the duties are written (R167 to R172, R239 to R241). -/
def State.slices (s : State) (x : SampleIn) (t : CtlStruct) (g : Gain) : State :=
  let o := slice_ t g (t.ysrc.map (s.source x)) (s.refs t.nr) s.ctl.x s.ctl.xe s.ctl.u (s.get F.CTL_DLIM_DMIN) (s.get F.CTL_DLIM_DMAX)
  let warm := s.get F.CTL_STAT_STATE == 1
  let ps := s.actives.map (fun p => (p.2, s.posted x t.m o.mu p.2))
  let sel := selectVec (s.get F.LAN_CFG_VOTETOL) (fun v => s.driven.all (fun q => s.inBand (t.cmp v q))) (ps.map (·.2))
  let s1 := (((s.set F.CTL_EXP_EM (toCode 6 o.em)).set F.CTL_EXP_EO (toCode 6 o.eo)).set F.CTL_EXP_EX (toCode 6 o.xe)).set F.CTL_EXP_EF
    (toCode 6 o.ef)
  let s2 := (s1.satFlags o.sat).setB F.LAN_STAT_UNDECIDED sel.isNone
  let undec := if sel.isNone then s2.lan.undec + 1 else 0
  let s3 := { s2 with
    ctl := { s2.ctl.compare s2.now (s2.now + 800) (match sel with
        | none => s2.ctl.cmp
        | some v => (List.range 4).map (fun q => if s2.driven.contains q then t.cmp v q else 0)) with
      x := o.x, xe := o.xe, warm := if warm then s2.ctl.warm + 1 else s2.ctl.warm,
      u := if warm then t.uoff else sel.getD s2.ctl.u, duty := sel.getD s2.ctl.duty },
    lan := { s2.lan with undec := undec } }
  let s4 := s3.laneCounts sel ps
  let s5 := if undec = 3 then { s4 with lan := { s4.lan with undec := 0 } }.ganderTrip else s4
  let s6 := if warm then s5 else s5.envCheck
  let env := if warm then none else s6.envPhase
  (s6.shadow (some sel) (s.posted x t.m o.mu)).laneFences env

/-- The set-point ramp of a category 1 stop has reached 0: the open sequence starts (R221). (DEDUCED: log entry 45) -/
def State.rampEnd (s : State) : State :=
  if s.flag F.SAF_STAT_RAMP && s.get F.CTL_SPNOW == 0 then (s.setB F.SAF_STAT_RAMP false).openStart none else s

/-- A cancelled sweep's sinusoid stops at its next zero crossing (Table 6.6). -/
def State.sineStop (s : State) : State :=
  if !s.imp.stopping then s
  else match s.impPt with
    | none => s.impEnd .cancelled stRefused
    | some p =>
      if !s.imp.on || p.len = 0 then s.impEnd .cancelled stRefused
      else
        let t := s.quartzNs - s.imp.onAt
        if p.halves t ≠ p.halves (t - 5000) || p.halves t * (p.len * sec) = 2 * p.cycles * p.fs * t then s.impEnd .cancelled stRefused else s

/-- What is latched at the instant: the converters, the set-point inputs, and the values of the broadcast. -/
def State.latchIn (s : State) (x : SampleIn) : State :=
  let s1 := ((s.cviSample x).impCurrent).spInputs x
  let sum := s1.phaseSum x
  { s1 with
    ctl := { s1.ctl.turns (s1.gridCount 5000) s1.now with
      sampNo := some (s1.gridCount 5000), vstr := s1.source x 2, vbus := s1.source x 3, iNow := s1.source x 1, iphHist := (sum :: s1.ctl.iphHist).take 64 },
    lan := { s1.lan with sw := s1.lan.sw.map (fun w => { w with samples := w.samples + 1 }) } }

/-- The grid slews by 20 ns a control sample toward its alignment (R36). -/
def State.gridSlew (s : State) : State :=
  if !s.flag F.GLB_GRID_SLEWING then s
  else
    let f := s.gridPhase
    let g := f - clip (-20) 20 f
    let s1 := s.setI F.GLB_GRID_PHASE_ERR g
    if g = 0 then (s1.setB F.GLB_GRID_SLEWING false).setB F.GLB_GRID_ALIGNED (!s.time.unal) else s1

/-- Bytes 0 … 6 of the limit frame (Table 16.3). -/
def State.canLimits (s : State) : List Byte :=
  let lim := fun (f : Fld) => leBytes 2 (clipU 16 (s.getI f / 100))
  let flags := [s.get F.PRT_CONTSTAT_CONN == 4, s.get F.CTL_STAT_STATE == 2, s.tripped, s.get F.SAF_STAT_STATE != 1, s.flag F.EST_FLAGS_REST_WANTED]
  let fl := (flags.zipIdx).foldl (fun a (b, i) => if b then a + 2 ^ i else a) 0
  lim F.PRT_LDIS ++ lim F.PRT_LCHG ++ leBytes 2 (s.get F.EST_STR_SOC_USOC) ++ leBytes 1 fl

/-- A control sample keeps the values of the limit frame (R332). -/
def State.limitKeep (s : State) : State := { s with can := { s.can with limits := s.canLimits } }

/-- CONTROL_SAMPLE (R35, R165 to R177): what is latched, r_0 under the limits, the loop's stages where it runs, the ramp's end and the
conditions of a contactor sequence on the current. -/
def State.controlSample (s : State) (x : SampleIn) : State :=
  let s0 := s.setpointTake (s.gridCount 5000)
  let s1 := ((if s0.swapDue then s0.gainSwap else s0).latchIn x).gridSlew
  let s2 := if s1.ctl.stopReq then s1.loopStop else s1
  let s3 := (s2.setPoint s2.ctl.vstr).sineStop
  let s4 := if s3.warmDue then s3.warmEnd else s3
  let s5 := match s4.ctl.struct, s4.bank with
    | some t, some g =>
      if s4.lanesOn && s4.get F.CTL_STAT_STATE != 0 && decide (s4.ctl.startNo ≤ s4.gridCount 5000) then s4.slices x t g else s4.shadow none (fun _ => [])
    | _, _ => s4.shadow none (fun _ => [])
  s5.rampEnd.poll.limitKeep

/-- CONTROL_SAMPLE: once for each instant of the grid that quartz has passed. (DESIGN CHOICE: log entry 4) -/
def execControlSample (t : Nat) (x : SampleIn) (s : State) : Host.Outcome State Fault Refusal :=
  .next (s.commandIf t State.sampleDue (fun s => s.controlSample x))

/-- ENVELOPE_BAND_UPDATE (R182). -/
def execEnvelopeBandUpdate (t : Nat) (s : State) : Host.Outcome State Fault Refusal :=
  .next (s.commandIf t State.sampling (fun s => { s with ctl := { s.ctl with band := s.bandNow } }))

/-! ## Start, stop and swap -/

/-- LOOP_WARMUP_END: at the control sample instant after the last warm-up sample (Table 7.5). -/
def execLoopWarmupEnd (t : Nat) (s : State) : Host.Outcome State Fault Refusal :=
  .next (s.commandIf t (fun s => s.sampleDue && s.warmDue) State.warmEnd)

/-- CONV_EN_FALL (R177). -/
def execConvEnFall (t : Nat) (s : State) : Host.Outcome State Fault Refusal :=
  .next (s.commandIf t (fun s => s.ctl.convEn && s.loopStopped && s.ctl.gatesLow && decide (s.ctl.lowAt + 10 * usec ≤ s.now))
    (fun s => { s with ctl := { s.ctl with convEn := false } }))

def execGainSwap (t : Nat) (s : State) : Host.Outcome State Fault Refusal :=
  .next (s.commandIf t (fun s => s.sampling && s.swapDue) State.gainSwap)

/-! ## Set-point source faults (Table 7.4) -/

def execNetSetpointTimeout (t : Nat) (s : State) : Host.Outcome State Fault Refusal :=
  .next (s.commandIf t (fun s => s.sampling && s.get F.CTL_SPCFG_NETTMO != 0
      && decide (((s.ctl.net.map (·.2)).getD 0) + 10 * msec * s.get F.CTL_SPCFG_NETTMO ≤ s.now))
    (fun s => (s.setB F.CTL_SPSTAT_NETTMO true).setB F.CTL_SPSTAT_NETTMO_SEEN true))

def execAnalogSetpointOverrange (t : Nat) (s : State) : Host.Outcome State Fault Refusal :=
  .next (s.commandIf t (fun s => s.sampling && s.ctl.anaAt.any (fun a => decide (a + msec ≤ s.now)))
    (fun s => (s.setB F.CTL_SPSTAT_ANAOVR true).setB F.CTL_SPSTAT_ANAOVR_SEEN true))

def execPulseSetpointFault (t : Nat) (s : State) : Host.Outcome State Fault Refusal :=
  .next (s.commandIf t (fun s => s.sampling && (s.ctl.pulseBad || decide (s.ctl.pulseAt.getD 0 + 2 * msec ≤ s.now)))
    (fun s => (s.setB F.CTL_SPSTAT_PULSEOVR true).setB F.CTL_SPSTAT_PULSEOVR_SEEN true))

def execSetpointFaultClear (t : Nat) (pulse : Bool) (s : State) : Host.Outcome State Fault Refusal :=
  .next (s.commandIf t (fun s => s.sampling
      && (if pulse then s.ctl.pulseOkAt else s.ctl.anaOkAt).any (fun a => decide (a + 10 * msec ≤ s.now)))
    (fun s => s.setB (if pulse then F.CTL_SPSTAT_PULSEOVR else F.CTL_SPSTAT_ANAOVR) false))

end Sys2Proof.Machine
end

