-- ==== Sys2Proof/Machine/Cvi.lean ====
section
/-! DEFINITION. Current, voltage and insulation: windowed values, the swap cycle of the shunt converters and the insulation
monitor (R98 to R111). -/

namespace Sys2Proof.Machine

/-- The module measures: RUN or HALT. -/
def State.measuring (s : State) : Bool := s.inService

/-- A windowed value is written to its register, in mA or mV; one without a sample in the window stays. -/
def State.putWin (s : State) (f : Fld) (a : Int × Nat) : State := if a.2 = 0 then s else s.setI f (winRound a)

/-- WINDOWED_VALUE_READY (R98, R99): W × 2.5 µs + 5 µs after the strobe the registers of that strobe are written together. -/
def State.windowed (s : State) : State :=
  match s.cvi.winS with
  | none => s
  | some m =>
    if s.quartzNs < m + (s.win * 2500 + 5000) then s
    else
      let i := s.winSum m (·.sh) (·.i)
      let v := fun (f : Samp → Int) => s.winSum m (·.hv) f
      let s0 := if s.flag F.CVI_SH_STAT_NONE || s.cvi.winAz then s.setI F.CVI_I 0 else s.putWin F.CVI_I i
      let s1 := ((s0.putWin F.CVI_VSTR (v (·.vs))).putWin F.CVI_VBUS (v (·.vb))).putWin F.CVI_VINS (v (·.vi))
      let q := toCode 64 s.cvi.qS
      let s2 := (s1.set F.CVI_Q0 (q % 4294967296)).set F.CVI_Q1 (q / 4294967296)
      { s2 with cvi := { s2.cvi with winS := none, iS := if s.cvi.winAz then 0 else if i.2 = 0 then s2.cvi.iS else divRne i.1 i.2, ovS := s.winOvr m },
                rcd := { s2.rcd with iSum := s2.rcd.iSum + s2.getI F.CVI_I, iN := s2.rcd.iN + 1 } }

def execWindowedValueReady (t : Nat) (s : State) : Host.Outcome State Fault Refusal :=
  .next (s.commandIf t State.measuring State.windowed)

/-- GRID_MILLISECOND (R100): OVR describes the last completed grid millisecond. -/
def State.gridMs (s : State) : State :=
  let m := s.gridAt msec
  let hit := s.cvi.hist.any (fun x => x.clip && decide (m ≤ x.eff + 1000000 + 2500) && decide (x.eff + 2500 < m))
  let s1 := s.setB F.CVI_SH_STAT_OVR hit
  if hit then s1.setB F.CVI_SH_STAT_OVR_SEEN true else s1

def execGridMillisecond (t : Nat) (s : State) : Host.Outcome State Fault Refusal :=
  .next (s.commandIf t State.measuring State.gridMs)

/-- AZINIT_END (R101): 100 ms after its start the initial auto-zero ends; each converter's mean code becomes its OFS, a survivor's and a
forced one's too. A shunt converter that CAL_MEASURE names measures from here on (R308). (DESIGN CHOICE: log entry 74) -/
def State.azinitEnd (s : State) : State :=
  let s1 := s.setB F.CVI_SH_STAT_AZINIT false
  let s2 := if s.cvi.cmJob.isSome && decide (s.cvi.cmConv < 2) && s.alternating then s1.set F.CVI_SH_STAT_MEAS s.cvi.cmConv else s1
  { s2 with
    cvi := { s.cvi with ofsA := azMean s.cvi.azA s.cvi.ofsA, ofsB := azMean s.cvi.azB s.cvi.ofsB,
                        tazA := s.getI F.THM_DIE_TEMP, tazB := s.getI F.THM_DIE_TEMP } }

def execAzinitEnd (t : Nat) (s : State) : Host.Outcome State Fault Refusal :=
  .next (s.commandIf t (fun s => s.measuring && s.flag F.CVI_SH_STAT_AZINIT && decide (s.cvi.azStart + 100 * msec ≤ s.now))
    State.azinitEnd)

/-- The 64 overlap samples before the handover instant `h` (Table 4.2). -/
def State.overlap (s : State) (h : Nat) : List Samp :=
  s.cvi.hist.filter (fun x => !x.az && decide (h ≤ x.eff + 322500) && decide (x.eff + 2500 < h))

/-- The other converter takes over: counts, lifetime figure, MEAS and the handover instant (R102). (DEDUCED: log entry 38) -/
def State.handover (s : State) (h : Nat) : State :=
  let n := s.get F.CVI_SWAPCNT_COUNT
  let s1 := if n + 1 < 2147483648 then s.set F.CVI_SWAPCNT_COUNT (n + 1) else s.setB F.CVI_SWAPCNT_SAT true
  let m := s.get F.CVI_SH_STAT_MEAS
  { s1.set F.CVI_SH_STAT_MEAS (1 - m) with
    flash := { s1.flash with swaps := min 4294967295 (s1.flash.swaps + 1) },
    cvi := { s1.cvi with handAt := h, azA := (0, 0), azB := (0, 0) } }

/-- The reference of R104 over the overlap, in 2^−24 mA, with its count of samples; none where there is none. -/
def State.swapRef (s : State) : Option (Int × Nat) :=
  if s.ctl.convEn && s.get F.CTL_STAT_STATE = 2 then
    let l := s.ctl.iphHist.take 64
    some (sumI l, max 1 l.length)
  else if s.allOpen then some (0, 1)
  else none

/-- SHUNT_HANDOVER (R102 to R104). Of two means equally far from the reference the one of X has failed. (DESIGN CHOICE: log entry 74) -/
def State.swap (s : State) : State :=
  let h := (s.quartzNs + sec / 2) / sec * sec
  let l := s.overlap h
  let n := l.length
  if n = 0 then s.handover h
  else
    let xB := s.get F.CVI_SH_STAT_MEAS = 1
    let sx := sumI (l.map (fun p => if xB then p.ib else p.ia))
    let sy := sumI (l.map (fun p => if xB then p.ia else p.ib))
    let disagree := n * s.get F.CVI_SH_CFG_SWABS * 16777216 * 10000 + s.get F.CVI_SH_CFG_SWREL * absN sx < absN (sx - sy) * 10000
    if !disagree then ((s.set F.CVI_SH_STAT_DISAGREE 0).setB F.CVI_SH_STAT_SWERR false).integrity.handover h
    else
      let d := min 7 (s.get F.CVI_SH_STAT_DISAGREE + 1)
      let s1 := s.set F.CVI_SH_STAT_DISAGREE d
      if d < s.get F.CVI_SH_CFG_SWCNT then s1.handover h
      else match s.swapRef with
        | none => ((s1.setB F.CVI_SH_STAT_SWERR true).setB F.CVI_SH_STAT_SWERR_SEEN true).integrity.handover h
        | some (r, k) =>
          let far := fun (sum : Int) => absN (sum * k - r * n)
          if far sx < far sy then s1.shuntFail (!xB)
          else (s1.handover h).shuntFail xB

/-- The handover instant H at hand: a whole second of quartz time, at its control sample or the one that latches its sample, and not yet
handed over (R102). -/
def State.handDue (s : State) : Bool :=
  let h := (s.quartzNs + sec / 2) / sec * sec
  decide (h ≤ s.quartzNs + 2500) && decide (s.quartzNs ≤ h + 7500) && decide (s.cvi.handAt < h)

def execShuntHandover (t : Nat) (s : State) : Host.Outcome State Fault Refusal :=
  .next (s.commandIf t (fun s => s.measuring && s.domainGood 5 && s.handDue && s.alternating && !s.flag F.CVI_SH_STAT_AZINIT
    && !(s.cvi.cmJob.isSome && decide (s.cvi.cmConv < 2))) State.swap)

/-- SHUNT_AZ_SHORT (Table 4.2): 5 µs after the handover the relieved converter's input is shorted. -/
def execShuntAzShort (t : Nat) (s : State) : Host.Outcome State Fault Refusal :=
  .next (s.commandIf t (fun s => s.measuring && s.alternating && !s.flag F.CVI_SH_STAT_AZINIT
      && decide (s.cvi.handAt + 5000 ≤ s.quartzNs) && decide (s.quartzNs < s.cvi.handAt + 900 * msec) && decide (0 < s.cvi.handAt))
    (fun s => { s with cvi := { s.cvi with shorted := 2 - s.get F.CVI_SH_STAT_MEAS } }))

/-- SHUNT_AZ_OFFSET_END (Table 4.2): at H + 890 ms the mean becomes the relieved converter's OFS. -/
def State.azOffset (s : State) : State :=
  let te := s.getI F.THM_DIE_TEMP
  if s.cvi.shorted = 1 then { s with cvi := { s.cvi with ofsA := azMean s.cvi.azA s.cvi.ofsA, tazA := te } }
  else { s with cvi := { s.cvi with ofsB := azMean s.cvi.azB s.cvi.ofsB, tazB := te } }

def execShuntAzOffsetEnd (t : Nat) (s : State) : Host.Outcome State Fault Refusal :=
  .next (s.commandIf t (fun s => s.measuring && s.cvi.shorted != 0 && decide (s.cvi.handAt + 890 * msec ≤ s.quartzNs)) State.azOffset)

/-- SHUNT_AZ_RECONNECT (Table 4.2): at H + 900 ms its input returns to the shunt. -/
def execShuntAzReconnect (t : Nat) (s : State) : Host.Outcome State Fault Refusal :=
  .next (s.commandIf t (fun s => s.measuring && s.cvi.shorted != 0 && decide (s.cvi.handAt + 900 * msec ≤ s.quartzNs))
    (fun s => { s with cvi := { s.cvi with shorted := 0 } }))

/-! ## Insulation -/

/-- INS_LEG_SWITCH: every HALF s; where the monitor is paused, at any time (R108, R111). -/
def execInsLegSwitch (t : Nat) (s : State) : Host.Outcome State Fault Refusal :=
  .next (s.commandIf t (fun s => s.measuring && (s.cvi.insOpen || s.flag F.CVI_INS_STAT_PAUSED
    || decide (s.cvi.insAt + s.get F.CVI_INS_CFG_HALF * sec ≤ s.quartzNs))) State.legSwitch)

/-- Consecutive results (R110). -/
def runCount (hit : Bool) (n : Nat) : Nat := if hit then min 7 (n + 1) else 0

/-- The insulation state changes; entry 4 follows it (Table 8.3), and the events and SEEN bits of R110. (DEDUCED: log entry 40) -/
def State.insState (s : State) (st : Nat) : State :=
  let old := s.get F.CVI_INS_STAT_STATE
  let s1 := s.set F.CVI_INS_STAT_STATE st
  let s2 := if st = 2 then s1.entry 4 0 0 else s1.entry 4 noLimit noLimit
  let s3 := if st = 2 ∧ old ≠ 2 then (s2.setB F.CVI_INS_STAT_TRIP_SEEN true).raise 26 [] else s2
  if st = 1 ∧ old ≠ 1 then (s3.setB F.CVI_INS_STAT_WARN_SEEN true).raise 25 [] else s3

/-- A result is judged against the thresholds (R110). (DEDUCED: log entry 40) -/
def State.insJudge (s : State) (riso : Nat) : State :=
  let warn := s.get F.CVI_INS_THR_WARN
  let trip := s.get F.CVI_INS_THR_TRIP
  let p := s.get F.CVI_INS_CFG_PERSIST
  let w := runCount (decide (riso < warn)) s.cvi.nWarn
  let tr := runCount (decide (riso < trip)) s.cvi.nTrip
  let lt := runCount (decide (5 * trip ≤ 4 * riso)) s.cvi.nLeaveT
  let lw := runCount (decide (5 * warn ≤ 4 * riso)) s.cvi.nLeaveW
  let s1 := { s with cvi := { s.cvi with nWarn := w, nTrip := tr, nLeaveT := lt, nLeaveW := lw } }
  let low := if p ≤ tr then 2 else 1
  match s.get F.CVI_INS_STAT_STATE with
  | 3 => if warn ≤ riso then s1.insState 0 else if p ≤ w then s1.insState low else s1
  | 0 => if p ≤ w then s1.insState low else s1
  | 1 => if p ≤ tr then s1.insState 2 else if p ≤ lw then s1.insState 0 else s1
  | _ => if p ≤ lt then s1.insState (if p ≤ lw then 0 else 1) else s1

/-- A resistance R_D × num ÷ den to the nearest kΩ, ties away from zero, at most 100,000, with the mark that it lay above (R108, R109). (DESIGN CHOICE: log entry 74) -/
def insRes (rleg : Nat) (num den : Int) : Nat × Bool :=
  if den * 100000000 ≤ num * rleg then (100000, true) else (divRha (num * rleg) (den * 1000).toNat |>.toNat, false)

/-- INS_HALF_PERIOD_END (R108, R109). (DEDUCED: log entry 40) -/
def State.halfEnd (b : State) : State :=
  let s : State := { b with cvi := { b.cvi with insDone := true } }
  let x := s.cvi.ins
  let u := absN x.u1
  let settled := fun (a1 a2 : Int) => decide (500 * absN (a2 * x.n1 - a1 * x.n2) ≤ u * x.n2)
  let unset := !(settled x.v1 x.v2 && settled x.u1 x.u2)
  let s0 := s.setB F.CVI_INS_STAT_NOTSETTLED unset
  if x.n1 = 0 || x.n2 = 0 || x.ovr || x.moved || decide (u < x.n1 * 100000 * 16777216) then s0.setB F.CVI_INS_STAT_INVALID true
  else if unset then s0.setB F.CVI_INS_STAT_INVALID false
  else
    let m := (divRne x.v1 x.n1, divRne x.u1 x.n1)
    let isN := s.get F.CVI_INS_STAT_LEG = 1
    let c := if isN then { s.cvi with insN := some m } else { s.cvi with insP := some m }
    let s1 := { s0 with cvi := c }.setB F.CVI_INS_STAT_INVALID false
    match c.insP, c.insN with
    | some (vp, u1), some (vn, u2) =>
      let num := (u1 - vp) * u2 - u1 * vn
      let den := u1 * vn + u2 * vp
      if num < 0 ∨ (num = 0 ∧ den ≤ 0) then s1.setB F.CVI_INS_STAT_INVALID true
      else
        let rl := uAt s.cal 44 4
        let r := insRes rl num den
        let s2 := (((s1.set F.CVI_RISO (min 100000 r.1)).set F.CVI_RPOS (min 100000 (insRes rl num (u2 * vn)).1)).set F.CVI_RNEG
          (min 100000 (insRes rl num (u2 * vp)).1)).setB F.CVI_INS_STAT_ABOVE (r.2 || decide (100000 < r.1))
        let s3 := { s2 with rcd := { s2.rcd with cur := { s2.rcd.cur with riso := min s2.rcd.cur.riso (min 100000 r.1) } } }
        s3.insJudge (min 100000 r.1)
    | _, _ => s1

def execInsHalfPeriodEnd (t : Nat) (s : State) : Host.Outcome State Fault Refusal :=
  .next (s.commandIf t (fun s => s.measuring && !s.cvi.insOpen && !s.cvi.insDone && !s.flag F.CVI_INS_STAT_PAUSED
    && decide (s.cvi.insAt + s.get F.CVI_INS_CFG_HALF * sec ≤ s.quartzNs)) State.halfEnd)

end Sys2Proof.Machine
end

