-- ==== Sys2Proof/Machine/Eth.lean ====
section
/-! DEFINITION. The Ethernet ports, the internal switch with its transparent clock, and the answers to ARP, Neighbour Discovery and echo
(R311 to R318). -/

namespace Sys2Proof.Machine

/-! ## Links (R312) -/

def execEthLinkLoss (t p : Nat) (s : State) : Host.Outcome State Fault Refusal :=
  .next (s.commandIf t (fun s => s.inService && (p == 1 || p == 2)) (fun s => s.linkLoss p))

/-- ETH_LINK_UP: the link of a port that is clock-good and out of reset comes up. -/
def execEthLinkUp (t p : Nat) (s : State) : Host.Outcome State Fault Refusal :=
  .next (s.commandIf t (fun s => (p == 1 || p == 2) && s.ethRuns p) (fun s => s.setB (linkF p) true))

/-! ## Switch (R313, R318) -/

/-- Offset of the EtherType: past a VLAN tag where there is one. -/
def etherAt (f : List Byte) : Nat := if ofBe (slice f 12 2) = 0x8100 then 16 else 12

/-- Where the PTP message of a frame starts: after EtherType 0x88F7, or in UDP over IPv4 to port 319 or 320. -/
def ptpAt (f : List Byte) : Option Nat :=
  let e := etherAt f
  let ty := ofBe (slice f e 2)
  if ty = 0x88F7 then some (e + 2)
  else if ty = 0x0800 then
    let u := e + 2 + 4 * (ofBe (slice f (e + 2) 1) % 16)
    let dp := ofBe (slice f (u + 2) 2)
    if ofBe (slice f (e + 11) 1) = 17 ∧ (dp = 319 ∨ dp = 320) then some (u + 8) else none
  else none

/-- The message of a PTP frame that a transparent clock looks at: type, sequence and the identity its exchange is named by. -/
def ptpKey (f : List Byte) (o : Nat) : Nat × Nat × Nat :=
  let typ := ofBe (slice f o 1) % 16
  let id := if typ = 9 ∨ typ = 10 ∨ typ = 3 then ofBe (slice f (o + 44) 10) else ofBe (slice f (o + 20) 10)
  (typ, ofBe (slice f (o + 30) 2), id)

/-- Types of the event messages that a general message completes (R318): Sync, Delay_Req, or Pdelay_Req with its Pdelay_Resp. -/
def eventsOf (typ : Nat) : List Nat := if typ = 8 then [0] else if typ = 9 then [1] else if typ = 10 then [2, 3] else []

/-- Replace `n` bytes at offset `o`. -/
def putBytes (f : List Byte) (o : Nat) (b : List Byte) : List Byte := f.take o ++ b ++ f.drop (o + b.length)

/-- The transparent clock (R318): an event message's residence time is kept, and added to the correction of the message that completes
it, with delayAsymmetry as IEEE 1588-2019 has a transparent clock apply it (R319): of the port of arrival for Sync and Pdelay_Resp, less that of
the port of departure for Delay_Req and Pdelay_Req; under profile 2 a Follow_Up also gets the link delay of the port of arrival. (DEDUCED: log entry 57) -/
def State.transparent (s : State) (port : Nat) (f : List Byte) (res : Int) : State × List Byte :=
  match ptpAt f with
  | none => (s, f)
  | some o =>
    if !s.flag F.TIM_CFG_TCEN then (s, f)
    else
      let (typ, seq, id) := ptpKey f o
      let asym := if typ = 0 ∨ typ = 3 then s.asym port else -s.asym (3 - port)
      if typ ≤ 3 then ({ s with eth := { s.eth with resid := (((typ, seq, id), res + asym) :: s.eth.resid).take 64 } }, f)
      else
        let (mine, rest) := s.eth.resid.partition (fun x => (eventsOf typ).contains x.1.1 && x.1.2 == (seq, id))
        if mine.isEmpty then (s, f)
        else
          let link := if typ = 8 ∧ s.get F.TIM_CFG_PROFILE = 2 then nth 0 s.ptp.linkDelay (port - 1) else 0
          let c := ofCode 64 (ofBe (slice f (o + 8) 8)) + sumI (mine.map (·.2)) + link
          ({ s with eth := { s.eth with resid := rest } }, putBytes f (o + 8) (beBytes 8 (toCode 64 c)))

/-- The bay frame in an Ethernet frame passes its CRC (R259). -/
def bayFrameOk (f : List Byte) : Bool :=
  let b := f.drop (etherAt f + 2)
  (bayParse (b.take (uAt b 6 2 + 12))).isSome

/-- The module port takes a frame that is untagged or priority-tagged (R313). (DEDUCED: log entry 57) -/
def moduleTakes (f : List Byte) : Bool := ofBe (slice f 12 2) != 0x8100 || ofBe (slice f 14 2) % 4096 == 0

/-- A frame goes into the high queue of its egress port: a PTP event message, or VLAN priority 6 or 7 (R313). -/
def highFrame (f : List Byte) : Bool :=
  (ofBe (slice f 12 2) == 0x8100 && decide (6 ≤ ofBe (slice f 14 1) / 32)) || (match ptpAt f with
    | some o => decide (ofBe (slice f o 1) % 16 ≤ 3)
    | none => false)

/-- A frame enters an egress queue of port `p` (1, 2, or 3 for the module port). (DESIGN CHOICE: log entry 76) -/
def State.egress (s : State) (p : Nat) (hi : Bool) (m : OutMsg) : State :=
  { s with eth := { s.eth with egress := modNth s.eth.egress (p - 1) (fun x => if hi then (x.1 ++ [m], x.2) else (x.1, x.2 ++ [m])) } }

/-- The ports a frame goes to (R259, R313): a bay frame to the other line ports and the module, the module's own address to the module, a
known address to its port, anything else to every other port. -/
def State.switchPorts (s : State) (port : Nat) (f : List Byte) : List Nat :=
  let dst := ofBe (f.take 6)
  let all := if ofBe (slice f (etherAt f) 2) = 0x88B5 then (if bayFrameOk f then s.onward port ++ [3] else [])
    else if dst = Config.mac.toNat then [3]
    else match assoc? dst s.eth.macs with
      | some (p, _) => if ofBe (f.take 1) % 2 = 1 then [1, 2, 3] else [p]
      | none => [1, 2, 3]
  all.filter (fun p => p != port && (if p = 3 then moduleTakes f else s.ethRuns p && s.flag (linkF p)))

/-- SWITCH_FRAME_FORWARD: the source address is learned and the frame enters the egress queues; a discovery frame from a line port goes on
with its new HOP (R257). Port 3 is the module port. (DEDUCED: log entry 57) -/
def State.switchFrame (s : State) (port : Nat) (f : List Byte) (res : Int) : State :=
  let src := ofBe (slice f 6 6)
  let full := decide (256 ≤ s.eth.macs.length) && (assoc? src s.eth.macs).isNone
  let s1 : State := if full || port == 3 || ofBe (slice f 6 1) % 2 = 1 then s
    else { s with eth := { s.eth with macs := assocPut src (port, s.now) s.eth.macs } }
  let ty := ofBe (slice f (etherAt f) 2)
  let b := f.drop (etherAt f + 2)
  if port ≠ 3 ∧ ty = 0x88B5 ∧ uAt b 2 1 = 3 then
    (if s.onLine port && s.role != 1 then s1.discovery port (b.take (uAt b 6 2 + 12)) else s1)
  else
    let outs := s1.switchPorts port f
    let passes := (port == 1 || port == 2) && outs.any (fun p => p != 3)
    let (s2, g) := if passes then s1.transparent port f res else (s1, f)
    outs.foldl (fun a p => a.egress p (highFrame f) (.eth p ty (if p = 3 then f else g))) s2

def execSwitchFrameForward (t port : Nat) (f : List Byte) (res : Int) (s : State) : Host.Outcome State Fault Refusal :=
  .next (s.commandIf t (fun s => (if port = 3 then s.ethRuns 1 || s.ethRuns 2 else (port == 1 || port == 2) && s.ethRuns port) && decide (14 ≤ f.length))
    (fun s => s.switchFrame port f res))

/-- MAC_ENTRY_AGEING: entries without a frame for 300 s leave the table. -/
def execMacEntryAgeing (t : Nat) (s : State) : Host.Outcome State Fault Refusal :=
  .next (s.command t (fun s =>
    { s with eth := { s.eth with macs := s.eth.macs.filter (fun x => decide (s.now < x.2.2 + 300 * sec)) } }))

/-! ## Addresses (R316) -/

/-- The link-local address from the MAC address by modified EUI-64. -/
def linkLocal : Nat :=
  let m := Config.mac.toNat
  let e := m / 16777216 * 1099511627776 + 0xFFFE * 16777216 + m % 16777216
  0xFE80 * 2 ^ 112 + (e ^^^ 0x0200000000000000)

/-- The global IPv6 address. -/
def State.ip6 (s : State) : Nat :=
  (List.range 4).foldl (fun a j => a + s.get { F.TIM_IP6 with addr := 0xD0050 + 4 * j } * 2 ^ (32 * j)) 0

/-- An address of the module (R316). -/
def State.ownIp6 (s : State) (a : Nat) : Bool := a == linkLocal || (s.ip6 != 0 && a == s.ip6)

/-- An own IPv4 address; 0.0.0.0 disables IPv4. -/
def State.ownIp4 (s : State) (a : Nat) : Bool := s.get F.TIM_IP4 != 0 && a == s.get F.TIM_IP4

/-- ARP_REQUEST: the reply for the own address, to the sender's hardware and protocol address. -/
def State.arp (s : State) (port sha spa tpa : Nat) : State :=
  s.emit (.eth port 0x0806 ([0, 1, 8, 0, 6, 4, 0, 2] ++ beBytes 6 Config.mac.toNat ++ beBytes 4 tpa ++ beBytes 6 sha ++ beBytes 4 spa))

def execArpRequest (t port sha spa tpa : Nat) (s : State) : Host.Outcome State Fault Refusal :=
  .next (s.commandIf t (fun s => s.ethOn port && s.ownIp4 tpa) (fun s => s.arp port sha spa tpa))

/-- An ICMPv6 message with its checksum over the pseudo-header of addresses, length and next header. -/
def icmp6 (src dst : Nat) (typ : Nat) (rest : List Byte) : List Byte :=
  let body := leBytes 1 typ ++ [0, 0, 0] ++ rest
  let c := inetCheck (beBytes 16 src ++ beBytes 16 dst ++ beBytes 4 body.length ++ beBytes 4 58 ++ body)
  leBytes 1 typ ++ [0] ++ beBytes 2 c ++ rest

/-- NEIGHBOUR_SOLICITATION: an advertisement with the own link-layer address, solicited to the sender; one from the unspecified address is
answered to all nodes with the S flag clear, as Neighbour Discovery has it. (DEDUCED: log entry 57) -/
def State.neighbour (s : State) (port src target : Nat) : State :=
  let dst := if src = 0 then 0xFF02 * 2 ^ 112 + 1 else src
  s.emit (.eth port 0x86DD (icmp6 target dst 136 ([if src = 0 then 0x20 else 0x60, 0, 0, 0] ++ beBytes 16 target ++ [2, 1] ++ beBytes 6 Config.mac.toNat)))

def execNeighbourSolicitation (t port src target : Nat) (s : State) : Host.Outcome State Fault Refusal :=
  .next (s.commandIf t (fun s => s.ethOn port && s.ownIp6 target) (fun s => s.neighbour port src target))

/-- ICMP_ECHO: the request's identifier, sequence and data come back in a reply. (DEDUCED: log entry 57) -/
def State.echo (s : State) (port : Nat) (v6 : Bool) (src dst : Nat) (rest : List Byte) : State :=
  if v6 then s.emit (.eth port 0x86DD (icmp6 dst src 129 rest))
  else s.emit (.eth port 0x0800 ([0, 0] ++ beBytes 2 (inetCheck ([0, 0, 0, 0] ++ rest)) ++ rest))

def execIcmpEcho (t port : Nat) (v6 : Bool) (src dst : Nat) (rest : List Byte) (s : State) : Host.Outcome State Fault Refusal :=
  .next (s.commandIf t (fun s => s.ethOn port && (if v6 then s.ownIp6 dst else s.ownIp4 dst)) (fun s => s.echo port v6 src dst rest))

end Sys2Proof.Machine
end

