-- ==== Sys2Proof/Machine/Evr.lean ====
section
/-! DEFINITION. The event router's commands and the event and attention opcodes (R289, R290, R307, R346 to R357). -/

namespace Sys2Proof.Machine

/-! ## Claims and end of service (R350, R354) -/

/-- ATTN_CLAIM on line `h`: the source presented now moves from pending to active; 0xFF where none is presented. A source
moved to its fallback stays with it until its own target is awake (R355). (DEDUCED: log entry 55) -/
def State.claim (s : State) (h : Nat) : State × Nat :=
  match s.presents h with
  | none =>
    let gone := s.evr.withdrawn.contains h
    let s1 : State := { s with evr := { s.evr with withdrawn := s.evr.withdrawn.filter (· ≠ h) } }
    (if gone then s1.setB F.EVR_STAT_SPUR_SEEN true else s1, 0xFF)
  | some n =>
    ({ s with evr := { s.evr with
        pend := s.evr.pend.filter (· ≠ n), act := (n, 8 + h) :: s.evr.act,
        moved := if s.asleep (F.EVR_TGT_TGT.of (s.tgtWord n) - 8) then s.evr.moved else s.evr.moved.filter (· ≠ n),
        shown := modNth s.evr.shown h (fun _ => none), withdrawn := s.evr.withdrawn.filter (· ≠ h) } }, n)

def execAttnClaim (t : Nat) (r : Req) (s : State) : Host.Outcome State Fault Refusal :=
  .next (s.hostCommand t 0x0703 r (Fmt.fixed 1 []) (fun _ s =>
    let h := uAt r.payload 0 1
    if 3 < h then (s, .err stBadParam 0 0)
    else
      let (s1, v) := s.claim h
      (s1, .ok (leBytes 1 v))))

/-- ATTN_EOI: the service of a claimed vector ends. -/
def State.eoi (s : State) (h v : Nat) : State × HRes :=
  if 3 < h then (s, .err stBadParam 0 0)
  else if s.evr.act.contains (v, 8 + h) then
    ({ s with evr := { s.evr with act := s.evr.act.filter (fun a => a ≠ (v, 8 + h)) } }, .ok [])
  else (s, .err stBadParam 0 1)

def execAttnEoi (t : Nat) (r : Req) (s : State) : Host.Outcome State Fault Refusal :=
  .next (s.hostCommand t 0x0704 r (Fmt.fixed 2 []) (fun _ s => s.eoi (uAt r.payload 0 1) (uAt r.payload 1 1)))

/-- EVR_REDIRECT_TIMEOUT (R355): a source that has waited REDIR × 10 ms moves to its fallback, where it has one. -/
def State.redirect (s : State) (n : Nat) : State :=
  let r := s.get F.EVR_CTRL_REDIR
  match assoc? n s.evr.waits with
  | none => s
  | some a =>
    if r = 0 ∨ s.now < a + r * 10 * msec ∨ F.EVR_TGT_FB.of (s.tgtWord n) = 0 ∨ s.evr.moved.contains n then s
    else
      let s1 : State := { s with evr := { s.evr with moved := n :: s.evr.moved } }
      s1.setB F.EVR_STAT_REDIR_SEEN true

def execEvrRedirectTimeout (t n : Nat) (s : State) : Host.Outcome State Fault Refusal :=
  .next (s.commandIf t (fun s => s.inService) (fun s => s.redirect n))

/-- ROUTER_TEST_END (R352). -/
def execRouterTestEnd (t : Nat) (s : State) : Host.Outcome State Fault Refusal :=
  .next (s.commandIf t (fun s => s.inService && s.get F.EVR_STAT_MODE == 1) (fun s => s.set F.EVR_STAT_MODE 2))

/-! ## Event packets (R289, R290, R349) -/

/-- EVENT_REPORT: CNT of a source goes into the packet of every session subscribed to it and is cleared. -/
def State.report_ (s : State) (n : Nat) : State :=
  let c := (assoc? n s.evr.cnt).getD 0
  if c = 0 then s
  else
    let (ns, d) := (assoc? n s.evr.last).getD (0, [])
    let dest := (List.range 8).filter (fun k => s.isOpen k && (s.session k).mask.testBit n)
    let s1 : State := { s with evr := { s.evr with cnt := assocDel n s.evr.cnt } }
    dest.foldl (fun a k => a.sendEvent k n c ns 0 0 d) s1

def execEventReport (t n : Nat) (s : State) : Host.Outcome State Fault Refusal :=
  .next (s.commandIf t (fun s => s.inService && !s.s0Down) (fun s => s.report_ n))

/-- EVENT_RESEND: unacknowledged packets of a session sent at least 1 s ago are sent again, or after 3 repeats discarded and counted. -/
def State.evResend (s : State) (n : Nat) : State :=
  let x := s.session n
  let due := fun (e : EvPkt) => decide (e.sentAt + sec ≤ s.now)
  let again := x.eventq.filter (fun e => due e && decide (e.sends ≤ 3))
  let dead := (x.eventq.filter (fun e => due e && decide (3 < e.sends))).length
  let q := (x.eventq.filter (fun e => !(due e && decide (3 < e.sends)))).map
    (fun (e : EvPkt) => if due e then { e with sends := e.sends + 1, sentAt := s.now } else e)
  let s1 : State := { s with host := { s.host with sess := modNth s.host.sess n (fun (y : Session) =>
    { y with eventq := q, lost := min 255 (y.lost + dead) }) } }
  again.foldl (fun a e => a.emit (.packet x.via x.src e.pkt)) s1

def execEventResend (t n : Nat) (s : State) : Host.Outcome State Fault Refusal :=
  .next (s.commandIf t (fun s => s.inService && s.isOpen n) (fun s => s.evResend n))

/-- EVENT_SUBSCRIBE. -/
def execEventSubscribe (t : Nat) (r : Req) (s : State) : Host.Outcome State Fault Refusal :=
  .next (s.hostCommand t 0x0701 r { len := fun p => p.length == 28, pad := [25, 26, 27], flagsAt := some (24, 1) } (fun _ s =>
    ({ s with host := { s.host with sess := modNth s.host.sess r.session (fun (y : Session) =>
      { y with mask := uAt r.payload 0 24, reliable := (uAt r.payload 24 1).testBit 0 }) } }, .ok [])))

/-- The events of a session up to and including SEQ are acknowledged; what the newest of them counted in LOST is delivered. -/
def Session.acked (y : Session) (q : Nat) : Session :=
  let later := fun (e : EvPkt) => decide (32768 ≤ (q + 65536 - e.seq) % 65536)
  { y with eventq := y.eventq.filter later,
           lost := y.lost - (((y.eventq.filter (fun e => !later e)).getLast?).map (fun e => e.pkt.lost)).getD 0 }

/-- EVENT_ACK: every event sequence up to and including SEQ. -/
def execEventAck (t : Nat) (r : Req) (s : State) : Host.Outcome State Fault Refusal :=
  .next (s.hostCommand t 0x0702 r (Fmt.fixed 4 [2, 3]) (fun _ s =>
    ({ s with host := { s.host with sess := modNth s.host.sess r.session (fun (y : Session) => y.acked (uAt r.payload 0 2)) } }, .ok [])))

end Sys2Proof.Machine
end

