-- ==== Sys2Proof/Machine/Til.lean ====
section
/-! DEFINITION. Memory tiles: load mismatches with retry, retirement and recovery, the background scrub and the TILE_SCRUB job (R377 to
R386). -/

namespace Sys2Proof.Machine

/-! ## Mismatch and retirement (R378, R381, R382) -/

/-- The row of Table 19.1 that applies, counted from 1. (DEDUCED: log entry 63) -/
def policyRow (region : Nat) (u : TileUse) : Nat :=
  match u with
  | .code _ => if region = 0 then 1 else 2
  | .tables => 3
  | .coefs => 4
  | .uncommitted => 5
  | .config => 6
  | .measurement _ => 7
  | .cells => 8
  | .checkpoint _ => 9
  | .queue _ _ _ => 10
  | .work _ _ _ => 11

/-- Replies of Q28 … Q31 are discarded: their frames count as unanswered and are retried under R51. -/
def State.repliesCut (s : State) (q first count : Nat) : State :=
  let kept := cutBy (fun (r : RingCmd × Option (List Byte)) => r.1.queue == q) first count s.ring.replies
  let lost := (s.ring.replies.filter (fun r => !kept.contains r)).map (·.1)
  let spent := lost.filter (fun c => decide (3 ≤ c.tries))
  { s with ring := { s.ring with replies := kept ++ spent.map (fun c => (c, none)),
                                 cmds := lost.filter (fun c => decide (c.tries < 3)) ++ s.ring.cmds } }

/-- Entries of Q44 are discarded: first the call in progress, then the one that waits. -/
def State.callsCut (s : State) (first count : Nat) : State :=
  let inCut := fun (i : Nat) => decide (first ≤ i) && decide (i < first + count)
  let one := s.iic.call.isSome
  { s with iic := { s.iic with call := if inCut 0 then none else s.iic.call, onBus := s.iic.onBus && !inCut 0,
                               waiting := s.iic.waiting && !inCut (b2n one) } }

/-- The entries of a queue that stand in a lost tile are discarded. -/
def State.queueCut (s : State) (n first count : Nat) : State :=
  let cut := fun {α : Type} (l : List α) => cutBy (fun _ => true) first count l
  let sess := fun (f : Session → Session) => { s with host := { s.host with sess := modNth s.host.sess (n % 8) f } }
  let spi := { s with host := { s.host with spiOut := cutBy (fun (p : Pkt) => p.session == n % 8 && p.flags % 2 == 1) first count s.host.spiOut } }
  if n < 8 then sess (fun x => { x with cmdq := cut x.cmdq })
  else if n < 16 then (if (s.session (n % 8)).via = .spi then spi else sess (fun x => { x with replyq := cut x.replyq }))
  else if n < 24 then (if (s.session (n % 8)).via = .spi then s.spiEventsCut (n % 8) first count else
    sess (fun x => { x with eventq := cut x.eventq, lost := min 255 (x.lost + (x.eventq.length - (cut x.eventq).length)) }))
  else if n < 28 then { s with ring := { s.ring with cmds := cutBy (fun (c : RingCmd) => c.queue == n - 24) first count s.ring.cmds } }
  else if n < 32 then s.repliesCut (n - 28) first count
  else if n < 34 then { s with eth := { s.eth with tsq := modNth s.eth.tsq (n - 32) (fun l => cut l) } }
  else if n < 38 then { s with can := { s.can with txq := modNth s.can.txq (n - 34) (fun l => cut l) } }
  else if n = 38 then { s with can := { s.can with errq := cut s.can.errq } }
  else if n = 39 then { s with can := { s.can with logq := cut s.can.logq } }
  else if n < 42 then { s with bay := { s.bay with relay := modNth s.bay.relay (n - 40) (fun l => cut l) } }
  else if n = 42 then { s with rcd := { s.rcd with q42 := cut s.rcd.q42 } }
  else if n = 44 then s.callsCut first count
  else if n = 45 then { s with iic := { s.iic with q45 := cut s.iic.q45 } }
  else if n = 47 then { s with host := { s.host with trace := cut s.host.trace } }
  else s

/-- What is lost with a tile that has no copy, or stands still until it is rebuilt (Table 19.1). -/
def State.tileEffect (s : State) (u : TileUse) : State :=
  match u with
  | .measurement p => if 1 ≤ p && p ≤ s.len then s.setStale p true else s
  | .checkpoint q => { s with est := { s.est with ckpt := modNth s.est.ckpt q (fun l => l.drop 1) } }
  | .queue n first count =>
    let s1 := s.queueCut n first count
    (List.range (s.fill n - s1.fill n)).foldl (fun a _ => a.qLost n) s1
  | .work sessions jobs loads =>
    let s1 := sessions.foldl (fun (a : State) n => if (a.session n).st == .free then a else a.closeSession n) s
    let s1 := s1.jobsLost jobs.contains 9
    let staged := s1.upd.open_.any (fun u => u.1 == 1)
    let s2 : State := { s1 with bay := { s1.bay with computed := true }, upd := { s1.upd with fault := s1.upd.fault || (loads && staged) } }
    if loads then { s2 with cfg := { s2.cfg with asmT := none, asmC := none }, est := { s2.est with restore := none, copy := none } } else s2
  | _ => s

/-- The rebuilding of a tile begins. -/
def State.rebuild (s : State) (region tile : Nat) (u : TileUse) : State :=
  { s with til := { s.til with recovering := s.til.recovering ++ [{ region := region, tile := tile, use := u }] } }

/-- A tile is rebuilt, with what is lost meanwhile. -/
def State.recover (s : State) (region tile : Nat) (u : TileUse) : State := (s.tileEffect u).rebuild region tile u

/-- The lane whose local memory has no spare left goes straight to RETIRED (R243). -/
def State.laneTile (s : State) (l : Nat) : State :=
  let s1 := s.fence l 6
  let s2 := if s1.lan.testing.any (fun x => x.1 == l && x.2) then s1.testJobEnd else s1
  (({ s2 with lan := { s2.lan with testing := s2.lan.testing.filter (fun x => x.1 ≠ l) } }.setLane l 5).raise 73 []).laneStore

/-- A spare of lane `l`'s local memory remains. -/
def State.laneSpare (s : State) (l : Nat) : Bool := decide (nth 0 s.flash.laneTiles l + nth 0 s.flash.laneBad l < 32)

/-- A spare takes the tile's index; the retirement is counted and reported. -/
def State.spareIn (s : State) (region tile : Nat) (u : TileUse) : State :=
  let s1 : State := if region = 0 then { s with flash := { s.flash with tiles := s.flash.tiles ++ [(0, tile)] } }
    else { s with flash := { s.flash with tiles := s.flash.tiles ++ [(region, tile)],
                                          laneTiles := modNth s.flash.laneTiles (region - 1) (· + 1) } }
  let s2 := ((s1.set F.TIL_LAST_TILE tile).set F.TIL_LAST_REGION region).set F.TIL_LAST_POLICY (policyRow region u)
  (s2.setB F.TIL_STAT_RETIRE_SEEN true).raise 112 []

/-- A tile is retired and rebuilt in its spare. -/
def State.retire (s : State) (region tile : Nat) (u : TileUse) : State := (s.spareIn region tile u).recover region tile u

/-- A load passes: the CRC recomputed over the data equals the stored one (R377). (DEDUCED: log entry 63) -/
def tilePasses (x : TileRead) : Bool := x.data.length == 256 && crc32c x.data == x.crc

/-- A tile can bear the mark of a fence: its lane, or for main SRAM any lane, has been fenced, and the mark has not cleared since (R244, R381). -/
def State.marked (s : State) (region tile : Nat) : Bool :=
  (if region = 0 then !s.til.suspect.isEmpty else s.til.suspect.contains (region - 1)) && !s.til.cleared.contains (region, tile)

/-- The suspect mark of a tile clears: a load has passed, or the tile is recovered (R381). (DEDUCED: log entry 63) -/
def State.unmark (s : State) (region tile : Nat) : State :=
  if s.til.suspect.isEmpty || s.til.cleared.contains (region, tile) then s
  else { s with til := { s.til with cleared := (region, tile) :: s.til.cleared } }

/-- TILE_LOAD_MISMATCH: `suspect` the tile is one that a fenced lane held open for writing; `again` the repeated load. A tile that is being
recovered is waited for (R396). (DEDUCED: log entry 63) -/
def State.tileMismatch (s : State) (region tile : Nat) (u : TileUse) (suspect : Bool) (again : TileRead) : State :=
  if s.til.recovering.any (fun x => x.region == region && x.tile == tile) then s
  else if suspect && s.marked region tile then (s.setB F.TIL_STAT_SUSPECT_SEEN true).recover region tile u
  else if tilePasses again then (s.unmark region tile).count F.TIL_STAT_RETRYOK F.TIL_STAT_SAT
  else if region = 0 then
    if 0 < s.mainSpares then s.retire 0 tile u
    else ((s.setB F.TIL_STAT_NOSPARE true).raise 113 []).recover 0 tile u
  else if s.laneSpare (region - 1) then s.retire region tile u
  else s.laneTile (region - 1)

/-- A code tile of main SRAM fails its verification: repeated load, spare, and reload from flash as for every tile, where nothing is lost
(Table 19.1). -/
def State.codeMismatch (s : State) (b : CodeTile) : State :=
  let u := TileUse.code b.core
  if s.til.recovering.any (fun x => x.region == 0 && x.tile == b.tile) then s
  else if tilePasses b.again then (s.unmark 0 b.tile).count F.TIL_STAT_RETRYOK F.TIL_STAT_SAT
  else if 0 < s.mainSpares then (s.spareIn 0 b.tile u).rebuild 0 b.tile u
  else ((s.setB F.TIL_STAT_NOSPARE true).raise 113 []).rebuild 0 b.tile u

/-- The module loads tiles of main SRAM, and of the local memory of a lane that is not retired. -/
def State.tileLive (s : State) (region tile : Nat) : Bool :=
  s.started && (if region = 0 then decide (tile < 33792) else decide (region ≤ 5) && decide (tile < 1056) && s.laneSt (region - 1) != 5)

/-- DESIGN CHOICE: log entry 4. (DESIGN CHOICE: log entry 4) -/
def execTileLoadMismatch (t region tile : Nat) (use : TileUse) (first : TileLoad) (again : TileRead) (s : State) :
    Host.Outcome State Fault Refusal :=
  .next (s.commandIf t (fun s => s.tileLive region tile && !tilePasses first.read)
    (fun s => s.tileMismatch region tile use first.suspect again))

/-- TILE_RECOVERY_DONE: the content stands again. The cell state of a lane comes from its last complete checkpoint, caught up. -/
def State.tileDone (s : State) (region tile : Nat) : State :=
  match s.til.recovering.find? (fun x => x.region == region && x.tile == tile) with
  | none => s
  | some x =>
    let s0 : State := { s with til := { s.til with recovering := s.til.recovering.filter (fun y => !(y == x)) } }
    let s1 := s0.unmark region tile
    if x.use = .cells then
      ((List.range 4).filter (fun q => nth none s1.lan.est q == some (region - 1))).foldl State.catchUp s1
    else s1

def execTileRecoveryDone (t region tile : Nat) (s : State) : Host.Outcome State Fault Refusal :=
  .next (s.commandIf t State.started (fun s => s.tileDone region tile))

/-! ## Scrub (R383) -/

/-- Operating time to the next pass. -/
def State.scrubNext (s : State) : Nat := s.opsec + 3600 * s.get F.TIL_SCRUBCFG_PERIOD

/-- S1's pass over main SRAM is under way or due, and the rate of 64 tiles a millisecond allows more. -/
def State.scrubDue (s : State) : Bool :=
  s.inService && !s.s1Down && s.get F.TIL_SCRUBCFG_PERIOD != 0 && (s.til.cursor != 0 || decide (s.til.passAt ≤ s.opsec))
    && decide (s.til.loadAt + msec ≤ s.now)

/-- The pass of lane `l` over its own local tiles is under way or due: the lane is ACTIVE and does not stall. -/
def State.laneScrubDue (s : State) (l : Nat) : Bool :=
  let p := nth (0, 0) s.til.lanePass l
  s.lanesOn && s.get F.TIL_SCRUBCFG_PERIOD != 0 && nth 0 s.lan.st l == 1 && !s.laneStalls l && (p.1 != 0 || decide (p.2 ≤ s.opsec))

/-- Unmapped spares that fail their pattern are withdrawn (R383). -/
def State.sparesBad (s : State) (region bad : Nat) : State :=
  if region = 0 then { s with flash := { s.flash with badSpares := s.flash.badSpares + min bad s.mainSpares } }
  else
    let l := region - 1
    let left := 32 - nth 0 s.flash.laneTiles l - nth 0 s.flash.laneBad l
    { s with flash := { s.flash with laneBad := modNth s.flash.laneBad l (· + min bad left) } }

/-- SCRUB_TICK: `n` more tiles of main SRAM loaded, at most 64, and `bad` spares that failed their pattern. (DEDUCED: log entry 63) -/
def State.scrub (s : State) (n bad : Nat) : State :=
  let c := s.til.cursor + min 64 n
  let past := decide (32768 ≤ c)
  { s with til := { s.til with cursor := if past then 0 else c, loadAt := s.now,
                               passAt := if past then s.scrubNext else s.til.passAt } }.sparesBad 0 bad

/-- SCRUB_TICK of lane `l`: `n` more of its 1,024 tiles and 32 spares loaded. (DEDUCED: log entry 63) -/
def State.laneScrub (s : State) (l n bad : Nat) : State :=
  let p := nth (0, 0) s.til.lanePass l
  let q := if 1056 ≤ p.1 + n then (0, s.scrubNext) else (p.1 + n, p.2)
  { s with til := { s.til with lanePass := modNth s.til.lanePass l (fun _ => q) } }.sparesBad (l + 1) bad

def execScrubTick (t : Nat) (x : ScrubStep) (bad : Nat) (s : State) : Host.Outcome State Fault Refusal :=
  .next (s.commandIf t (fun s => if x.region = 0 then s.scrubDue else s.laneScrubDue (x.region - 1))
    (fun s => if x.region = 0 then s.scrub x.n bad else s.laneScrub (x.region - 1) x.n bad))

/-- DEDUCED: log entry 63. (DEDUCED: log entry 63) -/
def execTileScrub (t : Nat) (r : Req) (s : State) : Host.Outcome State Fault Refusal :=
  .next (s.hostCommand t 0x0F02 r (Fmt.fixed 12 [1, 2, 3]) (fun id s =>
    let g := uAt r.payload 0 1
    let first := uAt r.payload 4 4
    let count := uAt r.payload 8 4
    let size := if g = 0 then 33792 else 1056
    if 5 < g then (s, .err stBadParam 0 0)
    else if size ≤ first then (s, .err stBadParam 0 4)
    else if size < first + count then (s, .err stBadParam 0 8)
    else if s.cfgOut then (s, .no stTileFault 0)
    else if s.til.scrub.isSome || !s.jobRoom then (s, .no stBusy 0)
    else
      let (s1, j) := s.jobStart 0x0F02 id.session 1 count
      ({ s1 with til := { s1.til with scrub := some (g, first, count, j) } }, .job j)))

/-- The spares of a memory that lie in a range of its tiles: the last 1,024 of main SRAM, the last 32 of a lane. -/
def sparesIn (g first count : Nat) : Nat := first + count - max first (if g = 0 then 32768 else 1024)

/-- TILE_SCRUB_DONE: the last tile of the host's range is verified; `bad` of the spares in it failed their pattern. -/
def State.scrubEnd (s : State) (bad : Nat) : State :=
  match s.til.scrub with
  | none => s
  | some (g, first, count, j) =>
    ({ s with til := { s.til with scrub := none } }.sparesBad g (min bad (sparesIn g first count))).jobEnd j .done stOk []

def execTileScrubDone (x : ScrubEnd) (s : State) : Host.Outcome State Fault Refusal :=
  .next (s.commandIf x.t (fun s => s.inService && !s.s1Down) (fun s => s.scrubEnd x.bad))

end Sys2Proof.Machine
end

