-- ==== Sys2Proof/Machine/Lan.lean ====
section
/-! DEFINITION. The lanes: watchdogs, switch-over, self-tests, the supervisor under gander's watch, and the lane opcodes
(R243 to R253). -/

namespace Sys2Proof.Machine

/-- LANE_WATCHDOG_TIMEOUT: the watchdog of lane `l` has been unserved for 2 ms, or its slice silent for 64 samples (R243). -/
def execLaneWatchdogTimeout (t l : Nat) (s : State) : Host.Outcome State Fault Refusal :=
  .next (s.commandIf t (fun s => s.inService && (s.laneSt l == 1 || s.lan.sw.any (fun x => x.mule == l))) (fun s => s.fence l 1))

/-! ## Switch-over (R247, R248) -/

/-- A master copy of code or table data in main SRAM is being recovered: the mule's reload waits for it (R396). -/
def State.masterOut (s : State) : Bool :=
  s.til.recovering.any (fun x => x.region == 0 && (match x.use with | .code _ | .tables => true | _ => false))

/-- SWITCHOVER_TILES_VERIFIED: where no lane serves the quarter the mule loads the checkpoint, catches up, and updates the quarter from the next
strobe on. -/
def execSwitchoverTilesVerified (t : Nat) (s : State) : Host.Outcome State Fault Refusal :=
  .next (s.commandIf t (fun s => s.lanesOn && s.lan.sw.any (fun x => !x.verified && !s.laneStalls x.mule) && !s.masterOut)
    (fun s => match s.lan.sw with
      | some x =>
        let s1 := if (nth none s.lan.est x.tok).isNone then
            ({ s with lan := { s.lan with est := modNth s.lan.est x.tok (fun _ => some x.mule) } }.catchUp x.tok).laneStore
          else s
        { s1 with lan := { s1.lan with sw := some { x with verified := true, caught := true } } }
      | none => s))

def execSwitchoverShadowStart (t : Nat) (s : State) : Host.Outcome State Fault Refusal :=
  .next (s.commandIf t (fun s => s.lanesOn && s.lan.sw.any (fun x => x.caught && x.shadow.isNone)
      && !s.til.recovering.any (fun x => x.use == TileUse.uncommitted))
    (fun s => { s.set F.LAN_STAT_SW 2 with lan := { s.lan with sw := s.lan.sw.map (fun x => { x with shadow := some 0 }) } }))

/-- TOKEN_GRANT: token free and the lane without one (R246), after 16 agreeing shadow samples and before sample 4,000. -/
def execTokenGrant (t : Nat) (s : State) : Host.Outcome State Fault Refusal :=
  .next (s.commandIf t (fun s => s.lanesOn && s.lan.sw.any (fun x =>
      x.shadow == some 16 && (s.laneOf x.tok).isNone && (s.tokenOf x.mule).isNone && s.laneSt x.mule == 2 && decide (x.samples < 4000)))
    (fun s => match s.lan.sw with
      | some x => s.grant x
      | none => s))

def execSwitchoverAbandon (t : Nat) (s : State) : Host.Outcome State Fault Refusal :=
  .next (s.commandIf t (fun s => s.inService && s.lan.sw.any (fun x => decide (4000 ≤ x.samples)))
    (fun s => match s.lan.sw with
      | some x => s.abandon x 4
      | none => s))

/-! ## Self-tests (R245, R251) -/

/-- LANE_SELFTEST_END of lane `l`: results of the logic BIST and of the march test with the tiles it retired. -/
def State.selftestEnd (s : State) (l : Nat) (logic march : Bool) (tiles : Nat) : State :=
  let n := nth 0 s.flash.laneTiles l + tiles
  let ok := logic && march && decide (n + nth 0 s.flash.laneBad l ≤ 32)
  let code := if !logic then 2 else if ok then 1 else 3
  let s1 := { s with
    lan := { s.lan with testing := s.lan.testing.filter (fun x => x.1 ≠ l) },
    flash := { s.flash with bist := modNth s.flash.bist l (fun _ => (code, some s.opsec)), laneTiles := modNth s.flash.laneTiles l (fun _ => min 32 n) } }
  let s2 := if ok && decide (s.fences l < s.get F.LAN_CFG_MAXFENCE) then s1.setLane l 2 else (s1.setLane l 5).raise 73 []
  let s3 := if ok then s2 else s2.setB F.LAN_STAT_BISTFAIL_SEEN true
  let s4 := match s.lan.testJob, s.lan.testing.find? (fun x => x.1 = l) with
    | some j, some (_, true) =>
      { s3 with lan := { s3.lan with testJob := none } }.jobEnd j (if ok then .done else .failed) (if ok then stOk else stRefused) []
    | _, _ => s3
  s4.muleNext.laneStore

def execLaneSelftestEnd (t l : Nat) (logic march : Bool) (tiles : Nat) (s : State) : Host.Outcome State Fault Refusal :=
  .next (s.commandIf t (fun s => s.lanesOn && s.lan.testing.any (fun x => x.1 == l) && !(logic && march && s.laneStalls l))
    (fun s => s.selftestEnd l logic march tiles))

/-- The mule enters TESTING. -/
def State.muleTest (s : State) (m : Nat) : State :=
  let s1 := s.setLane m 3
  { s1 with lan := { s1.lan with testing := (m, true) :: s1.lan.testing } }.laneStore

/-- MULE_SELFTEST_DUE (R251): TESTH hours since the last test; it waits for RUN without a switch-over. (DEDUCED: log entry 52) -/
def execMuleSelftestDue (t : Nat) (s : State) : Host.Outcome State Fault Refusal :=
  .next (s.commandIf t (fun s => s.inRun && s.lanesOn && s.lan.sw.isNone && s.mule?.any (fun m =>
      decide (((nth (0, none) s.flash.bist m).2.getD 0) + 3600 * s.get F.LAN_CFG_TESTH ≤ s.opsec)))
    (fun s => match s.mule? with
      | some m => s.muleTest m
      | none => s))

/-! ## The supervisor (R250, R359) -/

/-- SUPERVISOR_HEARTBEAT_TIMEOUT: the supervisor-only reset, or on a second failure within 10 min a system request. -/
def execSupervisorHeartbeatTimeout (t : Nat) (s : State) : Host.Outcome State Fault Refusal :=
  .next (s.commandIf t (fun s => s.supWatched || s.coincides 4 || s.coincides 5)
    (fun s =>
      if s.supSecond || s.coincides 4 then s.assertSystem 4
      else { s with lan := { s.lan with supLast := some s.now } }.assertSupervisor 5))

def execSupervisorResumeTimeout (t : Nat) (s : State) : Host.Outcome State Fault Refusal :=
  .next (s.commandIf t (fun s => s.inService && s.lan.supDown && s.lan.supRst.any (fun a => decide (a + 500 * msec ≤ s.now)))
    (fun s => [1, 3, 4, 5, 8].foldl (fun (a : State) i => a.entryPut i 0 0) s))

/-- The supervisor serves again; entries 4 and 5 follow their conditions, the others at their next update. -/
def State.resumed (s : State) : State :=
  let s1 := { s with lan := { s.lan with supDown := false, supRst := none } }.takeReplies
  let s2 := if s1.get F.CVI_INS_STAT_STATE = 2 then s1.entry 4 0 0 else s1.entry 4 noLimit noLimit
  s2.integrity.taperEntry

/-- SUPERVISOR_RESUMED: each code tile has been verified; those that failed are reloaded first under the tile rules (R359). -/
def execSupervisorResumed (x : Resume) (s : State) : Host.Outcome State Fault Refusal :=
  .next (s.commandIf x.t (fun s => s.lan.supDown && s.lan.supRst.any (fun a => decide (a + msec ≤ s.now)) && !s.coreOut 0 && !s.coreOut 1)
    (fun s =>
      let s1 := x.bad.foldl State.codeMismatch s
      if s1.coreOut 0 || s1.coreOut 1 then s1 else s1.resumed))

/-! ## Health and the lane opcodes (R252, R253) -/

/-- HEALTH_HOURLY_WRITE: the lifetime figures are written (R253); blocks of the configuration region that have failed their verification since
the last such write, in whichever write, are retired with it. -/
def execHealthHourlyWrite (m : FlashAt) (s : State) : Host.Outcome State Fault Refusal :=
  .next (s.commandIf m.t State.started (fun s =>
    { s with flash := { s.flash with hours := s.lan.hours }.cfgWritten }.blocksFail .config m.bad))

def execLaneStatus (t : Nat) (r : Req) (s : State) : Host.Outcome State Fault Refusal :=
  .next (s.hostCommand t 0x0B01 r (Fmt.fixed 0 []) (fun _ s =>
    if s.cfgOut then (s, .no stTileFault 0)
    else (s, .ok (s.rd 0xB0000 ++ s.rd 0xB0004 ++ s.rd 0xB000C ++ s.rd 0xB0010
      ++ (List.range 5).flatMap (fun n => s.rd (0xB0040 + 4 * n)) ++ (List.range 5).flatMap (fun n => s.rd (0xB0060 + 4 * n))))))

/-- Rotation is switched off (R252). -/
def State.rotOff (s : State) : Bool := s.get F.LAN_CFG_ROTDAYS == 0 || s.get F.RST_OPT_ROTPOL == 0

def execLaneRotate (t : Nat) (r : Req) (s : State) : Host.Outcome State Fault Refusal :=
  .next (s.hostCommand t 0x0B02 r (Fmt.fixed 0 []) (fun _ s =>
    if s.cfgOut then (s, .no stTileFault 0)
    else match firstReason [(s.rotOff, 9), (s.mule?.isNone, 10)] with
    | some c => (s, .refused c)
    | none => (s.setB F.LAN_CFG_ROTPEND true, .ok [])))

def execSelftest (t : Nat) (r : Req) (s : State) : Host.Outcome State Fault Refusal :=
  .next (s.hostCommand t 0x0B03 r (Fmt.fixed 0 []) (fun id s =>
    if s.cfgOut then (s, .no stTileFault 0)
    else if s.lan.sw.isSome then (s, .no stBusy 0x000F)
    else match s.mule? with
      | none => (s, .refused 10)
      | some m =>
        if !s.jobRoom then (s, .no stBusy 0)
        else
          let (s1, j) := s.jobStart 0x0B03 id.session 0 10000
          ({ s1 with lan := { s1.lan with testJob := some j } }.muleTest m, .job j)))

/-- Rotation at PARK entry (R252): the ACTIVE lane with the most hours and the mule change places. -/
def State.rotate (s : State) : State :=
  let due := s.flag F.LAN_CFG_ROTPEND || decide (s.flash.rotOp + 86400 * s.get F.LAN_CFG_ROTDAYS ≤ s.opsec)
  match s.mule? with
  | none => s
  | some m =>
    if s.rotOff || !due then s
    else
      let most := s.actives.foldl (fun (b : Option Nat) x => match b with
        | none => some x.2
        | some l =>
          let hl := nth 0 s.lan.hours l
          let hx := nth 0 s.lan.hours x.2
          if hl < hx || (hl == hx && decide (x.2 < l)) then some x.2 else some l) none
      match most with
      | none => s
      | some l =>
        let swap := fun (o : Option Nat) => if o = some l then some m else o
        let s1 := ((s.setLane l 2).setLane m 1).setB F.LAN_CFG_ROTPEND false
        { s1 with lan := { s1.lan with tok := s1.lan.tok.map swap, est := s1.lan.est.map swap },
                  flash := { s1.flash with rotOp := s.opsec } }.laneStore

end Sys2Proof.Machine
end

