-- ==== Sys2Proof/Machine/Ed25519.lean ====
section
/-! DEFINITION. The signature check of pure Ed25519 (RFC 8032), which R397 names: field and curve arithmetic in exact numbers. -/

namespace Sys2Proof.Machine

/-- The prime of the field, 2^255 − 19. -/
def edPrime : Nat := 2 ^ 255 - 19

/-- The order of the base point. -/
def edOrder : Nat := 2 ^ 252 + 27742317777372353535851937790883648493

/-- `b` to the power `e` in the field, over the lowest `n` bits of `e`. -/
def edPow (b e : Nat) : Nat → Nat
  | 0 => 1
  | n + 1 =>
    let half := edPow (b * b % edPrime) (e / 2) n
    if e % 2 = 1 then b * half % edPrime else half

/-- The quotient of two field elements. -/
def edDiv (a b : Nat) : Nat := a * edPow b (edPrime - 2) 255 % edPrime

/-- The constant of the curve −x² + y² = 1 + d·x²·y². -/
def edD : Nat := edDiv (edPrime - 121665) 121666

/-- A point by its coordinates. -/
structure EdPoint where
  x : Nat
  y : Nat
  deriving DecidableEq, Repr

/-- The sum of two points; the law has no exceptions on this curve. -/
def EdPoint.add (a b : EdPoint) : EdPoint :=
  let c := edD * (a.x * b.x % edPrime * (a.y * b.y % edPrime) % edPrime) % edPrime
  { x := edDiv (a.x * b.y + a.y * b.x) (1 + c), y := edDiv (a.y * b.y + a.x * b.x) (edPrime + 1 - c) }

/-- The point `k` times, over the lowest `n` bits of `k`. -/
def EdPoint.times (a : EdPoint) (k : Nat) : Nat → EdPoint
  | 0 => { x := 0, y := 1 }
  | n + 1 =>
    let rest := (a.add a).times (k / 2) n
    if k % 2 = 1 then a.add rest else rest

/-- A square root in the field, where there is one. -/
def edRoot (a : Nat) : Option Nat :=
  let r := edPow a ((edPrime + 3) / 8) 255
  let r2 := r * edPow 2 ((edPrime - 1) / 4) 255 % edPrime
  [r, r2].find? (fun x => x * x % edPrime == a % edPrime)

/-- The point that a number of 256 bits spells: y in the low 255 bits, the sign of x on top. -/
def edDecode (v : Nat) : Option EdPoint :=
  let y := v % 2 ^ 255
  let sign := v / 2 ^ 255
  if edPrime ≤ y then none
  else match edRoot (edDiv (y * y + edPrime - 1) (edD * (y * y % edPrime) + 1)) with
    | none => none
    | some x =>
      if x = 0 then (if sign = 0 then some { x := 0, y := y } else none)
      else some { x := if x % 2 = sign then x else edPrime - x, y := y }

/-- 8·S·B = 8·R + 8·k·A, with k the SHA-512 of R, A and the message. (DESIGN CHOICE: log entry 11) -/
def edVerify (key : Nat) (sig m : List Byte) : Bool :=
  let s := ofLe (sig.drop 32)
  let k := ofLe (sha512 (sig.take 32 ++ leBytes 32 key ++ m)) % edOrder
  match edDecode key, edDecode (ofLe (sig.take 32)), edDecode (edDiv 4 5) with
  | some a, some r, some b =>
    decide (sig.length = 64) && decide (s < edOrder) && (b.times (8 * s) 256 == (r.times 8 4).add (a.times (8 * k) 256))
  | _, _, _ => false

end Sys2Proof.Machine
end

