-- ==== Sys2Proof/Machine/UpdOps.lean ====
section
/-! DEFINITION. Option bytes and their loader (R365, R406), the boot ROM's choice of a slot (R404), image checks (R397) and delta
streams (R399). -/

namespace Sys2Proof.Machine

/-! ## Option bytes -/

/-- The option bytes with a fresh CRC over offsets 0 … 251. -/
def optSeal (b : List Byte) : List Byte := b.take 252 ++ leBytes 4 (crc32c (b.take 252))

/-- MAGIC and CRC pass (R365). (DEDUCED: log entry 62) -/
def optValid (b : List Byte) : Bool := decide (b.length = 256) && decide (uAt b 0 2 = 0x4F42) && decide (uAt b 252 4 = crc32c (b.take 252))

/-- The defaults of Table 18.4, MAGIC and FORMAT with them. (DEDUCED: log entry 62) -/
def optDefault : List Byte := [0x42, 0x4F, 1, 0, 2, 0xFF, 1, 0, 7] ++ List.replicate 243 0 ++ [0, 0, 0, 0]

/-- The bytes in force: those of the flash, or the defaults. -/
def State.optBytes (s : State) : List Byte := if optValid s.flash.opt then s.flash.opt else optDefault

/-- RST_OPT takes the bytes in force (Table 18.14); HOSTPORT 0x00 is read as 0x07. (DEDUCED: log entry 62) -/
def State.optLoad (s : State) : State :=
  let b := s.optBytes
  let u := fun (i : Nat) => (nth 0 b i).toNat
  ((((((s.set F.RST_OPT_BOOTSLOT (u 3)).set F.RST_OPT_FALLBACK (u 4)).setB F.RST_OPT_DBGLOCK (u 5 != 0)).set F.RST_OPT_ROTPOL (u 6)).set
    F.RST_OPT_EPOLWPOL (u 7)).set F.RST_OPT_HOSTPORT (if u 8 = 0 then 7 else u 8)).setB F.RST_OPT_OPTVALID (optValid s.flash.opt)

/-- Write option bytes: fields by offset; every other field keeps its value in force (R406). -/
def State.optWrite (s : State) (l : List (Nat × Byte)) : State :=
  { s with flash := { s.flash with
    opt := optSeal (l.foldl (fun b (x : Nat × Byte) => modNth b x.1 (fun _ => x.2)) s.optBytes) }.erased FlashRegion.opt.block }

/-- The option block as a write leaves it that lost power: erased, so that neither MAGIC nor CRC passes. -/
def State.optLost (s : State) : State := { s with flash := { s.flash with opt := List.replicate 256 0xFF }.erased FlashRegion.opt.block }

/-! ## Slots -/

/-- An image slot. -/
def State.imgSlot (s : State) (i : Nat) : ImgSlot := nth {} s.flash.slots i

/-- Change an image slot. -/
def State.slotMod (s : State) (i : Nat) (f : ImgSlot → ImgSlot) : State :=
  { s with flash := { s.flash with slots := modNth s.flash.slots i f } }

/-- A host source is raised at the next start that runs firmware. -/
def State.owe (s : State) (n : Nat) : State := { s with flash := { s.flash with owed := s.flash.owed ++ [n] } }

/-- VALID or TRIAL. -/
def ImgSlot.startable (x : ImgSlot) : Bool := x.st == 1 || x.st == 2

/-! ## Images -/

/-- The header checks of Table 20.1 for an image of RESULT bytes. -/
def imageHeaderOk (b : List Byte) : Bool :=
  uAt b 0 2 == 0x4C49 && uAt b 2 1 == 1 && decide (uAt b 3 1 ≤ 1) && uAt b 4 4 == b.length && uAt b 10 2 == 0 && decide (uAt b 12 1 < 32)
    && (slice b 18 174).all (· == 0)

/-- The signature check of R397: header bytes 0 … 191, then bytes 256 … LENGTH − 1. (DESIGN CHOICE: log entry 11) -/
def imageSigned (b : List Byte) : Bool := edVerify (Config.romKey (uAt b 3 1)).toNat (slice b 192 64) (b.take 192 ++ b.drop 256)

/-- The check of R397 over a slot at a start; the image the module is shipped with is taken to pass it. -/
def ImgSlot.passes (x : ImgSlot) : Bool := x.shipped || (imageHeaderOk x.image && imageSigned x.image)

/-- The slot the boot ROM begins with: BOOTSLOT, or without valid option bytes the higher generation among VALID and TRIAL, the
option bytes being rewritten with it (R404, R406). -/
def State.bootSlot (s : State) : State × Nat :=
  if s.flag F.RST_OPT_OPTVALID then (s, s.get F.RST_OPT_BOOTSLOT)
  else
    let a := s.imgSlot 0
    let b := s.imgSlot 1
    let k := if b.startable && (!a.startable || decide (a.gen < b.gen)) then 1 else 0
    (s.optWrite [(3, BitVec.ofNat 8 k)], k)

/-- The boot ROM's choice of R404 at a counter below 3: the slot to start, or `none` for RECOVERY. -/
def State.bootChoice (s0 : State) : State × Option Nat :=
  let (s, k) := s0.bootSlot
  let fb := s.get F.RST_OPT_FALLBACK
  let x := s.imgSlot k
  let revert := x.st == 2 && fb != 1 && (s.imgSlot (1 - k)).st == 1 && (decide (1 ≤ s.get F.RST_BOOT_ATTEMPTS) || x.expired)
  let s1 := if revert then
      let a := (((s.slotMod k (fun y => { y with st := 3, expired := false })).optWrite [(3, BitVec.ofNat 8 (1 - k))]).owe 119)
      if fb = 0 then a.set F.RST_BOOT_ATTEMPTS 0 else a
    else s
  let k1 := if revert then 1 - k else k
  let y := s1.imgSlot k1
  if y.startable && y.passes then (s1, some k1)
  else
    let s2 := if y.startable then (s1.slotMod k1 (fun z => { z with st := 4 })).owe 121 else s1
    if (s2.imgSlot (1 - k1)).st = 1 then (s2.optWrite [(3, BitVec.ofNat 8 (1 - k1))], some (1 - k1)) else (s2, none)

/-! ## Streams -/

/-- The output of a delta body against its base (R399), with bounds on codes, LEN, SRC and the end of the body; `n` bounds the number
of operations. -/
def deltaRun (base : List Byte) : Nat → List Byte → List Byte → Option (List Byte)
  | _, [], out => some out
  | 0, _ :: _, _ => none
  | n + 1, b :: t, out =>
    let src := uAt t 0 4
    let len := uAt t 4 4
    if t.length < 8 || len < 1 || FlashRegion.slotA.size < len || base.length < src + len then none
    else if b = 1 then deltaRun base n (t.drop 8) (out ++ slice base src len)
    else if b = 2 then
      let d := slice t 8 len
      if d.length < len then none
      else deltaRun base n (t.drop (8 + len)) (out ++ (slice base src len).zipWith (· + ·) d)
    else none

/-- The open update's resulting image and whether its stream passes step 1 of R402. -/
def State.updResult (s : State) (kind result : Nat) : Option (List Byte) :=
  let body := s.upd.data.drop 32
  if kind = 0 then some body
  else
    match deltaRun (s.imgSlot (s.get F.RST_BOOT_SLOT)).image (body.length / 9 + 1) body [] with
    | some o => if o.length = result then some o else none
    | none => none

/-- The open update's stream passes step 1 of R402, so that its job writes. -/
def State.updWrites (s : State) : Bool :=
  match s.upd.open_ with
  | some (kind, _, result, _, _) => (s.updResult kind result).isSome
  | none => false

/-- The target slot: the one not running, in RECOVERY the one BOOTSLOT names (R400). -/
def State.updTarget (s : State) : Nat :=
  if s.rst.mode = .recovery then s.get F.RST_OPT_BOOTSLOT else 1 - s.get F.RST_BOOT_SLOT

end Sys2Proof.Machine
end

