-- ==== Sys2Proof/Machine/Jobs.lean ====
section
/-! DEFINITION. JOB_STATUS and JOB_CANCEL (R291, R292, R307). -/

namespace Sys2Proof.Machine

/-! ## JOB_STATUS -/

/-- Basis points of a job that runs for a stated time; 10,000 is left to the job's end. -/
def elapsedBp (now since dur : Nat) : Nat := if dur = 0 then 9999 else min 9999 ((now - since) * 10000 / dur)

/-- VALUE and TOTAL of a job now (Table 13.9), with the state after the draw where the position is an open value: bytes written and
tiles verified are not stated, beyond that they do not fall and do not pass the total; a delta that fails step 1 writes nothing. (DESIGN CHOICE: log entry 22) -/
def State.jobValue (s : State) (j : Job) : State × Nat × Nat :=
  if j.st ≠ .running then (s, j.value, j.total)
  else if j.op = 0x0503 then (s, max j.value s.lrnProgress, j.total)
  else if j.op = 0x0504 then (s, s.impProgress)
  else if j.op = 0x0C03 then (s, elapsedBp s.now s.cvi.cmSince (s.cvi.cmTime * msec), j.total)
  else if j.op = 0x0B03 then (s, elapsedBp s.now j.startedAt (400 * msec), j.total)
  else if j.op = 0x0903 ∧ !s.updWrites then (s, j.value, j.total)
  else if j.op = 0x0F02 ∨ j.op = 0x0903 then (s.drew, j.value + (s.open_ 32).toNat % (j.total - j.value + 1), j.total)
  else (s, j.value, j.total)

/-- STATE of a job (R292). -/
def JobSt.code : JobSt → Nat
  | .running => 0
  | .done => 1
  | .failed => 2
  | .cancelled => 3

/-- The JOB_STATUS reply; the value shown is kept, as VALUE does not fall. (DEDUCED: log entry 21) -/
def State.jobStatus (s : State) (j : Job) : State × HRes :=
  let (s1, v, n) := s.jobValue j
  (s1.jobProgress j.id v n,
    .ok (leBytes 1 j.st.code ++ leBytes 1 j.kind ++ leBytes 2 j.final ++ leBytes 4 v ++ leBytes 4 n))

/-- DESIGN CHOICE: log entry 22. (DESIGN CHOICE: log entry 22) -/
def execJobStatus (t : Nat) (r : Req) (s : State) : Host.Outcome State Fault Refusal :=
  .next (s.hostCommand t 0x0601 r (Fmt.fixed 4 [2, 3]) (fun _ s =>
    match s.job? (uAt r.payload 0 2) with
    | none => (s, .err stBadParam 0 0)
    | some j => s.jobStatus j))

/-! ## JOB_CANCEL -/

/-- A self-test ends without a result: the lane is in MULE again. -/
def State.testCancel (s : State) : State :=
  let s0 : State := { s with lan := { s.lan with testJob := none } }
  match s.lan.testing.find? (fun x => x.2) with
  | none => s0
  | some (l, _) => ({ s0 with lan := { s0.lan with testing := s0.lan.testing.filter (fun x => x.1 ≠ l) } }.setLane l 2).muleNext.laneStore

/-- A close sequence is cancelled (R307, second row of Table 8.6): all coils off at once, and each feedback is still checked before CONN is OPEN. -/
def State.closeCancel (s : State) : State :=
  match s.prt.seq with
  | some q => if q.kind == .close then
      ((s.coilsOff.setConn 5).seqPut { kind := .open_, step := 5, at_ := s.now, offAt := [some s.now, some s.now, some s.now], forced := true }).poll
    else s
  | none => s

/-- The operation of a job ends (R307, Tables 6.4 and 6.6); a sweep's sinusoid stops at its next zero crossing, and the job with it. -/
def State.jobStop (s : State) (j : Job) : State :=
  let closed := fun (x : State) => x.jobEnd j.id .cancelled stRefused []
  if j.op = 0x0401 then (closed s).closeCancel
  else if j.op = 0x0503 then (closed s).lrnOver
  else if j.op = 0x0504 then
    if s.imp.on then { s with imp := { s.imp with stopping := true } } else s.impEnd .cancelled stRefused
  else if j.op = 0x0C03 then closed { s with cvi := { s.cvi with cmJob := none } }
  else if j.op = 0x0B03 then closed s.testCancel
  else if j.op = 0x0F02 then closed { s with til := { s.til with scrub := none } }
  else s

/-- DEDUCED: log entry 21. (DEDUCED: log entry 21) -/
def execJobCancel (t : Nat) (r : Req) (s : State) : Host.Outcome State Fault Refusal :=
  .next (s.hostCommand t 0x0602 r (Fmt.fixed 4 [2, 3]) (fun id s =>
    match s.job? (uAt r.payload 0 2) with
    | none => (s, .err stBadParam 0 0)
    | some j =>
      if j.session ≠ id.session ∧ s.host.owner ≠ some id.session then (s, .no stLocked 0)
      else if j.st ≠ .running then (s, .ok [])
      else if j.op = 0x0402 ∨ j.op = 0x0903 then (s, .refused 0x000E)
      else (s.jobStop j, .ok [])))

end Sys2Proof.Machine
end

