-- ==== Sys2Proof/Machine/Oper.lean ====
section
/-! DEFINITION. SETPOINT, SETPOINT_SOURCE and BALANCE_PLAN (R85, R87, R173, R304, R305, Table 14.10). -/

namespace Sys2Proof.Machine

/-! ## Set-points (R304, Table 6.4) -/

def execSetpoint (t : Nat) (r : Req) (s : State) : Host.Outcome State Fault Refusal :=
  .next (s.hostCommand t 0x0403 r (Fmt.fixed 4 []) (fun _ s =>
    let v := iAt r.payload 0 4
    if !s.flag F.CTL_SPCFG_PMODE && decide (1250000 < v.natAbs) then (s, .err stBadParam 0 0)
    else if s.lrn.job.isSome then (s.keepLater 0x0403 r.payload, .ok [])
    else (s.setpointHold 0x0403 r.payload, .ok [])))

def execSetpointSource (t : Nat) (r : Req) (s : State) : Host.Outcome State Fault Refusal :=
  .next (s.hostCommand t 0x0404 r (Fmt.fixed 8 [2, 3]) (fun _ s =>
    if 3 < uAt r.payload 0 1 then (s, .err stBadParam 0 0)
    else if 1 < uAt r.payload 1 1 then (s, .err stBadParam 0 1)
    else if uAt r.payload 1 1 ≠ s.get F.CTL_SPCFG_PMODE ∧ !s.loopStopped then (s, .refused 0x0003)
    else if s.lrn.job.isSome then (s.keepLater 0x0404 r.payload, .ok [])
    else (s.setpointHold 0x0404 r.payload, .ok [])))

/-! ## The host's balancing plan (R85, R87, R305) -/

/-- POS of entry `i`, and the offset of the entry. -/
def planPos (p : List Byte) (i : Nat) : Nat := uAt p (2 + 34 * i) 1

/-- The offset of the first value of entry `i` that R85 or Table 14.10 forbids: POS, PHASE, then the timers. (DEDUCED: log entry 36) -/
def State.planBad (s : State) (p : List Byte) (i : Nat) : Option Nat :=
  let o := 2 + 34 * i
  let q := planPos p i
  if q = 0 ∨ s.len < q ∨ ((List.range i).map (planPos p)).contains q then some o
  else if 3 < uAt p (o + 1) 1 then some (o + 1)
  else ((List.range 16).find? (fun c => decide (s.cells q ≤ c) && uAt p (o + 2 + 2 * c) 2 != 0)).map (fun c => o + 2 + 2 * c)

/-- The plan goes to the nodes; the reply follows when every frame has returned. Frames of an earlier plan nobody waits for any more
serve none. -/
def State.planSend (s : State) (id : ReqId) (r : Req) : State :=
  let off := fun (c : RingCmd) => if c.use = 1 then { c with use := 0 } else c
  let s1 : State := { s with
    ring := { s.ring with results := [], cmds := s.ring.cmds.map off, inflight := s.ring.inflight.map off },
    host := { s.host with waiting := s.host.waiting ++ [({ why := .balance, id := id, req := r, since := s.now } : Waiting)] } }
  (List.range (uAt r.payload 0 1)).foldl (fun (a : State) i =>
    a.balanceCmd (planPos r.payload i) ((List.range 16).map (fun c => uAt r.payload (4 + 34 * i + 2 * c) 2)) (uAt r.payload (3 + 34 * i) 1) 1) s1

/-- The low-priority ring queue a position is served from is full: a host's frame finds no room (Table 19.2). (DEDUCED: log entry 36) -/
def State.planFull (s : State) (p : List Byte) : Bool :=
  (List.range (uAt p 0 1)).any (fun i => decide (8 ≤ s.fill (if s.fromWest (planPos p i) then 27 else 25)))

def execBalancePlan (t : Nat) (r : Req) (s : State) : Host.Outcome State Fault Refusal :=
  .next (s.hostCommand t 0x0405 r { len := fun p => decide (2 ≤ p.length) && p.length == 2 + 34 * uAt p 0 1, pad := [1] } (fun id s =>
    let n := uAt r.payload 0 1
    if s.get F.ACQ_BAL_CFG_SRC ≠ 1 ∨ !s.flag F.ACQ_BAL_CFG_ENABLE then (s, .refused 0x0009)
    else if n = 0 ∨ 40 < n then (s, .err stBadParam 0 0)
    else match ((List.range n).filterMap (s.planBad r.payload)).head? with
      | some o => (s, .err stBadParam 0 o)
      | none =>
        if s.planFull r.payload || s.host.waiting.any (fun w => w.why == WaitFor.balance) then (s, .no stBusy 0)
        else (s.planSend id r, .later)))

end Sys2Proof.Machine
end

