-- ==== Sys2Proof/Machine/Rst.lean ====
section
/-! DEFINITION. Reset, clock-good, start-up, supply, PARK and wake (R306, R309, R358 to R376). -/

namespace Sys2Proof.Machine

/-! ## Reset sources (R358) -/

/-- POWER_ON_RESET: a reset of full reach, held until the rail has been in band for 10 ms. -/
def execPowerOnReset (p : ResetLevel) (s : State) : Host.Outcome State Fault Refusal :=
  .next (s.command p.t (fun s => if p.holds then s.fullReset else s.railGood))

/-- RESET_PIN: a reset of system reach, held until 100 µs after RESET_N is high. -/
def execResetPin (p : ResetLevel) (s : State) : Host.Outcome State Fault Refusal :=
  .next (s.command p.t (fun s => if p.holds then s.pinLow else s.levelEnd 1 (100 * usec)))

/-- SUPERVISOR_WATCHDOG_TIMEOUT: RST_WDOG unserved for 2 s. -/
def execSupervisorWatchdogTimeout (t : Nat) (s : State) : Host.Outcome State Fault Refusal :=
  .next (s.commandIf t (fun s => s.wdogDue || s.coincides 2) (fun s => s.assertSystem 2))

/-- WATCHDOG_KICK: the firmware's write of RST_WDOG. -/
def execWatchdogKick (t : Nat) (s : State) : Host.Outcome State Fault Refusal :=
  .next (s.commandIf t (fun s => s.inService || (s.rst.mode == .starting && s.rst.image)) (fun s => { s with rst := { s.rst with wdogAt := s.now } }))

/-- START_TIMEOUT: a start not confirmed within 5 s of the counter's increment (R368). -/
def execStartTimeout (t : Nat) (s : State) : Host.Outcome State Fault Refusal :=
  .next (s.commandIf t (fun s => s.startLate || s.coincides 3) (fun s => s.assertSystem 3))

/-! ## Start (R367, R368, R404) -/

/-- The last covering source has released: the power cycle counts and the first interval carries RESTART (R388), the option bytes load and the straps are sampled. Gander's demand
stands while TSD does, and flint latches it anew (R208). -/
def State.release (s : State) (bw0 bw1 : Bool) : State :=
  let por := s.rst.asserted.any (fun x => x.1 == 0)
  let s1 : State := if por then
      let a := { s with flash := { s.flash with pwrcyc := min 4294967295 (s.flash.pwrcyc + 1) },
                        time := { s.time with aoAt := s.now }, rcd := { s.rcd with tickAt := s.now } }
      let b := (a.set F.REC_OPSEC a.flash.opsec).set F.REC_PWRCYC a.flash.pwrcyc
      { b with rcd := { b.rcd with cur := { opsec := a.flash.opsec, cyc := a.flash.pwrcyc, flags := 2 } } }
    else s
  let s2 : State := { s1 with rst := { s1.rst with mode := .starting, asserted := [], bootAt := none, image := false, wdogAt := s1.now, relAt := s1.now } }
  let s3 := (s2.optLoad.set F.BAY_POS_ROLE (b2n bw0 + 2 * b2n bw1)).setB F.PRT_CONTSTAT_VCOILLOW (!s.prt.vcoil)
  if s3.flag F.THM_STAT_TSD then s3.ganderTrip else s3

/-- RESET_RELEASE: once no source's condition holds and every one has had its minimum (R360). -/
def execResetRelease (t : Nat) (bw0 bw1 : Bool) (s : State) : Host.Outcome State Fault Refusal :=
  .next (s.commandIf t (fun s => s.rst.mode == .reset && s.rst.holding.isEmpty && s.rst.asserted.all (fun x => decide (x.2 ≤ s.now)))
    (fun s => s.release bw0 bw1))

/-- Whether slot 3 holds no key. (DEDUCED: log entry 29) -/
def State.unprovisioned (s : State) : Bool := (assoc? 3 s.flash.keys).isNone

/-- RECOVERY is entered (R368, R369). (DEDUCED: log entry 61) -/
def State.recoveryEnter (s : State) : State :=
  ((((s.setMode .recovery).set F.RST_BOOT_SLOT 3).setB F.RST_BOOT_RECOV true).set F.EVR_STAT_MODE 3).setB F.GLB_SESS_PROV s.unprovisioned

/-- The boot ROM (R368, R404): at counter 3 RECOVERY, else the chosen slot's image is verified and loaded and the counter counts. -/
def State.bootRom (s : State) : State :=
  if s.get F.RST_BOOT_ATTEMPTS = 3 then s.recoveryEnter
  else
    let (s0, k) := s.bootChoice
    let s1 : State := { s0 with rst := { s0.rst with optAt := if s0.flash.opt = s.flash.opt then none else some s.now } }
    match k with
    | none => s1.recoveryEnter
    | some k =>
      let s2 : State := { s1 with rst := { s1.rst with image := true, bootAt := some s1.now, wdogAt := s1.now } }
      (s2.set F.RST_BOOT_ATTEMPTS (s2.get F.RST_BOOT_ATTEMPTS + 1)).set F.RST_BOOT_SLOT k

/-- The lanes take their states from the stored assignment (R238); as shipped L0 … L3 hold tokens 0 … 3 and L4 is the mule. (PRESUMED: log entry 53) -/
def State.laneStart (s : State) : State :=
  let st0 := if s.flash.lanes.isEmpty then [1, 1, 1, 1, 2] else s.flash.lanes
  let asg := if s.flash.assign.isEmpty then [0, 1, 2, 3] else s.flash.assign
  let st := st0.map (fun c => if c = 3 ∨ c = 4 then 3 else c)
  let held := fun (l : Nat) => if nth 0 st l = 1 then some l else none
  let tok := asg.map held
  let est := (if s.flash.quarters.isEmpty then [0, 1, 2, 3] else s.flash.quarters).map held
  let test := ((List.range 5).filter (fun l => nth 0 st l == 3)).map (fun l => (l, false))
  let free := (List.range 4).filter (fun q => (nth none tok q).isNone)
  let s1 : State := { s with lan := { s.lan with st := st, tok := tok, est := est, testing := test, hours := s.flash.hours } }
  let s2 := match st.findIdx? (· == 2), free with
    | some m, q :: rest =>
      let a := s1.setLane m 1
      rest.foldl State.orphaned { a with lan := { a.lan with tok := modNth tok q (fun _ => some m), est := modNth est q (fun _ => some m) } }
    | _, qs => qs.foldl State.orphaned s1
  let on := fun (a : State) (l : Nat) => a.laneSt l == 1 || a.laneSt l == 3 || a.lan.sw.any (fun x => x.mule == l)
  let s3 := { s2 with lan := { s2.lan with
    gate := (List.range 5).map (fun l => if on s2 l && !s2.rst.good.testBit 3 then some s2.now else none) } }
  s3.twoLanes.laneStore

/-- The committed configuration becomes the live one (Table 18.6). -/
def State.cfgStart (s : State) : State :=
  let s1 := s.flash.items.foldl (fun (a : State) x => a.putWord x.1 (a.cfgWord x.1 x.2)) s
  let s2 := (s1.mapPut s1.flash.bayMap).setB F.GLB_SESS_PROV s1.unprovisioned
  let s3 : State := { s2 with eth := { s2.eth with ms := [s2.flag (F.TIM_ETH_MS.ix 0), s2.flag (F.TIM_ETH_MS.ix 1)] },
                              can := { s2.can with written := (s2.word 0xE0004, s2.word 0xE0008) } }
  let s3 := s3.latchTables
  let st := (assoc? 1 s3.flash.coefs).bind structOf
  let g := st.bind (fun c => (assoc? 2 s3.flash.coefs).bind (fun d => gainOf d c))
  { s3 with ctl := { s3.ctl with struct := st, bank0 := g } }.setB F.CTL_BANKSEL_ACTVALID g.isSome

/-- RUNID is drawn anew and differs from the one before (R135). (DESIGN CHOICE: log entry 10) -/
def State.runDraw (s : State) : State :=
  let r := (Config.runId s.est.draws).toNat
  let r' := if r = s.est.runId then (r + 1) % 4294967296 else r
  { s with est := { s.est with runId := r', draws := s.est.draws + 1 } }

/-- The running image's trial, whose 600 s count from the confirmation of its first start, and the events owed since the last start (R403, R404). -/
def State.trialStart (s : State) : State :=
  let x := s.imgSlot (s.get F.RST_BOOT_SLOT)
  let owed := s.flash.owed
  let s1 := owed.foldl (fun (a : State) n => a.raise n []) { s with flash := { s.flash with owed := [] } }
  let s2 := if owed.contains 119 then s1.setB F.UPD_STATE_REVERT_SEEN true else s1
  if x.st ≠ 2 then s2
  else if x.expired then s2.set F.UPD_STATE_PHASE 5
  else
    let a := x.confOp.getD s2.opsec
    let s3 := s2.slotMod (s.get F.RST_BOOT_SLOT) (fun y => { y with confOp := some a })
    { s3 with upd := { s3.upd with trialOp := some a } }.set F.UPD_STATE_PHASE 4

/-- The firmware starts and the start is confirmed (R367, R368, R372). (DEDUCED: log entry 61) -/
def State.firmwareStart (s : State) : State :=
  let s1 := s.cfgStart.calLoad.runDraw
  let s2 := s1.quartzStart.bayRestart.entry8
  let s3 := (s2.setMode .run).canRestart
  let s4 := s3.laneStart.trialStart
  let s5 := (s4.setB F.BAY_POS_STANDBY (s4.role == 1 || s4.role == 2)).recStart
  let s6 := ((s5.ringStart true).azStart).integrity
  let s7 : State := { s6 with rst := { s6.rst with wdogAt := s6.now, bootAt := none, training := [s6.now, s6.now] },
                              acq := { s6.acq with owAt := s6.now, planAt := s6.now },
                              imp := { s6.imp with autoAt := s6.opsec },
                              rcd := { s6.rcd with hourDue := false } }
  let s8 := if s6.rcd.hourDue then s7.recClose else s7
  let c := s8.haltCause
  let s9 := if c = 0 then s8 else (s8.outputsOff.setMode .halt).set F.RST_STAT_HALTC c
  ((s9.setB F.RST_BOOT_CONFIRMED true).set F.RST_BOOT_ATTEMPTS 0).set F.EVR_STAT_MODE 1

/-- FIRMWARE_START. -/
def execFirmwareStart (t : Nat) (s : State) : Host.Outcome State Fault Refusal :=
  .next (s.commandIf t (fun s => s.rst.mode == .starting && s.rst.image && s.domainGood 1 && s.domainGood 2) State.firmwareStart)

/-! ## Clock-good (R362 to R364) -/

/-- The boot ROM starts once SAFE and SYS are released, by a good clock or by a probe, and no supervisor reset holds the cores. -/
def State.bootIf (s : State) : State :=
  if s.rst.mode == .starting && s.rst.bootAt.isNone && s.domainGood 1 && s.domainGood 2 && s.lan.supRst.all (fun a => decide (a + msec ≤ s.now))
  then s.bootRom else s

/-- A domain becomes clock-good: AO becomes the reference, SYS starts the boot ROM. (DEDUCED: log entry 61) -/
def State.gainClock (s : State) (d : Nat) : State :=
  let s1 := s.setGood d true
  if d = 0 then s1.setB F.RST_STAT_REFSAFE false
  else if d = 3 then { s1 with lan := { s1.lan with gate := List.replicate 5 none } }
  else s1.bootIf

/-- The clock of one lane becomes good (R25). -/
def State.gainLane (s : State) (l : Nat) : State :=
  let s1 := s.setGood 3 true
  { s1 with lan := { s1.lan with gate := modNth s1.lan.gate l (fun _ => none) } }

/-- A clock can become good: it runs, and a failed domain stays failed, where LANE's failures are those of single lanes (Table 18.3). -/
def State.canGain (s : State) (c : Clock) : Bool :=
  match c with
  | .of d => s.domainOn d && d != 7 && d != 8 && (d == 3 || !(s.get F.RST_CLKFAIL_FAIL).testBit d)
  | .lane l => decide (l < 5) && s.laneClock l

/-- The clock becomes good. -/
def State.gain (s : State) (c : Clock) : State :=
  match c with
  | .of d => s.gainClock d
  | .lane l => s.gainLane l

/-- CLOCK_GOOD. -/
def execClockGood (t : Nat) (c : Clock) (s : State) : Host.Outcome State Fault Refusal :=
  .next (s.commandIf t (fun s => s.canGain c) (fun s => s.gain c))

/-- The clock of lane `l` has not become good within 10 ms of its gate's opening (R363). (DESIGN CHOICE: log entry 3) -/
def State.laneLate (s : State) (l : Nat) : Bool :=
  decide (l < 5) && s.laneClock l && (nth none s.lan.gate l).any (fun a => decide (a + 10 * msec ≤ s.now))

/-- A domain has not become clock-good in time (Table 18.3); `l` is the lane of domain LANE. -/
def State.clockTimeout (s : State) (d l : Nat) : State :=
  let s1 := s.set F.RST_CLKFAIL_FAIL (setBit (s.get F.RST_CLKFAIL_FAIL) d true)
  match d with
  | 3 => s1.fence l 1
  | 4 | 5 | 6 | 11 => (s1.setGood d false).haltEntry 3
  | 9 | 10 => (s1.setGood d false).linkLoss (d - 8)
  | _ => s1.setGood d false

def execClockGoodTimeout (t d l : Nat) (s : State) : Host.Outcome State Fault Refusal :=
  .next (s.commandIf t (fun s => s.domainOn d && d != 7 && d != 8 && (if d = 3 then s.laneLate l else s.clockLate d))
    (fun s => s.clockTimeout d l))

/-- CTRL is lost (R31): gates low, cause 7 of PRT_TRIP, HALT. -/
def State.ctrlLost (s : State) : State := ((s.setGood 4 false).latch 7).haltEntry 3

/-- SAFE is lost (R30): gates and coils off, HALT. -/
def State.safeLost (s : State) : State := ((s.setGood 1 false).outputsOff).haltEntry 4

/-- A clock of the string side is lost: its crossings fall silent (R22, R188). -/
def State.crossingLost (s : State) (x : Crossing) : State := if s.silent x then s else s.barrierLoss x

/-- A domain loses clock-good in service (Table 18.3). (DEDUCED: log entry 61) -/
def State.clockLost (s : State) (d l : Nat) : State :=
  match d with
  | 1 => s.safeLost
  | 2 => s.assertSystem 4
  | 3 => s.fence l 1
  | 4 => s.ctrlLost
  | 5 => ((s.setGood 5 false).crossingLost .shuntA).crossingLost .shuntB
  | 6 => (((s.setGood 6 false).crossingLost .string).crossingLost .bus).crossingLost .ins
  | 9 | 10 => (s.setGood d false).linkLoss (d - 8)
  | 11 => ((s.setGood 11 false).ganderTrip).haltEntry 3
  | _ => s.setGood d false

/-- The clock of a domain runs and is good, so that it can be lost; domain LANE names a lane, and a stopped lane clock cannot be lost. -/
def State.canLose (s : State) (d l : Nat) : Bool :=
  s.clockGood d && d != 7 && d != 8 && (d != 3 || (decide (l < 5) && s.laneClock l && (nth none s.lan.gate l).isNone))

def execClockLoss (t d l : Nat) (s : State) : Host.Outcome State Fault Refusal :=
  .next (s.commandIf t (fun s => s.canLose d l || (d == 2 && s.coincides 12)) (fun s => s.clockLost d l))

/-- CTRL_CLOCK_LOSS (R31). -/
def execCtrlClockLoss (t : Nat) (s : State) : Host.Outcome State Fault Refusal :=
  .next (s.commandIf t (fun s => s.clockGood 4) State.ctrlLost)

/-- SAFE_CLOCK_LOSS (R30). -/
def execSafeClockLoss (t : Nat) (s : State) : Host.Outcome State Fault Refusal :=
  .next (s.commandIf t (fun s => s.clockGood 1) State.safeLost)

/-- DEBUG_RELEASE_REQUEST (R364). -/
def State.debugRelease (s : State) (d : Nat) : State :=
  if s.flag F.RST_OPT_DBGLOCK then s
  else ({ s with rst := { s.rst with forced := setBit s.rst.forced d true } }.setB F.RST_STAT_DBGOVR true).bootIf

def execDebugReleaseRequest (t d : Nat) (s : State) : Host.Outcome State Fault Refusal :=
  .next (s.commandIf t (fun s => decide (d < 12) && s.rst.mode != .off && s.rst.mode != .reset) (fun s => s.debugRelease d))

/-! ## Supply and coarse time (R38, R370) -/

/-- VAUX_MEASURE: VAUX in mV. -/
def State.vaux (s : State) (mv : Nat) : State :=
  let s1 := (s.setU F.RST_VAUX_VAUX mv).setB F.RST_VAUX_VAUXLOW (decide (mv < 6000))
  if mv < 6000 then s1.setB F.RST_VAUX_LOW_SEEN true else s1

def execVauxMeasure (t mv : Nat) (s : State) : Host.Outcome State Fault Refusal :=
  .next (s.commandIf t (fun s => s.rst.mode != .off && s.rst.mode != .reset) (fun s => s.vaux mv))

/-- VAUX_LOSS: with `cut` the loss falls into the boot ROM's write of the option bytes, which leaves them invalid (R406): a flash operation is
bounded by 20 ms. -/
def State.vauxCut (s : State) (cut : Bool) : State :=
  (if cut && s.rst.optAt.any (fun a => decide (s.now ≤ a + 20 * msec)) then s.optLost else s).vauxLost

def execVauxLoss (p : PowerLoss) (s : State) : Host.Outcome State Fault Refusal := .next (s.command p.t (fun s => s.vauxCut p.cut))

/-- A second of the coarse time: quartz seconds while quartz runs; otherwise AO counts one, corrected by fractional accumulation (R205). -/
def State.aoSecond (s : State) : State :=
  if s.quartzOn then { s with time := { s.time with aoAt := s.now, aoSec := s.quartzSec, aoFrac := 0 } }
  else
    let f := s.time.aoFrac + s.thm.aoPpb
    let one : Int := sec
    let (n, g) : Nat × Int := if one ≤ f then (2, f - one) else if f ≤ -one then (0, f + one) else (1, f)
    { s with time := { s.time with aoAt := s.now, aoSec := s.time.aoSec + n, aoFrac := g } }

/-- AO_COARSE_TIME_UPDATE. -/
def execAoCoarseTimeUpdate (t : Nat) (s : State) : Host.Outcome State Fault Refusal :=
  .next (s.commandIf t (fun s => s.clockGood 0 && decide (s.time.aoAt + sec ≤ s.now)) State.aoSecond)

/-! ## Wake (R315, R337, R338, R374, R375) -/

/-- A listen window opens on a port: 1, 2 Ethernet, 3 SPI. -/
def State.listen (s : State) (p : Nat) : State :=
  { s with rst := { s.rst with listen := (p, s.now, s.now) :: s.rst.listen.filter (fun w => w.1 ≠ p) } }

def execWakeEthEnergy (t p : Nat) (s : State) : Host.Outcome State Fault Refusal :=
  .next (s.commandIf t (fun s => s.parked && (p == 1 || p == 2) && s.flag F.RST_WAKECFG_ETHWAKE) (fun s => s.listen p))

def execWakeSpiCs (t : Nat) (s : State) : Host.Outcome State Fault Refusal :=
  .next (s.commandIf t (fun s => s.parked && s.flag F.RST_WAKECFG_SPIWAKE) (fun s => s.listen 3))

def execWakeCanDominant (t : Nat) (s : State) : Host.Outcome State Fault Refusal :=
  .next (s.commandIf t (fun s => s.parked && s.flag F.RST_WAKECFG_CANWAKE) (fun s => s.fullWake 3))

def execWakeIicAddress (x : IicWake) (s : State) : Host.Outcome State Fault Refusal :=
  .next (s.commandIf x.t (fun s => s.parked && s.flag F.RST_WAKECFG_IICWAKE && x.addr == s.get F.IIC_CFG_TADDR) (fun s => s.fullWake 4))

def execWakeTimer (t : Nat) (s : State) : Host.Outcome State Fault Refusal :=
  .next (s.commandIf t (fun s => s.parked && s.get F.RST_WAKETMR_SEC != 0
    && decide (s.rst.parkAt + s.get F.RST_WAKETMR_SEC * sec ≤ s.now)) (fun s => s.fullWake 6))

/-- In PARK a port without a listen window has no link. -/
def State.windowsClosed (s : State) : State :=
  [1, 2].foldl (fun (a : State) p => if a.ethRuns p then a else a.setB (linkF p) false) s

/-- LISTEN_WINDOW_EXPIRE: windows without a packet for LISTEN × 10 ms close; one in which a packet waits stays open until it is executed
(Table 18.10). -/
def execListenWindowExpire (t : Nat) (s : State) : Host.Outcome State Fault Refusal :=
  .next (s.commandIf t State.parked (fun s => State.windowsClosed { s with rst := { s.rst with
    listen := s.rst.listen.filter (fun w => decide (s.now < w.2.1 + s.get F.RST_WAKECFG_LISTEN * 10 * msec)
      || s.host.sess.any (fun x => x.cmdq.any (fun q => viaPort q.req.via == w.1))) } }))

/-- LINK_TRAINING_ATTEMPT: signal energy leaves port `p`; the next attempt follows after LINKPER seconds. -/
def execLinkTrainingAttempt (t p : Nat) (s : State) : Host.Outcome State Fault Refusal :=
  .next (s.commandIf t (fun s => s.ethOn p && !s.flag (linkF p) && decide (nth 0 s.rst.training (p - 1) ≤ s.now))
    (fun s =>
      let s1 : State := { s with rst := { s.rst with training := modNth s.rst.training (p - 1) (fun _ => s.now + s.get F.RST_WAKECFG_LINKPER * sec) } }
      s1.emit (.eth p 0 [])))

/-! ## RESET, PARK and WAKE (R306, R309, R373) -/

/-- RESET with a reach: the reset asserts 10 ms after the reply. (DEDUCED: log entry 26) -/
def State.resetOp (s : State) (reach : Nat) (p : List Byte) : State × HRes :=
  let unit := uAt p 1 1
  if uAt p 0 1 ≠ reach then (s, .err stBadParam 0 0)
  else if (reach ≤ 1 && unit != 0) || decide (4 < unit) then (s, .err stBadParam 0 1)
  else if reach ≠ 0 ∧ s.rst.mode = .recovery then (s, .refused 0x0001)
  else if reach ≤ 1 ∧ !s.allOpen ∧ uAt p 2 1 = 0 then (s, .refused 0x0002)
  else if reach = 2 ∧ !([2, 3, 4].contains (s.laneSt unit)) then (s, .refused 0x000A)
  else ({ s with rst := { s.rst with due := s.rst.due ++ [(reach, unit, s.now + 10 * msec)] } }, .ok [])

/-- The payload of RESET: REACH, UNIT, FLAGS with FORCE, and a zero byte. (DESIGN CHOICE: log entry 25) -/
def resetFmt : Fmt := { len := fun p => p.length == 4, pad := [3], flagsAt := some (2, 1) }

def execResetSystem (t : Nat) (r : Req) (s : State) : Host.Outcome State Fault Refusal :=
  .next (s.hostCommand t 0x0F01 r resetFmt (fun _ s => s.resetOp 0 r.payload))

def execResetSupervisor (t : Nat) (r : Req) (s : State) : Host.Outcome State Fault Refusal :=
  .next (s.hostCommand t 0x0F01 r resetFmt (fun _ s => s.resetOp 1 r.payload))

def execResetLane (t : Nat) (r : Req) (s : State) : Host.Outcome State Fault Refusal :=
  .next (s.hostCommand t 0x0F01 r resetFmt (fun _ s => s.resetOp 2 r.payload))

def execResetPort (t : Nat) (r : Req) (s : State) : Host.Outcome State Fault Refusal :=
  .next (s.hostCommand t 0x0F01 r resetFmt (fun _ s => s.resetOp 3 r.payload))

/-- The reason for which PARK is refused (R41, R269, R363). -/
def State.parkRefused (s : State) : Option Nat :=
  firstReason [(!s.clockGood 0, 0x0000), (!s.allOpen, 0x0002), (!s.convOff, 0x0003),
    (s.flag F.BAY_POS_DISP && decide (2 ≤ s.get F.BAY_STAT_NMAP), 0x0008)]

/-- PARK answers BUSY: a learning job, a sweep, a switch-over or an update. -/
def State.parkBusy (s : State) : Bool :=
  s.lrn.job.isSome || s.sweeping || s.lan.sw.isSome || s.get F.UPD_STATE_PHASE == 1 || s.get F.UPD_STATE_PHASE == 2

/-- An accepted PARK whose reply has left the SPI stream is entered, if it still may be. (DEDUCED: log entry 78) -/
def State.parkNow (s : State) : State :=
  match s.rst.parkReq with
  | none => s
  | some id =>
    if s.host.spiOut.any (·.answers id) then s
    else
      let s1 : State := { s with rst := { s.rst with parkReq := none } }
      if !s1.inService || s1.parkBusy || s1.parkRefused.isSome then s1 else s1.rotate.parkEnter.acqBroadcast

/-- PARK: it is entered after the reply has been sent (R306): at once over Ethernet, once the host has read it over SPI. (DEDUCED: log entry 78) -/
def execPark (t : Nat) (r : Req) (s : State) : Host.Outcome State Fault Refusal :=
  .next (s.hostCommand t 0x0407 r (Fmt.fixed 0 []) (fun id s =>
    if s.parkBusy then (s, .no stBusy 0x000F)
    else match s.parkRefused with
      | some c => (s, .refused c)
      | none =>
        if r.via = .spi then ({ s with rst := { s.rst with parkReq := some id } }, .ok [])
        else ((s.giveRes id (.ok [])).drain.rotate.parkEnter.acqBroadcast, .later)))

/-- WAKE: in PARK a full wake, whose reply follows it. -/
def execWake (t : Nat) (r : Req) (s : State) : Host.Outcome State Fault Refusal :=
  .next (s.hostCommand t 0x0408 r (Fmt.fixed 0 []) (fun id s =>
    if s.parked then
      let w : Waiting := { why := .wake, id := id, req := r, since := s.now }
      ({ s with host := { s.host with waiting := w :: s.host.waiting } }.fullWake (if r.via = Via.spi then 2 else 1), .later)
    else (s, .ok [])))

end Sys2Proof.Machine
end

