-- ==== Sys2Proof/Machine/Session.lean ====
section
/-! DEFINITION. Sessions: HELLO, AUTH with the owner lock, BYE, PING, TRIP at the port, and the timeouts of sessions, contexts, jobs and
lockouts (R199, R279 to R285, R291). -/

namespace Sys2Proof.Machine

/-! ## HELLO and AUTH (R280, R281, R285) -/

/-- The lockout of a source address is in force. -/
def State.lockedOut (s : State) (src : Nat) : Bool := (assoc? src s.host.lockout).any (fun a => decide (s.now < a + 60 * sec))

/-- The session a HELLO is given: the one named, or the lowest free one for 0xFF. -/
def State.freeSession (s : State) (want : Nat) : Option Nat :=
  let free := fun (n : Nat) => (s.session n).st == .free
  if want = 0xFF then (List.range 8).find? free else if free want then some want else none

/-- ASCII TCHIRIS-S1 and TCHIRIS-B1. -/
def textS1 : List Byte := [0x54, 0x43, 0x48, 0x49, 0x52, 0x49, 0x53, 0x2D, 0x53, 0x31]
def textB1 : List Byte := [0x54, 0x43, 0x48, 0x49, 0x52, 0x49, 0x53, 0x2D, 0x42, 0x31]

/-- The session key K_s. -/
def sessionKey (slotKey nh nm : List Byte) (n : Nat) : List Byte :=
  hmac slotKey (textS1 ++ nh ++ nm ++ leBytes 4 Config.serial.toNat ++ leBytes 1 n)

/-- The broadcast key K_b of a slot (R284). -/
def State.broadcastKey (s : State) (slot : Nat) : List Byte :=
  hmac ((assoc? slot s.flash.keys).getD []) (textB1 ++ leBytes 1 (s.get F.BAY_CFG_BAYID))

/-- A session is reserved and the module nonce sent. -/
def State.helloOpen (s : State) (r : Req) (n : Nat) (key : List Byte) : State :=
  let nm := leBytes 16 (Config.nonce s.host.nonces).toNat
  let slot := uAt r.payload 16 1
  let s1 : State := { s with host := { s.host with
    nonces := s.host.nonces + 1,
    sess := modNth s.host.sess n (fun (x : Session) =>
      { x.freed with st := .pending, slot := slot, key := sessionKey key (r.payload.take 16) nm n, since := s.now, via := r.via, src := r.src }) } }
  let id : ReqId := { reqId r 1 false with tagged := false, session := n }
  s1.giveRes id (.ok (nm ++ [1] ++ leBytes 1 s.position ++ leBytes 2 1400 ++ leBytes 4 Config.serial.toNat))

/-- HELLO after the checks of a packet: class, payload, lockout, key and session. (DEDUCED: log entry 16) -/
def State.hello (s0 : State) (r : Req) : State :=
  if !s0.portOpen r.via || s0.s0Down then s0
  else if s0.provClosed r then s0.authFail r 1
  else
    let s := s0.touchWindow r.via
    let fail := fun (e : HRes) => s.answerFree r 1 e
    match (Fmt.fixed 20 [17, 18, 19]).check r.payload with
    | some e => if r.target = 0xFE then fail (.no stBadOpcode 0) else if r.cls ≠ 12 then fail (.no stBadParam 0) else fail e
    | none =>
      if r.target = 0xFE then fail (.no stBadOpcode 0)
      else if r.cls ≠ 12 || (8 ≤ r.session && r.session != 0xFF) then fail (.no stBadParam 0)
      else if s.lockedOut (srcAddr r) then fail (.no stBusy 0)
      else match assoc? (uAt r.payload 16 1) s.flash.keys with
        | none => fail (.err stBadParam 0 16)
        | some key => match s.freeSession r.session with
          | none => fail (.no stBusy 0)
          | some n => s.helloOpen r n key

def execHello (t : Nat) (r : Req) (s : State) : Host.Outcome State Fault Refusal := .next (s.command t (fun s => s.hello r))

/-- TAKE and BREAK of an AUTH in session `n`: the result with the lock (R285). BREAK below SERVICE is read as TAKE. -/
def State.takeLock (s : State) (n flags : Nat) : State × HRes :=
  let brk := flags.testBit 1 && (s.session n).slot == 3
  let take := flags.testBit 0 || flags.testBit 1
  let own : State := { s with host := { s.host with owner := some n } }
  match s.host.owner with
  | none => (if take then own else s, .ok [])
  | some h => if h = n || !take then (s, .ok []) else if brk then (own.raise 1 [], .ok []) else (s, .no stLocked 0)

/-- The payload of AUTH. -/
def authFmt : Fmt := { len := fun p => p.length == 4, pad := [1, 2, 3], flagsAt := some (0, 3) }

/-- AUTH in a session that awaits it, tagged correctly: the session opens with the SEQ of the request. -/
def State.authPending (s : State) (r : Req) : State :=
  let id := reqId r 2 false
  match authFmt.check r.payload with
  | some e =>
    if r.target = 0xFE then s.giveRes id (.no stBadOpcode 0)
    else if r.cls ≠ 12 then s.giveRes id (.no stBadParam 0)
    else s.giveRes id e
  | none =>
    if r.target = 0xFE then s.giveRes id (.no stBadOpcode 0)
    else if r.cls ≠ 12 then s.giveRes id (.no stBadParam 0)
    else
      let s1 : State := { s with host := { s.host with sess := modNth s.host.sess r.session (fun (x : Session) =>
        { x with st := .opened, since := s.now, l := r.seq, bl := none, cache := cacheOpen r.seq [] }) } }
      let (s2, res) := s1.takeLock r.session (uAt r.payload 0 1)
      s2.giveRes id res

/-- AUTH, after the check of its tag. (DEDUCED: log entry 16) -/
def State.auth (s : State) (r : Req) : State :=
  if !s.portOpen r.via || s.s0Down then s
  else if s.provClosed r then (s.unqueue 2 r).authFail r 2
  else if s.provisional r then s.host_ 2 r authFmt (fun _ s => (s, .ok []))
  else if r.auth && decide (r.session < 8) && (s.session r.session).st == .pending then (s.touchWindow r.via).authPending r
  else s.host_ 2 r authFmt (fun _ s => s.takeLock r.session (uAt r.payload 0 1))

def execAuth (t : Nat) (r : Req) (s : State) : Host.Outcome State Fault Refusal := .next (s.command t (fun s => s.auth r))

/-! ## BYE and PING (R279, R282) -/

/-- A session is to close once a request has been answered, if it is not closing already. -/
def State.closeAfter (s : State) (n : Nat) (id : ReqId) : State :=
  { s with host := { s.host with closing := if s.host.closing.any (fun c => c.1 == n) then s.host.closing else s.host.closing ++ [(n, id)] } }

/-- BYE: the session takes no further request, what waits in its queue is discarded, and it is free after the reply (R282); a provisioning
context begins anew. -/
def execBye (t : Nat) (r : Req) (s : State) : Host.Outcome State Fault Refusal :=
  .next (s.hostCommand t 0x0003 r (Fmt.fixed 0 []) (fun id s =>
    if id.prov then
      ({ s with host := { s.host with prov := modNth s.host.prov r.session (fun _ => {}) } }, .ok [])
    else ({ s with host := { s.host with sess := modNth s.host.sess r.session (fun (x : Session) =>
      { x with cmdq := x.cmdq.filter (·.prov) }) } }.closeAfter r.session id, .ok [])))

/-- The payload of PING: 0 … 64 bytes. -/
def pingFmt : Fmt := { len := fun p => decide (p.length ≤ 64) }

/-- An untagged PING outside the provisioning state over SPI: it needs no session, and its reply is untagged. -/
def State.pingFree (s : State) (r : Req) : State :=
  if !s.portOpen r.via || s.s0Down then s
  else if r.cls ≠ 12 then s.answerFree r 4 (.no stBadParam 0)
  else match pingFmt.check r.payload with
    | some e => s.answerFree r 4 e
    | none => (s.touchWindow r.via).answerFree r 4 (.ok r.payload)

def execPing (t : Nat) (r : Req) (s : State) : Host.Outcome State Fault Refusal :=
  .next (s.command t (fun s =>
    if !r.auth && !s.provisional r then s.pingFree r
    else s.host_ 0x0004 r pingFmt (fun _ s => (s, .ok r.payload))))

/-! ## TRIP (R199) -/

/-- A packet leaves by every line port but the one it came in by (R258), while the switch runs (R315). -/
def State.lineAll (s : State) (via : Via) (raw : List Byte) : State :=
  ((if s.inService then linePorts s.role else []).filter (fun p => p != viaPort via)).foldl (fun (a : State) p =>
    let q := if p = a.upPort then 0 else 1
    let l := nth [] a.bay.relay q
    if 16 ≤ l.length then a.qLost (40 + q)
    else { a with bay := { a.bay with relay := modNth a.bay.relay q (fun _ => l ++ [raw]) } }) s

/-- An accepted TRIP keeps its session and a listen window open (R282, R374). -/
def State.tripHeld (s : State) (r : Req) : State :=
  { s.touchWindow r.via with host := { s.host with sess := modNth s.host.sess r.session (fun (x : Session) => { x with since := s.now }) } }

/-- TRIP with a correct tag of an open session, in the port's hardware: neither sequence number, lock nor queue bars it. -/
def State.trip (s : State) (r : Req) : State :=
  let id : ReqId := { reqId r 0x0409 false with bcast := true }
  if s.rst.mode = .recovery then s.giveRes id (.no stBadOpcode 0)
  else if r.cls ≠ 10 then s.giveRes id (.no stBadParam 0)
  else if r.payload.length ≠ 1 then s.giveRes id (.no stBadLength 0)
  else match uAt r.payload 0 1 with
    | 0 => ((s.tripHeld r).latch 5).giveRes id (.ok [])
    | 1 => (((s.tripHeld r).latch 5).coilsTrip).giveRes id (.ok [])
    | _ => s.giveRes id (.err stBadParam 0 0)

/-- A TRIP packet as it goes on along the line: under K_b for all in bay where its tag is correct; else its tag, if it has one, is open. -/
def State.tripRaw (s : State) (r : Req) : List Byte :=
  let p : Pkt := { flags := if r.auth then 4 else 0, session := r.session, cls := r.cls, seq := r.seq, opcode := 0x0409, target := r.target, status := 0, jobid := 0,
                   payload := r.payload, key := s.broadcastKey (s.session r.session).slot }
  if r.target = 0xFE ∧ s.isOpen r.session ∧ r.auth then p.bytes
  else if !r.auth then { p with key := [] }.bytes
  else
    let h := p.bytes.take (20 + r.payload.length) ++ leBytes 16 (s.open_ 128).toNat
    h ++ leBytes 4 (crc32c h)

/-- TRIP in the provisioning state over SPI without a tag: its context answers BAD_OPCODE (R279). -/
def State.tripProv (s : State) (r : Req) : State :=
  if 8 ≤ r.session then s.answerFree r 0x0409 (.no stBadParam 0)
  else
    let s1 := s.ctxAccept r
    match s1.provRefusal 0x0409 r with
    | some e => s1.giveRes (reqId r 0x0409 true) e
    | none => s1

/-- TRIP (R199): step 5 of Table 13.4 first: a TRIP for another position goes on along the line and does nothing here, and one for all in bay
goes on and is checked here too; then steps 6 to 8. (DEDUCED: log entry 19) -/
def State.tripTake (s : State) (r : Req) : State :=
  if 64 ≤ r.target ∧ r.target < 0xFE then s.answerFree r 0x0409 (.no stBadParam 0)
  else if r.target < 64 ∧ (!s.flag F.BAY_POS_VALID ∨ s.role = 3) then s.answerFree r 0x0409 (.no stBadParam 0)
  else if r.target < 64 ∧ r.target ≠ s.get F.BAY_POS_POS then s.drew.lineForward r.target (s.tripRaw r)
  else
    let s1 := if r.target = 0xFE then s.drew.lineAll r.via (s.tripRaw r) else s
    if r.cls < 10 ∨ 12 < r.cls then s1.answerFree r 0x0409 (.no stBadParam 0)
    else if s1.provisional r then s1.tripProv r
    else if s1.provClosed r || !s1.isOpen r.session || !r.auth then s1.authFail r 0x0409
    else s1.trip r

def execTrip (t : Nat) (r : Req) (s : State) : Host.Outcome State Fault Refusal :=
  .next (s.command t (fun s => if !s.portOpen r.via || s.coresHeld then s else s.tripTake r))

/-! ## Timeouts (R279 to R282, R291) -/

/-- AUTH_TIMEOUT: a session awaiting AUTH for 5 s becomes free. -/
def execAuthTimeout (t n : Nat) (s : State) : Host.Outcome State Fault Refusal :=
  .next (s.commandIf t (fun s => decide (n < 8) && (s.session n).st == .pending && decide ((s.session n).since + 5 * sec ≤ s.now))
    (fun s => s.closeSession n))

/-- SESSION_IDLE_TIMEOUT: 60 s without an accepted request; the timer stops in PARK. -/
def execSessionIdleTimeout (t n : Nat) (s : State) : Host.Outcome State Fault Refusal :=
  .next (s.commandIf t (fun s => !s.parked && s.isOpen n && decide ((s.session n).since + 60 * sec ≤ s.now)) (fun s => s.closeSession n))

/-- HELLO_LOCKOUT_EXPIRE. -/
def execHelloLockoutExpire (t src : Nat) (s : State) : Host.Outcome State Fault Refusal :=
  .next (s.commandIf t (fun s => (assoc? src s.host.lockout).any (fun a => decide (a + 60 * sec ≤ s.now)))
    (fun s => { s with host := { s.host with lockout := assocDel src s.host.lockout } }))

/-- PROVISIONING_CONTEXT_EXPIRE: 60 s without a request. -/
def execProvisioningContextExpire (t n : Nat) (s : State) : Host.Outcome State Fault Refusal :=
  .next (s.commandIf t (fun s => match s.host.prov[n]? with
      | some c => c.used && decide (c.since + 60 * sec ≤ s.now)
      | none => false)
    (fun s => { s with host := { s.host with prov := modNth s.host.prov n (fun _ => {}) } }))

/-- JOB_TABLE_EXPIRE: an ended job leaves the table after 60 s. -/
def execJobTableExpire (t id : Nat) (s : State) : Host.Outcome State Fault Refusal :=
  .next (s.commandIf t (fun s => (s.job? id).any (fun j => j.st != .running && decide (j.endedAt + 60 * sec ≤ s.now)))
    (fun s => { s with jobs := s.jobs.filter (fun j => j.id ≠ id) }))

end Sys2Proof.Machine
end

