-- ==== Sys2Proof/Machine/Pkt.lean ====
section
/-! DEFINITION. Arriving packets: the order of checks of Table 13.4, sequence numbers (R283), and the SPI transactions (R274). -/

namespace Sys2Proof.Machine

/-! ## Sequence numbers (R283) -/

/-- What step 9 decides. -/
inductive SeqRes where
  | fresh | cached (ps : List Pkt) | silent | old
  deriving DecidableEq, Repr

/-- The SEQ of a request against L and the cache; `busy`: it names a request queued or executing. -/
def seqCheck (l : Option Nat) (cache : List (Nat × List Pkt)) (busy : Bool) (seq : Nat) : SeqRes :=
  match l with
  | none => .fresh
  | some l =>
    let d := (seq + 65536 - l) % 65536
    if 1 ≤ d ∧ d ≤ 32767 then .fresh
    else match cache.find? (fun c => c.1 == seq && !c.2.isEmpty) with
      | some c => .cached c.2
      | none => if busy then .silent else .old

/-- A request of the session, or of the provisioning context, with this SEQ waits or is being answered. -/
def State.seqBusy (s : State) (n seq : Nat) (bcast prov : Bool) : Bool :=
  (s.session n).cmdq.any (fun q => q.prov == prov && q.bcast == bcast && q.req.seq == seq)
    || s.host.waiting.any (fun w => w.id.prov == prov && w.id.bcast == bcast && w.id.session == n && w.id.seq == seq)

/-- An old request is discarded and counted. -/
def State.seqOld (s : State) : State := s.count F.GLB_PKTERR_SEQERR F.GLB_PKTERR_SAT

/-- Step 14: the request enters the command queue, or is answered QUEUE_FULL. -/
def State.enqueue (s : State) (op : Nat) (r : Req) (prov : Bool) : State :=
  let id := reqId r op prov
  if 16 ≤ (s.session r.session).cmdq.length then
    ((s.count F.GLB_PKTERR_QFULL F.GLB_PKTERR_SAT).qLost r.session).giveRes id (.no stQueueFull 0)
  else
    let q : QReq := { ord := s.host.ord, op := op, bcast := id.bcast, prov := prov, req := r }
    { s with host := { s.host with ord := s.host.ord + 1,
                                   sess := modNth s.host.sess r.session (fun (x : Session) => { x with cmdq := x.cmdq ++ [q] }) } }

/-- Steps 9 to 14 in a provisioning context (R279). -/
def State.takeProv (s0 : State) (op : Nat) (r : Req) : State :=
  if 8 ≤ r.session then s0.answerFree r op (.no stBadParam 0)
  else
    let s := s0.ctxTouch r
    let c := nth {} s.host.prov r.session
    match seqCheck (if c.used then some c.l else none) c.cache (s.seqBusy r.session r.seq (r.target == 0xFE) true) r.seq with
    | .cached ps => ps.foldl State.toSpi s
    | .silent => s
    | .old => s.seqOld
    | .fresh =>
      let s1 := s.ctxAccept r
      match s1.provRefusal op r with
      | some e => s1.giveRes (reqId r op true) e
      | none => s1.enqueue op r true

/-- Steps 9 to 14 in an open session. (DESIGN CHOICE: log entry 18) -/
def State.takeReq (s : State) (op : Nat) (r : Req) : State :=
  let x := s.session r.session
  let bc := r.target == 0xFE
  match seqCheck (if bc then x.bl else some x.l) (if bc then [] else x.cache) (s.seqBusy r.session r.seq bc false) r.seq with
  | .cached ps => ps.foldl (fun (a : State) p => a.queueReply r.session r.via r.src p) s
  | .silent => s
  | .old => s.seqOld
  | .fresh =>
    let s1 := s.accept r
    match s1.refusal op r with
    | some e => s1.giveRes (reqId r op false) e
    | none => s1.enqueue op r false

/-! ## The checks in order (Table 13.4) -/

/-- The request a packet carries; `auth` stands for its AUTH flag until the tag has been checked. -/
def reqOf (via : Via) (src : Nat) (raw : List Byte) : Req :=
  { via := via, src := src, auth := (uAt raw 3 1).testBit 2, session := uAt raw 4 1, cls := uAt raw 5 1, seq := uAt raw 6 2,
    target := uAt raw 10 1, payload := slice raw 20 (uAt raw 12 2) }

/-- Step 8: the tag of a packet under the key of its session, or under K_b for a bay-wide request. -/
def State.tagOk (s : State) (r : Req) (raw : List Byte) : Bool :=
  let x := s.session r.session
  let key := if r.target = 0xFE then s.broadcastKey x.slot else x.key
  let n := 20 + r.payload.length
  r.auth && slice raw n 16 == (hmac key (raw.take n)).take 16

/-- Steps 7 to 14. (DEDUCED: log entry 17; DEDUCED: log entry 19) -/
def State.takeChecked (s : State) (op : Nat) (r : Req) (raw : List Byte) : State :=
  if op = 1 then s.hello r
  else if s.provisional r then s.takeProv op r
  else if op = 4 && !r.auth then s.pingFree r
  else
    let st := (s.session r.session).st
    let known := s.isOpen r.session || (decide (r.session < 8) && op == 2 && st == .pending)
    if s.provClosed r || !known || !s.tagOk r raw then s.authFail r op
    else if op = 0x0409 then s.trip r
    else if op = 2 && st == .pending then (s.touchWindow r.via).authPending r
    else s.takeReq op r

/-- Steps 3 to 6: what a packet addressed here must hold, else its answer; `none` where it goes on. -/
def State.headErr (s : State) (r : Req) (raw : List Byte) : Option HRes :=
  let known := s.flag F.BAY_POS_VALID && s.role != 3
  if uAt raw 2 1 ≠ 1 then some (.no stBadParam 0)
  else if raw.length ≠ 24 + uAt raw 12 2 + (if r.auth then 16 else 0) ∨ 1400 < uAt raw 12 2 then some (.no stBadLength 0)
  else if r.target < 64 ∧ !known then some (.no stBadParam 0)
  else if 64 ≤ r.target ∧ r.target < 0xFE then some (.no stBadParam 0)
  else none

/-- Step 6. -/
def reservedOk (r : Req) (raw : List Byte) : Bool :=
  decide (10 ≤ r.cls) && decide (r.cls ≤ 12) && uAt raw 11 1 == 0 && uAt raw 18 2 == 0 && uAt raw 3 1 / 32 == 0 && uAt raw 14 4 == 0

/-- Steps 1 to 14 of a packet that arrives on a transport from a source address. -/
def State.packet (s : State) (via : Via) (src : Nat) (raw : List Byte) : State :=
  let n := raw.length
  if n < 24 || uAt raw 0 2 != 0x4C5A || uAt raw (n - 4) 4 != crc32c (raw.take (n - 4)) then s.count F.GLB_PKTERR_CRCERR F.GLB_PKTERR_SAT
  else if uAt raw 3 1 &&& 0x1B ≠ 0 then (if (uAt raw 3 1).testBit 0 && via != .spi then s.lineReply via raw else s)
  else
    let r := reqOf via src raw
    let op := uAt raw 8 2
    match s.headErr r raw with
    | some e => s.answerFree r op e
    | none =>
      if r.target < 64 && r.target != s.get F.BAY_POS_POS then s.lineForward r.target raw
      else
        let s1 := if r.target = 0xFE then s.lineAll via raw else s
        if !reservedOk r raw then s1.answerFree r op (.no stBadParam 0)
        else s1.takeChecked op r raw

/-- In PARK the bytes clocked over SPI within 2 ms of the edge that opened the window are discarded (Table 18.9). -/
def State.spiEarly (s : State) (via : Via) : Bool :=
  via == .spi && s.parked && s.rst.listen.any (fun w => w.1 == 3 && decide (s.now < w.2.2 + 2 * msec))

/-- The transport takes packets now. -/
def State.receives (s : State) (via : Via) : Bool := s.portOpen via && !s.spiEarly via && !s.coresHeld

/-- The module has an address of the family of a packet's source: without an IPv4 address it takes none over IPv4 (R316). -/
def State.ipOn (s : State) (via : Via) (src : Nat) : Bool := via == .spi || decide (4294967296 ≤ src / 65536) || s.get F.TIM_IP4 != 0

/-- PACKET_RECEIVE. -/
def execPacketReceive (t : Nat) (via : Via) (src : Nat) (raw : List Byte) (s : State) : Host.Outcome State Fault Refusal :=
  .next (s.commandIf t (fun s => s.receives via && s.ipOn via src) (fun s => s.packet via src raw))

/-! ## SPI transactions (Table 13.1) -/

/-- SPI_WRITE: the packet is checked when SPI_CS_N rises. -/
def execSpiWrite (t : Nat) (raw : List Byte) (s : State) : Host.Outcome State Fault Refusal :=
  .next (s.commandIf t (fun s => s.receives .spi) (fun s => s.packet .spi 0 raw))

/-- SPI_STATUS: FLAGS, a zero byte and the length of the next packet. -/
def State.spiStatus (s : State) : State :=
  let space := s.host.sess.all (fun x => x.st != .opened || decide (x.cmdq.length < 16))
  let len := match s.host.spiOut with
    | [] => 0
    | p :: _ => p.bytes.length
  s.emit (.spi (leBytes 1 (b2n (!s.host.spiOut.isEmpty) + 2 * b2n space) ++ [0] ++ leBytes 2 len))

def execSpiStatus (t : Nat) (s : State) : Host.Outcome State Fault Refusal :=
  .next (s.commandIf t (fun s => s.portOpen .spi && !s.spiEarly .spi) State.spiStatus)

/-- SPI_READ of `n` bytes: the next packet of the stream, which leaves it when all of its bytes were clocked. (DEDUCED: log entry 20) -/
def State.spiRead (s : State) (n : Nat) : State :=
  match s.host.spiOut with
  | [] => s.emit (.spi (List.replicate n 0))
  | p :: rest =>
    let b := p.bytes
    let s1 := s.emit (.spi (b.take n ++ List.replicate (n - b.length) 0))
    if b.length ≤ n then { s1 with host := { s1.host with spiOut := rest } } else s1

def execSpiRead (t n : Nat) (s : State) : Host.Outcome State Fault Refusal :=
  .next (s.commandIf t (fun s => s.portOpen .spi && !s.spiEarly .spi) (fun s => (s.spiRead n).parkNow))

end Sys2Proof.Machine
end

