-- ==== Sys2Proof/Machine/Rec.lean ====
section
/-! DEFINITION. The event recorder: operating time, writes, merges and the freeze (R387 to R394). -/

namespace Sys2Proof.Machine

/-! ## Operating time (R387, R390) -/

/-- The ACTIVE lanes' seconds, of which every 3,600 are an hour, written to flash as they change (R253). -/
def State.laneSecond (s : State) : State :=
  let one := fun (a : LanSt) (l : Nat) =>
    if nth 0 a.st l != 1 then a
    else if nth 0 a.hourSec l + 1 < 3600 then { a with hourSec := modNth a.hourSec l (· + 1) }
    else { a with hourSec := modNth a.hourSec l (fun _ => 0), hours := modNth a.hours l (fun h => min 4294967295 (h + 1)) }
  let x := (List.range 5).foldl one s.lan
  { s with lan := x, flash := if x.hours = s.flash.hours then s.flash else { s.flash with hours := x.hours }.cfgWritten }

/-- The freeze's seconds of RUN and HALT. -/
def State.freezeSecond (s : State) : State :=
  if s.flag F.REC_STATE_FROZEN then
    let n := s.rcd.frozenSec + 1
    { s with rcd := { s.rcd with frozenSec := n } }.set F.REC_EXPIRE (86400 - n)
  else s

/-- One second of operating time; a whole multiple of 3,600 closes the interval, in PARK at the wake (R388). (DEDUCED: log entry 64) -/
def State.second (s : State) : State :=
  let op := min 4294967295 (s.opsec + 1)
  let s1 := { s with rcd := { s.rcd with tickAt := s.now } }.set F.REC_OPSEC op
  let hour := decide (op % 3600 = 0)
  if s1.inService then
    let s2 := s1.recSecond.laneSecond.freezeSecond
    if hour then s2.recClose else s2
  else
    let s2 : State := { s1 with rcd := { s1.rcd with hourDue := s1.rcd.hourDue || hour } }
    if s2.rst.mode = .park then { s2 with rcd := { s2.rcd with parkSec := s2.rcd.parkSec + 1 } } else s2

def execOperatingTimeTick (t : Nat) (s : State) : Host.Outcome State Fault Refusal :=
  .next (s.commandIf t (fun s => s.rst.mode != .off && decide (s.rcd.tickAt + sec ≤ s.now)) State.second)

/-! ## Writes and merges (R384, R389, R392) -/

/-- The flash writer is free for the recorder: no freeze, or the write that was under way when it began (R396). -/
def State.recWritable (s : State) : Bool :=
  s.inService && !s.rcd.q42.isEmpty && (!s.flag F.REC_STATE_FROZEN || s.rcd.inWrite)

def execRecordWriteDone (t : Nat) (bad : List Nat) (s : State) : Host.Outcome State Fault Refusal :=
  .next (s.commandIf t State.recWritable
    (fun s => { s.blocksFail .recorder bad with rcd := { s.rcd with inWrite := false } }.recWrite))

/-- The oldest day whose hourly records are due for their merge. -/
def State.mergeDay (s : State) : Option Nat :=
  match (s.flash.hourly.filter (fun e => !e.marked)).map (fun e => e.r.day) with
  | [] => none
  | d :: t =>
    let m := t.foldl min d
    if (m + 91) * 86400 ≤ s.opsec then some m else none

def execDailyMerge (m : FlashAt) (s : State) : Host.Outcome State Fault Refusal :=
  .next (s.commandIf m.t (fun s => s.inService && !s.s1Down && !s.flag F.REC_STATE_FROZEN && s.mergeDay.isSome)
    (fun s => match s.mergeDay with
      | some d => (s.blocksFail .recorder m.bad).recMerge d false
      | none => s))

/-! ## Freeze (R393) -/

def execRecFreeze (t : Nat) (r : Req) (s : State) : Host.Outcome State Fault Refusal :=
  .next (s.hostCommand t 0x0801 r (Fmt.fixed 0 []) (fun _ s =>
    let w := if s.flag F.REC_STATE_FROZEN then s.rcd.inWrite else !s.rcd.q42.isEmpty
    let s1 : State := { s with rcd := { s.rcd with frozenSec := 0, inWrite := w } }
    ((s1.setB F.REC_STATE_FROZEN true).set F.REC_EXPIRE 86400, .ok (leBytes 4 86400))))

/-- The freeze ends: the pending records are queued oldest first. -/
def State.unfreeze (s : State) : State :=
  let s1 : State := { s with rcd := { s.rcd with frozenSec := 0, inWrite := false } }
  ((s1.setB F.REC_STATE_FROZEN false).set F.REC_EXPIRE 0).recRelease

def execRecUnfreeze (t : Nat) (r : Req) (s : State) : Host.Outcome State Fault Refusal :=
  .next (s.hostCommand t 0x0803 r (Fmt.fixed 0 []) (fun _ s =>
    (if s.flag F.REC_STATE_FROZEN then s.unfreeze else s, .ok [])))

def execRecFreezeExpire (t : Nat) (s : State) : Host.Outcome State Fault Refusal :=
  .next (s.commandIf t (fun s => s.inService && s.flag F.REC_STATE_FROZEN && decide (86400 ≤ s.rcd.frozenSec))
    (fun s => (s.unfreeze.setB F.REC_STATE_EXPIRED_SEEN true).raise 115 []))

/-! ## Reading (R394) -/

/-- The record of lowest number from `first` on that is not marked. -/
def State.recFrom (s : State) (first : Nat) : Option RecEnt :=
  ((s.flash.hourly ++ s.flash.daily).filter (fun e => !e.marked && decide (first ≤ e.no))).foldl
    (fun (b : Option RecEnt) e => match b with
      | none => some e
      | some x => if e.no < x.no then some e else some x) none

/-- REC_READ: one record fills the reply; a full Q43 answers BUSY (Table 19.2). With no record left NEXT follows none, and its value is open. -/
def execRecRead (t : Nat) (r : Req) (s : State) : Host.Outcome State Fault Refusal :=
  .next (s.hostCommand t 0x0802 r (Fmt.fixed 8 [5, 6, 7]) (fun _ s0 =>
    let first := uAt r.payload 0 4
    let s : State := { s0 with rcd := { s0.rcd with q43 := s0.rcd.q43 + 1 } }
    if uAt r.payload 4 1 = 0 then (s0, .err stBadParam 0 4)
    else if s0.flash.recNext ≤ first then (s0, .err stBadParam 0 0)
    else if queueDepth 43 ≤ s0.fill 43 then (s0, .no stBusy 0)
    else match s.recFrom first with
      | some e => (s, .ok ([1, 0, 0, 0] ++ leBytes 4 (e.no + 1) ++ e.bytes))
      | none => (s.drew, .ok ([0, 0, 0, 0] ++ leBytes 4 (s.open_ 32).toNat))))

end Sys2Proof.Machine
end

