-- ==== Sys2Proof/Machine/Regs.lean ====
section
/-! DEFINITION. The register opcodes (R296 to R300) and the accesses of single registers that have effects of their own. -/

namespace Sys2Proof.Machine

/-! ## Opcodes (Table 14.3) -/

/-- The answer to a refused write, with the offset of VALUE in the request. -/
def WriteErr.res (e : WriteErr) (valAt : Nat) : HRes :=
  if e.status = stBadParam then .err e.status e.reason (if e.atAddr then 0 else valAt) else .no e.status e.reason

def execRegRead (t : Nat) (r : Req) (s : State) : Host.Outcome State Fault Refusal :=
  .next (s.hostCommand t 0x0101 r (Fmt.fixed 4 []) (fun _ s =>
    let a := uAt r.payload 0 4
    if (regDef? a).isNone then (s, .err stBadParam 0 0)
    else
      let (s1, v) := s.readReg a
      (s1, .ok (leBytes 4 v.toNat))))

def execRegWrite (t : Nat) (r : Req) (s : State) : Host.Outcome State Fault Refusal :=
  .next (s.hostCommand t 0x0102 r (Fmt.fixed 8 []) (fun _ s =>
    match s.writeReg (uAt r.payload 0 4) (uAt r.payload 4 4) with
    | (s1, none) => (s1, .ok [])
    | (s1, some e) => (s1, e.res 4)))

/-- REG_MODIFY (R299): W1C bits outside MASK are written as 0. -/
def State.modifyReg (s : State) (a m v : Nat) : State × HRes :=
  match writable a with
  | none => (s, .err stBadParam 0 0)
  | some d =>
    if m &&& (d.rw ||| d.w1c ||| d.wo) = 0 then (s, .err stBadParam 0 0)
    else
      let old := s.readWord a
      let w := ((old.toNat &&& (4294967295 - m)) ||| (v &&& m)) &&& (4294967295 - (d.w1c &&& (4294967295 - m)))
      match s.writeReg a w with
      | (s1, none) => (s1, .ok (leBytes 4 old.toNat ++ leBytes 4 (s1.readWord a).toNat))
      | (s1, some e) => (s1, e.res 8)

def execRegModify (t : Nat) (r : Req) (s : State) : Host.Outcome State Fault Refusal :=
  .next (s.hostCommand t 0x0103 r (Fmt.fixed 12 []) (fun _ s =>
    s.modifyReg (uAt r.payload 0 4) (uAt r.payload 4 4) (uAt r.payload 8 4)))

/-- Read `n` registers from `a` on, in ascending order. -/
def State.readBlock (s : State) (a : Nat) : Nat → State × List Byte
  | 0 => (s, [])
  | n + 1 =>
    let (s1, l) := s.readBlock a n
    let (s2, v) := s1.readReg (a + 4 * n)
    (s2, l ++ leBytes 4 v.toNat)

def execRegReadBlock (t : Nat) (r : Req) (s : State) : Host.Outcome State Fault Refusal :=
  .next (s.hostCommand t 0x0104 r (Fmt.fixed 8 [6, 7]) (fun _ s =>
    let a := uAt r.payload 0 4
    let n := uAt r.payload 4 2
    if n = 0 ∨ 256 < n then (s, .err stBadParam 0 4)
    else if (List.range n).any (fun i => (regDef? (a + 4 * i)).isNone) then (s, .err stBadParam 0 0)
    else
      let (s1, l) := s.readBlock a n
      (s1, .ok l)))

/-! ## Accesses by themselves -/

/-- A read of one register as an access of its own: the value goes out. -/
def State.accessRead (s : State) (a : Nat) : State :=
  if (regDef? a).isNone then s.emit (.access a stBadParam 0 0)
  else
    let (s1, v) := s.readReg a
    s1.emit (.access a stOk 0 v.toNat)

/-- A write of one register as an access of its own: its status goes out. -/
def State.accessWrite (s : State) (a v : Nat) : State :=
  match s.writeReg a v with
  | (s1, none) => s1.emit (.access a stOk 0 v)
  | (s1, some e) => s1.emit (.access a e.status e.reason v)

/-- The word of a field's register with the field at `x`. -/
def State.withField (s : State) (f : Fld) (x : Nat) : Nat := (f.into (s.word f.addr) x).toNat

/-- A read of a register with RC fields (R14). -/
def execRcFieldRead (t a : Nat) (s : State) : Host.Outcome State Fault Refusal :=
  .next (s.commandIf t State.inService (fun s => s.accessRead a))

def execCviQ0Read (t : Nat) (s : State) : Host.Outcome State Fault Refusal :=
  .next (s.commandIf t State.inService (fun s => s.accessRead 0x50014))

def execTimNsecRead (t : Nat) (s : State) : Host.Outcome State Fault Refusal :=
  .next (s.commandIf t State.inService (fun s => s.accessRead 0xD0010))

def execCanRxstatRead (t n : Nat) (s : State) : Host.Outcome State Fault Refusal :=
  .next (s.commandIf t (fun s => s.inService && decide (n < 128)) (fun s => s.accessRead (0xE1000 + 128 * n)))

def execCanErrqRead (t : Nat) (s : State) : Host.Outcome State Fault Refusal :=
  .next (s.commandIf t State.inService (fun s => s.accessRead 0xE0020))

def execCanLogqRead (t : Nat) (s : State) : Host.Outcome State Fault Refusal :=
  .next (s.commandIf t State.inService (fun s => s.accessRead 0xE0024))

/-- A W1C write of `m` to PRT_TRIP (R186). -/
def execPrtTripClear (t m : Nat) (s : State) : Host.Outcome State Fault Refusal :=
  .next (s.commandIf t State.inService (fun s => s.accessWrite 0x8002C m))

/-- A W1C write to the WELD bits of PRT_CONTSTAT: bit k of `m` is the one of KP, KN, KPC (R198). -/
def execWeldClear (t m : Nat) (s : State) : Host.Outcome State Fault Refusal :=
  .next (s.commandIf t State.inService (fun s => s.accessWrite 0x80038 (m % 8 * 65536)))

/-- A write of RING_CTRL with CAL set and the other fields as they are (R62). -/
def execRingCalWrite (t : Nat) (s : State) : Host.Outcome State Fault Refusal :=
  .next (s.commandIf t State.inService (fun s => s.accessWrite 0x30000 (s.withField F.RING_CTRL_CAL 1)))

/-- A write of RING_CTRL that changes LEN to `n` (R81). -/
def execRingLenChange (t n : Nat) (s : State) : Host.Outcome State Fault Refusal :=
  .next (s.commandIf t (fun s => s.inService && decide (n < 64)) (fun s => s.accessWrite 0x30000 (s.withField F.RING_CTRL_LEN n)))

/-- A write of ACQ_BAL_CFG with SRC and ENABLE (R87). -/
def execBalSourceChange (t src : Nat) (en : Bool) (s : State) : Host.Outcome State Fault Refusal :=
  .next (s.commandIf t (fun s => s.inService && decide (src < 2)) (fun s =>
    s.accessWrite 0x40020 (F.ACQ_BAL_CFG_ENABLE.into (F.ACQ_BAL_CFG_SRC.into (s.word 0x40020) src) (b2n en)).toNat))

/-- A write of ACQ_OW_CFG with START and NODE (R93). -/
def execOpenWireStart (t node : Nat) (s : State) : Host.Outcome State Fault Refusal :=
  .next (s.commandIf t (fun s => s.inService && decide (node < 64)) (fun s =>
    s.accessWrite 0x40028 (F.ACQ_OW_CFG_START.into (F.ACQ_OW_CFG_NODE.into (s.word 0x40028) node) 1).toNat))

/-- A write of CVI_SH_CFG with FORCE (R105). -/
def execShuntForceWrite (t f : Nat) (s : State) : Host.Outcome State Fault Refusal :=
  .next (s.commandIf t (fun s => s.inService && decide (f < 4)) (fun s => s.accessWrite 0x50000 (s.withField F.CVI_SH_CFG_FORCE f)))

/-- A write of CTL_CTRL with RUN 1 (R176). -/
def execLoopStartWrite (t : Nat) (s : State) : Host.Outcome State Fault Refusal :=
  .next (s.commandIf t State.inService (fun s => s.accessWrite 0x70000 (s.withField F.CTL_CTRL_RUN 1)))

/-- A write of CTL_CTRL with RUN 0 (R177). -/
def execLoopStopWrite (t : Nat) (s : State) : Host.Outcome State Fault Refusal :=
  .next (s.commandIf t State.inService (fun s => s.accessWrite 0x70000 (s.withField F.CTL_CTRL_RUN 0)))

/-- A write of BAY_CTRL with HANDBACK (R269). -/
def execHandbackWrite (t : Nat) (s : State) : Host.Outcome State Fault Refusal :=
  .next (s.commandIf t State.inService (fun s => s.accessWrite 0xC0008 (s.withField F.BAY_CTRL_HANDBACK 1)))

/-- A write of CAN_CTRL with RECOVER (R330). -/
def execCanRecoverWrite (t : Nat) (s : State) : Host.Outcome State Fault Refusal :=
  .next (s.commandIf t State.inService (fun s => s.accessWrite 0xE0014 (s.withField F.CAN_CTRL_RECOVER 1)))

/-- A write of the word `v` to CAN_TXGO (R333). -/
def execCanTxgo (t v : Nat) (s : State) : Host.Outcome State Fault Refusal :=
  .next (s.commandIf t State.inService (fun s => s.accessWrite 0xE002C v))

/-- A write of the word `v` to EVR_TGT[n] (R347, R354). -/
def execEvrTgtWrite (t n v : Nat) (s : State) : Host.Outcome State Fault Refusal :=
  .next (s.commandIf t (fun s => s.inService && decide (n < 192)) (fun s => s.accessWrite (0x20100 + 4 * n) v))

/-- A write of EVR_GDIS.HOLD (R353). -/
def execEvrHoldWrite (t : Nat) (on : Bool) (s : State) : Host.Outcome State Fault Refusal :=
  .next (s.commandIf t State.inService (fun s => s.accessWrite 0x20008 (b2n on)))

/-- A write of EVR_HCTL.SLEEP (R355). -/
def execEvrSleepWrite (t m : Nat) (s : State) : Host.Outcome State Fault Refusal :=
  .next (s.commandIf t (fun s => s.inService && decide (m < 16)) (fun s => s.accessWrite 0x2000C m))

end Sys2Proof.Machine
end

