-- ==== Sys2Proof/Machine/Saf.lean ====
section
/-! DEFINITION. The safety functions: input sampling, stops and their backstops, restart, two-hand control, sealed switches and
output tests (R217 to R233). -/

namespace Sys2Proof.Machine

/-! ## Input sampling (R217 to R219, R224, R225) -/

/-- One input's sample: the accepted state follows after its run of equal samples. -/
def State.safSample (s : State) (i : Nat) (level : Bool) : State :=
  let on := s.safIn i
  if level == on then { s with saf := { s.saf with run := modNth s.saf.run i (fun _ => 0) } }
  else
    let n := nth 0 s.saf.run i + 1
    let need := if i = 3 && on then 6 else 8
    if n < need then { s with saf := { s.saf with run := modNth s.saf.run i (fun _ => n) } }
    else
      { s.setB { F.SAF_IN_ESTOP_A with lo := i } level with
        saf := { s.saf with run := modNth s.saf.run i (fun _ => 0), chgAt := modNth s.saf.chgAt i (fun _ => s.now) } }

/-- The emergency-stop pair: since when its inputs differ, and the release sequence of a discrepancy (R218, Table 10.5). -/
def State.estopPair (s : State) : State :=
  let a := s.safIn 0
  let b := s.safIn 1
  let off := s.saf.discOff || (!a && !b)
  { s with saf := { s.saf with
      discAt := if a == b then none else some (s.saf.discAt.getD s.now),
      discOff := off, discOk := s.saf.discOk || (off && a && b) } }

/-- The two-hand control after a sample (R224, R225): off time, single input, actuation and release. -/
def State.twoHand (s : State) : State :=
  let a := s.safIn 4
  let b := s.safIn 5
  let x := s.saf
  if s.safSt != 1 || s.thWin == 0 then
    { s with saf := { x with thOffAt := none, thAt := none, thBlock := true, thOneAt := none, thDone := false } }
  else if !a && !b then
    let o := x.thOffAt.getD s.now
    { s with saf := { x with thOffAt := some o, thAt := none, thOneAt := none,
                             thBlock := (x.thBlock || x.thOffAt.isNone) && decide (s.now < o + 200 * msec) } }
  else if a && b then
    match x.thAt with
    | some _ => s
    | none =>
      let close := match x.thOneAt with
        | none => true
        | some o => decide (s.now ≤ o + s.thWin)
      if !x.thBlock && close then
        { s with saf := { x with thOffAt := none, thOneAt := none, thAt := some s.now, thDone := false, thBlock := true } }
      else { s with saf := { x with thOffAt := none, thBlock := true } }
  else
    let o := x.thOneAt.getD s.now
    { s with saf := { x with thOffAt := none, thAt := none, thOneAt := some o,
                             thBlock := x.thBlock || x.thAt.isSome || decide (o + s.thWin < s.now) } }

/-- A release before CONNECTED ends a close sequence at once (R225). -/
def State.twoHandRelease (old s : State) : State :=
  if old.actuated && !s.actuated && old.thWin != 0 then s.endClose else s

/-- The functions of which an input went from accepted on to accepted off between two states: during START only these are accepted
changes, since an input that has not been on since the reset raises no demand (R217). -/
def State.fellBits (s s1 : State) : Nat :=
  let fell := fun (i : Nat) => s.safIn i && !s1.safIn i
  b2n (fell 0 || fell 1) + 2 * b2n (fell 2) + 4 * b2n (fell 3)

/-- SAFETY_INPUT_SAMPLE: the six inputs in the order of Table 10.11. -/
def State.safetyInputs (s : State) (levels : List Bool) : State :=
  let s1 := ((List.range 6).foldl (fun (a : State) i => a.safSample i (nth false levels i)) s).estopPair
  let d0 := s.get F.SAF_STAT_DEMAND
  let d1 := if s1.safSt = 0 then s1.demandBits &&& (d0 ||| s.fellBits s1) else s1.demandBits
  let s2 := s1.set F.SAF_STAT_DEMAND (d0 &&& d1)
  let new := [0, 1, 2].filter (fun k => d1.testBit k && !d0.testBit k)
  let s3 := new.foldl State.newDemand s2
  let s4 := { s3 with saf := { s3.saf with healthyAt := if s3.safHealthy then some (s3.saf.healthyAt.getD s3.now) else none } }
  s4.twoHandRelease s4.twoHand

def execSafetyInputSample (t : Nat) (levels : List Bool) (s : State) : Host.Outcome State Fault Refusal :=
  .next (s.commandIf t State.ganderRuns (fun s => s.safetyInputs levels))

/-! ## Category 1 backstops (R221) -/

/-- CAT1_GATE_BACKSTOP: 50 ms into a category 1 stop the gates go off whatever the ramp has done (R221). (DEDUCED: log entry 51) -/
def execCat1GateBackstop (t : Nat) (s : State) : Host.Outcome State Fault Refusal :=
  .next (s.commandIf t (fun s => s.ganderRuns && s.saf.cat1At.any (fun a => decide (a + 50 * msec ≤ s.now)))
    (fun s =>
      let s1 := s.ganderTrip.setB F.SAF_STAT_RAMP false
      let s2 := if s.flag F.SAF_STAT_RAMP && s1.prt.seq.isNone && s1.get F.PRT_CONTSTAT_CONN == 4 then s1.openStart none else s1
      (if s2.safSt = 2 then s2.set F.SAF_STAT_STATE 3 else s2).poll))

def execCat1CoilBackstop (t : Nat) (s : State) : Host.Outcome State Fault Refusal :=
  .next (s.commandIf t (fun s => s.ganderRuns && s.saf.cat1At.any (fun a => decide (a + 100 * msec ≤ s.now)))
    (fun s =>
      let s1 := { s with saf := { s.saf with cat1At := none } }
      if s1.get F.PRT_CONTSTAT_COIL = 0 then s1 else s1.coilsTrip))

/-! ## Discrepancy and restart (R218, R223) -/

def execEstopDiscrepancyTimeout (t : Nat) (s : State) : Host.Outcome State Fault Refusal :=
  .next (s.commandIf t (fun s => s.ganderRuns && s.saf.discAt.any (fun a => decide (a + 100 * msec < s.now)))
    (fun s => { s with saf := { s.saf with discOff := false, discOk := false } }.safFault 0))

/-- SAFETY_HEALTHY_TIMER: after 500 ms of healthy inputs STATE leaves DEMAND (R223). -/
def execSafetyHealthyTimer (t : Nat) (s : State) : Host.Outcome State Fault Refusal :=
  .next (s.commandIf t (fun s => s.ganderRuns && s.safSt == 3 && s.saf.healthyAt.any (fun a => decide (a + 500 * msec ≤ s.now)))
    (fun s => s.set F.SAF_STAT_STATE (if s.flag F.SAF_STAT_LATCHED then 4 else 1)))

/-- Every fault bit that stands has its clearing condition of Table 10.5. -/
def State.faultsClearable (s : State) : Bool :=
  !(s.flag F.SAF_FAULT_SWPAT || s.flag F.SAF_FAULT_SWCHG || s.flag F.SAF_FAULT_SWINV || s.flag F.SAF_FAULT_COILTEST
      || s.flag F.SAF_FAULT_COILSUP || s.flag F.SAF_FAULT_GSELF)
    && (!s.flag F.SAF_FAULT_DISCREP || s.saf.discOk) && (!s.flag F.SAF_FAULT_INSTUCK || s.saf.pass.all (fun n => decide (3 ≤ n)))

/-- SAFE_RESET may be accepted (R223). -/
def State.safeResettable (s : State) : Bool :=
  (s.safSt == 4 || (s.safSt == 5 && s.faultsClearable)) && s.saf.healthyAt.any (fun a => decide (a + 500 * msec ≤ s.now))

def execSafeReset (t : Nat) (r : Req) (s : State) : Host.Outcome State Fault Refusal :=
  .next (s.hostCommand t 0x0E02 r (Fmt.fixed 0 []) (fun _ s =>
    if !s.safeResettable then (s, .refused 0)
    else
      (((((s.setB F.SAF_STAT_LATCHED false).setB F.SAF_STAT_FLTLATCH false).set { F.SAF_FAULT_DISCREP with w := 9 } 0).set
        F.SAF_FAULT_FIRST 0).set F.SAF_STAT_STATE 1, .ok [])))

/-! ## Panel close (R225) -/

/-- PANEL_CLOSE_HOLD; `supply`: the coil supply test of step 1 passes (R230). -/
def execPanelCloseHold (t : Nat) (supply : Bool) (s : State) : Host.Outcome State Fault Refusal :=
  .next (s.commandIf t (fun s => s.ganderRuns && s.safSt == 1 && !s.saf.thDone && s.saf.thAt.any (fun a => decide (a + sec ≤ s.now))
      && s.get F.PRT_CONTSTAT_CONN == 0 && s.prt.seq.isNone)
    (fun s =>
      let s1 := { s with saf := { s.saf with thDone := true } }
      if s1.connBlk = 0 then
        (s1.raise 66 []).closeStart none supply
      else s1.raise 67 []))

/-! ## Sealed switches (R226 to R228) -/

/-- SWITCH_READ_CYCLE: the switch inputs at the end of the three phases. -/
def State.switchCycle (s : State) (p1 p2 p3 : Nat) : State :=
  match switchByte p1 p2 p3 with
  | none =>
    let n := s.saf.swBad + 1
    let s1 := { s with saf := { s.saf with swBad := n, swSame := 0, swLast := none } }
    if n = 2 then s1.safFault 2 else s1
  | some b =>
    let n := if s.saf.swLast = some b then min 3 (s.saf.swSame + 1) else 1
    let s1 := { s with saf := { s.saf with swBad := 0, swSame := n, swLast := some b } }.set F.SAF_IN_SW b
    match s1.saf.swByte with
    | none => if n = 3 then s1.switchStore b else s1
    | some x => if x ≠ b then (if s1.flag F.SAF_FAULT_SWCHG then s1 else s1.safFault 3)
                else if s1.flag F.SAF_CFG_VALID then s1 else s1.switchUse b

def execSwitchReadCycle (t : Nat) (p1 p2 p3 : Nat) (s : State) : Host.Outcome State Fault Refusal :=
  .next (s.commandIf t State.ganderRuns (fun s => s.switchCycle p1 p2 p3))

/-! ## Output and input tests (R229 to R233) -/

/-- COIL_OFF_PULSE_TEST of coil `k`, past its pull time; `ok`: the output fell below 2 V in time. -/
def execCoilOffPulseTest (t k : Nat) (ok : Bool) (s : State) : Host.Outcome State Fault Refusal :=
  .next (s.commandIf t (fun s => s.ganderRuns && decide (k < 3) && s.coil k && nth false s.prt.hold k)
    (fun s => if ok then s else (s.safFault 5).supplyOpen))

/-- CONV_EN_READBACK after a change of CONV_EN; `ok`: the pad and, on a rise, the gates read back as commanded. -/
def execConvEnReadback (t : Nat) (ok : Bool) (s : State) : Host.Outcome State Fault Refusal :=
  .next (s.commandIf t State.ganderRuns
    (fun s =>
      if ok then s
      else if s.convLevel then { s.safFault 7 with ctl := { (s.safFault 7).ctl with convEn := false } }
      else (s.safFault 7).supplyOpen))

/-- INPUT_STAGE_TEST of input `i`; `ok`: the forced input read back low. -/
def execInputStageTest (t i : Nat) (ok : Bool) (s : State) : Host.Outcome State Fault Refusal :=
  .next (s.commandIf t (fun s => s.ganderRuns && decide (i < 6))
    (fun s =>
      let s1 := { s with saf := { s.saf with pass := modNth s.saf.pass i (fun n => if ok then min 3 (n + 1) else 0) } }
      if ok then s1 else s1.safFault 1))

/-- GANDER_SELF_TEST; a failure sets GSELF and the module enters HALT. -/
def execGanderSelfTest (t : Nat) (ok : Bool) (s : State) : Host.Outcome State Fault Refusal :=
  .next (s.commandIf t State.ganderRuns (fun s => if ok then s else (s.safFault 8).haltEntry 2))

/-- GANDER_START_COMPLETE (R233): results of the ROM and RAM tests, the coil supply test and the input stage tests; STATE leaves
START for FAULT, DEMAND, RESTART_PENDING or NORMAL. (DEDUCED: log entry 51) -/
def State.ganderStart (s : State) (rom supply : Bool) (stage : List Bool) : State :=
  let s1 := if rom then s else (s.safFault 8).haltEntry 2
  let s2 := if supply then s1.setB F.SAF_STAT_COILSW true else (s1.safFault 6).supplyOpen
  let s3 := if stage.all id then s2 else s2.safFault 1
  let s4 := { s3 with saf := { s3.saf with start := false, pass := (List.range 6).map (fun i => b2n (nth false stage i)) } }
  let d := s4.demandBits
  let s5 := if d = 0 then s4.set F.SAF_STAT_DEMAND d else (s4.set F.SAF_STAT_DEMAND d).latchRestart
  if s5.flag F.SAF_FAULT_SWCHG then s5.stop0 6
  else if s5.flag F.SAF_STAT_FLTLATCH then s5.stop0 5
  else if d ≠ 0 then s5.stop0 3
  else s5.set F.SAF_STAT_STATE (if s5.flag F.SAF_STAT_LATCHED then 4 else 1)

def execGanderStartComplete (t : Nat) (rom supply : Bool) (stage : List Bool) (s : State) : Host.Outcome State Fault Refusal :=
  .next (s.commandIf t (fun s => s.ganderRuns && s.saf.start) (fun s => s.ganderStart rom supply stage))

end Sys2Proof.Machine
end

