-- ==== Sys2Proof/Machine/Status.lean ====
section
/-! DEFINITION. The status opcodes: GET_STATUS, GET_CELLS, GET_STRING, GET_LIMITS, GET_HEALTH and SAFE_STATUS (Tables 14.4 to 14.8, 14.15,
R122, R253). -/

namespace Sys2Proof.Machine

/-- CFGREP: a window W that is no multiple of 4 (R72), staged items, and the provisioning bit. -/
def State.cfgReport (s : State) : Nat :=
  b2n (decide (s.get F.ACQ_CFG_WIN % 4 ≠ 0))
    + 2 * b2n (!(s.cfg.staged.isEmpty && s.cfg.keys.isEmpty && s.cfg.tables.isEmpty && s.cfg.coefs.isEmpty && s.cfg.bayMap.isNone))
    + 4 * s.get F.GLB_SESS_PROV

/-- Table 14.5. In RECOVERY the fields from offset 8 on read 0. -/
def State.statusBytes (s : State) : List Byte :=
  let slot := s.get F.RST_BOOT_SLOT
  let head := leBytes 1 (s.get F.RST_STAT_MSTATE) ++ leBytes 1 (if slot < 2 then slot else 0xFF)
    ++ leBytes 2 ((s.view 8).toNat % 65536) ++ leBytes 4 Config.serial.toNat
  if s.rst.mode = .recovery then head ++ List.replicate 40 0
  else
    head ++ s.rd 0x110010 ++ s.rd 0x110014 ++ s.rd 0x10000 ++ s.rd 0x80030 ++ s.rd 0x8002C ++ s.rd 0xA0000 ++ s.rd 0x30004 ++ s.rd 0x70004
      ++ s.rd 0xC0000 ++ leBytes 4 s.cfgReport

def execGetStatus (t : Nat) (r : Req) (s : State) : Host.Outcome State Fault Refusal :=
  .next (s.hostCommand t 0x0201 r (Fmt.fixed 0 []) (fun _ s => (s, .ok s.statusBytes)))

/-- CAP ÷ CAPNOM in 0.01 % (R157); 0 without a profile. -/
def State.capSoh (s : State) (c : Cell) : Nat :=
  let n := s.capnom * 360
  if n = 0 then 0 else (clip 0 65535 (divRha (c.cap * 10000 : Nat) n)).toNat

/-- Table 14.6: the record of a cell group; a group that is not configured is ABSENT and everything else of it reads 0. (DEDUCED: log entry 67) -/
def State.cellRecord (s : State) (g : Nat) : List Byte :=
  if !s.groupOk g then List.replicate 17 0 ++ leBytes 1 4 ++ [0, 0]
  else
    let c := s.cell g
    leBytes 4 (s.cellV g % 1048576) ++ leBytesI 2 (clipS 16 (s.tGroup g)) ++ leBytes 2 (if c.init then pct c.soc else 0)
      ++ leBytes 2 (if c.init then pct (s.usable c) else 0) ++ leBytes 2 (if c.init then min 65535 (pctUp c.unc) else 0)
      ++ leBytes 2 (s.capSoh c) ++ leBytes 2 c.rgrow ++ leBytes 1 c.qual
      ++ leBytes 1 (b2n (s.wireSuspect g) + 2 * b2n (c.confE || c.confF) + 8 * b2n (s.stale (groupPos g)) + 16 * b2n (s.tSub g)
          + 32 * b2n c.learned)
      ++ [0, 0]

def execGetCells (t : Nat) (r : Req) (s : State) : Host.Outcome State Fault Refusal :=
  .next (s.hostCommand t 0x0202 r (Fmt.fixed 4 []) (fun _ s =>
    let first := uAt r.payload 0 2
    let n := uAt r.payload 2 2
    if first < 1 ∨ 640 < first then (s, .err stBadParam 0 0)
    else if n < 1 ∨ 64 < n ∨ 640 < first + n - 1 then (s, .err stBadParam 0 2)
    else (s, .ok ((List.range n).flatMap (fun i => s.cellRecord (first + i))))))

def execGetString (t : Nat) (r : Req) (s : State) : Host.Outcome State Fault Refusal :=
  .next (s.hostCommand t 0x0203 r (Fmt.fixed 0 []) (fun _ s => (s, .ok s.stringBytes)))

/-- The GET_LIMITS reply of Table 14.4. (DEDUCED: log entry 67) -/
def State.limitBytes (s : State) : List Byte :=
  leBytes 4 (s.get F.PRT_LDIS) ++ leBytes 4 (s.get F.PRT_LCHG) ++ leBytes 1 (s.get F.PRT_LIMIT_BIND_DIS) ++ leBytes 1 (s.get F.PRT_LIMIT_BIND_CHG)
    ++ leBytes 1 (s.get F.PRT_LIMIT_BLK_CHG + 2 * s.get F.PRT_LIMIT_BLK_DIS) ++ [0]
    ++ (List.range 10).flatMap (fun i => leBytes 4 (s.get (F.PRT_ENT_DIS.ix8 i)) ++ leBytes 4 (s.get (F.PRT_ENT_CHG.ix8 i)))

def execGetLimits (t : Nat) (r : Req) (s : State) : Host.Outcome State Fault Refusal :=
  .next (s.hostCommand t 0x0204 r (Fmt.fixed 0 []) (fun _ s => (s, .ok s.limitBytes)))

/-- Table 14.8. The erase counts come from the wear table (R384). -/
def State.healthBytes (s : State) : List Byte :=
  (List.range 5).flatMap (fun n => leBytes 4 (s.hoursWord n)) ++ (List.range 5).flatMap (fun n => leBytes 4 (s.bistWord n))
    ++ s.rd 0x100000 ++ FlashRegion.all.flatMap (fun r => leBytes 4 (satU32 (s.flash.highest r)))
    ++ leBytes 2 (FlashRegion.spare.blocks - s.flash.retBlocks) ++ [0, 0] ++ leBytes 4 (satU32 s.flash.swaps) ++ s.rd 0x50008 ++ leBytes 1 (s.get F.RING_BREAK_BRKCNT)
    ++ [0] ++ leBytes 2 (s.get F.TIM_ETH_LOSS) ++ leBytes 2 (s.get (F.TIM_ETH_LOSS.ix 1)) ++ [0, 0]

def execGetHealth (t : Nat) (r : Req) (s : State) : Host.Outcome State Fault Refusal :=
  .next (s.hostCommand t 0x0205 r (Fmt.fixed 0 []) (fun _ s => (s, .ok s.healthBytes)))

/-- SAF_STAT, SAF_IN, SAF_CFG, SAF_HASH, SAF_FAULT and SAF_CNT. -/
def execSafeStatus (t : Nat) (r : Req) (s : State) : Host.Outcome State Fault Refusal :=
  .next (s.hostCommand t 0x0E01 r (Fmt.fixed 0 []) (fun _ s =>
    (s, .ok ([0xA0000, 0xA0004, 0xA0008, 0xA000C, 0xA0010, 0xA0014].flatMap s.rd))))

end Sys2Proof.Machine
end

