-- ==== Sys2Proof/Machine/Thm.lean ====
section
/-! DEFINITION. Thermal supervision: the die sensor with its cross-check, compensation, the thermistor cross-check, the valve and
the chiller request (R201 to R213). -/

namespace Sys2Proof.Machine

/-- The die sensor and gander's thermal functions run: every state but OFF, reset and RECOVERY. -/
def State.dieRuns (s : State) : Bool := s.started || s.rst.mode == .starting

/-- A value valid under R201. -/
def dieValid (t : Int) : Bool := decide (-5500 ≤ t) && decide (t ≤ 16000)

/-- Thermal shutdown latches (R208). (DEDUCED: log entry 50) -/
def State.thermShutdown (s : State) : State :=
  if s.flag F.THM_STAT_TSD then s
  else ((((s.setB F.THM_STAT_TSD true).raise 58 []).ganderTrip).coilsTrip).haltEntry 1

/-- DIE_SENSOR_SAMPLE (R201, R202, R204, R207, R208). -/
def State.dieSample (s : State) (temp : Int) : State :=
  let t := clipS 16 temp
  let old := s.thm.samples.find? (fun x => decide (x.1 + 100 * msec ≤ s.now))
  let stepped := match old with
    | some x => decide ((s.get F.THM_DIECFG_RATE * 10 : Nat) < (t - x.2).natAbs)
    | none => false
  let keep := (s.now, t) :: s.thm.samples.filter (fun x => decide (s.now < x.1 + 200 * msec))
  let s1 := { s with thm := { s.thm with samples := keep, stepAt := if stepped then some s.now else s.thm.stepAt } }
  let s2 : State := (s1.setI F.THM_DIE_TEMP t).throttle
  let n : Nat := if decide ((12500 : Int) ≤ s2.getI F.THM_DIE_TUSE) then s2.thm.hotRun + 1 else 0
  let s3 := { s2 with thm := { s2.thm with hotRun := min 8 n } }
  if 8 ≤ n then s3.thermShutdown else s3

def execDieSensorSample (t : Nat) (temp : Int) (s : State) : Host.Outcome State Fault Refusal :=
  .next (s.commandIf t State.dieRuns (fun s => s.dieSample temp))

/-- The age of the last neighbour set in 100 ms (Table 9.7). -/
def State.medAge (s : State) : State :=
  s.set F.THM_MED_AGE (match s.thm.neighAt.filter (fun _ => s.neighOwn) with
    | none => 0xFF
    | some a => min 0xFE (s.since a / (100 * msec)))

/-- The deviation test against a median, where there is one (R204). -/
def State.devTest (s : State) (med : Option Int) : State :=
  if !dieValid (s.getI F.THM_DIE_TEMP) then s
  else match med with
    | some m =>
      if (s.get F.THM_DIECFG_DEV * 100 : Nat) < (s.getI F.THM_DIE_TEMP - m).natAbs then
        if s.thm.stepAt.any (fun a => decide (s.now ≤ a + 60 * sec)) then s.dieBroken
        else (s.setB F.THM_STAT_DEVIANT true).raise 56 []
      else s.setB F.THM_STAT_DEVIANT false
    | none => s.setB F.THM_STAT_DEVIANT false

/-- The evaluation of R203 and R204 with new neighbour data. -/
def State.medEval (s : State) : State :=
  let v := s.thm.neigh.filterMap (fun x => if s.now < x.2.2 + sec then some x.2.1 else none)
  let s1 := { s with thm := { s.thm with neighNew := false } }.set F.THM_MED_COUNT (min 11 v.length)
  if v.length < 2 then s1.devTest none
  else
    let m := (median v).getD 0
    ({ s1 with thm := { s1.thm with medOld := false } }.setI F.THM_MED_MED m).devTest (some m)

/-- DIE_CROSS_CHECK (R203, R204); in PARK only the test for an invalid value runs. -/
def State.dieCheck (s : State) : State :=
  let s1 := if dieValid (s.getI F.THM_DIE_TEMP) then s else s.dieBroken
  let s2 := if s1.inService && s1.crossChecks && s1.neighOwn && s1.thm.neighNew then s1.medEval else s1
  s2.medAge.throttle

def execDieCrossCheck (t : Nat) (s : State) : Host.Outcome State Fault Refusal :=
  .next (s.commandIf t State.dieRuns State.dieCheck)

/-- NEIGHBOUR_TIMEOUT (R203): no allocation applied, or no neighbour value after the first, for 10 s. -/
def State.neighbourLost (s : State) : Bool :=
  decide (s.bay.applied.getD s.bay.startAt + 10 * sec ≤ s.now) || (s.neighOwn && s.thm.neighAt.any (fun a => decide (a + 10 * sec ≤ s.now)))

def execNeighbourTimeout (t : Nat) (s : State) : Host.Outcome State Fault Refusal :=
  .next (s.commandIf t (fun s => s.inService && s.crossChecks && s.neighbourLost)
    (fun s => { s.setB F.THM_STAT_NONEIGH true with thm := { s.thm with medOld := true } }.throttle))

/-- COMPENSATION_UPDATE (R205): T_c and the corrections that follow from it. -/
def State.compensate (s : State) : State :=
  let c := s.cal
  let tc := if !s.flag F.THM_STAT_DBROKEN then s.getI F.THM_DIE_TEMP else if s.medOk then s.getI F.THM_MED_MED else s.thm.tc
  let d := tc - iAt c 6 2
  let a := tc - iAt c 80 2
  -- 0.001 ppm from 0.1 ppm/K and 0.001 ppm/K² with a difference in 0.01 K
  let poly := fun (k1 k2 x : Int) => k1 * x + divRha (k2 * x * x) 10000
  let th := { s.thm with tc := tc, safeTrim := -(divRha (poly (iAt c 74 2) (iAt c 76 2) d) 500000), aoPpb := -(poly 0 s.aoTc2 a),
                         refPpb := -(poly (iAt c 82 2) (iAt c 84 2) d) }
  { s with thm := th }.feedForward

def execCompensationUpdate (t : Nat) (s : State) : Host.Outcome State Fault Refusal :=
  .next (s.commandIf t State.dieRuns State.compensate)

/-- A valid TINT of a cell group mapped to a channel that lies within TDEV of `est` and more than TDEV from `v` (R209). -/
def State.tintEvidence (s : State) (p t : Nat) (est v : Int) : Bool :=
  let td := s.get F.THM_CX_TDEV * 100
  ((List.range (s.cells p)).map (fun c => 16 * (p - 1) + c + 1)).any (fun g =>
    let x := s.getI (F.EST_TINT_TINT.ix (g - 1))
    s.chanOf g == t && s.flag (F.EST_TINT_VALID.ix (g - 1)) && decide (s.get (F.EST_TINT_AGE.ix (g - 1)) ≤ 24)
      && decide ((x - est).natAbs ≤ td) && decide (td < (x - v).natAbs))

/-- The check of one thermistor channel (R209). -/
def State.thermCheck (s : State) (p t : Nat) : State :=
  match s.tile? p, s.therm p t with
  | none, _ => s
  | some _, none => let a := s.unwell p t; if a.brk p t then a else a.markBroken p t
  | some _, some v =>
    let k := 8 * (p - 1) + t
    let old := (assoc? k s.thm.chans).getD {}
    let est := s.thermEst p t
    let dev := s.get F.THM_CX_DEV * 100
    let off := match est with
      | some e => decide (dev < (v - e).natAbs)
      | none => false
    let near := match est with
      | some e => decide (2 * (v - e).natAbs ≤ dev)
      | none => false
    let ch : ThmCh := { devAt := if off then some (old.devAt.getD s.now) else none,
                        okAt := if near then some (old.okAt.getD s.now) else none }
    let s1 := { s with thm := { s.thm with chans := if ch.devAt.isNone && ch.okAt.isNone then assocDel k s.thm.chans else assocPut k ch s.thm.chans } }
    let held := match ch.devAt with
      | some a => decide (a + s.get F.THM_CX_PERSIST * sec ≤ s.now)
      | none => false
    let well := match ch.okAt with
      | some a => decide (a + 600 * sec ≤ s.now)
      | none => false
    if held then
      (if s.brk p t then s1 else if s1.tintEvidence p t (est.getD 0) v then s1.markBroken p t else s1.markHot p t)
    else if well then
      let b := F.THM_TBRK_BRK.ix (p - 1)
      let h := F.THM_TBRK_HOT.ix (p - 1)
      (s1.set b (setBit (s1.get b) t false)).set h (setBit (s1.get h) t false)
    else s1

def execThermistorCrossCheck (t : Nat) (s : State) : Host.Outcome State Fault Refusal :=
  .next (s.commandIf t State.inService (fun s => s.channels.foldl (fun a c => a.thermCheck c.1 c.2) s))

/-- VALVE_UPDATE (R212), in 1/60,000 %. (DEDUCED: log entry 50) -/
def State.valve (s : State) : State :=
  let full : Int := 6000000
  let e := s.getI F.THM_CEXT_TMAX - s.degC F.THM_COOL_TSET
  let p := (s.get F.THM_COOL_KP : Int) * e * 600
  let hold := (s.thm.valveD = full && 0 < e) || (s.thm.valveD = 0 && e < 0)
  let i := if hold then s.thm.valveI else clip 0 full (s.thm.valveI + (s.get F.THM_COOL_KI : Int) * e)
  let d := clip 0 full (p + i)
  let (i2, d2) : Int × Int := if s.flag F.THM_COOL_MANUAL then (s.thm.valveI, (s.get F.THM_VALVE_MDUTY * 6000 : Nat))
                  else if s.flag F.THM_STAT_NOCELLT then (s.thm.valveI, full) else (i, d)
  let s1 := s.set F.THM_VALVE_DUTY (d2 / 6000).toNat
  let s2 := { s1 with thm := { s1.thm with valveI := i2, valveD := d2,
                                           duty95At := if 5700000 ≤ d2 then some (s.thm.duty95At.getD s.now) else none } }
  s2.chillerReq

def execValveUpdate (t : Nat) (s : State) : Host.Outcome State Fault Refusal := .next (s.commandIf t State.inService State.valve)

/-- CHILLER_REQUEST_SEND (R213). -/
def execChillerRequestSend (t : Nat) (s : State) : Host.Outcome State Fault Refusal :=
  .next (s.commandIf t (fun s => s.inService && s.flag F.THM_CHIL_EN) State.chillerFrame)

end Sys2Proof.Machine
end

