-- ==== Sys2Proof/Machine/Upd.lean ====
section
/-! DEFINITION. Firmware update: the opcodes UPD_BEGIN, UPD_DATA, UPD_APPLY, UPD_CONFIRM and UPD_ABORT, the end of the apply job and
the expiry of a trial (R397 to R408). -/

namespace Sys2Proof.Machine

/-- The reasons of Table 20.4. (DEDUCED: log entry 66) -/
def State.updReason (s : State) : Option Nat :=
  firstReason [(s.get F.PRT_CONTSTAT_FB != 0, 0x0002), (decide (1000 < (s.getI F.CVI_I).natAbs), 0x0004),
    (decide (s.get F.RST_VAUX_VAUX < 10000), 0x0005), (s.host.owner.isSome, 0x0006), (s.safSt != 1, 0x0007),
    (s.flag F.BAY_POS_DISP && decide (2 ≤ s.get F.BAY_STAT_NMAP), 0x0008)]

/-- STREAM, RESULT, KIND and BASECRC against R398 and Table 20.4: the offset of the first field at fault. (DEDUCED: log entry 66) -/
def State.updParam (s : State) (p : List Byte) : Option Nat :=
  let kind := uAt p 0 1
  let stream := uAt p 4 4
  let result := uAt p 8 4
  let crc := if kind = 0 then 0 else crc32c (s.imgSlot (s.get F.RST_BOOT_SLOT)).image
  if 1 < kind || (kind = 1 && s.rst.mode = .recovery) then some 0
  else if (kind = 0 && stream ≠ 32 + result) || (kind = 1 && (stream < 32 || 32 + 1048576 < stream)) then some 4
  else if result < 4096 || FlashRegion.slotA.size < result || result % 4 ≠ 0 then some 8
  else if uAt p 12 4 ≠ crc then some 12
  else none

/-- The update opens: its target slot no longer holds an image. -/
def State.updOpen (s : State) (n : Nat) (p : List Byte) : State :=
  let k := s.updTarget
  let s1 : State := { s with upd := { s.upd with open_ := some (uAt p 0 1, uAt p 4 4, uAt p 8 4, uAt p 12 4, 0), data := [], job := none, fault := false } }
  let s2 := s1.slotMod k (fun x => { x with st := 4, image := [], shipped := false, expired := false, confOp := none })
  ((((s2.set F.UPD_STATE_PHASE 1).set F.UPD_STATE_KIND (uAt p 0 1)).set F.UPD_STATE_TARGET k).set F.UPD_STATE_SESSION n).set F.UPD_RECV_BYTES 0

def execUpdBegin (t : Nat) (r : Req) (s : State) : Host.Outcome State Fault Refusal :=
  .next (s.hostCommand t 0x0901 r (Fmt.fixed 16 [1, 2, 3]) (fun id s =>
    match s.updReason with
    | some c => (s, .refused c)
    | none =>
      if [1, 2, 4].contains (s.get F.UPD_STATE_PHASE) then (s, .no stBusy 0x000F)
      else match s.updParam r.payload with
        | some o => (s, .err stBadParam 0 o)
        | none => (s.updOpen id.session r.payload, .ok [])))

/-- The stream header against UPD_BEGIN (R401). -/
def streamHeaderOk (d : List Byte) (kind result crc : Nat) : Bool :=
  uAt d 0 2 == 0x5553 && uAt d 2 1 == 1 && uAt d 3 1 == kind && uAt d 4 4 == result && uAt d 8 4 == crc && (slice d 16 16).all (· == 0)

/-- The region of the target slot. -/
def State.slotRegion (s : State) : FlashRegion := if s.get F.UPD_STATE_TARGET = 1 then .slotB else .slotA

/-- The blocks of the target slot that bytes `a` … `b − 1` of the image are the first to be written into are erased (R401, R402). -/
def State.slotErased (s : State) (a b : Nat) : State :=
  let k := fun (x : Nat) => (x + flashBlock - 1) / flashBlock
  s.eraseBlocks (s.slotRegion.block + k a) (k b - k a)

def execUpdData (t : Nat) (r : Req) (s : State) : Host.Outcome State Fault Refusal :=
  .next (s.hostCommand t 0x0902 r { len := fun p => decide (5 ≤ p.length) && decide (p.length ≤ 1400) } (fun id s =>
    match s.upd.open_ with
    | some (kind, stream, result, crc, _) =>
      if id.session ≠ s.get F.UPD_STATE_SESSION then (s, .no stBusy 0)
      else if s.get F.UPD_STATE_PHASE ≠ 1 then (s, .refused 0x0001)
      else if kind = 0 && queueDepth 46 ≤ s.fill 46 then (s, .no stBusy 0)
      else if s.upd.fault then (s.updDiscard, .no stTileFault 0)
      else if uAt r.payload 0 4 ≠ s.upd.data.length || stream < s.upd.data.length + (r.payload.length - 4) then (s, .err stBadParam 0 0)
      else
        let d := s.upd.data ++ r.payload.drop 4
        if s.upd.data.length < 32 && 32 ≤ d.length && !streamHeaderOk d kind result crc then (s.updDiscard, .err stBadParam 0 4)
        else
          let s1 : State := { s with upd := { s.upd with data := d, open_ := some (kind, stream, result, crc, uAt d 12 4) } }
          let s2 := if kind = 0 then
              let a := s1.slotErased (s.upd.data.length - 32) (d.length - 32)
              { a with upd := { a.upd with q46 := a.upd.q46 + 1 } }
            else s1
          (s2.set F.UPD_RECV_BYTES d.length, .ok [])
    | none => (s, .refused 0x0001)))

def execUpdApply (t : Nat) (r : Req) (s : State) : Host.Outcome State Fault Refusal :=
  .next (s.hostCommand t 0x0903 r (Fmt.fixed 0 []) (fun id s =>
    match s.upd.open_ with
    | some (_, stream, result, _, _) =>
      if s.get F.UPD_STATE_PHASE ≠ 1 || s.upd.data.length ≠ stream then (s, .refused 0x0001)
      else if s.upd.fault then (s.updDiscard, .no stTileFault 0)
      else match s.updReason with
        | some c => (s, .refused c)
        | none =>
          if !s.jobRoom then (s, .no stBusy 0)
          else
            let (s1, j) := s.jobStart 0x0903 id.session 1 result
            let s2 : State := { s1 with upd := { s1.upd with job := some j } }
            (s2.set F.UPD_STATE_PHASE 2, .job j)
    | none => (s, .refused 0x0001)))

/-- The apply job stops without a result: the target slot stays INVALID. -/
def State.updStop (s : State) (st : JobSt) (final : Nat) : State :=
  let j := s.upd.job
  let s1 := (s.updDiscard).setB F.UPD_STATE_FAIL_SEEN true
  match j with
  | some i => s1.jobEnd i st final []
  | none => s1

/-- The step of R402 that fails, or the image. (DEDUCED: log entry 66) -/
def State.updCheck (s : State) (kind result crc : Nat) (flashOk : Bool) : Nat ⊕ List Byte :=
  match s.updResult kind result with
  | none => .inl 1
  | some b =>
    if !flashOk then .inl 2
    else if crc32c b ≠ crc then .inl 3
    else if !imageHeaderOk b then .inl 4
    else if !imageSigned b then .inl 5
    else .inr b

/-- The option bytes of step 7: BOOTSLOT, and OPTVAL where OPTMASK has its bit; DEBUGLOCK takes a locked value only (R406). -/
def optFields (b : List Byte) (target : Nat) : List (Nat × Byte) :=
  (3, BitVec.ofNat 8 target) :: ((List.range 5).filter (fun i => (uAt b 12 1).testBit i && !(i == 1 && nth 0 b 14 == 0))).map
    (fun i => (4 + i, nth 0 b (13 + i)))

/-- Step 6: the slot record, TRIAL or VALID by FALLBACK, its generation one above the other slot's; it stands in the configuration region. -/
def State.slotRecord (s : State) (k : Nat) (b : List Byte) : State :=
  let st := if s.get F.RST_OPT_FALLBACK = 1 then 1 else 2
  let s1 := s.slotMod k (fun _ => { st := st, version := uAt b 8 2, image := b, gen := (s.imgSlot (1 - k)).gen + 1 })
  { s1 with flash := s1.flash.cfgWritten }

/-- Steps 7 and 8: option bytes, PHASE APPLIED and the end of the job; in RECOVERY the boot-attempt counter clears (R405). -/
def State.updFinish (s : State) (k : Nat) (b : List Byte) : State :=
  let s2 := s.optWrite (optFields b k)
  let s3 : State := { s2 with upd := { s2.upd with open_ := none, data := [], job := none } }
  let s4 := (s3.set F.UPD_STATE_PHASE 3).setB F.UPD_STATE_DONE_SEEN true
  let s5 := if s4.rst.mode = .recovery then s4.set F.RST_BOOT_ATTEMPTS 0 else s4
  match s.upd.job with
  | some i => s5.jobEnd i .done stOk []
  | none => s5

/-- Power lost during the job (R370, R406, R408): after step 6 the record stands, in step 7 the option bytes are left invalid. -/
def State.updCut (s : State) (k : Nat) (b : List Byte) (step : Nat) : State :=
  (if step < 6 then s else if step = 6 then s.slotRecord k b else (s.slotRecord k b).optLost).vauxLost

/-- The job fails at step `n`; from step 3 on every byte of the result stands written. -/
def State.updFail (s : State) (n result : Nat) : State :=
  let s1 := match s.upd.job with
    | some i => if 3 ≤ n then s.jobProgress i result result else s
    | none => s
  (s1.set F.UPD_STATE_FAILSTEP n).updStop .failed stBadParam

/-- UPD_APPLY_DONE: the end of the job, with what the writes to flash came to (R402, R384). -/
def State.updDone (s : State) (w : FlashDone) : State :=
  match s.upd.open_ with
  | none => s
  | some (kind, _, result, _, crc) =>
    let s := if kind = 1 && (s.updResult kind result).isSome then s.slotErased 0 result else s
    match s.updCheck kind result crc w.ok, w.cut with
    | .inl _, some _ => s.vauxLost
    | .inl n, none => s.updFail n result
    | .inr b, some c => s.updCut (s.get F.UPD_STATE_TARGET) b c
    | .inr b, none => (s.slotRecord (s.get F.UPD_STATE_TARGET) b).updFinish (s.get F.UPD_STATE_TARGET) b

def execUpdApplyDone (t : Nat) (w : FlashDone) (s : State) : Host.Outcome State Fault Refusal :=
  .next (s.commandIf t (fun s => (s.inService || s.rst.mode == .recovery) && s.get F.UPD_STATE_PHASE == 2)
    (fun s => (((s.blocksFail s.slotRegion w.bad).blocksFail .config w.bad).blocksFail .opt w.bad).updDone w))

def execUpdAbort (t : Nat) (r : Req) (s : State) : Host.Outcome State Fault Refusal :=
  .next (s.hostCommand t 0x0905 r (Fmt.fixed 0 []) (fun _ s =>
    if s.get F.UPD_STATE_PHASE = 2 then (s.updStop .cancelled stRefused, .ok []) else (s.updDiscard, .ok [])))

/-- The trial expires: final (R403). -/
def State.trialExpire (s : State) : State :=
  let s1 := (s.set F.UPD_STATE_PHASE 5).setB F.UPD_STATE_EXPIRE_SEEN true
  (s1.slotMod (s1.get F.RST_BOOT_SLOT) (fun x => { x with expired := true })).raise 118 []

def execUpdTrialExpire (t : Nat) (s : State) : Host.Outcome State Fault Refusal :=
  .next (s.commandIf t (fun s => s.started && s.get F.UPD_STATE_PHASE == 4 && s.trialLeft == 0) State.trialExpire)

def execUpdConfirm (t : Nat) (r : Req) (s : State) : Host.Outcome State Fault Refusal :=
  .next (s.hostCommand t 0x0904 r (Fmt.fixed 0 []) (fun _ s =>
    if s.get F.UPD_STATE_PHASE ≠ 4 || s.trialLeft = 0 then (s, .refused 0x000D)
    else
      let s1 : State := { s with upd := { s.upd with trialOp := none } }
      let s2 := s1.slotMod (s1.get F.RST_BOOT_SLOT) (fun x => { x with st := 1 })
      ((s2.set F.UPD_STATE_PHASE 0).raise 120 [], .ok [])))

end Sys2Proof.Machine
end

