-- ==== Sys2Proof/Machine/Dispatch.lean ====
section
/-! DEFINITION. The dispatch of the commands to their meanings, one arm for each row of the table. -/

namespace Sys2Proof.Machine

def exec (i : Instr) (s : State) : Host.Outcome State Fault Refusal :=
  match i with
  | .regRead t r => Sys2Proof.Machine.execRegRead t r s
  | .regWrite t r => Sys2Proof.Machine.execRegWrite t r s
  | .regModify t r => Sys2Proof.Machine.execRegModify t r s
  | .regReadBlock t r => Sys2Proof.Machine.execRegReadBlock t r s
  | .rcFieldRead t a => Sys2Proof.Machine.execRcFieldRead t a s
  | .cviQ0Read t => Sys2Proof.Machine.execCviQ0Read t s
  | .timNsecRead t => Sys2Proof.Machine.execTimNsecRead t s
  | .canRxstatRead t n => Sys2Proof.Machine.execCanRxstatRead t n s
  | .canErrqRead t => Sys2Proof.Machine.execCanErrqRead t s
  | .canLogqRead t => Sys2Proof.Machine.execCanLogqRead t s
  | .prtTripClear t m => Sys2Proof.Machine.execPrtTripClear t m s
  | .weldClear t m => Sys2Proof.Machine.execWeldClear t m s
  | .controlSample t x => Sys2Proof.Machine.execControlSample t x s
  | .envelopeBandUpdate t => Sys2Proof.Machine.execEnvelopeBandUpdate t s
  | .scanStrobe t bad again => Sys2Proof.Machine.execScanStrobe t bad again s
  | .strobeEmit t => Sys2Proof.Machine.execStrobeEmit t s
  | .collectFrameSend t => Sys2Proof.Machine.execCollectFrameSend t s
  | .nodeRecord t west slot rx => Sys2Proof.Machine.execNodeRecord t west slot rx s
  | .scanEnd t => Sys2Proof.Machine.execScanEnd t s
  | .graceExpiry t => Sys2Proof.Machine.execGraceExpiry t s
  | .heartbeatEmit t => Sys2Proof.Machine.execHeartbeatEmit t s
  | .heartbeatReturn t west rx => Sys2Proof.Machine.execHeartbeatReturn t west rx s
  | .heartbeatMissed t => Sys2Proof.Machine.execHeartbeatMissed t s
  | .probeReturn t west rx => Sys2Proof.Machine.execProbeReturn t west rx s
  | .ringLossOfSignal t west => Sys2Proof.Machine.execRingLossOfSignal t west s
  | .ringCommandSend t => Sys2Proof.Machine.execRingCommandSend t s
  | .ringCommandReturn t rx => Sys2Proof.Machine.execRingCommandReturn t rx s
  | .ringStartup t x => Sys2Proof.Machine.execRingStartup t x s
  | .ringCalWrite t => Sys2Proof.Machine.execRingCalWrite t s
  | .ringLenChange t n => Sys2Proof.Machine.execRingLenChange t n s
  | .balancePolicyPlan t => Sys2Proof.Machine.execBalancePolicyPlan t s
  | .balSourceChange t src en => Sys2Proof.Machine.execBalSourceChange t src en s
  | .openWireStart t node => Sys2Proof.Machine.execOpenWireStart t node s
  | .openWirePeriodic t => Sys2Proof.Machine.execOpenWirePeriodic t s
  | .openWireRunEnd t => Sys2Proof.Machine.execOpenWireRunEnd t s
  | .windowedValueReady t => Sys2Proof.Machine.execWindowedValueReady t s
  | .gridMillisecond t => Sys2Proof.Machine.execGridMillisecond t s
  | .azinitEnd t => Sys2Proof.Machine.execAzinitEnd t s
  | .shuntHandover t => Sys2Proof.Machine.execShuntHandover t s
  | .shuntAzShort t => Sys2Proof.Machine.execShuntAzShort t s
  | .shuntAzOffsetEnd t => Sys2Proof.Machine.execShuntAzOffsetEnd t s
  | .shuntAzReconnect t => Sys2Proof.Machine.execShuntAzReconnect t s
  | .shuntForceWrite t f => Sys2Proof.Machine.execShuntForceWrite t f s
  | .insLegSwitch t => Sys2Proof.Machine.execInsLegSwitch t s
  | .insHalfPeriodEnd t => Sys2Proof.Machine.execInsHalfPeriodEnd t s
  | .estimatorUpdate t q => Sys2Proof.Machine.execEstimatorUpdate t q s
  | .stringValuesUpdate t => Sys2Proof.Machine.execStringValuesUpdate t s
  | .learnIntervalExpiry t => Sys2Proof.Machine.execLearnIntervalExpiry t s
  | .estSnapshotRead t r => Sys2Proof.Machine.execEstSnapshotRead t r s
  | .snapshotCapture t => Sys2Proof.Machine.execSnapshotCapture t s
  | .snapshotCopyExpire t => Sys2Proof.Machine.execSnapshotCopyExpire t s
  | .estRestore t r => Sys2Proof.Machine.execEstRestore t r s
  | .restoreApply t => Sys2Proof.Machine.execRestoreApply t s
  | .restoreDiscard t => Sys2Proof.Machine.execRestoreDiscard t s
  | .restGrant t r => Sys2Proof.Machine.execRestGrant t r s
  | .restWindowEnd t => Sys2Proof.Machine.execRestWindowEnd t s
  | .estResetCell t r => Sys2Proof.Machine.execEstResetCell t r s
  | .learnStart t r => Sys2Proof.Machine.execLearnStart t r s
  | .learnPhaseEnd t => Sys2Proof.Machine.execLearnPhaseEnd t s
  | .learnPhaseTimeout t => Sys2Proof.Machine.execLearnPhaseTimeout t s
  | .impedanceSweep t r => Sys2Proof.Machine.execImpedanceSweep t r s
  | .impPointStart t => Sys2Proof.Machine.execImpPointStart t s
  | .impSettlingEnd t => Sys2Proof.Machine.execImpSettlingEnd t s
  | .impCorrelationEnd t => Sys2Proof.Machine.execImpCorrelationEnd t s
  | .impUploadDone t => Sys2Proof.Machine.execImpUploadDone t s
  | .impFitDone t => Sys2Proof.Machine.execImpFitDone t s
  | .impAutoSweepDue t => Sys2Proof.Machine.execImpAutoSweepDue t s
  | .tintAgeTick t => Sys2Proof.Machine.execTintAgeTick t s
  | .loopStartWrite t => Sys2Proof.Machine.execLoopStartWrite t s
  | .loopStopWrite t => Sys2Proof.Machine.execLoopStopWrite t s
  | .loopWarmupEnd t => Sys2Proof.Machine.execLoopWarmupEnd t s
  | .convEnFall t => Sys2Proof.Machine.execConvEnFall t s
  | .gainSwap t => Sys2Proof.Machine.execGainSwap t s
  | .netSetpointTimeout t => Sys2Proof.Machine.execNetSetpointTimeout t s
  | .analogSetpointOverrange t => Sys2Proof.Machine.execAnalogSetpointOverrange t s
  | .pulseSetpointFault t => Sys2Proof.Machine.execPulseSetpointFault t s
  | .setpointFaultClear t pulse => Sys2Proof.Machine.execSetpointFaultClear t pulse s
  | .overcurrentComparator t chg => Sys2Proof.Machine.execOvercurrentComparator t chg s
  | .ocHoldCheck t chg => Sys2Proof.Machine.execOcHoldCheck t chg s
  | .gateFault t ph => Sys2Proof.Machine.execGateFault t ph s
  | .barrierLoss t x => Sys2Proof.Machine.execBarrierLoss t x s
  | .barrierLossCoilTimeout t => Sys2Proof.Machine.execBarrierLossCoilTimeout t s
  | .ctrlClockLoss t => Sys2Proof.Machine.execCtrlClockLoss t s
  | .safeClockLoss t => Sys2Proof.Machine.execSafeClockLoss t s
  | .trip t r => Sys2Proof.Machine.execTrip t r s
  | .stringConnect t r supply => Sys2Proof.Machine.execStringConnect t r supply s
  | .stringDisconnect t r => Sys2Proof.Machine.execStringDisconnect t r s
  | .closeSequenceTimer t => Sys2Proof.Machine.execCloseSequenceTimer t s
  | .openSequenceTimer t => Sys2Proof.Machine.execOpenSequenceTimer t s
  | .autoOpenStart t => Sys2Proof.Machine.execAutoOpenStart t s
  | .contactorFeedbackChange t k closed => Sys2Proof.Machine.execContactorFeedbackChange t k closed s
  | .coilPullEnd t k => Sys2Proof.Machine.execCoilPullEnd t k s
  | .coilCurrentFault t k short => Sys2Proof.Machine.execCoilCurrentFault t k short s
  | .vcoilLow t => Sys2Proof.Machine.execVcoilLow t s
  | .dieSensorSample t temp => Sys2Proof.Machine.execDieSensorSample t temp s
  | .dieCrossCheck t => Sys2Proof.Machine.execDieCrossCheck t s
  | .neighbourTimeout t => Sys2Proof.Machine.execNeighbourTimeout t s
  | .compensationUpdate t => Sys2Proof.Machine.execCompensationUpdate t s
  | .thermistorCrossCheck t => Sys2Proof.Machine.execThermistorCrossCheck t s
  | .valveUpdate t => Sys2Proof.Machine.execValveUpdate t s
  | .chillerRequestSend t => Sys2Proof.Machine.execChillerRequestSend t s
  | .safetyInputSample t levels => Sys2Proof.Machine.execSafetyInputSample t levels s
  | .cat1GateBackstop t => Sys2Proof.Machine.execCat1GateBackstop t s
  | .cat1CoilBackstop t => Sys2Proof.Machine.execCat1CoilBackstop t s
  | .estopDiscrepancyTimeout t => Sys2Proof.Machine.execEstopDiscrepancyTimeout t s
  | .safetyHealthyTimer t => Sys2Proof.Machine.execSafetyHealthyTimer t s
  | .safeReset t r => Sys2Proof.Machine.execSafeReset t r s
  | .panelCloseHold t supply => Sys2Proof.Machine.execPanelCloseHold t supply s
  | .switchReadCycle t p1 p2 p3 => Sys2Proof.Machine.execSwitchReadCycle t p1 p2 p3 s
  | .coilOffPulseTest t k ok => Sys2Proof.Machine.execCoilOffPulseTest t k ok s
  | .convEnReadback t ok => Sys2Proof.Machine.execConvEnReadback t ok s
  | .inputStageTest t k ok => Sys2Proof.Machine.execInputStageTest t k ok s
  | .ganderSelfTest t ok => Sys2Proof.Machine.execGanderSelfTest t ok s
  | .ganderStartComplete t rom supply stage => Sys2Proof.Machine.execGanderStartComplete t rom supply stage s
  | .laneWatchdogTimeout t l => Sys2Proof.Machine.execLaneWatchdogTimeout t l s
  | .switchoverTilesVerified t => Sys2Proof.Machine.execSwitchoverTilesVerified t s
  | .switchoverShadowStart t => Sys2Proof.Machine.execSwitchoverShadowStart t s
  | .tokenGrant t => Sys2Proof.Machine.execTokenGrant t s
  | .switchoverAbandon t => Sys2Proof.Machine.execSwitchoverAbandon t s
  | .laneSelftestEnd t l logic march tiles => Sys2Proof.Machine.execLaneSelftestEnd t l logic march tiles s
  | .muleSelftestDue t => Sys2Proof.Machine.execMuleSelftestDue t s
  | .supervisorHeartbeatTimeout t => Sys2Proof.Machine.execSupervisorHeartbeatTimeout t s
  | .supervisorResumeTimeout t => Sys2Proof.Machine.execSupervisorResumeTimeout t s
  | .supervisorResumed x => Sys2Proof.Machine.execSupervisorResumed x s
  | .healthHourlyWrite t => Sys2Proof.Machine.execHealthHourlyWrite t s
  | .laneStatus t r => Sys2Proof.Machine.execLaneStatus t r s
  | .laneRotate t r => Sys2Proof.Machine.execLaneRotate t r s
  | .selftest t r => Sys2Proof.Machine.execSelftest t r s
  | .discoverySend t => Sys2Proof.Machine.execDiscoverySend t s
  | .discoveryReceive t port raw => Sys2Proof.Machine.execDiscoveryReceive t port raw s
  | .dispatchCycleStart t => Sys2Proof.Machine.execDispatchCycleStart t s
  | .reportSend t => Sys2Proof.Machine.execReportSend t s
  | .reportReceive t port raw serial => Sys2Proof.Machine.execReportReceive t port raw serial s
  | .allocationCompute t => Sys2Proof.Machine.execAllocationCompute t s
  | .allocationReceive t port raw => Sys2Proof.Machine.execAllocationReceive t port raw s
  | .allocationApply t => Sys2Proof.Machine.execAllocationApply t s
  | .allocationTimeout t => Sys2Proof.Machine.execAllocationTimeout t s
  | .pbayTimeout t => Sys2Proof.Machine.execPbayTimeout t s
  | .bellwetherStartTimeout t => Sys2Proof.Machine.execBellwetherStartTimeout t s
  | .alternateTakeover t => Sys2Proof.Machine.execAlternateTakeover t s
  | .handbackWrite t => Sys2Proof.Machine.execHandbackWrite t s
  | .baySetpoint t r => Sys2Proof.Machine.execBaySetpoint t r s
  | .bayMap t r => Sys2Proof.Machine.execBayMap t r s
  | .relay t r => Sys2Proof.Machine.execRelay t r s
  | .relayTimeout t => Sys2Proof.Machine.execRelayTimeout t s
  | .packetReceive t via src raw => Sys2Proof.Machine.execPacketReceive t via src raw s
  | .spiWrite t raw => Sys2Proof.Machine.execSpiWrite t raw s
  | .spiStatus t => Sys2Proof.Machine.execSpiStatus t s
  | .spiRead t n => Sys2Proof.Machine.execSpiRead t n s
  | .hello t r => Sys2Proof.Machine.execHello t r s
  | .auth t r => Sys2Proof.Machine.execAuth t r s
  | .bye t r => Sys2Proof.Machine.execBye t r s
  | .ping t r => Sys2Proof.Machine.execPing t r s
  | .authTimeout t n => Sys2Proof.Machine.execAuthTimeout t n s
  | .sessionIdleTimeout t n => Sys2Proof.Machine.execSessionIdleTimeout t n s
  | .helloLockoutExpire t src => Sys2Proof.Machine.execHelloLockoutExpire t src s
  | .provisioningContextExpire t n => Sys2Proof.Machine.execProvisioningContextExpire t n s
  | .eventReport t n => Sys2Proof.Machine.execEventReport t n s
  | .eventResend t n => Sys2Proof.Machine.execEventResend t n s
  | .jobTableExpire t id => Sys2Proof.Machine.execJobTableExpire t id s
  | .getStatus t r => Sys2Proof.Machine.execGetStatus t r s
  | .getCells t r => Sys2Proof.Machine.execGetCells t r s
  | .getString t r => Sys2Proof.Machine.execGetString t r s
  | .getLimits t r => Sys2Proof.Machine.execGetLimits t r s
  | .getHealth t r => Sys2Proof.Machine.execGetHealth t r s
  | .cfgWrite t r => Sys2Proof.Machine.execCfgWrite t r s
  | .cfgRead t r => Sys2Proof.Machine.execCfgRead t r s
  | .cfgCommit t r flashOk => Sys2Proof.Machine.execCfgCommit t r flashOk s
  | .cfgDiscard t r => Sys2Proof.Machine.execCfgDiscard t r s
  | .tableLoad t r => Sys2Proof.Machine.execTableLoad t r s
  | .coefLoad t r => Sys2Proof.Machine.execCoefLoad t r s
  | .loadAssemblyTimeout t coef => Sys2Proof.Machine.execLoadAssemblyTimeout t coef s
  | .setpoint t r => Sys2Proof.Machine.execSetpoint t r s
  | .setpointSource t r => Sys2Proof.Machine.execSetpointSource t r s
  | .balancePlan t r => Sys2Proof.Machine.execBalancePlan t r s
  | .park t r => Sys2Proof.Machine.execPark t r s
  | .wake t r => Sys2Proof.Machine.execWake t r s
  | .jobStatus t r => Sys2Proof.Machine.execJobStatus t r s
  | .jobCancel t r => Sys2Proof.Machine.execJobCancel t r s
  | .eventSubscribe t r => Sys2Proof.Machine.execEventSubscribe t r s
  | .eventAck t r => Sys2Proof.Machine.execEventAck t r s
  | .attnClaim t r => Sys2Proof.Machine.execAttnClaim t r s
  | .attnEoi t r => Sys2Proof.Machine.execAttnEoi t r s
  | .recFreeze t r => Sys2Proof.Machine.execRecFreeze t r s
  | .recRead t r => Sys2Proof.Machine.execRecRead t r s
  | .recUnfreeze t r => Sys2Proof.Machine.execRecUnfreeze t r s
  | .updBegin t r => Sys2Proof.Machine.execUpdBegin t r s
  | .updData t r => Sys2Proof.Machine.execUpdData t r s
  | .updApply t r => Sys2Proof.Machine.execUpdApply t r s
  | .updApplyDone t flashOk => Sys2Proof.Machine.execUpdApplyDone t flashOk s
  | .updConfirm t r => Sys2Proof.Machine.execUpdConfirm t r s
  | .updAbort t r => Sys2Proof.Machine.execUpdAbort t r s
  | .updTrialExpire t => Sys2Proof.Machine.execUpdTrialExpire t s
  | .calRead t r => Sys2Proof.Machine.execCalRead t r s
  | .calWrite t r => Sys2Proof.Machine.execCalWrite t r s
  | .calMeasure t r => Sys2Proof.Machine.execCalMeasure t r s
  | .calMeasureDone t => Sys2Proof.Machine.execCalMeasureDone t s
  | .timeGet t r => Sys2Proof.Machine.execTimeGet t r s
  | .timeStep t r => Sys2Proof.Machine.execTimeStep t r s
  | .timeStatus t r => Sys2Proof.Machine.execTimeStatus t r s
  | .safeStatus t r => Sys2Proof.Machine.execSafeStatus t r s
  | .resetSystem t r => Sys2Proof.Machine.execResetSystem t r s
  | .resetSupervisor t r => Sys2Proof.Machine.execResetSupervisor t r s
  | .resetLane t r => Sys2Proof.Machine.execResetLane t r s
  | .resetPort t r => Sys2Proof.Machine.execResetPort t r s
  | .tileScrub t r => Sys2Proof.Machine.execTileScrub t r s
  | .traceStop t r => Sys2Proof.Machine.execTraceStop t r s
  | .traceStart t r => Sys2Proof.Machine.execTraceStart t r s
  | .traceRead t r => Sys2Proof.Machine.execTraceRead t r s
  | .ethLinkLoss t p => Sys2Proof.Machine.execEthLinkLoss t p s
  | .ethLinkUp t p => Sys2Proof.Machine.execEthLinkUp t p s
  | .switchFrameForward t port f res => Sys2Proof.Machine.execSwitchFrameForward t port f res s
  | .macEntryAgeing t => Sys2Proof.Machine.execMacEntryAgeing t s
  | .arpRequest t port sha spa tpa => Sys2Proof.Machine.execArpRequest t port sha spa tpa s
  | .neighbourSolicitation t port src target => Sys2Proof.Machine.execNeighbourSolicitation t port src target s
  | .icmpEcho t port v6 src dst rest => Sys2Proof.Machine.execIcmpEcho t port v6 src dst rest s
  | .ptpAnnounce t port a => Sys2Proof.Machine.execPtpAnnounce t port a s
  | .ptpSync t port m => Sys2Proof.Machine.execPtpSync t port m s
  | .ptpFollowUp t port m => Sys2Proof.Machine.execPtpFollowUp t port m s
  | .ptpDelayReqSend t port => Sys2Proof.Machine.execPtpDelayReqSend t port s
  | .ptpDelayResp t port m => Sys2Proof.Machine.execPtpDelayResp t port m s
  | .ptpPdelayReq t port m => Sys2Proof.Machine.execPtpPdelayReq t port m s
  | .ptpPdelayResp t port m f => Sys2Proof.Machine.execPtpPdelayResp t port m f s
  | .ptpSyncTimeout t => Sys2Proof.Machine.execPtpSyncTimeout t s
  | .txTimestampDrain t port => Sys2Proof.Machine.execTxTimestampDrain t port s
  | .canPortRestart t => Sys2Proof.Machine.execCanPortRestart t s
  | .canBusIntegration t => Sys2Proof.Machine.execCanBusIntegration t s
  | .canFrameReceive t f ago => Sys2Proof.Machine.execCanFrameReceive t f ago s
  | .canAbdDwellTimeout t => Sys2Proof.Machine.execCanAbdDwellTimeout t s
  | .canError t typ tx dph inc => Sys2Proof.Machine.execCanError t typ tx dph inc s
  | .canRecoverWrite t => Sys2Proof.Machine.execCanRecoverWrite t s
  | .canRecoveryComplete t => Sys2Proof.Machine.execCanRecoveryComplete t s
  | .canFrameTransmitted t e => Sys2Proof.Machine.execCanFrameTransmitted t e s
  | .canLimitFrame t => Sys2Proof.Machine.execCanLimitFrame t s
  | .canTxgo t v => Sys2Proof.Machine.execCanTxgo t v s
  | .iicTargetWrite t x cut => Sys2Proof.Machine.execIicTargetWrite t x cut s
  | .iicTargetRead t x => Sys2Proof.Machine.execIicTargetRead t x s
  | .iicMailboxDrain t => Sys2Proof.Machine.execIicMailboxDrain t s
  | .iicBusFree x => Sys2Proof.Machine.execIicBusFree x s
  | .iicAttnCallEnd t how => Sys2Proof.Machine.execIicAttnCallEnd t how s
  | .iicArbitrationLost t byte x => Sys2Proof.Machine.execIicArbitrationLost t byte x s
  | .iicStretchTimeout t x => Sys2Proof.Machine.execIicStretchTimeout t x s
  | .iicAttnSchedule t => Sys2Proof.Machine.execIicAttnSchedule t s
  | .evrTgtWrite t n v => Sys2Proof.Machine.execEvrTgtWrite t n v s
  | .evrHoldWrite t on => Sys2Proof.Machine.execEvrHoldWrite t on s
  | .evrSleepWrite t m => Sys2Proof.Machine.execEvrSleepWrite t m s
  | .evrRedirectTimeout t n => Sys2Proof.Machine.execEvrRedirectTimeout t n s
  | .routerTestEnd t => Sys2Proof.Machine.execRouterTestEnd t s
  | .powerOnReset p => Sys2Proof.Machine.execPowerOnReset p s
  | .resetPin p => Sys2Proof.Machine.execResetPin p s
  | .supervisorWatchdogTimeout t => Sys2Proof.Machine.execSupervisorWatchdogTimeout t s
  | .watchdogKick t => Sys2Proof.Machine.execWatchdogKick t s
  | .startTimeout t => Sys2Proof.Machine.execStartTimeout t s
  | .resetRelease t bw0 bw1 => Sys2Proof.Machine.execResetRelease t bw0 bw1 s
  | .firmwareStart t => Sys2Proof.Machine.execFirmwareStart t s
  | .clockGood t d => Sys2Proof.Machine.execClockGood t d s
  | .clockGoodTimeout t d l => Sys2Proof.Machine.execClockGoodTimeout t d l s
  | .clockLoss t d l => Sys2Proof.Machine.execClockLoss t d l s
  | .debugReleaseRequest t d => Sys2Proof.Machine.execDebugReleaseRequest t d s
  | .vauxMeasure t mv => Sys2Proof.Machine.execVauxMeasure t mv s
  | .vauxLoss t => Sys2Proof.Machine.execVauxLoss t s
  | .aoCoarseTimeUpdate t => Sys2Proof.Machine.execAoCoarseTimeUpdate t s
  | .wakeEthEnergy t p => Sys2Proof.Machine.execWakeEthEnergy t p s
  | .wakeSpiCs t => Sys2Proof.Machine.execWakeSpiCs t s
  | .wakeCanDominant t => Sys2Proof.Machine.execWakeCanDominant t s
  | .wakeIicAddress x => Sys2Proof.Machine.execWakeIicAddress x s
  | .wakeTimer t => Sys2Proof.Machine.execWakeTimer t s
  | .listenWindowExpire t => Sys2Proof.Machine.execListenWindowExpire t s
  | .linkTrainingAttempt t p => Sys2Proof.Machine.execLinkTrainingAttempt t p s
  | .tileLoadMismatch t region tile use x y => Sys2Proof.Machine.execTileLoadMismatch t region tile use x y s
  | .tileRecoveryDone t region tile => Sys2Proof.Machine.execTileRecoveryDone t region tile s
  | .scrubTick t x bad => Sys2Proof.Machine.execScrubTick t x bad s
  | .operatingTimeTick t => Sys2Proof.Machine.execOperatingTimeTick t s
  | .recordWriteDone t badBlocks => Sys2Proof.Machine.execRecordWriteDone t badBlocks s
  | .dailyMerge t => Sys2Proof.Machine.execDailyMerge t s
  | .recFreezeExpire t => Sys2Proof.Machine.execRecFreezeExpire t s
  | .vcoilRestored t => Sys2Proof.Machine.execVcoilRestored t s
  | .barrierRestored t x => Sys2Proof.Machine.execBarrierRestored t x s
  | .overcurrentComparatorRelease t chg => Sys2Proof.Machine.execOvercurrentComparatorRelease t chg s
  | .desatRelease t ph => Sys2Proof.Machine.execDesatRelease t ph s
  | .ringSignalRestored t west => Sys2Proof.Machine.execRingSignalRestored t west s
  | .tileScrubDone x => Sys2Proof.Machine.execTileScrubDone x s
  | .iicMingapExpiry t => Sys2Proof.Machine.execIicMingapExpiry t s
  | .ptpMasterLost t => Sys2Proof.Machine.execPtpMasterLost t s

end Sys2Proof.Machine
end

