-- ==== Sys2Proof/Machine/Idle.lean ====
section
/-! DEFINITION. What the module does between commands: the command interpreter takes the next request from the command queues (R287), and
what waits for the Ethernet ports leaves. -/

namespace Sys2Proof.Machine

/-- The rows of the forms of RESET, TRACE and CFG_COMMIT that a payload names. -/
def resetForm (t : Nat) (r : Req) : Instr :=
  match uAt r.payload 0 1 with
  | 1 => .resetSupervisor t r
  | 2 => .resetLane t r
  | 3 => .resetPort t r
  | _ => .resetSystem t r

/-- DESIGN CHOICE: log entry 25. (DESIGN CHOICE: log entry 25) -/
def traceForm (t : Nat) (r : Req) : Instr :=
  match uAt r.payload 0 1 with
  | 1 => .traceStart t r
  | 2 => .traceRead t r
  | _ => .traceStop t r

/-- DESIGN CHOICE: log entry 25. (DESIGN CHOICE: log entry 25) -/
def commitForm (t : Nat) (r : Req) : Instr := if (uAt r.payload 0 1).testBit 0 then .cfgDiscard t r else .cfgCommit t r { ok := true }

/-- The opcodes with the row of each. What the outside adds to a command is taken as the ordinary case: the coil supply is present, and a
flash copy reads back as written. (DESIGN CHOICE: log entry 2) -/
def opRows : List (Nat × (Nat → Req → Instr)) :=
  [(0x0001, .hello), (0x0002, .auth), (0x0003, .bye), (0x0004, .ping), (0x0101, .regRead), (0x0102, .regWrite), (0x0103, .regModify),
   (0x0104, .regReadBlock), (0x0201, .getStatus), (0x0202, .getCells), (0x0203, .getString), (0x0204, .getLimits), (0x0205, .getHealth),
   (0x0301, .cfgWrite), (0x0302, .cfgRead), (0x0303, commitForm), (0x0304, .tableLoad), (0x0305, .coefLoad)] ++
  [(0x0401, fun t r => .stringConnect t r true), (0x0402, .stringDisconnect), (0x0403, .setpoint), (0x0404, .setpointSource),
   (0x0405, .balancePlan), (0x0406, .restGrant), (0x0407, .park), (0x0408, .wake), (0x0409, .trip), (0x0501, .estSnapshotRead),
   (0x0502, .estRestore), (0x0503, .learnStart), (0x0504, .impedanceSweep), (0x0505, .estResetCell), (0x0601, .jobStatus),
   (0x0602, .jobCancel), (0x0701, .eventSubscribe), (0x0702, .eventAck), (0x0703, .attnClaim), (0x0704, .attnEoi)] ++
  [(0x0801, .recFreeze), (0x0802, .recRead), (0x0803, .recUnfreeze), (0x0901, .updBegin), (0x0902, .updData), (0x0903, .updApply),
   (0x0904, .updConfirm), (0x0905, .updAbort), (0x0A01, .baySetpoint), (0x0A02, .bayMap), (0x0A03, .relay), (0x0B01, .laneStatus),
   (0x0B02, .laneRotate), (0x0B03, .selftest), (0x0C01, .calRead), (0x0C02, fun t r => .calWrite t ⟨r, { ok := true }⟩), (0x0C03, .calMeasure), (0x0D01, .timeGet),
   (0x0D02, .timeStep), (0x0D03, .timeStatus), (0x0E01, .safeStatus), (0x0E02, .safeReset), (0x0F01, resetForm), (0x0F02, .tileScrub),
   (0x0F03, traceForm)]

/-- The request at the head of a session's command queue, where its transport works. (DESIGN CHOICE: log entry 18) -/
def State.head? (s : State) (n : Nat) : Option QReq :=
  match (s.session n).cmdq with
  | [] => none
  | q :: _ => if s.portOpen q.req.via then some q else none

/-- The interpreter's choice among the heads: the oldest of class B, else of class C in turn from the session after the one last served
(R287). -/
def State.nextHead (s : State) : Option (Nat × QReq) :=
  if s.s0Down then none
  else
    let order := (List.range 8).map (fun i => (s.host.turn + i) % 8)
    let heads := order.filterMap (fun n => (s.head? n).map (fun q => (n, q)))
    match heads.filter (fun x => x.2.req.cls == 11) with
    | [] => heads.head?
    | x :: t => some (t.foldl (fun best y => if y.2.ord < best.2.ord then y else best) x)

/-- The next request as a command that executes now, with the state in which the turn has moved on. (DESIGN CHOICE: log entry 2) -/
def State.nextRequest (s : State) : Option (Instr × State) :=
  match s.nextHead with
  | none => none
  | some (n, q) =>
    match assoc? q.op opRows with
    | none => none
    | some f => some (f s.now q.req, if q.req.cls = 11 then s else { s with host := { s.host with turn := (n + 1) % 8 } })

/-- Nothing waits to be executed: replies, events and relayed packets leave by the Ethernet ports. (DESIGN CHOICE: log entry 2) -/
def State.idle (s : State) : State := { s.drain with now := s.now, pending := [] }.settle

end Sys2Proof.Machine
end

