-- ==== Sys2Proof/Machine/Step.lean ====
section
/-! DEFINITION. One step: the command in front of the queue; with none waiting, the next request of the command queues, else the module idles. -/

namespace Sys2Proof.Machine

/-- One step of the module. (DESIGN CHOICE: log entry 1) -/
def step (s : State) : Host.Outcome State Fault Refusal :=
  match s.pending with
  | c :: rest => exec c { s with pending := rest }
  | [] => match s.nextRequest with
    | some (c, s1) => exec c s1
    | none => .next s.idle

/-- The state with the command that a table word spells in front of its queue; no word spells one. (DESIGN CHOICE: log entry 1) -/
def State.withFetchWord (s : State) (nbits w : Nat) : State :=
  match decodeTableWord nbits w with
  | none => s
  | some c => { s with pending := c :: s.pending }

end Sys2Proof.Machine
end

