-- ==== Sys2Proof/Safety.lean ====
section
/-! DEFINITION. The terms in which statements about the module speak: a command's answer, a request that is served, the reply to it, and
what holds in every settled state. -/

namespace Sys2Proof.Safety

open Sys2Proof.Machine

/-- The command answers a next state of which `P` holds. -/
def Answers (c : Instr) (s : State) (P : State → Prop) : Prop := ∃ s', exec c s = .next s' ∧ P s'

/-- The state in which a request given straight to execution is carried out: its session has taken its SEQ (R283), and a listen window
stays open (R374). -/
def taken (a : State) (r : Req) : State := (a.accept r).touchWindow r.via

/-- The request, given straight to execution, passes the checks of acceptance and of execution (Table 13.4, R285, R294, R297): its
transport is open, the supervisors run, its session is open, it is tagged and not bay-wide, class and role suffice, its payload has the
form of the opcode, and the module's state and the owner lock allow it. -/
def serves (a : State) (op : Nat) (r : Req) (fmt : Fmt) : Bool :=
  a.portOpen r.via && !a.s0Down && !a.provisional r && !a.provClosed r && a.isOpen r.session && r.auth && r.target != 0xFE
    && !a.queued op r && ((a.accept r).refusal op r).isNone && (fmt.check r.payload).isNone
    && (match opInfo op with
        | some o => (o.states &&& (taken a r).rst.mode.bit) != 0 && !(taken a r).barred r.session o
        | none => false)

/-- The reply to a request, as its session's cache keeps it (R283, R286): status, job and payload. -/
def Replied (s : State) (r : Req) (op status jobid : Nat) (payload : List Byte) : Prop :=
  ∃ ps rest, (s.session r.session).cache = (r.seq, ps) :: rest ∧ (ps.map (·.payload)).flatten = payload ∧
    ∀ p ∈ ps, p.opcode = op ∧ p.session = r.session ∧ p.seq = r.seq ∧ p.status = status ∧ p.jobid = jobid

/-- Every list of a fixed number of things has that number: sessions and provisional contexts (R279, R281), CAN transmit queues, what the two line
ports have (R24, R313, R318, Table 19.2), coils, phases, the inputs and stages of the safety evaluation, lanes, tokens and quarters (R28, R237)
with the assignment in flash once one is stored, and image slots (R399). -/
structure Shape (s : State) : Prop where
  sess : s.host.sess.length = 8
  prov : s.host.prov.length = 8
  txq : s.can.txq.length = 4
  tsq : s.eth.tsq.length = 2
  egress : s.eth.egress.length = 3
  resetAt : s.eth.resetAt.length = 2
  relay : s.bay.relay.length = 2
  training : s.rst.training.length = 2
  preq : s.ptp.preq.length = 2
  presp : s.ptp.presp.length = 2
  pseq : s.ptp.pseq.length = 2
  linkDelay : s.ptp.linkDelay.length = 2
  hold : s.prt.hold.length = 3
  desat : s.prt.desat.length = 4
  run : s.saf.run.length = 6
  pass : s.saf.pass.length = 6
  lanes : s.lan.st.length = 5 ∧ s.lan.gate.length = 5 ∧ s.lan.hours.length = 5 ∧ s.lan.hourSec.length = 5
  tokens : s.lan.tok.length = 4 ∧ s.lan.est.length = 4
  stored : s.flash.hours.length = 5 ∧ s.flash.lanes.length ∈ [0, 5] ∧ s.flash.assign.length ∈ [0, 4] ∧ s.flash.quarters.length ∈ [0, 4]
  slots : s.flash.slots.length = 2

/-- Egress queue pair `i` of the switch in `s` is that of `a` with a frame appended to its high or its low queue, or the same (R313). -/
def enqueued (a s : State) (i : Nat) (m : Option (Bool × OutMsg)) : Prop :=
  let x := nth ([], []) a.eth.egress i
  nth ([], []) s.eth.egress i = match m with
    | some (hi, o) => if i < a.eth.egress.length then (if hi then (x.1 ++ [o], x.2) else (x.1, x.2 ++ [o])) else x
    | none => x

/-- The registers that the queueing of a reply may count in: GLB_PKTERR and TIL_QSTAT. -/
def replyReg (a : Nat) : Bool := a == 0x24 || (decide (0x100100 ≤ a) && decide (a < 0x1001C0))

/-- The pads follow the state: no gate may switch while a flint cause is latched or outside RUN, and CONV_EN then falls within 10 µs of the
gates; the two gates of a phase are never high together and are both low while no gate may switch or no lane holds the phase's token; and the
attention lines are low unless the router is in NORMAL. -/
def PadsSafe (s : State) : Prop :=
  ((s.word 0x8002C).toNat % 512 ≠ 0 → s.pads.gates = false ∧ (s.pads.convEn = true → s.now < s.ctl.lowAt + 10 * usec)) ∧
  (s.inRun = false → s.pads.gates = false) ∧
  (∀ p ∈ s.pads.gate, ¬ (p.1 = true ∧ p.2 = true) ∧ (s.pads.gates = false → p = (false, false))) ∧
  (∀ q < 4, nth none s.lan.tok q = none → s.pads.gate[q]? = some (false, false)) ∧
  (s.get F.EVR_STAT_MODE ≠ 2 → s.pads.attn.all (fun b => !b) = true)

/-- The pads are the ones the rest of the state gives. -/
def Settled (s : State) : Prop := s.pads = s.padsOf

/-- A close sequence has failed at a step: every coil is off, the string is open, and FAILSTEP names the step (R196). -/
def CloseFailed (s : State) (step : Nat) : Prop :=
  s.get F.PRT_CONTSTAT_CONN = 0 ∧ s.get F.PRT_CONTSTAT_FAILSTEP = step ∧ s.get F.PRT_CONTSTAT_COIL = 0 ∧ s.prt.seq = none

/-- A register without a consequence of its own and with RW bits alone: nothing but its word follows a write. -/
def plainReg (x : Nat) (d : RegDef) : Prop :=
  writable x = some d ∧ d.w1c = 0 ∧ d.wo = 0 ∧ deadReg x = false ∧
    x ∉ [0x30000, 0x40000, 0x40020, 0x40028, 0x50000, 0x5002C, 0x70000, 0x8000C, 0x90010, 0x90014, 0xC0008, 0xD0000, 0xE0000, 0xE0004, 0xE0008, 0xE0014, 0xE002C, 0xF0000] ∧
    ¬ (0x20100 ≤ x ∧ x < 0x20300)

/-- A node record as the ring master accepts it at a slot (R55): length, CRC, type, SSEQ and HPOS. -/
def recordSound (a : State) (slot : Nat) (raw : List Byte) : Bool :=
  raw.length == 96 && uAt raw 92 4 == crc32c (raw.take 92) && uAt raw 0 1 == 0x21 && uAt raw 4 1 == a.ring.sseq && uAt raw 1 1 == slot

/-- What the string side measures, estimates and learns is the same. -/
def SameMeasured (a b : State) : Prop :=
  b.ring = a.ring ∧ b.acq = a.acq ∧ b.cvi = a.cvi ∧ b.est = a.est ∧ b.lrn = a.lrn ∧ b.imp = a.imp

/-- Control, protection, thermal supervision, safety, lanes and bay are the same. -/
def SameControl (a b : State) : Prop :=
  b.ctl = a.ctl ∧ b.prt = a.prt ∧ b.thm = a.thm ∧ b.saf = a.saf ∧ b.lan = a.lan ∧ b.bay = a.bay

/-- What is stored is the same: the flash, the recorder, an update, staged configuration and jobs. -/
def SameStored (a b : State) : Prop :=
  b.flash = a.flash ∧ b.rcd = a.rcd ∧ b.upd = a.upd ∧ b.cfg = a.cfg ∧ b.jobs = a.jobs ∧ b.jobNext = a.jobNext

/-- Network time and the Ethernet, CAN and I²C ports are the same. -/
def SamePorts (a b : State) : Prop := b.ptp = a.ptp ∧ b.eth = a.eth ∧ b.can = a.can ∧ b.iic = a.iic

/-- The parts of the state that a command may change, besides the registers: a substructure each, with the mode, the open listen windows, what has
arrived at event sources, the sources moved to their fallback, and those in service apart from the rest; and of the flash by what it stores: images with the events owed,
configuration items, keys, tables, the calibration set, the option bytes, the recorder's records and counts, the lanes' assignment and history,
retired tiles, the wear of blocks, and the count of handovers. -/
inductive Part where
  | ring | acq | cvi | est | lrn | imp | ctl | prt | thm | saf | lan | bay | cfg | fSlots | fItems | fKeys | fTables | fCal | fOpt | fRec | fLanes | fTiles | fBlocks | fSwaps
  | rcd | upd | jobs | host | mode | listen | rst | time | ptp | eth | can | iic | tiles | arrivals | rerouted | service | out
  deriving DecidableEq, Repr

/-- A part is the same in two states. -/
def Part.same (p : Part) (a b : State) : Prop :=
  match p with
  | .ring => b.ring = a.ring
  | .acq => b.acq = a.acq
  | .cvi => b.cvi = a.cvi
  | .est => b.est = a.est
  | .lrn => b.lrn = a.lrn
  | .imp => b.imp = a.imp
  | .ctl => b.ctl = a.ctl
  | .prt => b.prt = a.prt
  | .thm => b.thm = a.thm
  | .saf => b.saf = a.saf
  | .lan => b.lan = a.lan
  | .bay => b.bay = a.bay
  | .cfg => b.cfg = a.cfg
  | .fSlots => b.flash.slots = a.flash.slots ∧ b.flash.owed = a.flash.owed
  | .fItems => b.flash.items = a.flash.items
  | .fKeys => b.flash.keys = a.flash.keys
  | .fTables => b.flash.tables = a.flash.tables ∧ b.flash.coefs = a.flash.coefs ∧ b.flash.bayMap = a.flash.bayMap
  | .fCal => b.flash.cal = a.flash.cal
  | .fOpt => b.flash.opt = a.flash.opt
  | .fRec => b.flash.hourly = a.flash.hourly ∧ b.flash.daily = a.flash.daily ∧ b.flash.recNext = a.flash.recNext ∧
      b.flash.recErased = a.flash.recErased ∧ b.flash.opsec = a.flash.opsec ∧ b.flash.pwrcyc = a.flash.pwrcyc
  | .fLanes => b.flash.hours = a.flash.hours ∧ b.flash.lanes = a.flash.lanes ∧ b.flash.bist = a.flash.bist ∧ b.flash.fences = a.flash.fences ∧
      b.flash.assign = a.flash.assign ∧ b.flash.quarters = a.flash.quarters ∧ b.flash.rotOp = a.flash.rotOp
  | .fTiles => b.flash.tiles = a.flash.tiles ∧ b.flash.badSpares = a.flash.badSpares ∧ b.flash.laneTiles = a.flash.laneTiles ∧
      b.flash.laneBad = a.flash.laneBad
  | .fBlocks => b.flash.wear = a.flash.wear ∧ b.flash.remap = a.flash.remap ∧ b.flash.cfgWrites = a.flash.cfgWrites ∧
      b.flash.retBlocks = a.flash.retBlocks
  | .fSwaps => b.flash.swaps = a.flash.swaps
  | .rcd => b.rcd = a.rcd
  | .upd => b.upd = a.upd
  | .jobs => b.jobs = a.jobs ∧ b.jobNext = a.jobNext
  | .host => b.host = a.host
  | .mode => b.rst.mode = a.rst.mode
  | .listen => b.rst.listen = a.rst.listen
  | .rst => { b.rst with mode := a.rst.mode, listen := a.rst.listen } = a.rst
  | .time => b.time = a.time
  | .ptp => b.ptp = a.ptp
  | .eth => b.eth = a.eth
  | .can => b.can = a.can
  | .iic => b.iic = a.iic
  | .tiles => { b.til with full := a.til.full } = a.til
  | .arrivals => b.evr.pend = a.evr.pend ∧ b.evr.cnt = a.evr.cnt ∧ b.evr.ovf = a.evr.ovf ∧ b.evr.last = a.evr.last
  | .rerouted => b.evr.moved = a.evr.moved
  | .service => b.evr.act = a.evr.act
  | .out => b.out = a.out

/-- The statements on what commands leave alone are made for five groups of commands. -/
inductive Group where
  | opcode | measure | control | port | module
  deriving DecidableEq, Repr

/-- What a command may change: its group, its instant, the parts, and the registers as spans of addresses (`none`: any register). -/
structure Touch where
  group : Group
  at_ : Nat
  parts : List Part
  regs : Option (List (Nat × Nat))

/-- The frame of a command that answered `b` from `s`: the parts and the registers that it does not name are as the command found them. -/
def Frame (x : Touch) (s b : State) : Prop :=
  (∀ p : Part, p ∉ x.parts → p.same (s.upto x.at_) b) ∧
  (∀ l, x.regs = some l → ∀ y : Nat, (∀ r ∈ l, ¬ (r.1 ≤ y ∧ y ≤ r.2)) → b.word y = (s.upto x.at_).word y)

/-- What the reply to a request changes: session and transport, the listen window, what leaves, and the counts of losses. -/
def replyParts : List Part := [.host, .listen, .rerouted, .out]
def replyRegs : List (Nat × Nat) := [(0x24, 0x24), (0x100100, 0x1001bc)]

/-- What a stop of the string changes: the converter's loop and limits, contactors, learning and sweeps with their jobs, and its events. -/
def stopParts : List Part := [.ring, .est, .lrn, .imp, .ctl, .prt, .jobs, .host, .arrivals, .rerouted, .out]
def stopRegs : List (Nat × Nat) :=
  [(0x20004, 0x20004), (0x60018, 0x60018), (0x60034, 0x60034), (0x60044, 0x60044), (0x70000, 0x70004), (0x7001c, 0x7001c), (0x70024, 0x70024),
     (0x7002c, 0x7002c), (0x8002c, 0x8002c), (0x80034, 0x80038), (0x80040, 0x8008c), (0x100100, 0x1001bc)]

/-- What a wake changes: the module's mode, the ring's start-up, and what begins anew. -/
def wakeParts : List Part :=
  [.ring, .acq, .cvi, .est, .ctl, .lan, .bay, .cfg, .fRec, .rcd, .host, .mode, .listen, .rst, .time, .ptp, .can, .arrivals, .rerouted, .out]
def wakeRegs : List (Nat × Nat) :=
  [(0x14, 0x14), (0x24, 0x24), (0x10004, 0x10004), (0x10018, 0x1001c), (0x20004, 0x20008), (0x30004, 0x30004), (0x40014, 0x40014), (0x50008,
     0x50008), (0x50040, 0x50040), (0xd0004, 0xd0008), (0xe000c, 0xe0010), (0x100100, 0x1001bc), (0x110000, 0x110000)]

/-- What the entry into HALT may change, by register blocks. -/
def haltParts : List Part :=
  [.ring, .acq, .cvi, .est, .lrn, .imp, .ctl, .prt, .lan, .bay, .cfg, .fRec, .rcd, .jobs, .host, .mode, .listen, .rst, .time, .ptp, .can, .arrivals, .rerouted, .out]
def haltRegs : List (Nat × Nat) := [(0x14, 0x14), (0x24, 0x24), (0x10004, 0x10004), (0x10018, 0x1001c), (0x20004, 0x20008), (0x30004, 0x30004),
   (0x40014, 0x40014), (0x50008, 0x50008), (0x50040, 0x50040), (0x60018, 0x60018), (0x60034, 0x60034), (0x60044, 0x60044), (0x70000, 0x70004), (0x7001c, 0x7001c),
   (0x70024, 0x70024), (0x7002c, 0x7002c), (0x8002c, 0x8002c), (0x80034, 0x80038), (0x80040, 0x8008c), (0xd0004, 0xd0008), (0xe000c, 0xe0010),
   (0x100100, 0x1001bc), (0x110000, 0x110000)]

/-- A reset of the module leaves the flash. -/
def allButFlash : List Part :=
  [.ring, .acq, .cvi, .est, .lrn, .imp, .ctl, .prt, .thm, .saf, .lan, .bay, .cfg, .rcd, .upd, .jobs, .host, .mode, .listen, .rst, .time, .ptp, .eth,
   .can, .iic, .tiles, .arrivals, .rerouted, .service, .out]

/-- What each command may change. -/
def touches (c : Instr) : Touch :=
  match c with
  | .regRead t _ => ⟨.opcode, t, replyParts ++ [.cvi, .time, .can],
     some (replyRegs ++ [(0x3000c, 0x3000c), (0x30018, 0x30018), (0x80034, 0x80034), (0xd0030, 0xd0030), (0xe001c, 0xe0024), (0xe1000, 0xe4f80),
     (0xf0010, 0xf0010), (0x100004, 0x100004)])⟩
  | .regWrite t _ => ⟨.opcode, t, replyParts ++ [.ring, .acq, .cvi, .ctl, .prt, .thm, .lan, .bay, .ptp, .can, .iic, .arrivals], none⟩
  | .regModify t _ => ⟨.opcode, t, replyParts ++ [.ring, .acq, .cvi, .ctl, .prt, .thm, .lan, .bay, .ptp, .can, .iic, .arrivals], none⟩
  | .regReadBlock t _ => ⟨.opcode, t, replyParts ++ [.cvi, .time, .can],
     some (replyRegs ++ [(0x3000c, 0x3000c), (0x30018, 0x30018), (0x80034, 0x80034), (0xd0030, 0xd0030), (0xe001c, 0xe0024), (0xe1000, 0xe4f80),
     (0xf0010, 0xf0010), (0x100004, 0x100004)])⟩
  | .rcFieldRead t _ => ⟨.port, t, [.cvi, .time, .can, .out],
     some (replyRegs ++ [(0x3000c, 0x3000c), (0x30018, 0x30018), (0x80034, 0x80034), (0xd0030, 0xd0030), (0xe001c, 0xe0024), (0xe1000, 0xe4f80),
     (0xf0010, 0xf0010), (0x100004, 0x100004)])⟩
  | .cviQ0Read t => ⟨.port, t, [.cvi, .out], some [(0x50014, 0x50014)]⟩
  | .timNsecRead t => ⟨.port, t, [.time, .out], some [(0xd0010, 0xd0010)]⟩
  | .canRxstatRead t _ => ⟨.port, t, [.can, .out], some [(0xe1000, 0xe4ffc)]⟩
  | .canErrqRead t => ⟨.port, t, [.can, .out], some [(0xe0020, 0xe0020)]⟩
  | .canLogqRead t => ⟨.port, t, [.can, .out], some [(0xe0024, 0xe0024)]⟩
  | .prtTripClear t _ => ⟨.control, t, [.out], some [(0x8002c, 0x8002c)]⟩
  | .weldClear t _ => ⟨.control, t, [.out], some [(0x80038, 0x80038)]⟩
  | .controlSample t _ => ⟨.control, t, stopParts ++ [.cvi, .lan, .fLanes, .fBlocks, .rcd, .rst, .can, .tiles],
     some (replyRegs ++ [(0x14, 0x14), (0x10000, 0x10000), (0x20004, 0x20004), (0x50008, 0x50008), (0x50028, 0x50028), (0x60018, 0x60018),
     (0x60034, 0x60034), (0x60044, 0x60044), (0x70000, 0x70010), (0x7001c, 0x7001c), (0x70024, 0x70024), (0x7002c, 0x70030), (0x80000, 0x80008),
     (0x8002c, 0x8002c), (0x80034, 0x80038), (0x80040, 0x8008c), (0xa0000, 0xa0000), (0xb000c, 0xb0014)])⟩
  | .envelopeBandUpdate t => ⟨.control, t, [.ctl], some []⟩
  | .scanStrobe t _ _ => ⟨.measure, t, stopParts ++ [.cvi, .lan, .fLanes, .fBlocks, .rst, .tiles],
     some (stopRegs ++ [(0x10000, 0x10000), (0xb000c, 0xb0014)])⟩
  | .strobeEmit t => ⟨.measure, t, [.ring, .out], some []⟩
  | .collectFrameSend t => ⟨.measure, t, [.ring, .out], some []⟩
  | .nodeRecord t _ _ _ => ⟨.measure, t, haltParts, some [(0, 0x8fffc), (0xd0000, 0xefffc), (0x100000, 0x11fffc)]⟩
  | .scanEnd t => ⟨.measure, t, haltParts ++ [.thm], some [(0, 0x9fffc), (0xd0000, 0xefffc), (0x100000, 0x11fffc)]⟩
  | .graceExpiry t => ⟨.measure, t, [.ring, .imp, .prt, .jobs, .host, .arrivals, .rerouted, .out],
     some [(0x20004, 0x20004), (0x30004, 0x30004), (0x60044, 0x60044), (0x80040, 0x8008c), (0x100100, 0x1001bc)]⟩
  | .heartbeatEmit t => ⟨.measure, t, [.ring, .out], some []⟩
  | .heartbeatReturn t _ _ => ⟨.measure, t, wakeParts ++ [.prt], some (wakeRegs ++ [(0x3000c, 0x3000c), (0x80040, 0x8008c)])⟩
  | .heartbeatMissed t => ⟨.measure, t, wakeParts ++ [.prt], some (wakeRegs ++ [(0x3000c, 0x3000c), (0x80040, 0x8008c)])⟩
  | .probeReturn t _ _ => ⟨.measure, t, [.ring, .prt], some [(0x30004, 0x30004), (0x3000c, 0x3000c), (0x80040, 0x8008c)]⟩
  | .ringLossOfSignal t _ => ⟨.measure, t, [.ring, .prt], some [(0x30004, 0x30004), (0x3000c, 0x3000c), (0x80040, 0x8008c)]⟩
  | .ringCommandSend t => ⟨.measure, t, [.ring, .out], some []⟩
  | .ringCommandReturn t _ => ⟨.measure, t, [.ring, .acq, .imp, .host, .rerouted, .out], some (replyRegs ++ [(0x30018, 0x30018)])⟩
  | .ringStartup t _ => ⟨.measure, t, [.ring, .acq, .prt, .arrivals, .rerouted, .out],
     some [(0x20004, 0x20004), (0x30004, 0x30008), (0x40014, 0x40014), (0x80040, 0x8008c)]⟩
  | .ringCalWrite t => ⟨.measure, t, [.ring, .acq, .prt, .host, .out],
     some (replyRegs ++ [(0x30000, 0x30004), (0x40014, 0x4001c), (0x80040, 0x8008c)])⟩
  | .ringLenChange t _ => ⟨.measure, t, [.ring, .acq, .prt, .host, .out],
     some (replyRegs ++ [(0x30000, 0x30004), (0x40014, 0x4001c), (0x80040, 0x8008c)])⟩
  | .balancePolicyPlan t => ⟨.measure, t, [.ring, .acq], some []⟩
  | .balSourceChange t _ _ => ⟨.measure, t, [.ring, .acq, .out], some [(0x40020, 0x40020)]⟩
  | .openWireStart t _ => ⟨.measure, t, [.ring, .acq, .out], some [(0x40014, 0x40014), (0x40028, 0x40028)]⟩
  | .openWirePeriodic t => ⟨.measure, t, [.ring, .acq], some [(0x40014, 0x40014)]⟩
  | .openWireRunEnd t => ⟨.measure, t, [.ring, .acq, .arrivals, .rerouted], some [(0x20004, 0x20004), (0x40014, 0x40014), (0x40200, 0x4029c)]⟩
  | .windowedValueReady t => ⟨.measure, t, [.cvi, .rcd], some [(0x50010, 0x50024)]⟩
  | .gridMillisecond t => ⟨.measure, t, [], some [(0x50008, 0x50008)]⟩
  | .azinitEnd t => ⟨.measure, t, [.cvi], some [(0x50008, 0x50008)]⟩
  | .shuntHandover t => ⟨.measure, t, [.cvi, .prt, .fSwaps, .arrivals, .rerouted], some [(0x20004, 0x20004), (0x50008, 0x50010), (0x80040, 0x8008c)]⟩
  | .shuntAzShort t => ⟨.measure, t, [.cvi], some []⟩
  | .shuntAzOffsetEnd t => ⟨.measure, t, [.cvi], some []⟩
  | .shuntAzReconnect t => ⟨.measure, t, [.cvi], some []⟩
  | .shuntForceWrite t _ => ⟨.measure, t, [.cvi, .prt, .out], some [(0x50000, 0x50000), (0x50008, 0x50008), (0x80040, 0x8008c)]⟩
  | .insLegSwitch t => ⟨.measure, t, [.cvi], some [(0x50040, 0x50040)]⟩
  | .insHalfPeriodEnd t => ⟨.measure, t, [.cvi, .prt, .rcd, .arrivals, .rerouted], some [(0x20004, 0x20004), (0x50034, 0x50040), (0x80040, 0x8008c)]⟩
  | .estimatorUpdate t _ => ⟨.measure, t, [.est, .lrn, .ctl, .jobs, .host, .arrivals, .rerouted, .out],
     some [(0x20004, 0x20004), (0x60018, 0x60018), (0x60034, 0x60038), (0x7001c, 0x7001c), (0x70024, 0x70024), (0x7002c, 0x7002c), (0x100100,
     0x1001bc)]⟩
  | .stringValuesUpdate t => ⟨.measure, t, [.prt, .iic], some [(0x60020, 0x6002c), (0x6003c, 0x6003c), (0x80040, 0x8008c)]⟩
  | .learnIntervalExpiry t => ⟨.measure, t, [.lrn, .arrivals, .rerouted], some [(0x20004, 0x20004), (0x60034, 0x60034)]⟩
  | .estSnapshotRead t _ => ⟨.opcode, t, replyParts ++ [.est], some replyRegs⟩
  | .snapshotCapture t => ⟨.measure, t, [.est, .host, .rerouted, .out], some replyRegs⟩
  | .snapshotCopyExpire t => ⟨.measure, t, [.est], some []⟩
  | .estRestore t _ => ⟨.opcode, t, replyParts ++ [.est], some replyRegs⟩
  | .restoreApply t => ⟨.measure, t, [.est, .lrn, .ctl, .jobs, .host, .arrivals, .rerouted, .out],
     some (replyRegs ++ [(0x20004, 0x20004), (0x60018, 0x60018), (0x60034, 0x60038), (0x7001c, 0x7001c), (0x70024, 0x70024), (0x7002c, 0x7002c)])⟩
  | .restoreDiscard t => ⟨.measure, t, [.est], some []⟩
  | .restGrant t _ => ⟨.opcode, t, replyParts ++ [.est, .ctl], some (replyRegs ++ [(0x60018, 0x60018)])⟩
  | .restWindowEnd t => ⟨.measure, t, [.est, .lrn, .arrivals, .rerouted], some [(0x20004, 0x20004), (0x60018, 0x60018), (0x60034, 0x60034)]⟩
  | .estResetCell t _ => ⟨.opcode, t, replyParts ++ [.est], some replyRegs⟩
  | .learnStart t _ => ⟨.opcode, t, replyParts ++ [.lrn, .jobs], some (replyRegs ++ [(0x60034, 0x60034)])⟩
  | .learnPhaseEnd t => ⟨.measure, t, [.est, .lrn, .ctl, .jobs, .host, .rerouted, .out],
     some [(0x60018, 0x60018), (0x60034, 0x60034), (0x7001c, 0x7001c), (0x70024, 0x70024), (0x7002c, 0x7002c), (0x100100, 0x1001bc)]⟩
  | .learnPhaseTimeout t => ⟨.measure, t, [.est, .lrn, .ctl, .jobs, .host, .arrivals, .rerouted, .out],
     some [(0x20004, 0x20004), (0x60018, 0x60018), (0x60034, 0x60034), (0x7001c, 0x7001c), (0x70024, 0x70024), (0x7002c, 0x7002c), (0x100100,
     0x1001bc)]⟩
  | .impedanceSweep t _ => ⟨.opcode, t, replyParts ++ [.imp, .jobs], some (replyRegs ++ [(0x60044, 0x60044), (0x60080, 0x6009c), (0x64000, 0x6dffc)])⟩
  | .impPointStart t => ⟨.measure, t, [.ring, .imp, .jobs, .host, .arrivals, .rerouted, .out],
     some [(0x20004, 0x20004), (0x60044, 0x60044), (0x64000, 0x6dffc), (0x100100, 0x1001bc)]⟩
  | .impSettlingEnd t => ⟨.measure, t, [.imp], some [(0x60044, 0x60044)]⟩
  | .impCorrelationEnd t => ⟨.measure, t, [.ring, .imp], some [(0x60044, 0x60044)]⟩
  | .impUploadDone t => ⟨.measure, t, [.imp], some []⟩
  | .impFitDone t => ⟨.measure, t, [.ring, .est, .imp, .jobs, .host, .arrivals, .rerouted, .out],
     some [(0x20004, 0x20004), (0x60044, 0x60044), (0x60080, 0x600bc), (0x64000, 0x6ea00), (0x100100, 0x1001bc)]⟩
  | .impAutoSweepDue t => ⟨.measure, t, [.imp], some [(0x60044, 0x60044), (0x60080, 0x6009c), (0x64000, 0x6dffc)]⟩
  | .tintAgeTick t => ⟨.measure, t, [], some [(0x6e000, 0x6e9fc)]⟩
  | .loopStartWrite t => ⟨.control, t, [.ctl, .lan, .out], some [(0x70000, 0x70004)]⟩
  | .loopStopWrite t => ⟨.control, t, [.ctl, .lan, .out], some [(0x70000, 0x70004)]⟩
  | .loopWarmupEnd t => ⟨.control, t, [.ctl], some [(0x70004, 0x70004)]⟩
  | .convEnFall t => ⟨.control, t, [.ctl], some []⟩
  | .gainSwap t => ⟨.control, t, [.ring, .imp, .ctl, .jobs, .host, .arrivals, .rerouted, .out],
     some (replyRegs ++ [(0x20004, 0x20004), (0x60044, 0x60044), (0x70008, 0x70008)])⟩
  | .netSetpointTimeout t => ⟨.control, t, [], some [(0x7002c, 0x7002c)]⟩
  | .analogSetpointOverrange t => ⟨.control, t, [], some [(0x7002c, 0x7002c)]⟩
  | .pulseSetpointFault t => ⟨.control, t, [], some [(0x7002c, 0x7002c)]⟩
  | .setpointFaultClear t _ => ⟨.control, t, [], some [(0x7002c, 0x7002c)]⟩
  | .overcurrentComparator t _ => ⟨.control, t, stopParts, some stopRegs⟩
  | .ocHoldCheck t _ => ⟨.control, t, stopParts, some stopRegs⟩
  | .gateFault t _ => ⟨.control, t, stopParts, some stopRegs⟩
  | .barrierLoss t _ => ⟨.control, t, stopParts ++ [.cvi], some (stopRegs ++ [(0x50008, 0x50008), (0x50010, 0x50010)])⟩
  | .barrierLossCoilTimeout t => ⟨.control, t, stopParts,
     some [(0x20004, 0x20004), (0x60018, 0x60018), (0x60034, 0x60034), (0x60044, 0x60044), (0x7001c, 0x7001c), (0x70024, 0x70024), (0x7002c,
     0x7002c), (0x80038, 0x80038), (0x80040, 0x8008c), (0x100100, 0x1001bc)]⟩
  | .ctrlClockLoss t => ⟨.control, t, haltParts, some haltRegs⟩
  | .safeClockLoss t => ⟨.control, t, haltParts,
     some (wakeRegs ++ [(0x60018, 0x60018), (0x60034, 0x60034), (0x60044, 0x60044), (0x70000, 0x70004), (0x7001c, 0x7001c), (0x70024, 0x70024),
     (0x7002c, 0x7002c), (0x80038, 0x80038), (0x80040, 0x8008c)])⟩
  | .trip t _ => ⟨.opcode, t, stopParts ++ [.bay, .listen], some (stopRegs ++ [(0x24, 0x24)])⟩
  | .stringConnect t _ _ => ⟨.opcode, t, stopParts ++ [.saf, .listen], some (stopRegs ++ [(0x24, 0x24), (0xa0000, 0xa0000), (0xa0010, 0xa0010)])⟩
  | .stringDisconnect t _ => ⟨.opcode, t, stopParts ++ [.listen], some (stopRegs ++ [(0x24, 0x24), (0xa0000, 0xa0000)])⟩
  | .closeSequenceTimer t => ⟨.control, t, stopParts, some (stopRegs ++ [(0xa0000, 0xa0000)])⟩
  | .openSequenceTimer t => ⟨.control, t, stopParts, some (stopRegs ++ [(0xa0000, 0xa0000)])⟩
  | .autoOpenStart t => ⟨.control, t, stopParts, some (stopRegs ++ [(0xa0000, 0xa0000)])⟩
  | .contactorFeedbackChange t _ _ => ⟨.control, t, stopParts ++ [.cvi], some (stopRegs ++ [(0x50040, 0x50040), (0xa0000, 0xa0000)])⟩
  | .coilPullEnd t _ => ⟨.control, t, [.prt], some []⟩
  | .coilCurrentFault t _ _ => ⟨.control, t, [.prt], some [(0x80038, 0x80038)]⟩
  | .vcoilLow t => ⟨.control, t, [.prt], some [(0x80038, 0x80038)]⟩
  | .dieSensorSample t _ => ⟨.control, t, haltParts ++ [.thm], some [(0, 0x9fffc), (0xd0000, 0xefffc), (0x100000, 0x11fffc)]⟩
  | .dieCrossCheck t => ⟨.control, t, [.prt, .thm, .arrivals, .rerouted], some [(0x20004, 0x20004), (0x80040, 0x8008c), (0x90000, 0x90008)]⟩
  | .neighbourTimeout t => ⟨.control, t, [.prt, .thm], some [(0x80040, 0x8008c), (0x90000, 0x90004)]⟩
  | .compensationUpdate t => ⟨.control, t, [.thm], some [(0xd0008, 0xd0008)]⟩
  | .thermistorCrossCheck t => ⟨.control, t, [.thm, .arrivals, .rerouted], some [(0x20004, 0x20004), (0x90004, 0x90004), (0x90100, 0x901fc)]⟩
  | .valveUpdate t => ⟨.control, t, [.thm, .can], some [(0x90024, 0x90028), (0xe000c, 0xe000c), (0xe001c, 0xe001c), (0x100100, 0x1001bc)]⟩
  | .chillerRequestSend t => ⟨.control, t, [.thm, .can], some [(0xe000c, 0xe000c), (0xe001c, 0xe001c), (0x100100, 0x1001bc)]⟩
  | .safetyInputSample t _ => ⟨.control, t, stopParts ++ [.saf], some (stopRegs ++ [(0xa0000, 0xa0004), (0xa0014, 0xa0014)])⟩
  | .cat1GateBackstop t => ⟨.control, t, stopParts, some (stopRegs ++ [(0xa0000, 0xa0000)])⟩
  | .cat1CoilBackstop t => ⟨.control, t, stopParts ++ [.saf],
     some [(0x20004, 0x20004), (0x60018, 0x60018), (0x60034, 0x60034), (0x60044, 0x60044), (0x7001c, 0x7001c), (0x70024, 0x70024), (0x7002c,
     0x7002c), (0x80038, 0x80038), (0x80040, 0x8008c), (0x100100, 0x1001bc)]⟩
  | .estopDiscrepancyTimeout t => ⟨.control, t, stopParts ++ [.saf], some (stopRegs ++ [(0xa0000, 0xa0000), (0xa0010, 0xa0010)])⟩
  | .safetyHealthyTimer t => ⟨.control, t, [], some [(0xa0000, 0xa0000)]⟩
  | .safeReset t _ => ⟨.opcode, t, replyParts, some (replyRegs ++ [(0xa0000, 0xa0000), (0xa0010, 0xa0010)])⟩
  | .panelCloseHold t _ => ⟨.control, t, stopParts ++ [.saf], some (stopRegs ++ [(0xa0000, 0xa0000), (0xa0010, 0xa0010)])⟩
  | .switchReadCycle t _ _ _ => ⟨.control, t, stopParts ++ [.saf], some (stopRegs ++ [(0xa0000, 0xa0010)])⟩
  | .coilOffPulseTest t _ _ => ⟨.control, t, stopParts ++ [.saf], some (stopRegs ++ [(0xa0000, 0xa0000), (0xa0010, 0xa0010)])⟩
  | .convEnReadback t _ => ⟨.control, t, stopParts ++ [.saf], some (stopRegs ++ [(0xa0000, 0xa0000), (0xa0010, 0xa0010)])⟩
  | .inputStageTest t _ _ => ⟨.control, t, stopParts ++ [.saf], some (stopRegs ++ [(0xa0000, 0xa0000), (0xa0010, 0xa0010)])⟩
  | .ganderSelfTest t _ => ⟨.control, t, haltParts ++ [.saf], some [(0, 0x8fffc), (0xa0000, 0xafffc), (0xd0000, 0xefffc), (0x100000, 0x11fffc)]⟩
  | .ganderStartComplete t _ _ _ => ⟨.control, t, haltParts ++ [.saf],
     some [(0, 0x8fffc), (0xa0000, 0xafffc), (0xd0000, 0xefffc), (0x100000, 0x11fffc)]⟩
  | .laneWatchdogTimeout t _ => ⟨.control, t, stopParts ++ [.lan, .fLanes, .fBlocks, .rst, .tiles],
     some (stopRegs ++ [(0x10000, 0x10000), (0xb000c, 0xb0014)])⟩
  | .switchoverTilesVerified t => ⟨.control, t, [.est, .lan, .fLanes, .fBlocks], some [(0xb000c, 0xb000c)]⟩
  | .switchoverShadowStart t => ⟨.control, t, [.lan], some [(0xb000c, 0xb000c)]⟩
  | .tokenGrant t => ⟨.control, t, [.ring, .imp, .lan, .fLanes, .fBlocks, .jobs, .host, .arrivals, .rerouted, .out],
     some [(0x20004, 0x20004), (0x60044, 0x60044), (0xb000c, 0xb0010), (0x100100, 0x1001bc)]⟩
  | .switchoverAbandon t => ⟨.control, t, stopParts ++ [.lan, .fLanes, .fBlocks, .rst, .tiles],
     some (stopRegs ++ [(0x10000, 0x10000), (0xb000c, 0xb0014)])⟩
  | .laneSelftestEnd t _ _ _ _ => ⟨.control, t, [.ring, .imp, .lan, .fLanes, .fTiles, .fBlocks, .jobs, .host, .arrivals, .rerouted, .out],
     some [(0x20004, 0x20004), (0x60044, 0x60044), (0xb000c, 0xb000c), (0x100100, 0x1001bc)]⟩
  | .muleSelftestDue t => ⟨.control, t, [.lan, .fLanes, .fBlocks], some [(0xb000c, 0xb000c)]⟩
  | .supervisorHeartbeatTimeout t => ⟨.control, t, allButFlash, none⟩
  | .supervisorResumeTimeout t => ⟨.control, t, [.prt], some [(0x80040, 0x8008c)]⟩
  | .supervisorResumed x => ⟨.control, x.t, [.ring, .acq, .imp, .prt, .lan, .fTiles, .host, .tiles, .arrivals, .rerouted, .out],
     some (replyRegs ++ [(0x30018, 0x30018), (0x80040, 0x8008c), (0x20004, 0x20004), (0x100004, 0x100004), (0x100008, 0x100008)])⟩
  | .healthHourlyWrite x => ⟨.control, x.t, [.fLanes, .fBlocks, .arrivals, .rerouted], some [(0x20004, 0x20004)]⟩
  | .laneStatus t _ => ⟨.opcode, t, replyParts, some replyRegs⟩
  | .laneRotate t _ => ⟨.opcode, t, replyParts, some (replyRegs ++ [(0xb0008, 0xb0008)])⟩
  | .selftest t _ => ⟨.opcode, t, replyParts ++ [.lan, .fLanes, .fBlocks, .jobs], some (replyRegs ++ [(0xb000c, 0xb000c)])⟩
  | .discoverySend t => ⟨.control, t, [.bay, .out], some [(0xc0000, 0xc0000)]⟩
  | .discoveryReceive t _ _ => ⟨.control, t, [.bay, .arrivals, .rerouted, .out], some [(0x20004, 0x20004), (0xc0000, 0xc0000), (0xc0010, 0xc0010)]⟩
  | .dispatchCycleStart t => ⟨.control, t, [.bay], some [(0x80040, 0x8008c), (0x90010, 0x90014), (0xc0000, 0xc0000), (0xc0020, 0xc0020)]⟩
  | .reportSend t => ⟨.control, t, [.bay, .out], some []⟩
  | .reportReceive t _ _ _ => ⟨.control, t, [.bay, .out], some []⟩
  | .allocationCompute t => ⟨.control, t, [.bay, .arrivals, .rerouted, .out],
     some [(0x20004, 0x20004), (0xc0000, 0xc0000), (0xc0010, 0xc001c), (0xc0028, 0xc002c)]⟩
  | .allocationReceive t _ _ => ⟨.control, t, [.bay, .out], some [(0xc0000, 0xc0000), (0xc0028, 0xc002c)]⟩
  | .allocationApply t => ⟨.control, t, [.est, .ctl, .prt, .thm, .bay],
     some [(0x60018, 0x60018), (0x7002c, 0x7002c), (0x80040, 0x8008c), (0x90000, 0x90004), (0xc0024, 0xc0024)]⟩
  | .allocationTimeout t => ⟨.control, t, [.prt, .bay], some [(0x80040, 0x8008c)]⟩
  | .pbayTimeout t => ⟨.control, t, [.bay], some [(0xc0010, 0xc0014)]⟩
  | .bellwetherStartTimeout t => ⟨.control, t, [.bay], some [(0xc0000, 0xc0000)]⟩
  | .alternateTakeover t => ⟨.control, t, [.bay, .arrivals, .rerouted], some [(0x20004, 0x20004), (0xc0010, 0xc0010)]⟩
  | .handbackWrite t => ⟨.control, t, [.bay, .out], some [(0xc0008, 0xc0008)]⟩
  | .baySetpoint t _ => ⟨.opcode, t, replyParts ++ [.bay], some (replyRegs ++ [(0xc0010, 0xc0014)])⟩
  | .bayMap t _ => ⟨.opcode, t, replyParts ++ [.bay, .cfg], some (replyRegs ++ [(0xc0010, 0xc0010)])⟩
  | .relay t _ => ⟨.opcode, t, replyParts ++ [.bay], some replyRegs⟩
  | .relayTimeout t => ⟨.port, t, [.host, .rerouted, .out], some replyRegs⟩
  | .packetReceive t _ _ _ => ⟨.port, t, stopParts ++ [.bay, .listen], some (stopRegs ++ [(0x24, 0x24)])⟩
  | .spiWrite t _ => ⟨.port, t, stopParts ++ [.bay, .listen], some (stopRegs ++ [(0x24, 0x24)])⟩
  | .spiStatus t => ⟨.port, t, [.out], some []⟩
  | .spiRead t _ => ⟨.port, t, [.ring, .cvi, .est, .lrn, .thm, .lan, .fRec, .fLanes, .fBlocks, .rcd, .host, .mode, .listen, .rst, .time, .eth, .can, .iic, .rerouted, .out],
     some [(0x24, 0x24), (0x10004, 0x10004), (0x20008, 0x20008), (0x30004, 0x30004), (0x60018, 0x60018), (0x90024, 0x90024), (0xb0008, 0xb0008), (0xb000c, 0xb000c), (0xd0028, 0xd0028), (0xe000c, 0xe000c), (0xf000c, 0xf000c), (0x100100, 0x100100)]⟩
  | .hello t _ => ⟨.opcode, t, replyParts, some replyRegs⟩
  | .auth t _ => ⟨.opcode, t, replyParts ++ [.arrivals], some (replyRegs ++ [(0x20004, 0x20004)])⟩
  | .bye t _ => ⟨.opcode, t, replyParts, some replyRegs⟩
  | .ping t _ => ⟨.opcode, t, replyParts, some replyRegs⟩
  | .authTimeout t _ => ⟨.port, t, [.cfg, .upd, .jobs, .host], some [(0x120000, 0x120004)]⟩
  | .sessionIdleTimeout t _ => ⟨.port, t, [.cfg, .upd, .jobs, .host], some [(0x120000, 0x120004)]⟩
  | .helloLockoutExpire t _ => ⟨.port, t, [.host], some []⟩
  | .provisioningContextExpire t _ => ⟨.port, t, [.host], some []⟩
  | .eventReport t _ => ⟨.port, t, [.host, .arrivals, .rerouted, .out], some [(0x100100, 0x1001bc)]⟩
  | .eventResend t _ => ⟨.port, t, [.host, .out], some []⟩
  | .jobTableExpire t _ => ⟨.port, t, [.jobs], some []⟩
  | .getStatus t _ => ⟨.opcode, t, replyParts, some replyRegs⟩
  | .getCells t _ => ⟨.opcode, t, replyParts, some replyRegs⟩
  | .getString t _ => ⟨.opcode, t, replyParts, some replyRegs⟩
  | .getLimits t _ => ⟨.opcode, t, replyParts, some replyRegs⟩
  | .getHealth t _ => ⟨.opcode, t, replyParts, some replyRegs⟩
  | .cfgWrite t _ => ⟨.opcode, t, replyParts ++ [.cfg], some replyRegs⟩
  | .cfgRead t _ => ⟨.opcode, t, replyParts, some replyRegs⟩
  | .cfgCommit t _ _ => ⟨.opcode, t, replyParts ++ [.ring, .acq, .cvi, .prt, .thm, .bay, .cfg, .fItems, .fKeys, .fTables, .fBlocks, .ptp, .can, .iic, .arrivals],
     none⟩
  | .cfgDiscard t _ => ⟨.opcode, t, replyParts ++ [.cfg], some replyRegs⟩
  | .tableLoad t _ => ⟨.opcode, t, replyParts ++ [.cfg], some replyRegs⟩
  | .coefLoad t _ => ⟨.opcode, t, replyParts ++ [.ctl, .cfg], some (replyRegs ++ [(0x70008, 0x70008)])⟩
  | .loadAssemblyTimeout t _ => ⟨.module, t, [.cfg], some []⟩
  | .setpoint t _ => ⟨.opcode, t, replyParts ++ [.ctl], some (replyRegs ++ [(0x7002c, 0x7002c)])⟩
  | .setpointSource t _ => ⟨.opcode, t, replyParts ++ [.ctl], some (replyRegs ++ [(0x7001c, 0x7001c), (0x70024, 0x70024)])⟩
  | .balancePlan t _ => ⟨.opcode, t, replyParts ++ [.ring], some replyRegs⟩
  | .park t _ => ⟨.opcode, t, replyParts ++ [.ring, .cvi, .est, .lrn, .thm, .lan, .bay, .cfg, .fRec, .fLanes, .fBlocks, .rcd, .upd, .jobs, .mode, .rst, .time, .eth, .can, .iic],
     some (replyRegs ++ [(0x10004, 0x10004), (0x20008, 0x20008), (0x30004, 0x30004), (0x60018, 0x60018), (0x90024, 0x90024), (0xb0008, 0xb000c),
     (0xd0028, 0xd002c), (0xe000c, 0xe000c), (0xf000c, 0xf000c), (0x120000, 0x120000), (0x120004, 0x120004)])⟩
  | .wake t _ => ⟨.opcode, t, wakeParts, some wakeRegs⟩
  | .jobStatus t _ => ⟨.opcode, t, replyParts ++ [.jobs], some replyRegs⟩
  | .jobCancel t _ => ⟨.opcode, t, stopParts ++ [.cvi, .lan, .fLanes, .fBlocks, .listen, .tiles],
     some (replyRegs ++ [(0x20004, 0x20004), (0x60018, 0x60018), (0x60034, 0x60034), (0x60044, 0x60044), (0x7001c, 0x7001c), (0x70024, 0x70024),
     (0x7002c, 0x7002c), (0x80038, 0x80038), (0x80040, 0x8008c), (0xb000c, 0xb000c), (0x70000, 0x70000), (0x70004, 0x70004), (0x8002c, 0x8002c), (0x80034, 0x80034), (0xa0000, 0xa0000)])⟩
  | .eventSubscribe t _ => ⟨.opcode, t, replyParts, some replyRegs⟩
  | .eventAck t _ => ⟨.opcode, t, replyParts, some replyRegs⟩
  | .attnClaim t _ => ⟨.opcode, t, replyParts ++ [.arrivals, .service], some (replyRegs ++ [(0x20004, 0x20004)])⟩
  | .attnEoi t _ => ⟨.opcode, t, replyParts ++ [.service], some replyRegs⟩
  | .recFreeze t _ => ⟨.opcode, t, replyParts ++ [.rcd], some (replyRegs ++ [(0x110000, 0x110004)])⟩
  | .recRead t _ => ⟨.opcode, t, replyParts ++ [.rcd], some replyRegs⟩
  | .recUnfreeze t _ => ⟨.opcode, t, replyParts ++ [.rcd], some (replyRegs ++ [(0x110000, 0x110004)])⟩
  | .updBegin t _ => ⟨.opcode, t, replyParts ++ [.fSlots, .upd], some (replyRegs ++ [(0x120000, 0x120004)])⟩
  | .updData t _ => ⟨.opcode, t, replyParts ++ [.fBlocks, .upd], some (replyRegs ++ [(0x120000, 0x120004)])⟩
  | .updApply t _ => ⟨.opcode, t, replyParts ++ [.upd, .jobs], some (replyRegs ++ [(0x120000, 0x120004)])⟩
  | .updApplyDone t done =>
    if done.cut.isSome then ⟨.module, t, allButFlash ++ [.fSlots, .fOpt, .fBlocks], none⟩
    else ⟨.module, t, [.fSlots, .fOpt, .fBlocks, .upd, .jobs, .host, .arrivals, .rerouted, .out],
     some [(0x1000c, 0x1000c), (0x20004, 0x20004), (0x100100, 0x1001bc), (0x120000, 0x120004)]⟩
  | .updConfirm t _ => ⟨.opcode, t, replyParts ++ [.fSlots, .upd, .arrivals], some (replyRegs ++ [(0x20004, 0x20004), (0x120000, 0x120000)])⟩
  | .updAbort t _ => ⟨.opcode, t, replyParts ++ [.upd, .jobs], some (replyRegs ++ [(0x120000, 0x120004)])⟩
  | .updTrialExpire t => ⟨.module, t, [.fSlots, .arrivals, .rerouted], some [(0x20004, 0x20004), (0x120000, 0x120000)]⟩
  | .calRead t _ => ⟨.opcode, t, replyParts, some replyRegs⟩
  | .calWrite t r =>
    if r.flash.cut.isSome then ⟨.opcode, t, allButFlash ++ [.fCal, .fBlocks], none⟩
    else ⟨.opcode, t, replyParts ++ [.cvi, .fCal, .fBlocks, .arrivals], some (replyRegs ++ [(0x20004, 0x20004), (0x50044, 0x50044)])⟩
  | .calMeasure t _ => ⟨.opcode, t, replyParts ++ [.cvi, .jobs], some (replyRegs ++ [(0x50008, 0x50008)])⟩
  | .calMeasureDone t => ⟨.module, t, [.cvi, .jobs, .host, .rerouted, .out], some [(0x100100, 0x1001bc)]⟩
  | .timeGet t _ => ⟨.opcode, t, replyParts, some replyRegs⟩
  | .timeStep t _ => ⟨.opcode, t, replyParts ++ [.ring, .cvi, .est, .imp, .ctl, .bay, .time, .ptp],
     some (replyRegs ++ [(0x14, 0x14), (0xd0004, 0xd0004)])⟩
  | .timeStatus t _ => ⟨.opcode, t, replyParts, some replyRegs⟩
  | .safeStatus t _ => ⟨.opcode, t, replyParts, some replyRegs⟩
  | .resetSystem t _ => ⟨.opcode, t, replyParts ++ [.rst], some replyRegs⟩
  | .resetSupervisor t _ => ⟨.opcode, t, replyParts ++ [.rst], some replyRegs⟩
  | .resetLane t _ => ⟨.opcode, t, replyParts ++ [.rst], some replyRegs⟩
  | .resetPort t _ => ⟨.opcode, t, replyParts ++ [.rst], some replyRegs⟩
  | .tileScrub t _ => ⟨.opcode, t, replyParts ++ [.jobs, .tiles], some replyRegs⟩
  | .traceStop t _ => ⟨.opcode, t, replyParts, some replyRegs⟩
  | .traceStart t _ => ⟨.opcode, t, replyParts, some replyRegs⟩
  | .traceRead t _ => ⟨.opcode, t, replyParts, some replyRegs⟩
  | .ethLinkLoss t _ => ⟨.port, t, [.rst, .ptp, .arrivals, .rerouted], some [(0x20004, 0x20004), (0xd0004, 0xd0004), (0xd0028, 0xd002c)]⟩
  | .ethLinkUp t _ => ⟨.port, t, [], some [(0xd0028, 0xd002c)]⟩
  | .switchFrameForward t _ _ _ => ⟨.port, t, [.bay, .eth, .arrivals, .rerouted, .out], some [(0x20004, 0x20004), (0xc0000, 0xc0000), (0xc0010, 0xc0010)]⟩
  | .macEntryAgeing t => ⟨.port, t, [.eth], some []⟩
  | .arpRequest t _ _ _ _ => ⟨.port, t, [.out], some []⟩
  | .neighbourSolicitation t _ _ _ => ⟨.port, t, [.out], some []⟩
  | .icmpEcho t _ _ _ _ _ => ⟨.port, t, [.out], some []⟩
  | .ptpAnnounce t _ _ => ⟨.port, t, [.ptp, .arrivals, .rerouted], some [(0x20004, 0x20004), (0xd0004, 0xd0004)]⟩
  | .ptpSync t _ _ => ⟨.port, t, [.ptp], some []⟩
  | .ptpFollowUp t _ _ => ⟨.port, t, [.ring, .cvi, .est, .imp, .ctl, .bay, .time, .ptp, .arrivals, .rerouted],
     some [(0x14, 0x14), (0x20004, 0x20004), (0xd0004, 0xd000c)]⟩
  | .ptpDelayReqSend t _ => ⟨.port, t, [.ptp, .eth, .out], some [(0xd0030, 0xd0030), (0x100100, 0x1001bc)]⟩
  | .ptpDelayResp t _ _ => ⟨.port, t, [.ptp], some []⟩
  | .ptpPdelayReq t _ _ => ⟨.port, t, [.ptp, .eth, .out], some [(0xd0030, 0xd0030), (0x100100, 0x1001bc)]⟩
  | .ptpPdelayResp t _ _ _ => ⟨.port, t, [.ptp], some []⟩
  | .ptpSyncTimeout t => ⟨.port, t, [.ptp, .arrivals, .rerouted], some [(0x20004, 0x20004), (0xd0004, 0xd0008)]⟩
  | .txTimestampDrain t _ => ⟨.port, t, [.ptp, .eth, .out], some []⟩
  | .canPortRestart t => ⟨.port, t, [.can], some [(0xe000c, 0xe0010), (0x100100, 0x1001bc)]⟩
  | .canBusIntegration t => ⟨.port, t, [.can], some []⟩
  | .canFrameReceive t _ _ => ⟨.port, t, [.bay, .can], some [(0xc0010, 0xc0014), (0xe0004, 0xe0010), (0xe001c, 0xe001c), (0x100100, 0x1001bc)]⟩
  | .canAbdDwellTimeout t => ⟨.port, t, [.can], some [(0xe000c, 0xe000c), (0x100100, 0x1001bc)]⟩
  | .canError t _ _ _ _ => ⟨.port, t, [.can, .arrivals, .rerouted],
     some [(0x20004, 0x20004), (0xe000c, 0xe0010), (0x100100, 0x1001bc), (0xe001c, 0xe001c)]⟩
  | .canRecoverWrite t => ⟨.port, t, [.out], some [(0xe000c, 0xe000c), (0xe0014, 0xe0014)]⟩
  | .canRecoveryComplete t => ⟨.port, t, [.can, .arrivals, .rerouted], some [(0x20004, 0x20004), (0xe000c, 0xe0010), (0x100100, 0x1001bc)]⟩
  | .canFrameTransmitted t _ => ⟨.port, t, [.can, .out], some [(0xe000c, 0xe0010), (0x100100, 0x1001bc)]⟩
  | .canLimitFrame t => ⟨.port, t, [.can], some [(0x80004, 0x80008), (0xe000c, 0xe000c), (0xe001c, 0xe001c), (0x100100, 0x1001bc)]⟩
  | .canTxgo t _ => ⟨.port, t, [.can, .out], some [(0xe000c, 0xe000c), (0xe001c, 0xe001c), (0xe002c, 0xe002c), (0x100100, 0x1001bc)]⟩
  | .iicTargetWrite t _ _ => ⟨.port, t, [.iic], some [(0xf000c, 0xf0010), (0xf0080, 0xf00fc)]⟩
  | .iicTargetRead t _ => ⟨.port, t, [.iic, .out], some [(0xf000c, 0xf000c)]⟩
  | .iicMailboxDrain t => ⟨.port, t, [.iic, .arrivals, .rerouted], some [(0x20004, 0x20004)]⟩
  | .iicBusFree x => ⟨.port, x.t, [.iic], some [(0xf000c, 0xf000c), (0xf0014, 0xf0014)]⟩
  | .iicAttnCallEnd t _ => ⟨.port, t, [.iic, .arrivals, .rerouted, .out], some [(0x20004, 0x20004), (0xf000c, 0xf0014)]⟩
  | .iicArbitrationLost t _ _ => ⟨.port, t, [.iic, .arrivals, .rerouted], some [(0x20004, 0x20004), (0xf000c, 0xf0014)]⟩
  | .iicStretchTimeout t _ => ⟨.port, t, [.iic, .arrivals, .rerouted], some [(0x20004, 0x20004), (0xf000c, 0xf0014)]⟩
  | .iicAttnSchedule t => ⟨.port, t, [.iic], some [(0xf000c, 0xf000c), (0xf0014, 0xf0014)]⟩
  | .evrTgtWrite t _ _ => ⟨.port, t, [.arrivals, .out], some [(0x20100, 0x202fc)]⟩
  | .evrHoldWrite t _ => ⟨.port, t, [.out], some [(0x20008, 0x20008)]⟩
  | .evrSleepWrite t _ => ⟨.port, t, [.out], some [(0x2000c, 0x2000c)]⟩
  | .evrRedirectTimeout t _ => ⟨.port, t, [.arrivals, .rerouted], some [(0x20004, 0x20004)]⟩
  | .routerTestEnd t => ⟨.port, t, [], some [(0x20004, 0x20004)]⟩
  | .powerOnReset x => ⟨.module, x.t, allButFlash, none⟩
  | .resetPin x => ⟨.module, x.t, allButFlash, none⟩
  | .supervisorWatchdogTimeout t => ⟨.module, t, allButFlash, none⟩
  | .watchdogKick t => ⟨.module, t, [.rst], some []⟩
  | .startTimeout t => ⟨.module, t, allButFlash, none⟩
  | .resetRelease t _ _ => ⟨.module, t, stopParts ++ [.fRec, .rcd, .mode, .rst, .time],
     some (stopRegs ++ [(0x10010, 0x10010), (0xc0000, 0xc0000), (0x110010, 0x110014)])⟩
  | .firmwareStart t => ⟨.module, t, stopParts ++ [.acq, .cvi, .lan, .bay, .fSlots, .fRec, .fLanes, .fBlocks, .rcd, .upd, .mode, .rst, .time, .ptp, .eth, .can],
     none⟩
  | .clockGood t _ => ⟨.module, t, [.lan, .fSlots, .fOpt, .fBlocks, .mode, .rst],
     some [(0x20, 0x20), (0x10004, 0x10004), (0x1000c, 0x1000c), (0x20004, 0x20004)]⟩
  | .clockGoodTimeout t _ _ => ⟨.module, t, haltParts ++ [.lan, .fLanes, .fBlocks, .tiles],
     some [(0, 0x8fffc), (0xb0000, 0xbfffc), (0xd0000, 0xefffc), (0x100000, 0x11fffc)]⟩
  | .clockLoss t _ _ => ⟨.module, t, allButFlash ++ [.fRec, .fLanes, .fBlocks], none⟩
  | .debugReleaseRequest t _ => ⟨.module, t, [.fSlots, .fOpt, .fBlocks, .mode, .rst],
     some [(0x10004, 0x10004), (0x20, 0x20), (0x1000c, 0x1000c), (0x20004, 0x20004)]⟩
  | .vauxMeasure t _ => ⟨.module, t, [], some [(0x10024, 0x10024)]⟩
  | .vauxLoss x => ⟨.module, x.t, allButFlash ++ [.fOpt, .fBlocks], none⟩
  | .aoCoarseTimeUpdate t => ⟨.module, t, [.time], some []⟩
  | .wakeEthEnergy t _ => ⟨.module, t, [.listen], some []⟩
  | .wakeSpiCs t => ⟨.module, t, [.listen], some []⟩
  | .wakeCanDominant t => ⟨.module, t, wakeParts, some wakeRegs⟩
  | .wakeIicAddress x => ⟨.module, x.t, wakeParts, some wakeRegs⟩
  | .wakeTimer t => ⟨.module, t, wakeParts, some wakeRegs⟩
  | .listenWindowExpire t => ⟨.module, t, [.listen], some []⟩
  | .linkTrainingAttempt t _ => ⟨.module, t, [.rst, .out], some []⟩
  | .tileLoadMismatch t _ _ _ _ _ => ⟨.module, t, stopParts ++ [.cvi, .lan, .bay, .cfg, .fLanes, .fTiles, .fBlocks, .rcd, .upd, .rst, .eth, .can, .iic, .tiles],
     some (stopRegs ++ [(0x10000, 0x10000), (0x30010, 0x30014), (0xb000c, 0xb0014), (0x100004, 0x100008), (0x120000, 0x120004)])⟩
  | .tileRecoveryDone t _ _ => ⟨.module, t, [.est, .lan, .tiles], some []⟩
  | .scrubTick t _ _ => ⟨.module, t, [.fTiles, .tiles], some []⟩
  | .operatingTimeTick t => ⟨.module, t, [.lan, .fRec, .fLanes, .fBlocks, .rcd], some [(0x110000, 0x110004), (0x110010, 0x110010)]⟩
  | .recordWriteDone t _ => ⟨.module, t, [.fRec, .fBlocks, .rcd, .arrivals, .rerouted],
     some [(0x20004, 0x20004), (0x110000, 0x110000), (0x110008, 0x11000c)]⟩
  | .dailyMerge m => ⟨.module, m.t, [.fRec, .fBlocks, .rcd, .arrivals, .rerouted],
     some [(0x20004, 0x20004), (0x110000, 0x110000), (0x110008, 0x11000c)]⟩
  | .recFreezeExpire t => ⟨.module, t, [.rcd, .arrivals, .rerouted], some [(0x20004, 0x20004), (0x110000, 0x110004)]⟩
  | .vcoilRestored t => ⟨.control, t, [.prt], some [(0x80038, 0x80038)]⟩
  | .barrierRestored t _ => ⟨.measure, t, [.cvi], some []⟩
  | .overcurrentComparatorRelease t _ => ⟨.control, t, [.prt], some []⟩
  | .desatRelease t _ => ⟨.control, t, [.prt], some []⟩
  | .ringSignalRestored t _ => ⟨.measure, t, [.ring], some []⟩
  | .tileScrubDone x => ⟨.module, x.t, [.fTiles, .jobs, .host, .tiles, .rerouted, .out], some [(0x100100, 0x1001bc)]⟩
  | .iicMingapExpiry t => ⟨.port, t, [.iic], some [(0xf000c, 0xf000c), (0xf0014, 0xf0014)]⟩
  | .ptpMasterLost t => ⟨.port, t, [.ptp, .arrivals, .rerouted], some [(0x20004, 0x20004), (0xd0004, 0xd0008)]⟩

end Sys2Proof.Safety
end

