-- ==== Sys2Proof/Certificates/Slice0/Obligations.lean ====
section
/-! DEFINITION. The statements about the module for the provers. In each, `a` is the state a command given at the instant `t` finds: resets
that are due have asserted and time has moved on. -/

open Sys2Proof Sys2Proof.Machine Sys2Proof.Safety

/-- R12 to R15, R298 to R300 and the tables of REG_READ, REG_WRITE, REG_MODIFY and REG_READ_BLOCK: a served read of a mapped register replies
its value; a write that no check refuses replies OK, whatever the register, and every register then stands as the write leaves it; where the register
has no consequence of its own, that is the value's RW bits and no others; a refused write replies its status and changes no field; a modify
writes the bits of its mask alone, with the W1C bits outside it as 0, and replies the values before and after; a modify without a bit to
change and a block read of no register or of more than 256 are BAD_PARAM; a block read reads the registers one
after the other in ascending order, each as a single REG_READ does, and replies what each read returned. Where the manual leaves a corner open, the model chooses as log entries 23
and 24 say. -/
def Obligations.RegisterOpcodesReadAndWrite : Prop :=
  ∀ (s a : State) (t : Nat) (r : Req) (x v : Nat), a = s.upto t → x = uAt r.payload 0 4 →
    ((regDef? x).isSome = true → serves a 0x0101 r (Fmt.fixed 4 []) = true →
      Answers (.regRead t r) s (fun s' => Replied s' r 0x0101 stOk 0 (leBytes 4 ((taken a r).readWord x).toNat))) ∧
    (∀ u, v = uAt r.payload 4 4 → serves a 0x0102 r (Fmt.fixed 8 []) = true → (taken a r).writeErr x v = none → u = (taken a r).writeDo x v →
      Answers (.regWrite t r) s (fun s' => Replied s' r 0x0102 stOk 0 [] ∧ ∀ y, replyReg y = false → s'.word y = u.word y)) ∧
    (∀ d, v = uAt r.payload 4 4 → serves a 0x0102 r (Fmt.fixed 8 []) = true → (taken a r).writeErr x v = none → plainReg x d →
      Answers (.regWrite t r) s (fun s' => Replied s' r 0x0102 stOk 0 [] ∧
        ∀ f : Fld, f.fits → f.addr = x →
          s'.get f = f.of (BitVec.ofNat 32 (((a.word x).toNat &&& (4294967295 - d.rw)) ||| (v &&& d.rw))))) ∧
    (∀ e, v = uAt r.payload 4 4 → serves a 0x0102 r (Fmt.fixed 8 []) = true → (taken a r).writeErr x v = some e →
      Answers (.regWrite t r) s (fun s' => (∃ p, Replied s' r 0x0102 e.status 0 p) ∧
        ∀ f : Fld, f.fits → replyReg f.addr = false → s'.get f = a.get f)) ∧
    (∀ d m w, m = uAt r.payload 4 4 → v = uAt r.payload 8 4 →
      w = (((taken a r).readWord x).toNat &&& (4294967295 - m)) ||| (v &&& m) →
      serves a 0x0103 r (Fmt.fixed 12 []) = true → plainReg x d → m &&& d.rw ≠ 0 → w < 4294967296 → (taken a r).writeErr x w = none →
      Answers (.regModify t r) s (fun s' =>
        (∃ new, Replied s' r 0x0103 stOk 0 (leBytes 4 ((taken a r).readWord x).toNat ++ leBytes 4 new)) ∧
        ∀ f : Fld, f.fits → f.addr = x →
          s'.get f = f.of (BitVec.ofNat 32 (((a.word x).toNat &&& (4294967295 - d.rw)) ||| (w &&& d.rw))))) ∧
    (∀ d m w u, m = uAt r.payload 4 4 → v = uAt r.payload 8 4 → serves a 0x0103 r (Fmt.fixed 12 []) = true → writable x = some d →
      m &&& (d.rw ||| d.w1c ||| d.wo) ≠ 0 →
      w = ((((taken a r).readWord x).toNat &&& (4294967295 - m)) ||| (v &&& m)) &&& (4294967295 - (d.w1c &&& (4294967295 - m))) →
      (taken a r).writeErr x w = none → u = (taken a r).writeDo x w →
      Answers (.regModify t r) s (fun s' =>
        Replied s' r 0x0103 stOk 0 (leBytes 4 ((taken a r).readWord x).toNat ++ leBytes 4 (u.readWord x).toNat) ∧
        ∀ y, replyReg y = false → s'.word y = u.word y)) ∧
    (∀ d m, m = uAt r.payload 4 4 → serves a 0x0103 r (Fmt.fixed 12 []) = true → writable x = some d → m &&& (d.rw ||| d.w1c ||| d.wo) = 0 →
      Answers (.regModify t r) s (fun s' => Replied s' r 0x0103 stBadParam 0 (leBytes 2 0 ++ leBytes 2 0) ∧
        ∀ y, replyReg y = false → s'.word y = a.word y)) ∧
    (∀ n, n = uAt r.payload 4 2 → n = 0 ∨ 256 < n → serves a 0x0104 r (Fmt.fixed 8 [6, 7]) = true →
      Answers (.regReadBlock t r) s (fun s' => Replied s' r 0x0104 stBadParam 0 (leBytes 2 0 ++ leBytes 2 4))) ∧
    (∀ n, n = uAt r.payload 4 2 → 1 ≤ n → n ≤ 256 → ((List.range n).all fun i => (regDef? (x + 4 * i)).isSome) = true →
      serves a 0x0104 r (Fmt.fixed 8 [6, 7]) = true →
      ∀ at_ : Nat → State, at_ 0 = taken a r → (∀ i, at_ (i + 1) = ((at_ i).readReg (x + 4 * i)).1) →
        Answers (.regReadBlock t r) s (fun s' =>
          Replied s' r 0x0104 stOk 0 ((List.range n).flatMap (fun i => leBytes 4 ((at_ i).readWord (x + 4 * i)).toNat)) ∧
          ∀ y, replyReg y = false → s'.word y = (at_ n).word y))

/-- R11, R14, R335, R336: an access that reads a register returns the value it had; a read of an RC field clears its bits; the low word of
a wide value latches the rest; a read of RXSTAT clears NEW and LOST and latches the object; a read of a log's front removes the entry. -/
def Obligations.RegisterAccessesReturnAndLatch : Prop :=
  ∀ (s a : State) (t x n : Nat), a = s.upto t → a.inService = true →
    (∀ d, regDef? x = some d → a.regUp x = true →
      Answers (.rcFieldRead t x) s (fun s' => s'.out = .access x stOk 0 (a.view x).toNat :: a.out ∧
        s'.word x = a.word x &&& ~~~(BitVec.ofNat 32 d.rc))) ∧
    (a.regUp 0x50014 = true → Answers (.cviQ0Read t) s (fun s' =>
      s'.out = .access 0x50014 stOk 0 (a.word 0x50014).toNat :: a.out ∧ s'.cvi.q1Shadow = (a.word 0x50018).toNat)) ∧
    (a.regUp 0xD0010 = true → Answers (.timNsecRead t) s (fun s' =>
      s'.out = .access 0xD0010 stOk 0 (BitVec.ofNat 32 a.quartzNano).toNat :: a.out ∧ s'.time.secShadow = a.quartzSec)) ∧
    (∀ o, n < 128 → assoc? n a.can.objs = some o → a.regUp (0xE1000 + 128 * n) = true →
      Answers (.canRxstatRead t n) s (fun s' =>
        s'.out = .access (0xE1000 + 128 * n) stOk 0 (a.view (0xE1000 + 128 * n)).toNat :: a.out ∧
        assoc? n s'.can.objs = some { o with new := false, lost := false } ∧ assoc? n s'.can.shadow = some o)) ∧
    (a.regUp 0xE0020 = true → Answers (.canErrqRead t) s (fun s' =>
      s'.out = .access 0xE0020 stOk 0 (a.can.errq.headD 0).toNat :: a.out ∧ s'.can.errq = a.can.errq.drop 1)) ∧
    (a.regUp 0xE0024 = true → Answers (.canLogqRead t) s (fun s' =>
      s'.out = .access 0xE0024 stOk 0 (a.can.logq.headD 0).toNat :: a.out ∧ s'.can.logq = a.can.logq.drop 1))

/-- R35, R37, R44, R45, R47, R54, R58, R60, R61, R64, R66: a scan strobe that is due takes the grid instant passed as S, in PARK the second of the AO count, and one
that is not due takes none; in service the charge snapshot and the windowed values are tagged to S;
a strobe, a collect frame and a heartbeat that are due leave the active ports, coded with their marks and in the port's polarity, with the next
sequence number and the count of nodes each serves, and while a probe is under way a heartbeat leaves both ports, the strobe at S − NSIDE × t_hop and the collect frame at S + W × 2.5 µs + 10 µs. Where the manual
leaves a corner open, the model chooses as log entry 33 says. -/
def Obligations.RingSymbolsLeaveTheActivePorts : Prop :=
  ∀ (s a : State) (t : Nat), a = s.upto t →
    (∀ m bad again, m = a.gridAt (a.periodMs * msec) → a.inService = true → a.scanDue = true →
      Answers (.scanStrobe t bad again) s (fun s' => s'.ring.lastS = m ∧ s'.cvi.tagS = some m ∧ s'.cvi.winS = some m ∧ s'.cvi.qPrev = a.cvi.qS ∧
        s'.ring.scanNo = some (a.gridCount (a.periodMs * msec) * a.periodMs))) ∧
    (∀ bad again, a.rst.mode = .park → a.scanDue = true →
      Answers (.scanStrobe t bad again) s (fun s' => s'.ring.lastS = a.time.aoAt + (a.now - a.time.aoAt) / sec * sec ∧ s'.cvi.tagS = a.cvi.tagS)) ∧
    (∀ n bad again, a.ring.scanNo = some n → a.scanCount ≤ n →
      Answers (.scanStrobe t bad again) s (fun s' => s'.ring = a.ring ∧ s'.cvi = a.cvi)) ∧
    (∀ q, q = (a.ring.sseq + 1) % 256 → a.strobeDue = true →
      (a.ring.split = false → a.served ≠ 0 → Answers (.strobeEmit t) s (fun s' => s'.ring.sseq = q ∧ s'.ring.sentS = some a.nextS ∧
        s'.out = .ring false (4 * a.nextS - a.served * a.get F.RING_THOP_THOP)
          (polarity (a.portInv false) (symbolLine (strobeBytes q a.served a.parked))) :: a.out)) ∧
      (a.ring.split = true → a.eReach ≠ 0 → a.wReach ≠ 0 → Answers (.strobeEmit t) s (fun s' => s'.ring.sseq = q ∧
        s'.out = .ring true (4 * a.nextS - a.wReach * a.get F.RING_THOP_THOP)
            (polarity (a.portInv true) (symbolLine (strobeBytes q a.wReach a.parked))) ::
          .ring false (4 * a.nextS - a.eReach * a.get F.RING_THOP_THOP)
            (polarity (a.portInv false) (symbolLine (strobeBytes q a.eReach a.parked))) :: a.out))) ∧
    (∀ c, c = a.ring.lastS + a.window * 2500 + 10 * usec → a.collectDue = true →
      (a.ring.split = false → a.served ≠ 0 → Answers (.collectFrameSend t) s (fun s' => s'.ring.colS = some a.ring.lastS ∧
        s'.out = .ring false (4 * c) (polarity (a.portInv false) (frameLine (collectBytes a.ring.sseq a.served a.parked))) :: a.out)) ∧
      (a.ring.split = true → a.eReach ≠ 0 → a.wReach ≠ 0 → Answers (.collectFrameSend t) s (fun s' =>
        s'.out = .ring true (4 * c) (polarity (a.portInv true) (frameLine (collectBytes a.ring.sseq a.wReach a.parked))) ::
          .ring false (4 * c) (polarity (a.portInv false) (frameLine (collectBytes a.ring.sseq a.eReach a.parked))) :: a.out))) ∧
    (∀ q l, q = (a.ring.hseq + 1) % 256 → l = symbolLine (heartbeatBytes q a.parked) → a.heartbeatDue = true →
      (a.ring.split = false → a.ring.probing = false → Answers (.heartbeatEmit t) s (fun s' => s'.ring.hseq = q ∧ s'.ring.hbLast = some a.now ∧
        s'.ring.hbOut = a.ring.hbOut ++ [(q, a.now)] ∧ s'.out = .ring true (4 * a.ringNs) (polarity (a.portInv true) l) :: a.out)) ∧
      (a.ring.split = true ∨ a.ring.probing = true → Answers (.heartbeatEmit t) s (fun s' => s'.ring.hseq = q ∧
        (a.ring.probing = false → s'.ring.hbOut = []) ∧ (a.ring.probing = true → s'.ring.hbOut = a.ring.hbOut ++ [(q, a.now)]) ∧
        s'.out = .ring true (4 * a.ringNs) (polarity (a.portInv true) l) ::
          .ring false (4 * a.ringNs) (polarity (a.portInv false) l) :: a.out)))

/-- R55, R56, R67, R39: an accepted record becomes its position's tile; one with STROBE_MISSED or CONV_FAULT leaves the tile and marks the
position stale; one that fails a check marks it stale and counts in CRCERR; at the end of a scan a position without a record is stale; when
the grace ends, GRACE_EXP is set, its event raised, and entry 5 demands zero current. Where the manual leaves a corner open, the model
chooses as log entries 32 and 33 say. -/
def Obligations.NodeRecordsUpdateTilesAndStaleMarks : Prop :=
  ∀ (s a : State) (t p slot : Nat) (west : Bool) (rx : List Bool) (raw : List Byte), a = s.upto t → a.scanning = true →
    a.inService = true → raw = (recordRead (a.rxLine west rx)).getD [] →
    (a.slotPos west slot = some p → a.ring.excluded.contains p = false →
      (recordSound a slot raw = true → (uAt raw 2 2).testBit 9 = false → (uAt raw 2 2).testBit 7 = false →
        Answers (.nodeRecord t west slot rx) s (fun s' =>
          assoc? p s'.ring.tiles = some { bytes := raw, scans := 0, ever := true, fresh := true })) ∧
      (1 ≤ p → p ≤ 40 → recordSound a slot raw = true → ((uAt raw 2 2).testBit 9 || (uAt raw 2 2).testBit 7) = true →
        Answers (.nodeRecord t west slot rx) s (fun s' => s'.ring.tiles = a.ring.tiles ∧ s'.stale p = true)) ∧
      (1 ≤ p → p ≤ 40 → recordSound a slot raw = false → a.get F.RING_ERRCNT_CRCERR < 65535 →
        Answers (.nodeRecord t west slot rx) s (fun s' => s'.ring.tiles = a.ring.tiles ∧ s'.stale p = true ∧
          s'.get F.RING_ERRCNT_CRCERR = a.get F.RING_ERRCNT_CRCERR + 1))) ∧
    (1 ≤ p → p ≤ 40 → p ≤ a.len → assoc? p a.ring.tiles = none →
      Answers (.scanEnd t) s (fun s' => s'.stale p = true ∧ ∃ r, assoc? p s'.ring.tiles = some r ∧ r.ever = false)) ∧
    (∀ g, a.ring.graceAt = some g → a.flag F.RING_STAT_GRACE_EXP = false → g + a.get F.RING_CTRL_GRACE * 10 * msec ≤ a.now →
      a.lan.supDown = false →
      Answers (.graceExpiry t) s (fun s' => s'.flag F.RING_STAT_GRACE_EXP = true ∧ 9 ∈ s'.evr.pend ∧
        s'.getI (F.PRT_ENT_DIS.ix8 5) = 0 ∧ s'.getI (F.PRT_ENT_CHG.ix8 5) = 0))

/-- R44, R64, R66: a heartbeat that returns in time as an intact ring returns it clears the count of missed returns; the third missed return
in a row declares the break; when both probes have returned, each port serves its reach; a channel's loss of signal and its return are
remembered. Where the manual leaves a corner open, the model chooses as log entry 33 says. -/
def Obligations.HeartbeatsFindBreaks : Prop :=
  ∀ (s a : State) (t k m : Nat) (west : Bool) (rx : List Bool) (raw : List Byte) (h : Nat × Nat), a = s.upto t → a.inService = true →
    raw = a.hbRead west rx →
    (a.scanning = true → a.ring.split = false → a.ring.probing = false →
      (west = false → hbValid raw = true → a.ring.hbOut.find? (fun x => x.1 == uAt raw 1 1) = some h → uAt raw 2 1 = a.served →
        (uAt raw 3 1).testBit 1 = false → a.now ≤ h.2 + 100 * usec →
        Answers (.heartbeatReturn t west rx) s (fun s' => s'.ring.missed = 0 ∧ s'.ring.hbOut = a.ring.hbOut.erase h)) ∧
      (hbValid raw = true → a.ring.hbOut.find? (fun x => x.1 == uAt raw 1 1) = some h → (uAt raw 3 1).testBit 1 = true → a.ring.missed = 2 →
        Answers (.heartbeatReturn t west rx) s (fun s' => s'.flag F.RING_STAT_BROKEN = true ∧ 8 ∈ s'.evr.pend)) ∧
      (a.ring.hbOut.head? = some h → h.2 + 100 * usec ≤ a.now → a.ring.missed < 2 →
        Answers (.heartbeatMissed t) s (fun s' => s'.ring.missed = a.ring.missed + 1 ∧ s'.ring.hbOut = a.ring.hbOut.drop 1)) ∧
      (a.ring.hbOut.head? = some h → h.2 + 100 * usec ≤ a.now → a.ring.missed = 2 →
        Answers (.heartbeatMissed t) s (fun s' => s'.flag F.RING_STAT_BROKEN = true ∧ 8 ∈ s'.evr.pend))) ∧
    (a.ring.probing = true → west = false → hbValid raw = true → a.ring.hbOut.find? (fun x => x.1 == uAt raw 1 1) = some h →
      (uAt raw 3 1).testBit 1 = true → k = uAt raw 2 1 → a.ring.probeW = some m → a.len ≤ 40 →
      Answers (.probeReturn t west rx) s (fun s' => s'.ring.split = true ∧ s'.get F.RING_STAT_STATE = 4 ∧
        s'.get F.RING_BREAK_EREACH = min k a.len ∧ s'.get F.RING_BREAK_WREACH = min m a.len)) ∧
    (a.ringOn = true → a.ring.probing = false →
      Answers (.ringLossOfSignal t west) s (fun s' => (if west then s'.ring.losW else s'.ring.losE) = true)) ∧
    (a.ringOn = true → Answers (.ringSignalRestored t west) s (fun s' => (if west then s'.ring.losW else s'.ring.losE) = false))

/-- R51, R57, R60 to R63, R81, R425: the next ring command leaves when it fits before the strobe; a frame that returns executed ends it, and
one that does not is sent again up to twice; after the third failure it is not queued again: a balancing plan's requester receives 0xFF for the
node, an open-wire run goes on without it, and a burst's group is left out; a start-up that finds every node and calibrates runs the ring intact; CAL starts the ring
again; LEN takes its new value, and with LEN 0 the ring idles. Where the manual leaves a corner open, the model chooses as log entries 31
and 34 say. -/
def Obligations.RingCommandsAndStartupComplete : Prop :=
  ∀ (s a : State) (t n : Nat) (c : RingCmd) (rx : List Bool) (raw : List Byte) (x : StartupIn), a = s.upto t →
    a.inService = true →
    (a.ringOn = true → a.ring.inflight = none → a.nextCmd = some c → a.fits (a.cmdBytes c).length = true →
      Answers (.ringCommandSend t) s (fun s' => s'.ring.inflight = some { c with tries := c.tries + 1 } ∧
        s'.ring.cseq = (a.ring.cseq + 1) % 256 ∧ s'.ring.cmds = a.ring.cmds.erase c ∧
        s'.out = .ring c.west (4 * a.ringNs) (polarity (a.portInv c.west) (frameLine (a.cmdBytes c))) :: a.out)) ∧
    (a.ringOn = true → a.ring.inflight = some c → c.use = 0 → c.queue < 4 → a.ring.replies = [] → a.lan.supDown = false →
      frameRead (a.rxLine (a.backPort c.west) rx) = some raw → 12 ≤ raw.length → uAt raw 7 1 = crc8 (raw.take 7) →
      uAt raw (raw.length - 4) 4 = crc32c (raw.take (raw.length - 4)) → (uAt raw 3 1).testBit 1 = true ∨ c.pos = 0 →
      Answers (.ringCommandReturn t (some rx)) s (fun s' => s'.ring.inflight = none ∧ s'.ring.cmds = a.ring.cmds)) ∧
    (a.ringOn = true → a.ring.inflight = some c → c.tries < 3 →
      Answers (.ringCommandReturn t none) s (fun s' => s'.ring.inflight = none ∧ s'.ring.cmds = c :: a.ring.cmds)) ∧
    (a.ringOn = true → a.ring.inflight = some c → 3 ≤ c.tries → a.ring.replies = [] → a.lan.supDown = false →
      Answers (.ringCommandReturn t none) s (fun s' => s'.ring.inflight = none ∧ s'.ring.cmds = a.ring.cmds ∧
        (c.use = 1 → (a.host.waiting.find? fun w => w.why == WaitFor.balance) = none → assoc? c.pos s'.ring.results = some 0xFF) ∧
        (∀ w old rest, c.use = 1 → (a.host.waiting.find? fun w => w.why == WaitFor.balance) = some w → w.id.prov = false →
          w.id.tagged = true → w.id.bcast = false → a.isOpen w.id.session = true → (a.session w.id.session).cache = (w.id.seq, old) :: rest →
          uAt w.req.payload 0 1 = 1 → uAt w.req.payload 2 1 = c.pos →
          ∃ ps rest1, (s'.session w.id.session).cache = (w.id.seq, ps) :: rest1 ∧ (ps.map (·.payload)).flatten = [0xFF] ∧
            ∀ p ∈ ps, p.opcode = w.id.op ∧ p.status = stOk) ∧
        (c.use = 3 → c.pos ∉ s'.acq.owNodes) ∧
        (c.use = 4 → s'.imp.stale = (16 * (c.pos - 1) + uAt c.payload 0 1 + 1) :: a.imp.stale))) ∧
    (∀ f spread hop, a.ring.startDue = true → x.east = true → x.west = true → x.hcnt = some f → f = a.len → 1 ≤ f → f ≤ 40 →
      ((List.range f).all fun i => identOk (nth none x.idents i)) = true → calibrate false f x.loops = (spread, hop, true) →
      Answers (.ringStartup t x) s (fun s' => s'.get F.RING_STAT_FOUND = f ∧ s'.flag F.RING_STAT_LENMIS = false ∧
        s'.get F.RING_STAT_STATE = 3 ∧ s'.get F.RING_THOP_THOP = hop ∧ s'.ring.startDue = false)) ∧
    (a.writeErr 0x30000 (a.withField F.RING_CTRL_CAL 1) = none → a.convOff = true →
      Answers (.ringCalWrite t) s (fun s' => s'.ring.startDue = (a.len != 0) ∧ s'.get F.RING_STAT_STATE = if a.len = 0 then 0 else 1)) ∧
    (n ≤ 40 → a.writeErr 0x30000 (a.withField F.RING_CTRL_LEN n) = none →
      Answers (.ringLenChange t n) s (fun s' => s'.get F.RING_CTRL_LEN = n ∧ (n = 0 → a.len ≠ 0 → s'.get F.RING_STAT_STATE = 0)))

/-- R87, R88, R93, R94: the policy plans when it is due and sends one BALANCE command to every position; a change of the source ends what
ran with all-zero timers to every node and sends no old timer again; an open-wire run starts by START and by its period, one in progress, a start-up or an idle ring holds a START; a run
does not end while a node's record shows its test; its end sets OWDONE, marks the wires its records tell, and starts the oldest that was held. Where the manual leaves a corner open, the model chooses as log entries
35, 37 and 70 say. -/
def Obligations.BalancingPlansAndOpenWireRunsAct : Prop :=
  ∀ (s a : State) (t : Nat), a = s.upto t → a.inService = true →
    (a.scanning = true → a.get F.ACQ_BAL_CFG_SRC = 0 → a.flag F.ACQ_BAL_CFG_ENABLE = true →
      a.acq.planAt + a.get F.ACQ_BAL_CFG_PERIOD * 60 * sec ≤ a.now → Answers (.balancePolicyPlan t) s (fun s' =>
        s'.acq.planAt = a.now ∧ ∃ l, s'.ring.cmds = a.ring.cmds ++ l ∧ (∀ c ∈ l, c.cmd = 4 ∧ c.payload.length = 34) ∧
          l.map (·.pos) = if a.groups.all (fun g => !(a.cell g).init || (a.cell g).qual != 0) then [] else a.positions)) ∧
    (∀ src en, src < 2 → a.writeErr 0x40020 (F.ACQ_BAL_CFG_ENABLE.into (F.ACQ_BAL_CFG_SRC.into (a.word 0x40020) src) (b2n en)).toNat = none →
      Answers (.balSourceChange t src en) s (fun s' => s'.get F.ACQ_BAL_CFG_SRC = src ∧ s'.flag F.ACQ_BAL_CFG_ENABLE = en ∧
        (a.ringOn = true → a.get F.ACQ_BAL_CFG_SRC ≠ src → s'.acq.resend = [] ∧ ∃ l,
          s'.ring.cmds = a.ring.cmds.map (fun c => if c.cmd = 4 then { c with again := false } else c) ++ l ∧ l.map (·.pos) = a.positions ∧
          ∀ c ∈ l, c.cmd = 4 ∧ c.payload = List.replicate 34 0))) ∧
    (∀ node, node < 64 → a.writeErr 0x40028 (F.ACQ_OW_CFG_START.into (F.ACQ_OW_CFG_NODE.into (a.word 0x40028) node) 1).toNat = none →
      (a.flag F.ACQ_STAT_OWRUN = true ∨ a.ring.startDue = true ∨ a.ringOn = false →
        Answers (.openWireStart t node) s (fun s' => s'.acq.owHeld = (if node ∈ a.acq.owHeld then a.acq.owHeld else a.acq.owHeld ++ [node]) ∧ s'.ring = a.ring)) ∧
      (a.flag F.ACQ_STAT_OWRUN = false → a.ring.startDue = false → a.ringOn = true → 1 ≤ node → node ≤ a.len → 2 ≤ a.cells node → a.cutOff node = false →
        a.ring.excluded.contains node = false → Answers (.openWireStart t node) s (fun s' => s'.flag F.ACQ_STAT_OWRUN = true ∧
          s'.acq.owKind = 2 ∧ s'.acq.owNodes = [node] ∧ ∃ c, s'.ring.cmds = a.ring.cmds ++ [c] ∧ c.cmd = 6 ∧ c.pos = node))) ∧
    (a.scanning = true → a.get F.ACQ_OW_CFG_PERIOD ≠ 0 → a.acq.owAt + a.get F.ACQ_OW_CFG_PERIOD * 3600 * sec ≤ a.now →
      a.flag F.ACQ_STAT_OWRUN = false → a.ring.startDue = false → Answers (.openWirePeriodic t) s (fun s' =>
        s'.flag F.ACQ_STAT_OWRUN = true ∧ s'.acq.owKind = 1 ∧ s'.acq.owAt = a.now)) ∧
    (a.flag F.ACQ_STAT_OWRUN = true → 4 * a.get F.ACQ_OW_CFG_REPS ≤ a.acq.owScans →
      (∀ p r, p ∈ a.acq.owNodes → (assoc? p a.acq.owIdx).isSome = true → a.tile? p = some r → (uAt r.bytes 2 2).testBit 4 = true →
        Answers (.openWireRunEnd t) s (fun s' => s'.flag F.ACQ_STAT_OWRUN = true ∧ s'.acq = a.acq)) ∧
      (a.acq.owNodes.all a.owOver = true → a.acq.owHeld = [] → Answers (.openWireRunEnd t) s (fun s' => s'.flag F.ACQ_STAT_OWRUN = false ∧
        s'.flag F.ACQ_STAT_OWDONE = true ∧ s'.acq.owNodes = [] ∧ 19 ∈ s'.evr.pend)) ∧
      (∀ n more, a.acq.owNodes.all a.owOver = true → a.acq.owHeld = n :: more → a.ring.startDue = false → a.ringOn = true → Answers (.openWireRunEnd t) s (fun s' => s'.flag F.ACQ_STAT_OWRUN = true ∧
        s'.acq.owKind = 2 ∧ s'.acq.owHeld = more ∧ 19 ∈ s'.evr.pend)) ∧
      (∀ p r, a.acq.owHeld = [] → a.acq.owNodes = [p] → 1 ≤ p → p ≤ 40 → a.tile? p = some r → (uAt r.bytes 2 2).testBit 4 = false →
        (assoc? p a.acq.owIdx).isSome = true → a.acq.owKind = 1 → a.segAgrees p r.bytes = true →
        Answers (.openWireRunEnd t) s (fun s' => s'.word (0x40200 + 4 * (p - 1)) =
          BitVec.ofNat 32 ((a.word (0x40200 + 4 * (p - 1))).toNat ||| (uAt r.bytes 6 2 &&& innerMask (a.cells p))))))

/-- R98 to R102, R104, R105: the windowed values of a strobe are written together with its charge; OVR follows the last millisecond; the
initial auto-zero and the swap cycle move the offsets, the shorted converter and MEAS; a swap whose converters agree clears DISAGREE and
hands over; a forced converter measures alone. Where the manual leaves a corner open, the model chooses as log entry 38 says. -/
def Obligations.WindowedValuesAndShuntSwapsFollowTheCycle : Prop :=
  ∀ (s a : State) (t : Nat), a = s.upto t → a.inService = true →
    (∀ m, a.cvi.winS = some m → m + (a.win * 2500 + 5000) ≤ a.quartzNs → (a.winSum m (·.sh) (·.i)).2 ≠ 0 →
      (a.winSum m (·.hv) (·.vs)).2 ≠ 0 → Answers (.windowedValueReady t) s (fun s' =>
        s'.getI F.CVI_I = (if a.flag F.CVI_SH_STAT_NONE || a.cvi.winAz then 0 else clipS 32 (winRound (a.winSum m (·.sh) (·.i)))) ∧
        s'.getI F.CVI_VSTR = clipS 32 (winRound (a.winSum m (·.hv) (·.vs))) ∧
        s'.getI F.CVI_VBUS = clipS 32 (winRound (a.winSum m (·.hv) (·.vb))) ∧
        s'.get F.CVI_Q0 = toCode 64 a.cvi.qS % 4294967296 ∧ s'.get F.CVI_Q1 = toCode 64 a.cvi.qS / 4294967296 ∧ s'.cvi.winS = none)) ∧
    (∀ m, m = a.gridAt msec → Answers (.gridMillisecond t) s (fun s' =>
      s'.flag F.CVI_SH_STAT_OVR = a.cvi.hist.any (fun x => x.clip && decide (m ≤ x.eff + 1002500) && decide (x.eff + 2500 < m)) ∧
      (s'.flag F.CVI_SH_STAT_OVR = true → s'.flag F.CVI_SH_STAT_OVR_SEEN = true))) ∧
    (a.flag F.CVI_SH_STAT_AZINIT = true → a.cvi.azStart + 100 * msec ≤ a.now → Answers (.azinitEnd t) s (fun s' =>
      s'.flag F.CVI_SH_STAT_AZINIT = false ∧ s'.cvi.ofsA = azMean a.cvi.azA a.cvi.ofsA ∧ s'.cvi.ofsB = azMean a.cvi.azB a.cvi.ofsB)) ∧
    (a.domainGood 5 = true → a.handDue = true → a.alternating = true → a.flag F.CVI_SH_STAT_AZINIT = false → a.cvi.cmJob = none →
      (∀ x ∈ a.overlap ((a.quartzNs + sec / 2) / sec * sec), x.ia = x.ib) → Answers (.shuntHandover t) s (fun s' =>
        s'.get F.CVI_SH_STAT_MEAS = 1 - a.get F.CVI_SH_STAT_MEAS ∧ s'.cvi.handAt = (a.quartzNs + sec / 2) / sec * sec ∧
        s'.cvi.azA = (0, 0) ∧ s'.cvi.azB = (0, 0) ∧ s'.get F.CVI_SWAPCNT_COUNT = min 2147483647 (a.get F.CVI_SWAPCNT_COUNT + 1) ∧
        (a.overlap ((a.quartzNs + sec / 2) / sec * sec) ≠ [] →
          s'.get F.CVI_SH_STAT_DISAGREE = 0 ∧ s'.flag F.CVI_SH_STAT_SWERR = false))) ∧
    (a.alternating = true → a.flag F.CVI_SH_STAT_AZINIT = false → 0 < a.cvi.handAt → a.cvi.handAt + 5000 ≤ a.quartzNs →
      a.quartzNs < a.cvi.handAt + 900 * msec → Answers (.shuntAzShort t) s (fun s' =>
        s'.cvi.shorted = 2 - a.get F.CVI_SH_STAT_MEAS ∧ s'.regs = a.regs)) ∧
    (a.cvi.handAt + 890 * msec ≤ a.quartzNs →
      (a.cvi.shorted = 1 → Answers (.shuntAzOffsetEnd t) s (fun s' => s'.cvi.ofsA = azMean a.cvi.azA a.cvi.ofsA ∧ s'.cvi.ofsB = a.cvi.ofsB)) ∧
      (a.cvi.shorted = 2 → Answers (.shuntAzOffsetEnd t) s (fun s' => s'.cvi.ofsB = azMean a.cvi.azB a.cvi.ofsB ∧ s'.cvi.ofsA = a.cvi.ofsA))) ∧
    (a.cvi.shorted ≠ 0 → a.cvi.handAt + 900 * msec ≤ a.quartzNs → Answers (.shuntAzReconnect t) s (fun s' =>
      s'.cvi.shorted = 0 ∧ s'.regs = a.regs)) ∧
    (∀ f, a.writeErr 0x50000 (a.withField F.CVI_SH_CFG_FORCE f) = none → f < 3 → a.get F.CVI_SH_CFG_FORCE ≠ f →
      a.shFailed false = false → a.shFailed true = false → Answers (.shuntForceWrite t f) s (fun s' =>
        s'.get F.CVI_SH_CFG_FORCE = f ∧ s'.cvi.shorted = 0 ∧
        s'.get F.CVI_SH_STAT_MEAS = (if f = 0 then a.get F.CVI_SH_STAT_MEAS else f - 1) ∧ s'.flag F.CVI_SH_STAT_DRIFT = (f != 0)))

/-- R108 to R111: the legs take turns every half-period while the monitor runs and stay open with PAUSED where it may not, at once when a contactor closes; a
half-period in which a contactor moved or without samples sets INVALID, and one whose tap means differ NOTSETTLED; a settled one keeps its mean, and once both legs have one the insulation values follow. Where the manual leaves a
corner open, the model chooses as log entry 40 says. -/
def Obligations.InsulationHalfPeriodsGiveResults : Prop :=
  ∀ (s a : State) (t : Nat) (x : InsSums), a = s.upto t → a.inService = true → x = a.cvi.ins →
    (a.cvi.insOpen = true ∨ a.flag F.CVI_INS_STAT_PAUSED = true ∨ a.cvi.insAt + a.get F.CVI_INS_CFG_HALF * sec ≤ a.quartzNs →
     (a.insRuns = true → Answers (.insLegSwitch t) s (fun s' => s'.get F.CVI_INS_STAT_LEG = 1 - a.get F.CVI_INS_STAT_LEG ∧
      s'.flag F.CVI_INS_STAT_PAUSED = false ∧ s'.cvi.insOpen = false ∧ s'.cvi.insAt = a.quartzNs ∧ s'.cvi.ins = {})) ∧
     (a.insRuns = false → Answers (.insLegSwitch t) s (fun s' => s'.get F.CVI_INS_STAT_LEG = a.get F.CVI_INS_STAT_LEG ∧
      s'.flag F.CVI_INS_STAT_PAUSED = true ∧ s'.cvi.insOpen = true))) ∧
    (∀ k, k < 3 → a.fb k = false → a.flag F.CVI_INS_STAT_PAUSED = false → Answers (.contactorFeedbackChange t k true) s (fun s' =>
      if a.get F.CVI_INS_CFG_MODE = 1 then s'.flag F.CVI_INS_STAT_PAUSED = true ∧ s'.cvi.insOpen = true
      else s'.flag F.CVI_INS_STAT_PAUSED = false ∧ s'.cvi.ins.moved = true)) ∧
    (a.cvi.insOpen = false → a.cvi.insDone = false → a.flag F.CVI_INS_STAT_PAUSED = false → a.cvi.insAt + a.get F.CVI_INS_CFG_HALF * sec ≤ a.quartzNs →
      (x.n1 = 0 ∨ x.n2 = 0 ∨ x.ovr = true ∨ x.moved = true → Answers (.insHalfPeriodEnd t) s (fun s' =>
        s'.flag F.CVI_INS_STAT_INVALID = true ∧ s'.cvi.insDone = true ∧ s'.get F.CVI_RISO = a.get F.CVI_RISO ∧
        s'.get F.CVI_INS_STAT_STATE = a.get F.CVI_INS_STAT_STATE)) ∧
      (0 < x.n1 → 0 < x.n2 → x.ovr = false → x.moved = false → x.n1 * 100000 * 16777216 ≤ absN x.u1 →
        absN x.u1 * x.n2 < 500 * absN (x.v2 * x.n1 - x.v1 * x.n2) → Answers (.insHalfPeriodEnd t) s (fun s' =>
          s'.flag F.CVI_INS_STAT_NOTSETTLED = true ∧ s'.flag F.CVI_INS_STAT_INVALID = false ∧ s'.get F.CVI_RISO = a.get F.CVI_RISO)) ∧
      (0 < x.n1 → 0 < x.n2 → x.ovr = false → x.moved = false → x.n1 * 100000 * 16777216 ≤ absN x.u1 → x.v2 * x.n1 = x.v1 * x.n2 →
        x.u2 * x.n1 = x.u1 * x.n2 → a.get F.CVI_INS_STAT_LEG = 1 →
        (a.cvi.insP = none → Answers (.insHalfPeriodEnd t) s (fun s' => s'.flag F.CVI_INS_STAT_INVALID = false ∧
          s'.cvi.insN = some (divRne x.v1 x.n1, divRne x.u1 x.n1))) ∧
        (∀ vp u1 vn u2 num den, a.cvi.insP = some (vp, u1) → vn = divRne x.v1 x.n1 → u2 = divRne x.u1 x.n1 →
          num = (u1 - vp) * u2 - u1 * vn → den = u1 * vn + u2 * vp → 0 < num → Answers (.insHalfPeriodEnd t) s (fun s' =>
            s'.flag F.CVI_INS_STAT_INVALID = false ∧
            s'.get F.CVI_RISO = min 100000 (insRes (uAt a.cal 44 4) num den).1 ∧
            s'.get F.CVI_RPOS = min 100000 (insRes (uAt a.cal 44 4) num (u2 * vn)).1 ∧
            s'.get F.CVI_RNEG = min 100000 (insRes (uAt a.cal 44 4) num (u2 * vp)).1))))
/-- R76, R119, R301, R302, R422 and the tables of CFG_WRITE, CFG_READ, CFG_COMMIT: items that pass are staged and nothing else changes; a
read replies whole items of one set; a commit whose merged set keeps every rule stores it and brings its values into use, and one whose copy
does not read back changes nothing; a discard drops what is staged. Where the manual leaves a corner open, the model chooses as log entries
25, 27 and 28 say. -/
def Obligations.ConfigurationIsStagedAndCommitted : Prop :=
  ∀ (s a : State) (t : Nat) (r : Req), a = s.upto t →
    (serves a 0x0301 r cfgFmt = true →
      ((cfgItems r.payload).find? itemBad = none → ((cfgItems r.payload).find? CfgItem.isKey = none ∨ (a.session r.session).slot = 3) →
        Answers (.cfgWrite t r) s (fun s' => Replied s' r 0x0301 stOk 0 [] ∧ s'.flash = a.flash ∧
          (∀ f : Fld, f.fits → replyReg f.addr = false → s'.get f = a.get f) ∧
          (((cfgItems r.payload).map (·.id)).Nodup → ∀ x ∈ cfgItems r.payload,
            (x.isKey = false → assoc? x.id s'.cfg.staged = some (BitVec.ofNat 32 (ofLe x.data &&& cfgMask x.id))) ∧
            (x.isKey = true → assoc? (x.id - 0xFF000000) s'.cfg.keys = some x.data)))) ∧
      (∀ x, (cfgItems r.payload).find? CfgItem.isKey = some x → (a.session r.session).slot ≠ 3 →
        Answers (.cfgWrite t r) s (fun s' => Replied s' r 0x0301 stAuthFail 0 (leBytes 2 0 ++ leBytes 2 x.off) ∧ s'.cfg = a.cfg))) ∧
    (serves a 0x0302 r (Fmt.fixed 8 [1, 6, 7]) = true → uAt r.payload 0 1 ≤ 1 → 1 ≤ uAt r.payload 4 2 → uAt r.payload 4 2 ≤ 128 →
      a.cfgOut = false → Answers (.cfgRead t r) s (fun s' => ∃ l, Replied s' r 0x0302 stOk 0 (leBytes 2 l.length ++ [0, 0] ++ l.flatten) ∧
        l.length ≤ uAt r.payload 4 2 ∧ l.flatten.length ≤ 1396 ∧ s'.cfg = a.cfg ∧
        l <+: ((if uAt r.payload 0 1 = 0 then a.committedItems else a.stagedItems).drop (uAt r.payload 2 2)))) ∧
    (serves a 0x0303 r commitFmt = true →
      (uAt r.payload 0 1 = 0 → a.cfgOut = false → a.get F.UPD_STATE_PHASE ≠ 2 →
          ((a.session r.session).slot = 3 ∨ a.cfg.keys = []) → a.mergedBad = false → a.mergedRefused = none →
        ∀ w : FlashDone, (w.ok = true → Answers (.cfgCommit t r w) s (fun s' => Replied s' r 0x0303 stOk 0 [] ∧ s'.flash.items = a.mergedItems ∧
          s'.flash.keys = a.mergedKeys ∧ s'.flash.tables = a.mergedTables ∧ s'.cfg.staged = [] ∧ s'.cfg.keys = [] ∧ s'.cfg.tables = [] ∧
          (∀ x v d, a.mergedItems = [(x, v)] → plainReg x d → replyReg x = false → x ≠ F.GLB_SESS_PROV.addr → a.cfg.bayMap = none →
            s'.word x = a.cfgWord x v))) ∧
        (w.ok = false → Answers (.cfgCommit t r w) s (fun s' => Replied s' r 0x0303 stInternal 0 (leBytes 2 0 ++ leBytes 2 0xFFFF) ∧
          s'.flash.items = a.flash.items ∧ s'.flash.keys = a.flash.keys ∧ s'.flash.tables = a.flash.tables ∧ s'.flash.coefs = a.flash.coefs ∧
          s'.flash.bayMap = a.flash.bayMap ∧ (w.bad = [] → s'.flash = a.flash) ∧ s'.cfg = a.cfg ∧
          ∀ f : Fld, f.fits → replyReg f.addr = false → f.addr ≠ F.EVR_STAT_OVF_SEEN.addr → s'.get f = a.get f))) ∧
      (uAt r.payload 0 1 = 1 → Answers (.cfgDiscard t r) s (fun s' => Replied s' r 0x0303 stOk 0 [] ∧ s'.flash = a.flash ∧
        s'.cfg = { asmT := a.cfg.asmT, asmC := a.cfg.asmC })))

/-- R119, R155, R178 to R180, R303 and the tables of TABLE_LOAD and COEF_LOAD: pieces join in order; a complete table that passes its checks
is staged; a complete structure record comes into use with the loop stopped, a gain record goes into the inactive bank, and a swap is asked
for; an assembly without a piece for 60 s is dropped. Where the manual leaves a corner open, the model chooses as log entry 28 says. -/
def Obligations.RecordsAreLoadedInPieces : Prop :=
  ∀ (s a : State) (t total : Nat) (r : Req) (d : List Byte), a = s.upto t → total = uAt r.payload 4 4 →
    (serves a 0x0304 r { len := fun p => decide (9 ≤ p.length) && decide (p.length ≤ 1400) } = true → total ≤ 43024 → d.length ≤ total →
      ((uAt r.payload 0 4 = 0 ∧ d = r.payload.drop 8) ∨ (∃ x, a.cfg.asmT = some x ∧ x.session = r.session ∧ x.total = total ∧
        uAt r.payload 0 4 = x.data.length ∧ x.data ≠ [] ∧ d = x.data ++ r.payload.drop 8)) →
      (d.length < total → Answers (.tableLoad t r) s (fun s' => Replied s' r 0x0304 stOk 0 [] ∧
        s'.cfg.asmT = some { session := r.session, total := total, data := d, since := a.now } ∧ s'.cfg.tables = a.cfg.tables)) ∧
      (d.length = total → tableHeaderOk d = true → tableDataOk (uAt d 2 1) (d.drop 16) = true →
        Answers (.tableLoad t r) s (fun s' => Replied s' r 0x0304 stOk 0 [] ∧ s'.cfg.asmT = none ∧
          assoc? (256 * uAt d 3 1 + uAt d 2 1) s'.cfg.tables = some d))) ∧
    (serves a 0x0305 r { len := fun p => decide (12 ≤ p.length) && decide (p.length ≤ 1400), pad := [9, 10, 11], flagsAt := some (8, 3) } = true →
      total ≤ 8192 → d.length ≤ total → uAt r.payload 8 1 = 0 →
      ((uAt r.payload 0 4 = 0 ∧ d = r.payload.drop 12) ∨ (∃ x, a.cfg.asmC = some x ∧ x.session = r.session ∧ x.total = total ∧
        uAt r.payload 0 4 = x.data.length ∧ x.data ≠ [] ∧ d = x.data ++ r.payload.drop 12)) →
      (d.length < total → Answers (.coefLoad t r) s (fun s' => Replied s' r 0x0305 stOk 0 [] ∧
        s'.cfg.asmC = some { session := r.session, total := total, data := d, since := a.now } ∧ s'.ctl = a.ctl)) ∧
      (∀ c, d.length = total → d ≠ [] → uAt d 2 1 = 1 → structOf d = some c → a.loopStopped = true → a.ctl.gatesLow = true →
        Answers (.coefLoad t r) s (fun s' => Replied s' r 0x0305 stOk 0 [] ∧ s'.ctl.struct = some c ∧ s'.cfg.asmC = none)) ∧
      (∀ c g, d.length = total → d ≠ [] → uAt d 2 1 ≠ 1 → a.ctl.struct = some c → gainOf d c = some g → a.ctl.swapAt = none →
        Answers (.coefLoad t r) s (fun s' => Replied s' r 0x0305 stOk 0 [] ∧ s'.cfg.asmC = none ∧
          (if a.get F.CTL_BANKSEL_ACTIVE = 0 then s'.ctl.bank1 = some g ∧ s'.ctl.bank0 = a.ctl.bank0
           else s'.ctl.bank0 = some g ∧ s'.ctl.bank1 = a.ctl.bank1) ∧ s'.flag F.CTL_BANKSEL_SHVALID = true))) ∧
    (serves a 0x0305 r { len := fun p => decide (12 ≤ p.length) && decide (p.length ≤ 1400), pad := [9, 10, 11], flagsAt := some (8, 3) } = true →
      uAt r.payload 8 1 = 1 → uAt r.payload 0 4 = 0 → total = 0 → r.payload.length = 12 → a.ctl.swapAt = none →
      a.flag F.CTL_BANKSEL_SHVALID = true → Answers (.coefLoad t r) s (fun s' => s'.flag F.CTL_BANKSEL_SWAPPEND = true ∧
        s'.ctl.swapAt = some (a.now + a.toSample 10000) ∧ ∃ w ∈ s'.host.waiting, w.why = .swap ∧ w.req = r)) ∧
    (∀ x, a.inService = true → x.since + 60 * sec ≤ a.now →
      (a.cfg.asmT = some x → Answers (.loadAssemblyTimeout t false) s (fun s' => s'.cfg = { a.cfg with asmT := none })) ∧
      (a.cfg.asmC = some x → Answers (.loadAssemblyTimeout t true) s (fun s' => s'.cfg = { a.cfg with asmC := none })))

/-- R85, R87, R173, R269, R304 to R306, R373, R375 and the tables of SETPOINT, SETPOINT_SOURCE, BALANCE_PLAN, PARK and WAKE: a set-point and
its source wait for the next control sample instant, where the payload's value becomes the NET value unless an allocation is applied at that
instant, and the source its three values; both are stored while a learning job runs; a plan goes to the ring and is answered when every node
has returned; PARK, entered once its reply is sent, stops the module's sampling, valve and coils that are off stay off, a wake brings RUN back. Where the manual leaves a corner
open, the model chooses as log entries 36, 50 and 78 say; that the valve stops in PARK is log entry 50's deduction, not a sentence of the manual. -/
def Obligations.OperationOpcodesAct : Prop :=
  ∀ (s a : State) (t : Nat) (r : Req) (x : SampleIn), a = s.upto t →
    (serves a 0x0403 r (Fmt.fixed 4 []) = true →
      (a.flag F.CTL_SPCFG_PMODE = true ∨ (iAt r.payload 0 4).natAbs ≤ 1250000) →
      (a.lrn.job = none → Answers (.setpoint t r) s (fun s' => Replied s' r 0x0403 stOk 0 [] ∧
        s'.ctl = { a.ctl with spNext := a.ctl.spNext ++ [(0x0403, r.payload)] })) ∧
      (a.lrn.job.isSome = true → Answers (.setpoint t r) s (fun s' => Replied s' r 0x0403 stOk 0 [] ∧
        s'.ctl = { a.ctl with later := a.ctl.later ++ [(0x0403, r.payload)] }))) ∧
    (∀ p, a.sampleDue = true → a.lrn.job = none → a.ctl.spNext = [(0x0403, p)] →
      (a.bay.appliedNo ≠ some (a.gridCount 5000) → Answers (.controlSample t x) s (fun s' => s'.ctl.net = some (iAt p 0 4, a.now))) ∧
      (a.bay.appliedNo = some (a.gridCount 5000) → Answers (.controlSample t x) s (fun s' =>
        s'.ctl.net = a.ctl.net ∧ (0x0403, p) ∈ s'.ctl.spNext))) ∧
    (∀ p, a.sampleDue = true → a.lrn.job = none → a.ctl.spNext = [(0x0404, p)] → uAt p 0 1 ≤ 3 → uAt p 1 1 ≤ 1 →
      Answers (.controlSample t x) s (fun s' => s'.get F.CTL_SPCFG_SRC = uAt p 0 1 ∧ s'.get F.CTL_SPCFG_PMODE = uAt p 1 1 ∧
        s'.get F.CTL_SPLOCAL = uAt p 4 4)) ∧
    (serves a 0x0403 r (Fmt.fixed 4 []) = true → a.flag F.CTL_SPCFG_PMODE = false → 1250000 < (iAt r.payload 0 4).natAbs →
      Answers (.setpoint t r) s (fun s' => Replied s' r 0x0403 stBadParam 0 (leBytes 2 0 ++ leBytes 2 0) ∧ s'.ctl = a.ctl)) ∧
    (serves a 0x0404 r (Fmt.fixed 8 [2, 3]) = true → uAt r.payload 0 1 ≤ 3 → uAt r.payload 1 1 ≤ 1 →
      ((uAt r.payload 1 1 = a.get F.CTL_SPCFG_PMODE ∨ a.loopStopped = true) → a.lrn.job = none →
        Answers (.setpointSource t r) s (fun s' => Replied s' r 0x0404 stOk 0 [] ∧
          s'.ctl = { a.ctl with spNext := a.ctl.spNext ++ [(0x0404, r.payload)] })) ∧
      ((uAt r.payload 1 1 = a.get F.CTL_SPCFG_PMODE ∨ a.loopStopped = true) → a.lrn.job.isSome = true →
        Answers (.setpointSource t r) s (fun s' => Replied s' r 0x0404 stOk 0 [] ∧
          s'.ctl = { a.ctl with later := a.ctl.later ++ [(0x0404, r.payload)] })) ∧
      (uAt r.payload 1 1 ≠ a.get F.CTL_SPCFG_PMODE → a.loopStopped = false → Answers (.setpointSource t r) s (fun s' =>
        Replied s' r 0x0404 stRefused 0 (leBytes 2 3 ++ leBytes 2 0xFFFF) ∧ s'.get F.CTL_SPCFG_SRC = a.get F.CTL_SPCFG_SRC))) ∧
    (serves a 0x0405 r { len := fun p => decide (2 ≤ p.length) && p.length == 2 + 34 * uAt p 0 1, pad := [1] } = true →
      (a.get F.ACQ_BAL_CFG_SRC = 1 → a.flag F.ACQ_BAL_CFG_ENABLE = true → 1 ≤ uAt r.payload 0 1 → uAt r.payload 0 1 ≤ 40 →
        (∀ i < uAt r.payload 0 1, a.planBad r.payload i = none) → a.planFull r.payload = false → (∀ w ∈ a.host.waiting, w.why ≠ .balance) →
        Answers (.balancePlan t r) s (fun s' => s'.ring.results = [] ∧ (∃ w ∈ s'.host.waiting, w.why = .balance ∧ w.req = r) ∧
          ∀ i < uAt r.payload 0 1, ∃ c ∈ s'.ring.cmds, c.pos = planPos r.payload i ∧ c.cmd = 4 ∧ c.use = 1 ∧
            c.payload = ((List.range 16).flatMap (fun k => leBytes 2 (uAt r.payload (4 + 34 * i + 2 * k) 2)))
              ++ leBytes 1 (uAt r.payload (3 + 34 * i) 1) ++ [0])) ∧
      (a.get F.ACQ_BAL_CFG_SRC ≠ 1 → Answers (.balancePlan t r) s (fun s' =>
        Replied s' r 0x0405 stRefused 0 (leBytes 2 9 ++ leBytes 2 0xFFFF) ∧ s'.ring = a.ring))) ∧
    (∀ c w rx raw code ps old more, a.inService = true → a.ringOn = true → a.ring.inflight = some c → c.use = 1 → c.cmd = 4 → c.queue < 4 →
      c.pos ≠ 0 → a.ring.replies = [] → a.lan.supDown = false → frameRead (a.rxLine (a.backPort c.west) rx) = some raw → 12 ≤ raw.length →
      uAt raw 7 1 = crc8 (raw.take 7) → uAt raw (raw.length - 4) 4 = crc32c (raw.take (raw.length - 4)) → (uAt raw 3 1).testBit 1 = true →
      (a.host.waiting.find? fun x => x.why == WaitFor.balance) = some w → w.id.prov = false → w.id.tagged = true → w.id.bcast = false →
      a.isOpen w.id.session = true → (a.session w.id.session).cache = (w.id.seq, old) :: more →
      ps = (List.range (uAt w.req.payload 0 1)).map (planPos w.req.payload) → (∀ p ∈ ps, p ≠ c.pos → (assoc? p a.ring.results).isSome = true) →
      code = (if uAt raw (8 + c.payload.length) 1 = 3 then 0 else uAt raw (8 + c.payload.length) 1) →
      Answers (.ringCommandReturn t (some rx)) s (fun s' => ∃ qs more1, (s'.session w.id.session).cache = (w.id.seq, qs) :: more1 ∧
        (qs.map (·.payload)).flatten = ps.map (fun p => BitVec.ofNat 8 (if p = c.pos then code else (assoc? p a.ring.results).getD 0xFF)) ∧
        ∀ q ∈ qs, q.opcode = w.id.op ∧ q.seq = w.id.seq ∧ q.status = stOk)) ∧
    (serves a 0x0407 r (Fmt.fixed 0 []) = true →
      (a.parkRefused = none → a.parkBusy = false → r.via ≠ .spi → a.host.waiting = [] → (∀ c ∈ a.host.closing, c.1 ≠ r.session) →
        Answers (.park t r) s (fun s' => Replied s' r 0x0407 stOk 0 [] ∧
        s'.rst.mode = .park ∧ s'.time.run = false ∧ s'.pads.gates = false ∧ s'.get F.RST_STAT_MSTATE = 1 ∧
        s'.flag F.TIM_ETH_LINK = false ∧ s'.get F.CAN_STAT_STATE = 0 ∧ s'.get F.THM_VALVE_DUTY = 0 ∧ s'.pads.valve = false ∧
        (a.get F.PRT_CONTSTAT_COIL = 0 → s'.pads.coils = [false, false, false]))) ∧
      (a.parkRefused = none → a.parkBusy = false → r.via = .spi → Answers (.park t r) s (fun s' => Replied s' r 0x0407 stOk 0 [] ∧
        s'.rst.mode = a.rst.mode ∧ s'.rst.parkReq = some (reqId r 0x0407 false))) ∧
      (a.parkBusy = true → Answers (.park t r) s (fun s' => Replied s' r 0x0407 stBusy 0 (leBytes 2 0x000F ++ leBytes 2 0xFFFF) ∧
        s'.rst.mode = a.rst.mode)) ∧
      (∀ c, a.parkBusy = false → a.parkRefused = some c → Answers (.park t r) s (fun s' => Replied s' r 0x0407 stRefused 0 (leBytes 2 c ++ leBytes 2 0xFFFF) ∧
        s'.rst.mode = a.rst.mode))) ∧
    (∀ id p more n, a.inService = true → a.portOpen .spi = true → a.spiEarly .spi = false → a.rst.parkReq = some id → a.host.spiOut = p :: more →
      more.any (·.answers id) = false → p.bytes.length ≤ n → a.parkBusy = false → a.parkRefused = none →
      Answers (.spiRead t n) s (fun s' => s'.rst.mode = .park ∧ s'.rst.parkReq = none ∧ s'.time.run = false)) ∧
    (serves a 0x0408 r (Fmt.fixed 0 []) = true →
      (a.parked = false → Answers (.wake t r) s (fun s' => Replied s' r 0x0408 stOk 0 [] ∧ s'.rst.mode = a.rst.mode)) ∧
      (a.parked = true → a.haltCause = 0 → a.rst.halted = false → a.host.waiting = [] → Answers (.wake t r) s (fun s' =>
        Replied s' r 0x0408 stOk 0 [] ∧ s'.rst.mode = .run ∧ s'.time.run = true ∧
        s'.get F.RST_WAKESRC_SRC = (if r.via = .spi then 2 else 1))))
/-- R115, R116, R124, R125, R144: an update of a quarter, once its records are in or the scan has ended, moves the charge of every initialised group that delivers no fresh voltage by dQ
alone and marks the quarter as done; the string values span every group's usable SOC, and entry 3 tapers where no profile is selected; an
elapsed learning interval sets DUE with its event once. Where the manual leaves a corner open, the model chooses as log entry 41 says. -/
def Obligations.EstimatorUpdatesMoveCharge : Prop :=
  ∀ (s a : State) (t q : Nat), a = s.upto t →
    (∀ p, a.lanesOn = true → q < 4 → q ∉ a.est.done → a.chargeIn = true → a.quarterIn q = true → (nth none a.lan.est q).isSome = true →
      a.quarterOut q .cells = false → a.quarterStalls q = false → 0 < a.ring.lastS → a.prof? = some p → a.flag F.CVI_SH_STAT_NONE = false →
      q < a.est.lastUpd.length → (∀ x, a.cells x ≤ 16) → (∀ g, a.wireSuspect g = false) →
      Answers (.estimatorUpdate t q) s (fun s' => q ∈ s'.est.done ∧ nth 0 s'.est.lastUpd q = a.now ∧
        ∀ g ∈ a.groups, groupQ g = q → (a.cell g).init = true → a.stale (groupPos g) = true →
          (s'.cell g).qrem = clipS 64 ((a.cell g).qrem - (a.cvi.qS - a.cvi.qPrev) * 65536))) ∧
    (a.inService = true → a.s1Down = false →
      (a.prof? ≠ none → Answers (.stringValuesUpdate t) s (fun s' => ∀ g ∈ a.groups, (a.cell g).init = true →
        s'.get F.EST_STR_USOC_LO ≤ pct (a.usable (a.cell g)) ∧ pct (a.usable (a.cell g)) ≤ s'.get F.EST_STR_USOC_HI)) ∧
      (a.prof? = none → Answers (.stringValuesUpdate t) s (fun s' =>
        s'.getI (F.PRT_ENT_DIS.ix8 3) = (if a.get F.EST_STR_USOC_LO = 0 then clipS 32 a.taper else noLimit) ∧
        s'.getI (F.PRT_ENT_CHG.ix8 3) = (if a.get F.EST_STR_USOC_HI = 10000 then clipS 32 a.taper else noLimit)))) ∧
    (a.inService = true → a.lrn.started = true → a.get F.EST_LRN_LAST_LEARNLAST + a.get F.EST_LRN_CFG_DAYS * 86400 ≤ a.opsec →
      Answers (.learnIntervalExpiry t) s (fun s' => s'.flag F.EST_LRN_STAT_DUE = true ∧ s'.lrn.dueRaised = true ∧
        (a.lrn.dueRaised = false → 35 ∈ s'.evr.pend)))

/-- R130, R136 to R139 and the tables of REST_GRANT, EST_SNAPSHOT_READ, EST_RESTORE and EST_RESET_CELL: a grant opens, replaces or ends a
rest window, one of no length by bringing its end to the present, and a window ends at its end; a snapshot is captured, read in pieces, and its copy expires; pieces of a snapshot are kept and
discarded after 60 s; an accepted restore takes effect with the first strobe at least 1 ms on, after its update; a reset of groups waits for the next update. Where the manual leaves a
corner open, the model chooses as log entry 42 says. -/
def Obligations.RestWindowsSnapshotsAndRestoresAct : Prop :=
  ∀ (s a : State) (t : Nat) (r : Req), a = s.upto t →
    (∀ n, n = uAt r.payload 0 2 → serves a 0x0406 r (Fmt.fixed 4 [2, 3]) = true → n ≠ 65535 → a.lrn.job = none →
      Answers (.restGrant t r) s (fun s' => Replied s' r 0x0406 stOk 0 [] ∧ s'.flag F.EST_FLAGS_RESTING = (n != 0) ∧
        s'.est.restEnd = if n = 0 then a.est.restEnd.map (fun _ => a.now) else some (a.now + n * sec))) ∧
    (∀ e, a.inService = true → a.est.restEnd = some e → e ≤ a.now → Answers (.restWindowEnd t) s (fun s' =>
      s'.flag F.EST_FLAGS_RESTING = false ∧ s'.est.restEnd = none)) ∧
    (∀ f n, f = uAt r.payload 0 2 → n = uAt r.payload 2 2 → serves a 0x0505 r (Fmt.fixed 4 []) = true → a.lrn.job = none → 1 ≤ f →
      1 ≤ n → f + n ≤ 641 → Answers (.estResetCell t r) s (fun s' => Replied s' r 0x0505 stOk 0 [] ∧
        s'.est.resetReq = a.est.resetReq ++ [(f, n)])) ∧
    (∀ o n, o = uAt r.payload 0 4 → n = uAt r.payload 4 2 →
      serves a 0x0501 r { len := fun p => p.length == 8, pad := [7], flagsAt := some (6, 1) } = true → 1 ≤ n → n ≤ 1024 → o + n ≤ 49152 →
      (∀ c, a.est.copy = some c → uAt r.payload 6 1 = 0 ∨ o ≠ 0 → Answers (.estSnapshotRead t r) s (fun s' =>
        Replied s' r 0x0501 stOk 0 (slice c o n) ∧ s'.est.copyAt = a.now)) ∧
      (uAt r.payload 6 1 = 1 → o = 0 → a.parked = false → Answers (.estSnapshotRead t r) s (fun s' =>
        ∃ w, s'.host.waiting = a.host.waiting ++ [w] ∧ w.why = .capture ∧ w.req = r))) ∧
    (a.inService = true → a.scanUpdated = true → a.host.waiting.any (fun x => x.why == .capture && x.since != a.ring.lastS) = true →
      Answers (.snapshotCapture t) s (fun s' => s'.est.copy = some a.snapshot ∧ s'.est.copyAt = a.now ∧
        ∀ w ∈ s'.host.waiting, w.why = .capture → w.since = a.ring.lastS)) ∧
    (a.inService = true → a.est.copy ≠ none → a.est.copyAt + 600 * sec ≤ a.now → Answers (.snapshotCopyExpire t) s (fun s' =>
      s'.est.copy = none ∧ s'.regs = a.regs)) ∧
    (∀ o n, o = uAt r.payload 0 4 → n = uAt r.payload 4 2 →
      serves a 0x0502 r { len := fun p => decide (12 ≤ p.length) && p.length == 12 + uAt p 4 2, pad := [7], flagsAt := some (6, 3) } = true →
      1 ≤ n → n ≤ 1024 → o + n ≤ 49152 → (uAt r.payload 6 1).testBit 0 = false → Answers (.estRestore t r) s (fun s' =>
        Replied s' r 0x0502 stOk 0 [] ∧ ∃ x, s'.est.restore = some x ∧ x.since = a.now ∧
          x.bytes = ((a.est.restore.map (·.bytes)).getD []) ++ [(o, r.payload.drop 12)])) ∧
    (∀ b el forced at_, a.inService = true → a.est.apply = some (b, el, forced, at_) → a.est.applyDue = true → a.chargeIn = true →
      a.scanUpdated = true →
      Answers (.restoreApply t) s (fun s' => s'.est.apply = none ∧ s'.flag F.EST_FLAGS_RESTORED_SEEN = true ∧
        s'.flag F.EST_FLAGS_CHGLOST = false ∧ s'.flag F.EST_FLAGS_ASSUMED_REST = (uAt b 44 4 != a.est.runId) ∧
        ∀ w ∈ s'.host.waiting, w.why ≠ .restore)) ∧
    (∀ x, a.inService = true → a.est.restore = some x → x.since + 60 * sec ≤ a.now → Answers (.restoreDiscard t) s (fun s' =>
      s'.est.restore = none ∧ s'.regs = a.regs))
/-- R145 to R149, R153 and the tables of LEARN_START and IMPEDANCE_SWEEP: a start that nothing bars is accepted with a job and begins its
first phase or its points; a phase whose end condition holds gives way to the next, the last ends the job, and one that takes too long fails
it. Where the manual leaves a corner open, the model chooses as log entry 43 says. -/
def Obligations.LearningJobsPassTheirPhases : Prop :=
  ∀ (s a : State) (t : Nat) (r : Req), a = s.upto t →
    (∀ rate chg tgt, rate = uAt r.payload 0 2 → chg = uAt r.payload 2 2 → tgt = uAt r.payload 4 2 →
      serves a 0x0503 r (Fmt.fixed 6 []) = true → a.carrying = true →
      (∀ g ∈ a.groups, 1500 ≤ a.tGroup g ∧ a.tGroup g ≤ 3500) → a.lrn.job = none → a.sweeping = false → 50 ≤ rate → rate ≤ 200 →
      50 ≤ chg → chg ≤ 500 → tgt ≤ 10000 ∨ tgt = 65535 → a.jobRoom = true → Answers (.learnStart t r) s (fun s' =>
        ∃ j, Replied s' r 0x0503 stAccepted j [] ∧ s'.lrn.job = some j ∧ s'.get F.EST_LRN_STAT_PHASE = 1 ∧
          s'.lrn.setp = -(a.cRate chg) ∧ s'.lrn.rate = rate ∧ s'.lrn.target = tgt)) ∧
    (∀ n, n = a.get F.EST_LRN_STAT_PHASE → a.lrn.job ≠ none → a.lrnDone = true →
      (n < 4 ∨ n = 4 ∧ a.lrn.target ≠ 65535 → Answers (.learnPhaseEnd t) s (fun s' =>
        s'.get F.EST_LRN_STAT_PHASE = n + 1 ∧ s'.lrn.phaseAt = a.now ∧ s'.lrn.phaseQ = a.cvi.qS ∧ s'.lrn.job = a.lrn.job)) ∧
      (n = 5 ∨ n = 4 ∧ a.lrn.target = 65535 → Answers (.learnPhaseEnd t) s (fun s' =>
        s'.get F.EST_LRN_STAT_PHASE = 0 ∧ s'.lrn.job = none ∧
        ∀ id j, a.lrn.job = some id → a.job? id = some j → j.st = .running → ∃ k, s'.job? id = some k ∧ k.st = .done ∧ k.value = j.total))) ∧
    (a.lrn.job ≠ none → a.lrn.phaseAt + a.lrnLimit < a.now → Answers (.learnPhaseTimeout t) s (fun s' =>
      s'.get F.EST_LRN_STAT_PHASE = 0 ∧ s'.lrn.job = none ∧ s'.flag F.EST_LRN_STAT_JOBFAIL_SEEN = true ∧
      s'.get F.EST_LRN_STAT_LASTDQ = 0 ∧ 36 ∈ s'.evr.pend ∧
      ∀ id j, a.lrn.job = some id → a.job? id = some j → j.st = .running → ∃ k, s'.job? id = some k ∧ k.st = .failed ∧ k.final = stRefused)) ∧
    (∀ n amp, n = uAt r.payload 0 1 → amp = uAt r.payload 2 2 →
      serves a 0x0504 r { len := fun p => decide (4 ≤ p.length) && p.length == 4 + 8 * uAt p 0 1,
                          pad := 1 :: ((List.range 255).flatMap (fun i => [10 + 8 * i, 11 + 8 * i])) } = true →
      a.carrying = true → a.get F.RING_CTRL_RATE = 0 → a.lrn.job = none → a.sweeping = false → 1 ≤ n → n ≤ 8 → 1000 ≤ amp → amp ≤ 20000 →
      (∀ p ∈ sweepPts r.payload, p.ok = true) → a.jobRoom = true → Answers (.impedanceSweep t r) s (fun s' =>
        ∃ j, Replied s' r 0x0504 stAccepted j [] ∧ s'.imp.job = some j ∧ s'.imp.pts = sweepPts r.payload ∧ s'.imp.ampl = amp ∧
          s'.get F.EST_IMP_STAT_NPTS = n ∧ s'.get F.EST_IMP_STAT_POINT = 0 ∧ s'.get F.EST_IMP_STAT_STATE = 0))

/-- R148 to R154, R158, R159: a point starts with the amplitude the limits leave, at the first strobe after the last point, or is skipped below 1 A; it settles, correlates, uploads a
burst's samples and is fitted, a clipped point once more; an automatic sweep starts, waits for the end of a host's, or is put off by ten minutes; the
age of an inferred temperature is the whole hours since its result, at most 254. Where the manual leaves a corner open, the model chooses as log entries 12, 43, 44 and 72 say. -/
def Obligations.ImpedancePointsPassTheirStages : Prop :=
  ∀ (s a : State) (t : Nat), a = s.upto t →
    (∀ apt : Int, apt = min (min (min (a.imp.ampl : Int) (50 * a.get F.CTL_SPCFG_IRATED : Nat)) 20000)
        (min (a.getI F.PRT_LDIS - a.ctl.islew) (a.getI F.PRT_LCHG + a.ctl.islew)) →
      a.sweeping = true → a.imp.on = false → a.imp.ready = false → a.get F.EST_IMP_STAT_STATE = 0 →
      a.imp.after < a.ring.lastS →
      (1000 ≤ apt → Answers (.impPointStart t) s (fun s' => s'.imp.on = true ∧ s'.imp.apt = apt ∧ s'.imp.onAt = a.ring.lastS ∧
        s'.get F.EST_IMP_STAT_STATE = 1)) ∧
      (apt < 1000 → a.imp.k + 1 < a.imp.pts.length → a.imp.k < 7 → Answers (.impPointStart t) s (fun s' => s'.imp.k = a.imp.k + 1 ∧
        s'.imp.on = false ∧ s'.get F.EST_IMP_STAT_POINT = a.imp.k + 1 ∧ s'.get F.EST_IMP_STAT_STATE = 0 ∧
        ∀ g, 1 ≤ g → g ≤ 640 → s'.word (impRe a.imp.k g) = 0x80000000 ∧ s'.word (impIm a.imp.k g) = if a.groupOk g then 4 else 3))) ∧
    (∀ p, a.imp.on = true → a.impPt = some p →
      (a.get F.EST_IMP_STAT_STATE = 1 → a.imp.onAt + p.time p.settling ≤ a.ring.lastS → Answers (.impSettlingEnd t) s (fun s' =>
        s'.get F.EST_IMP_STAT_STATE = 2 ∧ s'.imp.phaseAt = a.ring.lastS ∧ s'.imp.vSer = [] ∧ (p.burst = false → s'.imp.iSer = []))) ∧
      (a.get F.EST_IMP_STAT_STATE = 2 → p.len ≤ a.imp.iSer.length → a.imp.phaseAt + p.time p.cycles ≤ a.quartzNs →
        Answers (.impCorrelationEnd t) s (fun s' => s'.imp.on = false ∧
        s'.get F.EST_IMP_STAT_STATE = (if p.burst then 3 else 2) ∧ (p.burst = false → s'.imp.ready = true)))) ∧
    (a.get F.EST_IMP_STAT_STATE = 3 → a.imp.ready = false → a.uploading = false → Answers (.impUploadDone t) s (fun s' =>
      s'.imp.ready = true ∧ s'.regs = a.regs)) ∧
    (∀ p, a.imp.ready = true → a.sweeping = true → a.impPt = some p →
      (a.imp.clipped = true → a.imp.clips = 0 → Answers (.impFitDone t) s (fun s' => s'.flag F.EST_IMP_STAT_CLIP_SEEN = true ∧
        s'.get F.EST_IMP_STAT_STATE = 0 ∧ s'.imp.clips = 1 ∧ s'.imp.k = a.imp.k ∧ s'.imp.ready = false)) ∧
      (a.imp.clipped = false → a.imp.k < 8 → p.actual < 4294967296 → Answers (.impFitDone t) s (fun s' =>
        s'.get (F.EST_IMP_FREQ.ix (a.imp.k % 8)) = p.actual ∧ s'.imp.k = a.imp.k + 1 ∧ s'.imp.ready = false ∧
        (a.imp.pts.length ≤ a.imp.k + 1 → s'.flag F.EST_IMP_STAT_DONE_SEEN = true ∧ s'.imp.pts = [] ∧ 37 ∈ s'.evr.pend)))) ∧
    (∀ d, a.inService = true → a.get F.EST_IMP_CFG_AUTOH ≠ 0 → a.imp.autoAt + 3600 * a.get F.EST_IMP_CFG_AUTOH ≤ a.opsec →
      a.imp.retryAt ≤ a.opsec → a.impRef? = some d →
      (a.carrying = true → a.get F.RING_CTRL_RATE = 0 → a.lrn.job = none → a.sweeping = false → Answers (.impAutoSweepDue t) s (fun s' =>
        s'.flag F.EST_IMP_STAT_AUTO = true ∧ s'.imp.job = none ∧ s'.imp.autoAt = a.opsec ∧
        s'.imp.pts.map (·.freq) = [uAt d 0 4, uAt d 4 4])) ∧
      (a.sweeping = false → a.carrying = false ∨ a.get F.RING_CTRL_RATE ≠ 0 ∨ a.lrn.job ≠ none → Answers (.impAutoSweepDue t) s (fun s' =>
        s'.imp.retryAt = a.opsec + 600 ∧ s'.regs = a.regs)) ∧
      (a.sweeping = true → Answers (.impAutoSweepDue t) s (fun s' => s'.imp = a.imp ∧ s'.regs = a.regs))) ∧
    (∀ g, a.started = true → 1 ≤ g → g ≤ 640 → (∀ x ∈ a.imp.tintAt, 1 ≤ x.1) → (a.imp.tintAt.map (·.1)).Nodup →
      Answers (.tintAgeTick t) s (fun s' => s'.get (F.EST_TINT_AGE.ix (g - 1)) = match assoc? g a.imp.tintAt with
        | some b => min 254 ((a.now - b) / (3600 * sec))
        | none => a.get (F.EST_TINT_AGE.ix (g - 1))))
/-- R165, R174, R182, R189, R193, R239, R240: with the loop stopped a control sample, taken once for each 5 µs instant of the grid, latches its values and writes the limits, and the
set-point stays within them; a blocked direction is limited to 0; the envelope band follows the voltages; the vector that every ACTIVE lane
posts is selected, and where no vector agrees with itself, none is. Where the manual leaves a corner open, the model chooses as log entries
45, 46 and 47 say. -/
def Obligations.ControlSamplesRespectTheLimits : Prop :=
  (∀ (s a : State) (t : Nat) (x : SampleIn), a = s.upto t → a.sampling = true →
    (a.sampleDue = true → a.get F.CTL_STAT_STATE = 0 → a.ctl.stopReq = false → a.ctl.swapAt = none → a.lan.sw = none → a.imp.stopping = false →
      a.flag F.SAF_STAT_RAMP = false → a.prt.seq = none → a.safSt ≠ 2 →
      Answers (.controlSample t x) s (fun s' =>
        (∃ v : Samp, s'.cvi.hist = (v :: a.cvi.hist).take 520 ∧ v.eff = a.gridAt 5000 - 5000 ∧ v.sh = a.domainGood 5 ∧ v.hv = a.domainGood 6) ∧
        s'.ctl.iphHist = (a.phaseSum x :: a.ctl.iphHist).take 64 ∧
        (a.flag F.PRT_LIMIT_BLK_DIS = true → s'.getI F.PRT_LDIS = 0 ∧ s'.get F.PRT_LIMIT_BIND_DIS = 15) ∧
        (a.flag F.PRT_LIMIT_BLK_CHG = true → s'.getI F.PRT_LCHG = 0 ∧ s'.get F.PRT_LIMIT_BIND_CHG = 15) ∧
        (0 ≤ s'.getI F.PRT_LDIS → 0 ≤ s'.getI F.PRT_LCHG →
          -(s'.getI F.PRT_LCHG) ≤ s'.getI F.CTL_SPNOW ∧ s'.getI F.CTL_SPNOW ≤ s'.getI F.PRT_LDIS))) ∧
    (a.sampleDue = false → Answers (.controlSample t x) s (fun s' => s'.ctl = a.ctl ∧ s'.cvi = a.cvi ∧ s'.regs = a.regs)) ∧
    Answers (.envelopeBandUpdate t) s (fun s' => s'.ctl.band = a.bandNow ∧ s'.regs = a.regs)) ∧
  (∀ (tol : Nat) (f : List Int → Bool) (posts : List (List Int)) (v : List Int), posts ≠ [] →
    (v ≠ [] → (∀ p ∈ posts, p = v) → selectVec tol f posts = some v) ∧
    ((∀ p ∈ posts, p = []) → selectVec tol f posts = none))

/-- R176, R177, R179, R181 and Tables 7.4 and 7.5: a start that nothing bars warms up with CONV_EN high; a stop waits for the next control
sample; after warm-up the gates are free, from the instant the vector then posted comes into force; 10 µs after the gates are low CONV_EN falls; a due swap exchanges the banks; each source's fault
is set when its time has passed and clears after its good time. Where the manual leaves a corner open, the model chooses as log entry 45
says. -/
def Obligations.LoopStartsStopsAndSwaps : Prop :=
  ∀ (s a : State) (t b : Nat) (pulse : Bool), a = s.upto t →
    (a.inService = true → a.writeErr 0x70000 (a.withField F.CTL_CTRL_RUN 1) = none → a.flag F.CTL_CTRL_RUN = false →
      Answers (.loopStartWrite t) s (fun s' => s'.get F.CTL_STAT_STATE = 1 ∧ s'.flag F.CTL_CTRL_RUN = true ∧ s'.ctl.convEn = true ∧
        s'.ctl.islew = 0 ∧ s'.ctl.warm = 0)) ∧
    (a.inService = true → a.writeErr 0x70000 (a.withField F.CTL_CTRL_RUN 0) = none → a.flag F.CTL_CTRL_RUN = true →
      Answers (.loopStopWrite t) s (fun s' => s'.ctl.stopReq = true ∧ s'.get F.CTL_STAT_STATE = a.get F.CTL_STAT_STATE)) ∧
    (a.sampleDue = true → a.warmDue = true → Answers (.loopWarmupEnd t) s (fun s' => s'.get F.CTL_STAT_STATE = 2 ∧
      s'.ctl.gatesLow = false ∧ s'.ctl.freeAt = a.now + 800 ∧ s'.pads.gates = false ∧
      s'.ctl.env = some (a.getI F.CTL_ENV0_K1, a.getI F.CTL_ENV0_K0, a.get F.CTL_ENV1_BAND, a.get F.CTL_ENV1_PERSIST))) ∧
    (a.ctl.convEn = true → a.loopStopped = true → a.ctl.gatesLow = true → a.ctl.lowAt + 10 * usec ≤ a.now →
      Answers (.convEnFall t) s (fun s' => s'.ctl.convEn = false ∧ s'.pads.convEn = false ∧ s'.regs = a.regs)) ∧
    (a.sampling = true → a.swapDue = true → Answers (.gainSwap t) s (fun s' =>
      s'.get F.CTL_BANKSEL_ACTIVE = 1 - a.get F.CTL_BANKSEL_ACTIVE ∧ s'.get F.CTL_BANKSEL_ACTVALID = a.get F.CTL_BANKSEL_SHVALID ∧
      s'.get F.CTL_BANKSEL_SHVALID = a.get F.CTL_BANKSEL_ACTVALID ∧ s'.flag F.CTL_BANKSEL_SWAPPEND = false ∧ s'.ctl.swapAt = none ∧
      ∀ w ∈ s'.host.waiting, w.why ≠ .swap)) ∧
    (a.sampling = true → a.get F.CTL_SPCFG_NETTMO ≠ 0 →
      ((a.ctl.net.map (·.2)).getD 0) + 10 * msec * a.get F.CTL_SPCFG_NETTMO ≤ a.now → Answers (.netSetpointTimeout t) s (fun s' =>
        s'.flag F.CTL_SPSTAT_NETTMO = true ∧ s'.flag F.CTL_SPSTAT_NETTMO_SEEN = true ∧ s'.ctl = a.ctl)) ∧
    (a.sampling = true → a.ctl.anaAt = some b → b + msec ≤ a.now → Answers (.analogSetpointOverrange t) s (fun s' =>
      s'.flag F.CTL_SPSTAT_ANAOVR = true ∧ s'.flag F.CTL_SPSTAT_ANAOVR_SEEN = true)) ∧
    (a.sampling = true → a.ctl.pulseBad = true ∨ a.ctl.pulseAt.getD 0 + 2 * msec ≤ a.now → Answers (.pulseSetpointFault t) s (fun s' =>
      s'.flag F.CTL_SPSTAT_PULSEOVR = true ∧ s'.flag F.CTL_SPSTAT_PULSEOVR_SEEN = true)) ∧
    (a.sampling = true → (if pulse then a.ctl.pulseOkAt else a.ctl.anaOkAt) = some b → b + 10 * msec ≤ a.now →
      Answers (.setpointFaultClear t pulse) s (fun s' => s'.flag (if pulse then F.CTL_SPSTAT_PULSEOVR else F.CTL_SPSTAT_ANAOVR) = false ∧
        s'.flag (if pulse then F.CTL_SPSTAT_PULSEOVR_SEEN else F.CTL_SPSTAT_ANAOVR_SEEN) =
          a.flag (if pulse then F.CTL_SPSTAT_PULSEOVR_SEEN else F.CTL_SPSTAT_ANAOVR_SEEN)))
/-- R22, R30, R31, R185 to R188, R190, R199: an overcurrent comparator, a gate fault, a barrier loss, an overcurrent still held 1 ms after
its latch, the loss of CTRL and an accepted TRIP meant for this module each latch their cause in PRT_TRIP, and no gate may switch; where the cause opens the
coils, every coil is off; the loss of CTRL or SAFE puts a module in RUN into HALT. Where the manual leaves a corner open, the model chooses
as log entry 48 says. -/
def Obligations.FlintLatchesItsCauses : Prop :=
  ∀ (s a : State) (t ph : Nat) (chg : Bool) (x : Crossing) (r : Req), a = s.upto t →
    (a.armed = true → Answers (.overcurrentComparator t chg) s (fun s' =>
      s'.flag { F.PRT_TRIP_OC_DIS with lo := b2n chg } = true ∧ s'.pads.gates = false ∧
      (if chg then s'.prt.ocChg else s'.prt.ocDis) = true ∧ (a.flag F.PRT_CFG_OCOPEN = true → s'.get F.PRT_CONTSTAT_COIL = 0))) ∧
    (a.armed = true → a.flag F.PRT_CFG_OCOPEN = false →
      (if chg then a.prt.ocChgAt else a.prt.ocDisAt).any (fun b => decide (b + msec ≤ a.now)) = true →
      Answers (.ocHoldCheck t chg) s (fun s' =>
        s'.flag F.PRT_TRIP_OC_HOLD = true ∧ s'.pads.gates = false ∧ s'.get F.PRT_CONTSTAT_COIL = 0)) ∧
    (a.armed = true → ph < 4 → Answers (.gateFault t ph) s (fun s' =>
      s'.flag F.PRT_TRIP_DESAT = true ∧ s'.pads.gates = false ∧ (a.flag F.PRT_TRIP_DESAT = false → s'.get F.PRT_TRIP_DESATPH = ph))) ∧
    (a.inService = true → Answers (.barrierLoss t x) s (fun s' =>
      s'.flag F.PRT_TRIP_BARRIER = true ∧ s'.pads.gates = false ∧ s'.silent x = true)) ∧
    (a.silentLong x = true → x ≠ .shuntA → x ≠ .shuntB →
      Answers (.barrierLossCoilTimeout t) s (fun s' => s'.get F.PRT_CONTSTAT_COIL = 0)) ∧
    (a.clockGood 4 = true → a.rst.mode = .run → Answers (.ctrlClockLoss t) s (fun s' =>
      s'.flag F.PRT_TRIP_CTRL_CLK = true ∧ s'.pads.gates = false ∧ s'.rst.mode = .halt ∧ s'.get F.RST_STAT_HALTC = 3)) ∧
    (a.clockGood 1 = true → a.rst.mode = .run → Answers (.safeClockLoss t) s (fun s' =>
      s'.pads.gates = false ∧ s'.get F.PRT_CONTSTAT_COIL = 0 ∧ s'.rst.mode = .halt ∧ s'.get F.RST_STAT_HALTC = 4)) ∧
    (a.portOpen r.via = true → a.coresHeld = false → a.provClosed r = false → a.isOpen r.session = true → r.auth = true →
      a.rst.mode ≠ .recovery → r.cls = 10 →
      0xFE ≤ r.target ∨ (r.target < 64 ∧ a.flag F.BAY_POS_VALID = true ∧ a.role ≠ 3 ∧ r.target = a.get F.BAY_POS_POS) →
      ∀ mode : Byte, r.payload = [mode] → mode = 0 ∨ mode = 1 →
      Answers (.trip t r) s (fun s' => s'.flag F.PRT_TRIP_TRIP_CMD = true ∧ s'.pads.gates = false ∧
        (mode = 1 → s'.get F.PRT_CONTSTAT_COIL = 0))) ∧
    (r.target < 0xFE → ¬ (r.target < 64 ∧ a.flag F.BAY_POS_VALID = true ∧ a.role ≠ 3 ∧ r.target = a.get F.BAY_POS_POS) →
      Answers (.trip t r) s (fun s' => s'.flag F.PRT_TRIP_TRIP_CMD = a.flag F.PRT_TRIP_TRIP_CMD ∧
        s'.get F.PRT_CONTSTAT_COIL = a.get F.PRT_CONTSTAT_COIL))

/-- R186, R187, R195, R198: what ends a condition of flint or of a coil, and the clearing of latched causes: a written cause clears when its
release condition holds and stays otherwise; a WELD bit clears unless its feedback reads closed; every other cause stands. Where the manual
leaves a corner open, the model chooses as log entry 48 says. -/
def Obligations.FlintConditionsEndAndCausesClear : Prop :=
  ∀ (s a : State) (t k m : Nat) (chg : Bool) (x : Crossing), a = s.upto t →
    Answers (.overcurrentComparatorRelease t chg) s (fun s' => (if chg then s'.prt.ocChg else s'.prt.ocDis) = false) ∧
    (k < a.prt.desat.length → Answers (.desatRelease t k) s (fun s' => nth true s'.prt.desat k = false)) ∧
    (a.silent x = true → Answers (.barrierRestored t x) s (fun s' => s'.silent x = false ∧ (x, a.now) ∈ s'.cvi.back)) ∧
    Answers (.vcoilLow t) s (fun s' => s'.prt.vcoil = false ∧ (a.rst.mode ≠ .off → a.rst.mode ≠ .reset → s'.flag F.PRT_CONTSTAT_VCOILLOW = true)) ∧
    Answers (.vcoilRestored t) s (fun s' => s'.prt.vcoil = true ∧ s'.flag F.PRT_CONTSTAT_VCOILLOW = false) ∧
    (k < 3 → k < a.prt.hold.length → a.coil k = true → nth 0 a.prt.coilAt k + a.ms F.PRT_CONT_PULL ≤ a.now →
      Answers (.coilPullEnd t k) s (fun s' => nth false s'.prt.hold k = true)) ∧
    (k < 3 → a.coil k = true → Answers (.coilCurrentFault t k true) s (fun s' =>
      s'.flag F.PRT_CONTSTAT_COILSHORT = true ∧ s'.coil k = false)) ∧
    (k < 3 → a.coil k = true → Answers (.coilCurrentFault t k false) s (fun s' =>
      s'.flag F.PRT_CONTSTAT_COILOPEN = true ∧ s'.coil k = true)) ∧
    (a.inService = true → a.writeErr 0x8002C m = none → Answers (.prtTripClear t m) s (fun s' => ∀ b, b < 9 →
      s'.flag { F.PRT_TRIP_OC_DIS with lo := b } = (a.flag { F.PRT_TRIP_OC_DIS with lo := b } && !(m.testBit b && a.releasable b)))) ∧
    (a.inService = true → m < 8 → a.writeErr 0x80038 (m * 65536) = none → Answers (.weldClear t m) s (fun s' => ∀ b, b < 3 →
      s'.flag { F.PRT_CONTSTAT_WELD_P with lo := 16 + b } =
        (a.flag { F.PRT_CONTSTAT_WELD_P with lo := 16 + b } && !(m.testBit b && !a.fb b))))

/-- R196 to R198, R230, R304, Tables 8.4 and 8.6: a connect that nothing bars is accepted with a job and closes the precharge contactor, or fails
at step 1 where the coil supply test does; each step of the close sequence acts when its condition holds and fails with its WELD bit or its
step number when its check does; each step of the open sequence acts when it is due, up to the check of the feedbacks; a disconnect and an
automatic opening set CONN to OPENING, and a disconnect during a close sequence switches the coils off at once, during an open sequence of no job
takes that over, else is BUSY; a feedback that closes
without its coil is a weld, and one that opens with its coil on switches the coils off. Where the manual leaves a corner open, the model
chooses as log entries 48 and 49 say. -/
def Obligations.ContactorSequencesRun : Prop :=
  ∀ (s a : State) (t k f : Nat) (r : Req) (q : Seq), a = s.upto t →
    (serves a 0x0401 r (Fmt.fixed 0 []) = true → a.get F.PRT_CONTSTAT_CONN ≠ 4 → a.prt.seq = none →
      (a.thWin = 0 ∨ a.actuated = true) → (taken a r).connBlk % 32768 = 0 → a.jobRoom = true → a.allOpen = true →
      Answers (.stringConnect t r true) s (fun s' => (∃ j, Replied s' r 0x0401 stAccepted j []) ∧ s'.get F.PRT_CONTSTAT_CONN = 2 ∧
        s'.coil 2 = true ∧ s'.prt.seq.any (fun q => q.kind == .close && q.step == 2) = true) ∧
      Answers (.stringConnect t r false) s (fun s' => (∃ j, Replied s' r 0x0401 stAccepted j []) ∧ CloseFailed s' 1 ∧
        s'.flag F.SAF_FAULT_COILSUP = true ∧ s'.pads.supply = false)) ∧
    (serves a 0x0402 r (Fmt.fixed 0 []) = true → a.prt.seq = none →
      (a.get F.PRT_CONTSTAT_CONN = 0 → Answers (.stringDisconnect t r) s (fun s' => Replied s' r 0x0402 stOk 0 [])) ∧
      (a.get F.PRT_CONTSTAT_CONN ≠ 0 → a.jobRoom = true → Answers (.stringDisconnect t r) s (fun s' =>
        (∃ j, Replied s' r 0x0402 stAccepted j []) ∧ s'.get F.PRT_CONTSTAT_CONN = 5 ∧
        s'.prt.seq.any (fun q => q.kind == .open_) = true))) ∧
    (serves a 0x0402 r (Fmt.fixed 0 []) = true → a.prt.seq = some q →
      (q.kind = .close → a.jobRoom = true → Answers (.stringDisconnect t r) s (fun s' => (∃ j, Replied s' r 0x0402 stAccepted j []) ∧
        s'.get F.PRT_CONTSTAT_COIL = 0 ∧ (a.allOpen = true → s'.get F.PRT_CONTSTAT_CONN = 0 ∧ s'.prt.seq = none) ∧
        (a.allOpen = false → 0 < a.get F.PRT_CONT_KFBTMO → s'.get F.PRT_CONTSTAT_CONN = 5 ∧
          s'.prt.seq.any (fun q => q.kind == .open_ && q.step == 5) = true))) ∧
      (q.kind = .open_ → q.job = none → a.jobRoom = true → Answers (.stringDisconnect t r) s (fun s' =>
        ∃ j, Replied s' r 0x0402 stAccepted j [] ∧ s'.prt.seq = some { q with job := some j })) ∧
      (q.kind = .open_ → q.job ≠ none → Answers (.stringDisconnect t r) s (fun s' =>
        Replied s' r 0x0402 stBusy 0 (leBytes 2 0 ++ leBytes 2 0xFFFF) ∧ s'.prt.seq = some q))) ∧
    (∀ past low, past = decide (a.get F.PRT_CFG_PCIMAX * 1000 < a.iAbs) → low = decide (a.iAbs < a.get F.PRT_PRECH_PCEND * 100) →
      a.prt.seq = some q → q.kind = .close →
      (q.step = 2 → q.fbAt = some f → a.get F.PRT_PRECH_PCWELD * 100 ≤ a.iAbs → Answers (.closeSequenceTimer t) s (fun s' =>
        CloseFailed s' 2 ∧ s'.flag F.PRT_CONTSTAT_WELD_N = true ∧ 50 ∈ s'.evr.pend)) ∧
      (q.step = 3 ∨ q.step = 4 → past = true → Answers (.closeSequenceTimer t) s (fun s' =>
        CloseFailed s' q.step ∧ s'.flag F.PRT_CONTSTAT_WELD_P = true ∧ 50 ∈ s'.evr.pend)) ∧
      (q.step = 2 ∨ (q.step = 3 ∧ past = false) ∨ q.step = 5 → q.fbAt = none → q.at_ + a.ms F.PRT_CONT_KFBTMO ≤ a.now →
        Answers (.closeSequenceTimer t) s (fun s' => CloseFailed s' q.step)) ∧
      (q.step = 3 → past = false → q.fbAt = some f → a.get F.PRT_PRECH_PCIMIN * 100 < a.iAbs →
        a.now < f + a.get F.PRT_PRECH_PCMAX * 100 * msec → Answers (.closeSequenceTimer t) s (fun s' =>
          s'.prt.seq.any (fun x => x.kind == .close && x.step == 4 && x.at_ == f) = true ∧ s'.get F.PRT_CONTSTAT_COIL = a.get F.PRT_CONTSTAT_COIL)) ∧
      (q.step = 3 → past = false → q.fbAt = some f → a.iAbs ≤ a.get F.PRT_PRECH_PCIMIN * 100 → f + 20 * msec ≤ a.now →
        Answers (.closeSequenceTimer t) s (fun s' => CloseFailed s' 3)) ∧
      (q.step = 4 → past = false → low = true → q.lowAt = some f → f + 10 * msec ≤ a.now →
        f + 10 * msec ≤ q.at_ + a.get F.PRT_PRECH_PCMAX * 100 * msec → 0 < a.get F.PRT_CONT_KFBTMO →
        Answers (.closeSequenceTimer t) s (fun s' => s'.coil 0 = true ∧ s'.get F.PRT_CONTSTAT_CONN = 3 ∧
          s'.prt.seq.any (fun x => x.kind == .close && x.step == 5) = true)) ∧
      (q.step = 4 → past = false → low = false → q.lowAt = none → q.at_ + a.get F.PRT_PRECH_PCMAX * 100 * msec ≤ a.now →
        Answers (.closeSequenceTimer t) s (fun s' => CloseFailed s' 4)) ∧
      (q.step = 6 → a.coil 2 = true → q.at_ + 20 * msec ≤ a.now → Answers (.closeSequenceTimer t) s (fun s' => s'.coil 2 = false)) ∧
      (q.step = 6 → a.coil 2 = false → a.fb 2 = true → q.knAt + a.ms F.PRT_CONT_KFBTMO ≤ a.now → Answers (.closeSequenceTimer t) s (fun s' =>
        CloseFailed s' 6 ∧ s'.flag F.PRT_CONTSTAT_WELD_PC = true)) ∧
      (a.rst.mode ≠ .off → q.step = 3 → a.coil 1 = true → a.fb 1 = false → past = false → a.get F.PRT_PRECH_PCIMIN * 100 < a.iAbs →
        0 < a.get F.PRT_PRECH_PCMAX → Answers (.contactorFeedbackChange t 1 true) s (fun s' =>
          s'.fb 1 = true ∧ s'.prt.seq.any (fun x => x.kind == .close && x.step == 4 && x.at_ == a.now) = true)) ∧
      (a.rst.mode ≠ .off → q.step = 5 → a.coil 0 = true → a.fb 0 = false → a.coil 2 = true → Answers (.contactorFeedbackChange t 0 true) s
        (fun s' => s'.fb 0 = true ∧ s'.prt.seq.any (fun x => x.kind == .close && x.step == 6 && x.at_ == a.now) = true))) ∧
    (a.prt.seq = some q → q.kind = .close → q.step = 2 → q.fbAt = some f → f + 20 * msec ≤ a.now →
      a.iAbs < a.get F.PRT_PRECH_PCWELD * 100 → a.iAbs ≤ a.get F.PRT_CFG_PCIMAX * 1000 → 0 < a.get F.PRT_CONT_KFBTMO →
      Answers (.closeSequenceTimer t) s (fun s' => s'.coil 1 = true ∧ s'.prt.seq.any (fun q => q.kind == .close && q.step == 3) = true)) ∧
    (a.prt.seq = some q → q.kind = .close → q.step = 6 → a.coil 2 = false → a.fb 2 = false →
      Answers (.closeSequenceTimer t) s (fun s' => s'.get F.PRT_CONTSTAT_CONN = 4 ∧ s'.prt.seq = none)) ∧
    (a.prt.seq = some q → q.kind = .open_ → q.step = 2 → q.at_ + msec ≤ a.now →
      Answers (.openSequenceTimer t) s (fun s' => s'.coil 0 = false ∧ s'.coil 2 = false)) ∧
    (a.prt.seq = some q → q.kind = .open_ → q.step = 1 →
      (q.lowAt = some f → a.iAbs < a.get F.PRT_CFG_IOPEN * 100 → f + 5 * msec ≤ a.now → Answers (.openSequenceTimer t) s (fun s' =>
        s'.get F.CTL_STAT_STATE = 0 ∧ s'.ctl.gatesLow = true ∧ s'.pads.gates = false ∧
        s'.prt.seq.any (fun x => x.kind == .open_ && x.step == 2) = true)) ∧
      (q.lowAt = none → a.get F.PRT_CFG_IOPEN * 100 ≤ a.iAbs → q.at_ + a.ms F.PRT_CFG_OPENTMO ≤ a.now →
        Answers (.openSequenceTimer t) s (fun s' => s'.flag F.PRT_CONTSTAT_UNDERLOAD = true ∧ s'.get F.CTL_STAT_STATE = 0 ∧
          s'.ctl.gatesLow = true ∧ s'.prt.seq.any (fun x => x.kind == .open_ && x.step == 2) = true))) ∧
    (a.prt.seq = some q → q.kind = .open_ → q.step = 3 → q.at_ + a.ms F.PRT_CONT_KNDLY ≤ a.now →
      Answers (.openSequenceTimer t) s (fun s' => s'.coil 1 = false)) ∧
    (a.prt.seq = some q → q.kind = .open_ → q.step = 5 → (∀ k < 3, a.opened q k = true) → Answers (.openSequenceTimer t) s (fun s' =>
      s'.get F.PRT_CONTSTAT_CONN = 0 ∧ s'.prt.seq = none ∧
      ∀ k < 3, a.fb k = true → s'.flag { F.PRT_CONTSTAT_WELD_P with lo := 16 + k } = true)) ∧
    (a.prt.seq = some q → q.kind = .open_ → q.step = 5 → a.allOpen = true →
      Answers (.openSequenceTimer t) s (fun s' => s'.get F.PRT_CONTSTAT_CONN = 0 ∧ s'.prt.seq = none)) ∧
    (a.inService = true → a.prt.seq = none → a.get F.PRT_CONTSTAT_CONN = 4 →
      (a.get F.CVI_INS_STAT_STATE = 2 ∨ a.flag F.RING_STAT_GRACE_EXP = true) → a.prt.zeroAt = some f → f + sec ≤ a.now →
      Answers (.autoOpenStart t) s (fun s' => s'.get F.PRT_CONTSTAT_CONN = 5 ∧ s'.prt.seq.any (fun q => q.kind == .open_) = true)) ∧
    (a.rst.mode ≠ .off → k < 3 → a.fb k = false → a.coil k = false → Answers (.contactorFeedbackChange t k true) s (fun s' =>
      s'.fb k = true ∧ s'.flag { F.PRT_CONTSTAT_WELD_P with lo := 16 + k } = true ∧ 50 ∈ s'.evr.pend)) ∧
    (a.rst.mode ≠ .off → k < 3 → a.fb k = true → a.coil k = true → Answers (.contactorFeedbackChange t k false) s (fun s' =>
      s'.fb k = false ∧ s'.flag F.PRT_CONTSTAT_UNCMD = true ∧ s'.get F.PRT_CONTSTAT_COIL = 0 ∧ s'.pads.gates = false))

/-- R201 to R213: a die sample stands in TEMP and, while the sensor is sound, in TUSE with the throttle's step; the eighth hot sample in a
row shuts the module down; an invalid value or code marks its sensor broken; missing neighbours set NONEIGH; compensation follows TEMP; the
valve follows its rule and the chiller request its ALIVE byte. Where the manual leaves a corner open, the model chooses as log entry 50
says. -/
def Obligations.ThermalSupervisionFollowsItsRules : Prop :=
  ∀ (s a : State) (t p c : Nat) (temp : Int), a = s.upto t → a.inService = true →
    (∀ v, v = clipS 16 temp → a.flag F.THM_STAT_DBROKEN = false → Answers (.dieSensorSample t temp) s (fun s' =>
      s'.getI F.THM_DIE_TEMP = v ∧ s'.getI F.THM_DIE_TUSE = v ∧
      s'.get F.THM_STAT_DSTEP = stepN (a.get F.THM_STAT_DSTEP) (idxHot 10000 200 v) (idxHot 10000 200 (v + 100)))) ∧
    (12500 ≤ clipS 16 temp → 7 ≤ a.thm.hotRun → a.flag F.THM_STAT_DBROKEN = false → a.flag F.THM_STAT_TSD = false → a.rst.mode = .run →
      Answers (.dieSensorSample t temp) s (fun s' => s'.flag F.THM_STAT_TSD = true ∧ s'.flag F.PRT_TRIP_GANDER = true ∧
        s'.get F.PRT_CONTSTAT_COIL = 0 ∧ s'.rst.mode = .halt ∧ s'.get F.RST_STAT_HALTC = 1 ∧ 58 ∈ s'.evr.pend)) ∧
    (dieValid (a.getI F.THM_DIE_TEMP) = false → Answers (.dieCrossCheck t) s (fun s' => s'.flag F.THM_STAT_DBROKEN = true)) ∧
    (∀ m, dieValid (a.getI F.THM_DIE_TEMP) = true → a.crossChecks = true → a.neighOwn = true → a.thm.neighNew = true → a.flag F.THM_STAT_DBROKEN = false →
      (let v := a.thm.neigh.filterMap (fun x => if a.now < x.2.2 + sec then some x.2.1 else none); 2 ≤ v.length ∧ median v = some m) →
      -32768 ≤ m → m ≤ 32767 → a.get F.THM_DIECFG_DEV * 100 < (a.getI F.THM_DIE_TEMP - m).natAbs → a.thm.stepAt = none →
      Answers (.dieCrossCheck t) s (fun s' => s'.getI F.THM_MED_MED = m ∧ s'.flag F.THM_STAT_DEVIANT = true ∧
        s'.flag F.THM_STAT_DBROKEN = false)) ∧
    (a.crossChecks = true → a.neighbourLost = true → Answers (.neighbourTimeout t) s (fun s' => s'.flag F.THM_STAT_NONEIGH = true)) ∧
    (a.flag F.THM_STAT_DBROKEN = false → Answers (.compensationUpdate t) s (fun s' => s'.thm.tc = a.getI F.THM_DIE_TEMP)) ∧
    ((p, c) ∈ a.channels → p ≤ 40 → (a.tile? p).isSome = true → a.therm p c = none →
      Answers (.thermistorCrossCheck t) s (fun s' => s'.brk p c = true ∧ s'.flag F.THM_STAT_CBRK_SEEN = true ∨ a.brk p c = true)) ∧
    (a.flag F.THM_COOL_MANUAL = true → Answers (.valveUpdate t) s (fun s' =>
      s'.get F.THM_VALVE_DUTY = a.get F.THM_VALVE_MDUTY ∧ s'.thm.valveI = a.thm.valveI)) ∧
    (a.flag F.THM_COOL_MANUAL = false → a.flag F.THM_STAT_NOCELLT = true → Answers (.valveUpdate t) s (fun s' =>
      s'.get F.THM_VALVE_DUTY = 1000)) ∧
    (∀ e, e = a.getI F.THM_CEXT_TMAX - a.degC F.THM_COOL_TSET → a.flag F.THM_COOL_MANUAL = false → a.flag F.THM_STAT_NOCELLT = false →
      0 < a.thm.valveD → a.thm.valveD < 6000000 → Answers (.valveUpdate t) s (fun s' =>
        s'.thm.valveI = clip 0 6000000 (a.thm.valveI + (a.get F.THM_COOL_KI : Int) * e) ∧
        s'.thm.valveD = clip 0 6000000 ((a.get F.THM_COOL_KP : Int) * e * 600 + s'.thm.valveI))) ∧
    (a.flag F.THM_CHIL_EN = true → a.canNormal = true → a.canUp = true → (nth [] a.can.txq 3).length < 8 → a.can.txq.length = 4 →
      Answers (.chillerRequestSend t) s (fun s' => s'.thm.alive = (a.thm.alive + 1) % 256 ∧
        (nth [] s'.can.txq 3).length = (nth [] a.can.txq 3).length + 1))

/-- R217, R218, R220, R223, R226 to R228: an input's accepted state follows after 8 equal samples, OSSD off after 6, and not before; an accepted
emergency stop in category 0 raises gander's demand and switches the coils off; a discrepancy is a fault; 500 ms of healthy inputs end a
demand; three equal read cycles store a valid switch byte, and a different byte later is the fault SWCHG. Where the manual leaves a corner
open, the model chooses as log entry 51 says. -/
def Obligations.SafetyInputsAndSwitchesAreEvaluated : Prop :=
  ∀ (s a : State) (t i b p1 p2 p3 : Nat) (levels : List Bool), a = s.upto t → a.ganderRuns = true →
    (i < 6 → nth false levels i = !a.safIn i → 7 ≤ nth 0 a.saf.run i →
      Answers (.safetyInputSample t levels) s (fun s' => s'.safIn i = !a.safIn i)) ∧
    (a.safIn 3 = true → nth false levels 3 = false → 5 ≤ nth 0 a.saf.run 3 →
      Answers (.safetyInputSample t levels) s (fun s' => s'.safIn 3 = false)) ∧
    (i < 6 → nth 0 a.saf.run i < 5 ∨ nth 0 a.saf.run i < 7 ∧ ¬ (i = 3 ∧ a.safIn 3 = true) →
      Answers (.safetyInputSample t levels) s (fun s' => s'.safIn i = a.safIn i)) ∧
    (a.safIn 0 = true → nth false levels 0 = false → 7 ≤ nth 0 a.saf.run 0 → (a.get F.SAF_STAT_DEMAND).testBit 0 = false →
      a.safSt = 1 → a.flag F.SAF_STAT_CAT = false →
      Answers (.safetyInputSample t levels) s (fun s' => s'.safSt = 3 ∧ s'.flag F.PRT_TRIP_GANDER = true ∧ s'.pads.gates = false ∧
        s'.get F.PRT_CONTSTAT_COIL = 0 ∧ 64 ∈ s'.evr.pend)) ∧
    (a.saf.discAt = some b → b + 100 * msec < a.now →
      Answers (.estopDiscrepancyTimeout t) s (fun s' => s'.flag F.SAF_FAULT_DISCREP = true ∧ s'.flag F.SAF_STAT_FLTLATCH = true ∧
        s'.flag F.PRT_TRIP_GANDER = true ∧ s'.get F.PRT_CONTSTAT_COIL = 0)) ∧
    (a.safSt = 3 → a.saf.healthyAt = some b → b + 500 * msec ≤ a.now →
      Answers (.safetyHealthyTimer t) s (fun s' => s'.safSt = if a.flag F.SAF_STAT_LATCHED then 4 else 1)) ∧
    (switchByte p1 p2 p3 = some b → switchOk b = true → a.saf.swByte = none → a.saf.swLast = some b → a.saf.swSame = 2 →
      Answers (.switchReadCycle t p1 p2 p3) s (fun s' => s'.saf.swByte = some b ∧ s'.get F.SAF_IN_SW = b ∧
        s'.flag F.SAF_CFG_VALID = true ∧ s'.get F.SAF_HASH = crc32c (leBytes 1 b ++ leBytes 2 Config.gromVer.toNat ++ [0]))) ∧
    (∀ c, switchByte p1 p2 p3 = some b → a.saf.swByte = some c → b ≠ c → a.flag F.SAF_FAULT_SWCHG = false → a.safSt ≠ 0 →
      Answers (.switchReadCycle t p1 p2 p3) s (fun s' => s'.flag F.SAF_FAULT_SWCHG = true ∧ s'.safSt = 6))

/-- R221, R223, R225, R229 to R233: the backstops of a category 1 stop; SAFE_RESET clears the latch and the fault bits and gives NORMAL; a
panel close starts the sequence or raises PANEL_REFUSED; the output, input and self tests set their fault bits, and passing ones leave the
registers; START ends in the STATE that demands, faults and the latch give. Where the manual leaves a corner open, the model chooses as log
entry 51 says. -/
def Obligations.SafetyStopsResetsAndTestsAct : Prop :=
  ∀ (s a : State) (t b k : Nat) (r : Req) (stage : List Bool), a = s.upto t → a.ganderRuns = true →
    (a.saf.cat1At = some b → b + 50 * msec ≤ a.now → Answers (.cat1GateBackstop t) s (fun s' =>
      s'.flag F.PRT_TRIP_GANDER = true ∧ s'.pads.gates = false ∧ s'.flag F.SAF_STAT_RAMP = false)) ∧
    (a.saf.cat1At = some b → b + 100 * msec ≤ a.now → Answers (.cat1CoilBackstop t) s (fun s' =>
      s'.get F.PRT_CONTSTAT_COIL = 0 ∧ s'.saf.cat1At = none)) ∧
    (serves a 0x0E02 r (Fmt.fixed 0 []) = true → a.safeResettable = true → Answers (.safeReset t r) s (fun s' =>
      Replied s' r 0x0E02 stOk 0 [] ∧ s'.safSt = 1 ∧ s'.flag F.SAF_STAT_LATCHED = false ∧ s'.flag F.SAF_STAT_FLTLATCH = false ∧
      s'.get { F.SAF_FAULT_DISCREP with w := 9 } = 0 ∧ s'.get F.SAF_FAULT_FIRST = 0)) ∧
    (a.safSt = 1 → a.saf.thDone = false → a.saf.thAt = some b → b + sec ≤ a.now → a.get F.PRT_CONTSTAT_CONN = 0 → a.prt.seq = none →
      (a.connBlk = 0 → a.allOpen = true → Answers (.panelCloseHold t true) s (fun s' =>
        66 ∈ s'.evr.pend ∧ s'.get F.PRT_CONTSTAT_CONN = 2 ∧ s'.coil 2 = true)) ∧
      (a.connBlk ≠ 0 → Answers (.panelCloseHold t true) s (fun s' => 67 ∈ s'.evr.pend ∧ s'.get F.PRT_CONTSTAT_CONN = 0))) ∧
    (k < 3 → a.coil k = true → nth false a.prt.hold k = true →
      Answers (.coilOffPulseTest t k true) s (fun s' => s'.regs = a.regs) ∧
      Answers (.coilOffPulseTest t k false) s (fun s' => s'.flag F.SAF_FAULT_COILTEST = true ∧ s'.flag F.SAF_STAT_COILSW = false ∧
        s'.get F.PRT_CONTSTAT_COIL = 0)) ∧
    Answers (.convEnReadback t true) s (fun s' => s'.regs = a.regs) ∧
    (a.convLevel = true → Answers (.convEnReadback t false) s (fun s' => s'.flag F.SAF_FAULT_ENRB = true ∧ s'.pads.convEn = false)) ∧
    (a.convLevel = false → Answers (.convEnReadback t false) s (fun s' =>
      s'.flag F.SAF_FAULT_ENRB = true ∧ s'.flag F.SAF_STAT_COILSW = false)) ∧
    (k < 6 → k < a.saf.pass.length → Answers (.inputStageTest t k true) s (fun s' => nth 0 s'.saf.pass k = min 3 (nth 0 a.saf.pass k + 1))) ∧
    (k < 6 → Answers (.inputStageTest t k false) s (fun s' => s'.flag F.SAF_FAULT_INSTUCK = true)) ∧
    Answers (.ganderSelfTest t true) s (fun s' => s'.regs = a.regs) ∧
    (a.rst.mode = .run → Answers (.ganderSelfTest t false) s (fun s' =>
      s'.flag F.SAF_FAULT_GSELF = true ∧ s'.rst.mode = .halt ∧ s'.pads.gates = false)) ∧
    (a.saf.start = true → stage.all id = true → a.flag F.SAF_FAULT_SWCHG = false → a.flag F.SAF_STAT_FLTLATCH = false →
      (a.demandBits = 0 → Answers (.ganderStartComplete t true true stage) s (fun s' =>
        s'.saf.start = false ∧ s'.flag F.SAF_STAT_COILSW = true ∧ s'.safSt = if a.flag F.SAF_STAT_LATCHED then 4 else 1)) ∧
      (a.demandBits ≠ 0 → Answers (.ganderStartComplete t true true stage) s (fun s' =>
        s'.saf.start = false ∧ s'.safSt = 3 ∧ s'.flag F.PRT_TRIP_GANDER = true)))

/-- R237, R238, R242 to R249, Table 11.2: a lane whose watchdog expires is fenced with its token and quarters revoked, and
enters TESTING once no switch-over is in progress; the repetition of a witness
mismatch on a whole second fences an owner in the minority, counts agreement as transient, and with fewer than three ACTIVE lanes fences nobody; a switch-over
verifies, shadows and grants the token to the mule, or is abandoned with the mule fenced; a self-test returns its lane as MULE or retires
it; the mule's own test is due by TESTH. Where the manual leaves a corner open, the model chooses as log entries 52 and 53 say. -/
def Obligations.LanesAreFencedAndReplaced : Prop :=
  ∀ (s a : State) (t l m tiles : Nat) (x : Switch) (logic march : Bool), a = s.upto t →
    (a.inService = true → a.laneSt l = 1 → l < 5 → Answers (.laneWatchdogTimeout t l) s (fun s' =>
      (s'.laneSt l = 4 ∨ s'.laneSt l = 3) ∧ (s'.lan.sw = none → s'.laneSt l = 3) ∧
      s'.get F.LAN_STAT_CAUSE = 1 ∧ s'.get F.LAN_STAT_FLANE = l ∧ s'.flag F.LAN_STAT_FENCE_SEEN = true ∧
      some l ∉ s'.lan.tok ∧ some l ∉ s'.lan.est ∧ s'.flash.lanes = s'.lan.st)) ∧
    (∀ k, a.inService = true → a.scanDue = true → a.gridCount (a.periodMs * msec) * a.periodMs % 1000 = 0 → a.lan.suspect = [k] → a.laneAfter k 0 = some l → l < 5 →
      (3 ≤ a.actives.length → Answers (.scanStrobe t [] [(k, .owner)]) s (fun s' =>
        (s'.laneSt l = 4 ∨ s'.laneSt l = 3) ∧ (s'.lan.sw = none → s'.laneSt l = 3) ∧ s'.get F.LAN_STAT_CAUSE = 5 ∧
        s'.get F.LAN_STAT_FLANE = l ∧ some l ∉ s'.lan.tok ∧ some l ∉ s'.lan.est ∧ s'.lan.suspect = [])) ∧
      Answers (.scanStrobe t [] [(k, .agree)]) s (fun s' => s'.lan.st = a.lan.st ∧ s'.flag F.LAN_STAT_WITTRANS_SEEN = true ∧
        s'.lan.round = (a.lan.round + 1) % 20) ∧
      (a.actives.length < 3 → Answers (.scanStrobe t [] [(k, .owner)]) s (fun s' => s'.lan.st = a.lan.st ∧
        s'.flag F.LAN_STAT_WITTRANS_SEEN = true ∧ 74 ∈ s'.evr.pend))) ∧
    (a.inService = true → a.lan.sw = some x →
      (a.domainGood 3 = true → x.verified = false → a.laneStalls x.mule = false → a.masterOut = false → Answers (.switchoverTilesVerified t) s (fun s' =>
        s'.lan.sw = some { x with verified := true, caught := true })) ∧
      (a.domainGood 3 = true → x.caught = true → x.shadow = none → a.til.recovering.any (fun y => y.use == TileUse.uncommitted) = false →
        Answers (.switchoverShadowStart t) s (fun s' => s'.get F.LAN_STAT_SW = 2 ∧ s'.lan.sw = some { x with shadow := some 0 })) ∧
      (a.domainGood 3 = true → x.samples < 4000 → x.shadow = some 16 → a.laneOf x.tok = none → a.tokenOf x.mule = none → a.laneSt x.mule = 2 → x.tok < a.lan.tok.length →
        a.lan.waitTok = [] → Answers (.tokenGrant t) s (fun s' => s'.laneOf x.tok = some x.mule ∧ s'.laneSt x.mule = 1 ∧
          s'.lan.sw = none ∧ s'.get F.LAN_STAT_SW = 0 ∧ s'.flag F.LAN_STAT_SWDONE_SEEN = true ∧ 72 ∈ s'.evr.pend ∧
          s'.get F.LAN_GAP_LAST = min 4095 (x.samples + 1))) ∧
      (4000 ≤ x.samples → a.tokenOf x.mule = none → a.laneSt x.mule = 2 → x.mule < 5 → Answers (.switchoverAbandon t) s (fun s' =>
        s'.laneSt x.mule = 3 ∧ s'.flag F.LAN_STAT_SWFAIL_SEEN = true ∧ s'.get F.LAN_STAT_CAUSE = 4 ∧ s'.get F.LAN_STAT_FLANE = x.mule ∧
        s'.get F.LAN_GAP_LAST = 4095 ∧ 72 ∈ s'.evr.pend))) ∧
    (a.lanesOn = true → a.lan.testing.any (fun y => y.1 == l) = true → l < a.lan.st.length → l < a.flash.bist.length →
      (logic = true → march = true → nth 0 a.flash.laneTiles l + tiles + nth 0 a.flash.laneBad l ≤ 32 → a.laneStalls l = false →
        a.fences l < a.get F.LAN_CFG_MAXFENCE →
        Answers (.laneSelftestEnd t l logic march tiles) s (fun s' => s'.laneSt l = 2 ∧
          nth (0, none) s'.flash.bist l = (1, some a.opsec))) ∧
      (logic = false ∨ march = false ∨ (32 < nth 0 a.flash.laneTiles l + tiles + nth 0 a.flash.laneBad l ∧ a.laneStalls l = false) → Answers (.laneSelftestEnd t l logic march tiles) s (fun s' => s'.laneSt l = 5 ∧
        s'.flag F.LAN_STAT_BISTFAIL_SEEN = true ∧ 73 ∈ s'.evr.pend ∧
        nth (0, none) s'.flash.bist l = (if logic then 3 else 2, some a.opsec)))) ∧
    (a.inRun = true → a.domainGood 3 = true → a.lan.sw = none → a.mule? = some m →
      ((nth (0, none) a.flash.bist m).2.getD 0) + 3600 * a.get F.LAN_CFG_TESTH ≤ a.opsec → Answers (.muleSelftestDue t) s (fun s' =>
        s'.laneSt m = 3 ∧ (m, true) ∈ s'.lan.testing))

/-- R250, R252, R253, R359, R380 and the tables of LANE_STATUS, LANE_ROTATE and SELFTEST: a supervisor that fails is reset alone, and on a second
failure within ten minutes the system is; entries it does not serve fall to 0 until it resumes, which waits for a code tile that fails its
verification; health is written each hour; LANE_STATUS replies its fourteen registers in order, and the lane
opcodes mark a rotation or test the mule, or are answered TILE_FAULT while the lane assignment is being recovered. Where the manual leaves a corner open, the model chooses as log entries 18 and 52 say. -/
def Obligations.SupervisorFailsAndLaneOpcodesAct : Prop :=
  ∀ (s a : State) (t b m : Nat) (r : Req), a = s.upto t →
    (a.inService = true → a.lan.supDown = false →
      (a.lan.supLast = none → Answers (.supervisorHeartbeatTimeout t) s (fun s' => s'.lan.supDown = true ∧ s'.lan.supRst = some a.now ∧
        s'.flag F.LAN_STAT_SUPRST_SEEN = true ∧ s'.jobs = [] ∧ s'.rst.mode = a.rst.mode ∧
        s'.host.owner = none ∧ s'.flag ⟨0x10000, 5, 1⟩ = true)) ∧
      (a.lan.supLast = some b → a.now < b + 600 * sec → Answers (.supervisorHeartbeatTimeout t) s (fun s' => s'.rst.mode = .reset ∧
        s'.flag ⟨0x10000, 4, 1⟩ = true ∧ s'.pads.gates = false ∧ s'.flash = a.flash))) ∧
    (a.lan.supDown = true → a.lan.supRst = some b →
      (a.inService = true → b + 500 * msec ≤ a.now → Answers (.supervisorResumeTimeout t) s (fun s' => ∀ i ∈ [1, 3, 4, 5, 8],
        s'.getI (F.PRT_ENT_DIS.ix8 i) = 0 ∧ s'.getI (F.PRT_ENT_CHG.ix8 i) = 0)) ∧
      (b + msec ≤ a.now → a.coreOut 0 = false → a.coreOut 1 = false →
        Answers (.supervisorResumed ⟨t, []⟩) s (fun s' => s'.lan.supDown = false ∧ s'.lan.supRst = none ∧
          s'.getI (F.PRT_ENT_DIS.ix8 4) = if a.get F.CVI_INS_STAT_STATE = 2 then 0 else noLimit) ∧
        ∀ k : CodeTile, k.core < 2 → tilePasses k.again = false → (∀ y ∈ a.til.recovering, ¬ (y.region = 0 ∧ y.tile = k.tile)) →
          Answers (.supervisorResumed ⟨t, [k]⟩) s (fun s' => s'.lan.supDown = true ∧
            s'.til.recovering = a.til.recovering ++ [{ region := 0, tile := k.tile, use := .code k.core }]))) ∧
    (∀ w : FlashAt, w.t = t → a.started = true → Answers (.healthHourlyWrite w) s (fun s' => s'.flash.hours = a.lan.hours ∧
      s'.flash.opsec = a.flash.opsec ∧ (w.bad = [] → s'.regs = a.regs))) ∧
    (a.cfgOut = true →
      (serves a 0x0B01 r (Fmt.fixed 0 []) = true → Answers (.laneStatus t r) s (fun s' =>
        Replied s' r 0x0B01 stTileFault 0 (leBytes 2 0 ++ leBytes 2 0xFFFF))) ∧
      (serves a 0x0B02 r (Fmt.fixed 0 []) = true → Answers (.laneRotate t r) s (fun s' =>
        Replied s' r 0x0B02 stTileFault 0 (leBytes 2 0 ++ leBytes 2 0xFFFF) ∧ s'.lan = a.lan)) ∧
      (serves a 0x0B03 r (Fmt.fixed 0 []) = true → Answers (.selftest t r) s (fun s' =>
        Replied s' r 0x0B03 stTileFault 0 (leBytes 2 0 ++ leBytes 2 0xFFFF) ∧ s'.lan = a.lan))) ∧
    (serves a 0x0B01 r (Fmt.fixed 0 []) = true → a.cfgOut = false → Answers (.laneStatus t r) s (fun s' => Replied s' r 0x0B01 stOk 0
      (([0xB0000, 0xB0004, 0xB000C, 0xB0010] ++ (List.range 5).map (fun n => 0xB0040 + 4 * n) ++ (List.range 5).map (fun n => 0xB0060 + 4 * n)).flatMap
        (fun x => leBytes 4 (a.view x).toNat)))) ∧
    (serves a 0x0B02 r (Fmt.fixed 0 []) = true → a.cfgOut = false →
      (a.rotOff = false → a.mule? ≠ none → Answers (.laneRotate t r) s (fun s' => Replied s' r 0x0B02 stOk 0 [] ∧
        s'.flag F.LAN_CFG_ROTPEND = true)) ∧
      (a.rotOff = true → Answers (.laneRotate t r) s (fun s' => Replied s' r 0x0B02 stRefused 0 (leBytes 2 9 ++ leBytes 2 0xFFFF) ∧
        s'.flag F.LAN_CFG_ROTPEND = a.flag F.LAN_CFG_ROTPEND))) ∧
    (serves a 0x0B03 r (Fmt.fixed 0 []) = true → a.cfgOut = false → a.lan.sw = none → a.mule? = some m → a.jobRoom = true → Answers (.selftest t r) s (fun s' =>
      ∃ j, Replied s' r 0x0B03 stAccepted j [] ∧ s'.lan.testJob = some j ∧ s'.laneSt m = 3 ∧ (m, true) ∈ s'.lan.testing))
/-- R24, R257, R260, R261, R267, R268: bay frames leave and enter line ports that run; a bellwether sends discovery with position 0; a member takes its position from the first frame and passes
it on with the next HOP; a cycle numbers itself; a report leaves every line port, and an end of the line keeps those that come in time; an
allocation is passed on, held, and applied at its instant; without allocations the cap falls to 0. Where the manual leaves a corner open,
the model chooses as log entry 54 says. -/
def Obligations.BayFramesTravelTheLine : Prop :=
  ∀ (s a : State) (t port : Nat) (raw : List Byte), a = s.upto t →
    (a.inService = true → a.role = 1 → (∀ d, a.bay.discAt = some d → d + sec ≤ a.now) → Answers (.discoverySend t) s (fun s' =>
      s'.get F.BAY_POS_POS = 0 ∧ s'.flag F.BAY_POS_VALID = true ∧ s'.bay.discAt = some a.now ∧
      s'.out = (if a.ethOn 2 then [bayMsg 2 (bayFrame 3 0 (a.get F.BAY_CYCLE_CYCLE) ([0] ++ leBytes 1 (a.get F.BAY_CFG_BAYID) ++ [0, 0]))] else []) ++ a.out)) ∧
    (∀ src cyc body, a.ethOn port = true → a.role = 0 → bayParse raw = some (3, src, cyc, body) → body.length = 4 →
      uAt body 0 1 < 63 → a.flag F.BAY_POS_VALID = false → Answers (.discoveryReceive t port raw) s (fun s' =>
        s'.get F.BAY_POS_POS = uAt body 0 1 + 1 ∧ s'.flag F.BAY_POS_VALID = true ∧ s'.get F.BAY_POS_UPPORT = port - 1 ∧
        s'.out = (if a.ethOn (3 - port) then [bayMsg (3 - port) (bayFrame 3 src cyc (leBytes 1 (uAt body 0 1 + 1) ++ body.drop 1))] else []) ++ a.out)) ∧
    (∀ i, i = (a.quartzNs + 5 * msec) / (10 * msec) → a.cycleDue = true → Answers (.dispatchCycleStart t) s (fun s' =>
      s'.get F.BAY_CYCLE_CYCLE = i % 65536 ∧ s'.bay.cycle = some i ∧ s'.bay.sent = false ∧ s'.bay.computed = false ∧
      s'.bay.body.length = 40 ∧ s'.bay.src = a.position ∧ (a.bay.takeNext = true → s'.flag F.BAY_POS_DISP = true ∧ s'.flag F.BAY_POS_STANDBY = false))) ∧
    (∀ i, a.inService = true → a.role ≠ 3 → a.bay.sent = false → a.bay.cycle = some i → a.inCycle 2 = true →
      Answers (.reportSend t) s (fun s' => s'.bay.sent = true ∧
        ∀ p ∈ linePorts a.role, a.ethOn p = true → bayMsg p (bayFrame 1 a.bay.src (i % 65536) a.bay.body) ∈ s'.out)) ∧
    (∀ src cyc body i serial, bayParse raw = some (1, src, cyc, body) → a.onLine port = true →
      (a.role = 0 → Answers (.reportReceive t port raw serial) s (fun s' => s'.out = (if a.ethOn (3 - port) then [bayMsg (3 - port) raw] else []) ++ a.out ∧
        s'.bay.reports = a.bay.reports)) ∧
      (a.bayEnd = true → a.bay.cycle = some i → body.length = 40 → src < 64 → cyc = i % 65536 → a.inCycle 6 = false →
        Answers (.reportReceive t port raw serial) s (fun s' =>
          assoc? src s'.bay.reports = some { idx := i, body := body, serial := serial }))) ∧
    (∀ src cyc body, bayParse raw = some (2, src, cyc, body) → a.ethOn port = true → a.role = 0 → 16 ≤ body.length →
      a.bay.held = none → Answers (.allocationReceive t port raw) s (fun s' => s'.out = (if a.ethOn (3 - port) then [bayMsg (3 - port) raw] else []) ++ a.out ∧
        ∃ h, s'.bay.held = some h ∧ h.cycle = cyc ∧ h.body = body ∧
          h.due = if a.get F.TIM_STAT_STATE = 2 then (a.quartzNs / (10 * msec) + 1) * (10 * msec) else a.quartzNs + 3 * msec)) ∧
    (∀ h e, a.inService = true → a.bay.held = some h → h.due ≤ a.quartzNs → a.position < uAt h.body 12 1 →
      16 + 16 * uAt h.body 12 1 ≤ h.body.length → e = slice h.body (16 + 16 * a.position) 16 → Answers (.allocationApply t) s (fun s' =>
        s'.bay.held = none ∧ s'.bay.applied = some a.now ∧ s'.getI F.BAY_ALLOC = iAt e 0 4 ∧
        s'.ctl.net = some (iAt e 0 4, a.now) ∧ s'.bay.cap = (((uAt e 4 2 * 100 : Nat) : Int), ((uAt e 6 2 * 100 : Nat) : Int)))) ∧
    (a.inService = true → a.role ≠ 3 → a.bay.applied.getD a.bay.startAt + a.get F.BAY_CFG_ALLOCTMO * 10 * msec ≤ a.now →
      Answers (.allocationTimeout t) s (fun s' => s'.bay.cap = (0, 0) ∧
        (a.get F.CTL_SPCFG_SRC = 0 → a.lrn.job = none → a.lan.supDown = false →
          s'.getI (F.PRT_ENT_DIS.ix8 8) = 0 ∧ s'.getI (F.PRT_ENT_CHG.ix8 8) = 0)))

/-- R258, R262 to R264, R269, R271 and the tables of BAY_SETPOINT, BAY_MAP and RELAY: the dispatcher computes once a cycle and sends an
entry for each position of the map; roles pass between bellwether and alternate on their timeouts and by HANDBACK; the power of the bay and
the map are set and read; a relayed packet waits for its reply no longer than 500 ms. Where the manual leaves a corner open, the model
chooses as log entries 19 and 54 say. -/
def Obligations.BayDispatchAndItsOpcodesAct : Prop :=
  ∀ (s a : State) (t : Nat) (r : Req), a = s.upto t →
    (a.inService = true → a.flag F.BAY_POS_DISP = true → a.bay.computed = false → a.inCycle 6 = true → Answers (.allocationCompute t) s (fun s' =>
      s'.bay.computed = true ∧ (∃ body : List Byte, body.length = 16 + 16 * a.bay.map.length ∧
        ∀ p ∈ linePorts a.role, a.ethOn p = true → bayMsg p (bayFrame 2 a.position (a.bay.cycle.getD 0 % 65536) body) ∈ s'.out) ∧
      s'.flag F.BAY_POS_DISP = !a.bay.handover)) ∧
    (a.inService = true → a.bayEnd = true → a.get F.BAY_CTRL_PTMO ≠ 0 →
      a.bay.pbayAt.getD a.bay.startAt + a.get F.BAY_CTRL_PTMO * 10 * msec ≤ a.now → Answers (.pbayTimeout t) s (fun s' =>
        s'.bay.pbay = 0 ∧ s'.getI F.BAY_PBAY = 0 ∧ s'.flag F.BAY_STAT_PTMO = true)) ∧
    (a.inService = true → a.flag F.BAY_POS_DISP = false →
      (a.role = 1 → a.bay.heardAt = none → a.bay.startAt + 50 * msec ≤ a.now → Answers (.bellwetherStartTimeout t) s (fun s' =>
        s'.flag F.BAY_POS_DISP = true ∧ s'.flag F.BAY_POS_STANDBY = false)) ∧
      (a.role = 2 → a.bay.takeNext = false → a.bay.heardAt.getD a.bay.startAt + 50 * msec ≤ a.now → Answers (.alternateTakeover t) s (fun s' =>
        s'.bay.takeNext = true ∧ s'.flag F.BAY_STAT_TAKEOVER_SEEN = true ∧ 82 ∈ s'.evr.pend))) ∧
    (a.inService = true → a.role = 2 → a.flag F.BAY_POS_DISP = true → a.writeErr 0xC0008 (a.withField F.BAY_CTRL_HANDBACK 1) = none →
      Answers (.handbackWrite t) s (fun s' => s'.bay.handover = true)) ∧
    (serves a 0x0A01 r (Fmt.fixed 4 []) = true →
      (a.bayEnd = true → a.get F.BAY_CTRL_PSRC = 0 → Answers (.baySetpoint t r) s (fun s' => Replied s' r 0x0A01 stOk 0 [] ∧
        s'.bay.pbay = iAt r.payload 0 4 ∧ s'.getI F.BAY_PBAY = iAt r.payload 0 4 ∧ s'.flag F.BAY_STAT_PTMO = false)) ∧
      (a.bayEnd = false → Answers (.baySetpoint t r) s (fun s' => (∃ p, Replied s' r 0x0A01 stNotBellwether 0 p) ∧
        s'.bay.pbay = a.bay.pbay))) ∧
    (serves a 0x0A02 r { len := fun p => p.isEmpty || (decide (4 ≤ p.length) && p.length == 4 + 4 * uAt p 1 1), pad := [2, 3],
                         flagsAt := some (0, 1) } = true → a.bayEnd = true →
      (r.payload = [] → Answers (.bayMap t r) s (fun s' => Replied s' r 0x0A02 stOk 0 a.mapBytes ∧ s'.bay.map = a.bay.map)) ∧
      (∀ n m, r.payload ≠ [] → n = uAt r.payload 1 1 → n ≤ 64 → (uAt r.payload 0 1).testBit 0 = false →
        m = (List.range n).map (fun i => uAt r.payload (4 + 4 * i) 4) → Answers (.bayMap t r) s (fun s' =>
          Replied s' r 0x0A02 stOk 0 ([0] ++ leBytes 1 n ++ [0, 0] ++ m.flatMap (leBytes 4)) ∧ s'.bay.map = m ∧
          s'.get F.BAY_STAT_NMAP = n ∧ s'.cfg.bayMap = a.cfg.bayMap))) ∧
    (∀ q, serves a 0x0A03 r { len := fun p => decide (24 ≤ p.length) && decide (p.length ≤ 1400) } = true → uAt r.payload 10 1 ≤ 63 →
      a.role = 0 → a.flag F.BAY_POS_VALID = true → uAt r.payload 10 1 ≠ a.get F.BAY_POS_POS →
      q = (if uAt r.payload 10 1 < a.get F.BAY_POS_POS then 0 else 1) → q < a.bay.relay.length → (nth [] a.bay.relay q).length < 16 →
      Answers (.relay t r) s (fun s' => nth [] s'.bay.relay q = nth [] a.bay.relay q ++ [r.payload] ∧
        ∃ w, s'.host.waiting = a.host.waiting ++ [w] ∧ w.why = .relay ∧ w.req = r ∧ w.since = a.now)) ∧
    Answers (.relayTimeout t) s (fun s' => ∀ w ∈ s'.host.waiting, w.why = .relay → a.now < w.since + 500 * msec)
/-- R274 to R278, R283, R286, R287, Table 13.4: a packet that is too short or whose CRC fails is counted; a sound, tagged and fresh request
of an open session that nothing refuses enters the session's command queue with its opcode; SPI status and read show the output stream, and
a packet leaves it once all its bytes were clocked. Where the manual leaves a corner open, the model chooses as log entries 17, 18 and 19
say. -/
def Obligations.PacketsPassTheChecksInOrder : Prop :=
  ∀ (s a : State) (t src n op : Nat) (via : Via) (raw : List Byte) (r : Req) (c : Instr), a = s.upto t →
    (c = .packetReceive t via src raw ∧ a.ipOn via src = true ∨ c = .spiWrite t raw ∧ via = .spi ∧ src = 0) → a.receives via = true → r = reqOf via src raw →
    op = uAt raw 8 2 →
    (raw.length < 24 ∨ uAt raw 0 2 ≠ 0x4C5A ∨ uAt raw (raw.length - 4) 4 ≠ crc32c (raw.take (raw.length - 4)) →
      a.get F.GLB_PKTERR_CRCERR < 255 → Answers c s (fun s' => s'.get F.GLB_PKTERR_CRCERR = a.get F.GLB_PKTERR_CRCERR + 1 ∧
        s'.host = a.host)) ∧
    (24 ≤ raw.length → uAt raw 0 2 = 0x4C5A → uAt raw (raw.length - 4) 4 = crc32c (raw.take (raw.length - 4)) →
      uAt raw 3 1 &&& 0x1B = 0 → a.headErr r raw = none → r.target = 0xFF → reservedOk r raw = true → op ∉ [1, 2, 4, 0x0409] →
      a.provisional r = false → a.provClosed r = false → a.isOpen r.session = true → a.tagOk r raw = true →
      seqCheck (some (a.session r.session).l) (a.session r.session).cache (a.seqBusy r.session r.seq false false) r.seq = .fresh →
      (a.accept r).refusal op r = none → (a.session r.session).cmdq.length < 16 → Answers c s (fun s' =>
        (s'.session r.session).cmdq = (a.session r.session).cmdq ++ [{ ord := a.host.ord, op := op, bcast := false, prov := false, req := r }] ∧
        (s'.session r.session).l = r.seq ∧ s'.host.ord = a.host.ord + 1)) ∧
    (a.portOpen .spi = true → a.spiEarly .spi = false →
      Answers (.spiStatus t) s (fun s' => ∃ flags len, s'.out = .spi (leBytes 1 flags ++ [0] ++ leBytes 2 len) :: a.out ∧
        flags.testBit 0 = !a.host.spiOut.isEmpty ∧ len = ((a.host.spiOut.head?).map (fun p => p.bytes.length)).getD 0) ∧
      (a.rst.parkReq = none → a.host.spiOut = [] → Answers (.spiRead t n) s (fun s' => s'.out = .spi (List.replicate n 0) :: a.out)) ∧
      (∀ p rest, a.rst.parkReq = none → a.host.spiOut = p :: rest →
        (p.bytes.length ≤ n → Answers (.spiRead t n) s (fun s' => s'.host.spiOut = rest ∧
          s'.out = .spi (p.bytes ++ List.replicate (n - p.bytes.length) 0) :: a.out)) ∧
        (n < p.bytes.length → Answers (.spiRead t n) s (fun s' => s'.host.spiOut = p :: rest ∧ s'.out = .spi (p.bytes.take n) :: a.out))))

/-- R279 to R282, R285, R291 and the tables of HELLO, AUTH, BYE and PING: HELLO reserves a free session with its key and a new nonce; AUTH
opens it with the SEQ of the request and takes a free owner lock; BYE closes after its reply; PING returns its payload, without a session
where it is untagged; the timeouts free sessions, contexts, lockouts and ended jobs. Where the manual leaves a corner open, the model
chooses as log entries 16 and 20 say. -/
def Obligations.SessionsOpenAndClose : Prop :=
  ∀ (s a : State) (t n : Nat) (r : Req), a = s.upto t →
    (∀ key, a.host.sess.length = 8 → a.portOpen r.via = true → a.s0Down = false → a.provClosed r = false →
      (Fmt.fixed 20 [17, 18, 19]).check r.payload = none → r.target ≠ 0xFE → r.cls = 12 → r.session < 8 ∨ r.session = 0xFF →
      a.lockedOut (srcAddr r) = false → assoc? (uAt r.payload 16 1) a.flash.keys = some key → a.freeSession r.session = some n →
      Answers (.hello t r) s (fun s' => (s'.session n).st = .pending ∧ (s'.session n).slot = uAt r.payload 16 1 ∧
        (s'.session n).key = sessionKey key (r.payload.take 16) (leBytes 16 (Config.nonce a.host.nonces).toNat) n ∧
        (s'.session n).since = a.now ∧ s'.host.nonces = a.host.nonces + 1)) ∧
    (a.portOpen r.via = true → a.s0Down = false → a.provClosed r = false → r.auth = true → r.session < 8 →
      (a.session r.session).st = .pending → authFmt.check r.payload = none → r.target ≠ 0xFE → r.cls = 12 → Answers (.auth t r) s (fun s' =>
        (s'.session r.session).st = .opened ∧ (s'.session r.session).l = r.seq ∧
        (a.host.owner = none → Replied s' r 2 stOk 0 [] ∧
          s'.host.owner = if (uAt r.payload 0 1).testBit 0 || (uAt r.payload 0 1).testBit 1 then some r.session else none))) ∧
    (serves a 3 r (Fmt.fixed 0 []) = true → Answers (.bye t r) s (fun s' => Replied s' r 3 stOk 0 [] ∧
      (∃ id, (r.session, id) ∈ s'.host.closing) ∧ ∀ q ∈ (s'.session r.session).cmdq, q.prov = true)) ∧
    (serves a 4 r pingFmt = true → Answers (.ping t r) s (fun s' => Replied s' r 4 stOk 0 r.payload)) ∧
    (r.auth = false → a.provisional r = false → a.portOpen r.via = true → a.s0Down = false → r.cls = 12 → r.payload.length ≤ 64 →
      r.via ≠ .spi → Answers (.ping t r) s (fun s' => ∃ p : Pkt, s'.out = .packet r.via r.src p :: a.out ∧ p.payload = r.payload ∧
        p.status = stOk ∧ p.key = [] ∧ p.seq = r.seq)) ∧
    (n < 8 → (a.session n).st = .pending → (a.session n).since + 5 * sec ≤ a.now → Answers (.authTimeout t n) s (fun s' =>
      (s'.session n).st = .free)) ∧
    (a.parked = false → a.isOpen n = true → (a.session n).since + 60 * sec ≤ a.now → Answers (.sessionIdleTimeout t n) s (fun s' =>
      (s'.session n).st = .free ∧ s'.host.owner = if a.host.owner = some n then none else a.host.owner)) ∧
    (∀ b, assoc? n a.host.lockout = some b → b + 60 * sec ≤ a.now → Answers (.helloLockoutExpire t n) s (fun s' =>
      assoc? n s'.host.lockout = none ∧ s'.regs = a.regs)) ∧
    (∀ c : ProvCtx, a.host.prov[n]? = some c → c.used = true → c.since + 60 * sec ≤ a.now →
      Answers (.provisioningContextExpire t n) s (fun s' => s'.host.prov[n]? = some {} ∧ s'.regs = a.regs)) ∧
    (∀ j, a.job? n = some j → j.st ≠ .running → j.endedAt + 60 * sec ≤ a.now → Answers (.jobTableExpire t n) s (fun s' =>
      s'.job? n = none ∧ s'.jobs = a.jobs.filter (fun k => k.id ≠ n)))
/-- R347, R348, R352 to R355 and the register tables of the router: a host may set the target of its own named sources and of no other; HOLD
takes every host line down; SLEEP is stored; a source that has waited its time at a sleeping target moves to its fallback; TEST ends in
NORMAL. Where the manual leaves a corner open, the model chooses as log entries 15 and 55 say. -/
def Obligations.RouterRegistersAndRedirectionAct : Prop :=
  ∀ (s a : State) (t n v : Nat) (on : Bool), a = s.upto t → a.inService = true →
    (∀ d, n < 128 → namedSource n = true → writable (0x20100 + 4 * n) = some d → a.writeErr (0x20100 + 4 * n) v = none →
      Answers (.evrTgtWrite t n v) s (fun s' => s'.word (0x20100 + 4 * n) =
        BitVec.ofNat 32 (((a.word (0x20100 + 4 * n)).toNat &&& (4294967295 - d.rw)) ||| (v &&& d.rw)))) ∧
    (128 ≤ n → n < 192 → Answers (.evrTgtWrite t n v) s (fun s' => s'.word (0x20100 + 4 * n) = a.word (0x20100 + 4 * n) ∧
      s'.evr.moved = a.evr.moved)) ∧
    (a.writeErr 0x20008 (b2n on) = none → Answers (.evrHoldWrite t on) s (fun s' => s'.flag F.EVR_GDIS_HOLD = on ∧
      (on = true → s'.evr.shown = [none, none, none, none] ∧ s'.pads.attn = [false, false, false, false]))) ∧
    (v < 16 → a.writeErr 0x2000C v = none → Answers (.evrSleepWrite t v) s (fun s' => s'.get F.EVR_HCTL_SLEEP = v)) ∧
    (∀ b, assoc? n a.evr.waits = some b → a.get F.EVR_CTRL_REDIR ≠ 0 → b + a.get F.EVR_CTRL_REDIR * 10 * msec ≤ a.now →
      F.EVR_TGT_FB.of (a.tgtWord n) ≠ 0 → n ∉ a.evr.moved → Answers (.evrRedirectTimeout t n) s (fun s' =>
        s'.evr.moved = n :: a.evr.moved ∧ s'.flag F.EVR_STAT_REDIR_SEEN = true)) ∧
    (a.get F.EVR_STAT_MODE = 1 → Answers (.routerTestEnd t) s (fun s' => s'.get F.EVR_STAT_MODE = 2))

/-- R289, R290, R349, R350, R354 and the tables of the event group: a claim moves the presented source from pending to active and an EOI
ends its service; a report takes the number and the count of a source in one new packet to every subscribed session, over Ethernet at once and over SPI
through its stream; unacknowledged event packets are sent again; a
subscription and an acknowledgement take effect. Where the manual leaves a corner open, the model chooses as log entry 55 says. -/
def Obligations.ClaimsAndEventPacketsAct : Prop :=
  ∀ (s a : State) (t n h v : Nat) (r : Req), a = s.upto t →
    (serves a 0x0703 r (Fmt.fixed 1 []) = true → h = uAt r.payload 0 1 → h ≤ 3 →
      (a.presents h = some v → Answers (.attnClaim t r) s (fun s' => Replied s' r 0x0703 stOk 0 (leBytes 1 v) ∧ v ∉ s'.evr.pend ∧
        s'.evr.act = (v, 8 + h) :: a.evr.act)) ∧
      (a.presents h = none → Answers (.attnClaim t r) s (fun s' => Replied s' r 0x0703 stOk 0 [0xFF] ∧ s'.evr.act = a.evr.act ∧
        (h ∈ a.evr.withdrawn → s'.flag F.EVR_STAT_SPUR_SEEN = true)))) ∧
    (serves a 0x0704 r (Fmt.fixed 2 []) = true → h = uAt r.payload 0 1 → v = uAt r.payload 1 1 → h ≤ 3 →
      ((v, 8 + h) ∈ a.evr.act → Answers (.attnEoi t r) s (fun s' => Replied s' r 0x0704 stOk 0 [] ∧
        s'.evr.act = a.evr.act.filter (fun x => x ≠ (v, 8 + h)))) ∧
      ((v, 8 + h) ∉ a.evr.act → Answers (.attnEoi t r) s (fun s' =>
        Replied s' r 0x0704 stBadParam 0 (leBytes 2 0 ++ leBytes 2 1) ∧ s'.evr.act = a.evr.act))) ∧
    (∀ c, a.inService = true → a.s0Down = false → (assoc? n a.evr.cnt).getD 0 = c → c ≠ 0 → Answers (.eventReport t n) s (fun s' =>
      assoc? n s'.evr.cnt = none ∧ ∃ new, s'.out = new ++ a.out ∧ ∀ k, a.isOpen k = true → (a.session k).mask.testBit n = true →
        ∃ p : Pkt, p.opcode = 0x0700 ∧ p.session = k ∧ p.seq = ((a.session k).evseq + 1) % 65536 ∧ uAt p.payload 0 2 = n % 65536 ∧
          uAt p.payload 2 1 = c % 256 ∧ ((a.session k).via ≠ .spi → OutMsg.packet (a.session k).via (a.session k).src p ∈ new) ∧
          ((a.session k).via = .spi → p ∈ s'.host.spiOut))) ∧
    (a.inService = true → a.isOpen n = true → Answers (.eventResend t n) s (fun s' =>
      (∀ e ∈ (a.session n).eventq, e.sentAt + sec ≤ a.now → e.sends ≤ 3 →
        OutMsg.packet (a.session n).via (a.session n).src e.pkt ∈ s'.out) ∧
      (∀ e ∈ (s'.session n).eventq, a.now < e.sentAt + sec))) ∧
    (serves a 0x0701 r { len := fun p => p.length == 28, pad := [25, 26, 27], flagsAt := some (24, 1) } = true →
      Answers (.eventSubscribe t r) s (fun s' => Replied s' r 0x0701 stOk 0 [] ∧ (s'.session r.session).mask = uAt r.payload 0 24 ∧
        (s'.session r.session).reliable = (uAt r.payload 24 1).testBit 0)) ∧
    (serves a 0x0702 r (Fmt.fixed 4 [2, 3]) = true → Answers (.eventAck t r) s (fun s' => Replied s' r 0x0702 stOk 0 [] ∧
      (s'.session r.session).eventq = (a.session r.session).eventq.filter (fun e =>
        decide (32768 ≤ (uAt r.payload 0 2 + 65536 - e.seq) % 65536))))
/-- R122, R253, R291, R292, R307, Tables 14.4 to 14.8 and 14.15 and the tables of JOB_STATUS and JOB_CANCEL: the status opcodes reply their
tables, every field where the tables put it; an unconfigured cell group is ABSENT; the status of an ended job is the one it ended
with, and a learning job's value does not fall; an unknown job is BAD_PARAM; a cancel of a job that has ended is OK, one of a disconnect or
an update is refused, and one of a calibration measurement ends it. Where the manual leaves a corner open, the model chooses as log entries
21, 22, 65 and 67 say. -/
def Obligations.JobAndStatusOpcodesReply : Prop :=
  (∀ (s a : State) (t : Nat) (r : Req) (j : Job), a = s.upto t →
    (serves a 0x0601 r (Fmt.fixed 4 [2, 3]) = true →
      (a.job? (uAt r.payload 0 2) = none → Answers (.jobStatus t r) s (fun s' =>
        Replied s' r 0x0601 stBadParam 0 (leBytes 2 0 ++ leBytes 2 0))) ∧
      (a.job? (uAt r.payload 0 2) = some j → j.st ≠ .running → Answers (.jobStatus t r) s (fun s' =>
        Replied s' r 0x0601 stOk 0 (leBytes 1 j.st.code ++ leBytes 1 j.kind ++ leBytes 2 j.final ++ leBytes 4 j.value ++ leBytes 4 j.total))) ∧
      (a.job? (uAt r.payload 0 2) = some j → j.st = .running → j.op = 0x0503 → Answers (.jobStatus t r) s (fun s' => ∃ v, j.value ≤ v ∧
        Replied s' r 0x0601 stOk 0 (leBytes 1 0 ++ leBytes 1 j.kind ++ leBytes 2 j.final ++ leBytes 4 v ++ leBytes 4 j.total)))) ∧
    (serves a 0x0602 r (Fmt.fixed 4 [2, 3]) = true → a.job? (uAt r.payload 0 2) = some j → j.session = r.session →
      (j.st ≠ .running → Answers (.jobCancel t r) s (fun s' => Replied s' r 0x0602 stOk 0 [] ∧ s'.jobs = a.jobs)) ∧
      (j.st = .running → j.op = 0x0402 ∨ j.op = 0x0903 → Answers (.jobCancel t r) s (fun s' =>
        Replied s' r 0x0602 stRefused 0 (leBytes 2 14 ++ leBytes 2 0xFFFF) ∧ s'.jobs = a.jobs)) ∧
      (j.st = .running → j.op = 0x0C03 → Answers (.jobCancel t r) s (fun s' => Replied s' r 0x0602 stOk 0 [] ∧ s'.cvi.cmJob = none ∧
        ∃ k, s'.job? j.id = some k ∧ k.st = .cancelled ∧ k.final = stRefused)))) ∧
  (∀ (s a : State) (t : Nat) (r : Req), a = s.upto t →
    (serves a 0x0201 r (Fmt.fixed 0 []) = true → Answers (.getStatus t r) s (fun s' => ∃ p, Replied s' r 0x0201 stOk 0 p ∧ p.length = 48 ∧
      uAt p 0 1 = a.get F.RST_STAT_MSTATE ∧ uAt p 1 1 = (if a.get F.RST_BOOT_SLOT < 2 then a.get F.RST_BOOT_SLOT else 0xFF) ∧
      uAt p 2 2 = (a.view 8).toNat % 65536 ∧ uAt p 4 4 = Config.serial.toNat ∧
      (a.rst.mode = .recovery → p.drop 8 = List.replicate 40 0) ∧
      (a.rst.mode ≠ .recovery → (∀ x ∈ [(8, 0x110010), (12, 0x110014), (16, 0x10000), (20, 0x80030), (24, 0x8002C), (28, 0xA0000), (32, 0x30004),
          (36, 0x70004), (40, 0xC0000)], uAt p x.1 4 = ((taken a r).view x.2).toNat) ∧
        (uAt p 44 4).testBit 0 = decide (a.get F.ACQ_CFG_WIN % 4 ≠ 0) ∧ (uAt p 44 4).testBit 2 = a.flag F.GLB_SESS_PROV ∧ uAt p 44 4 < 8 ∧
        ((uAt p 44 4).testBit 1 = false ↔ a.cfg.staged = [] ∧ a.cfg.keys = [] ∧ a.cfg.tables = [] ∧ a.cfg.coefs = [] ∧ a.cfg.bayMap = none)))) ∧
    (∀ f n, f = uAt r.payload 0 2 → n = uAt r.payload 2 2 → serves a 0x0202 r (Fmt.fixed 4 []) = true →
      (1 ≤ f → 1 ≤ n → n ≤ 64 → f + n ≤ 641 → Answers (.getCells t r) s (fun s' => ∃ p, Replied s' r 0x0202 stOk 0 p ∧ p.length = 20 * n ∧
        ∀ i, i < n → a.groupOk (f + i) = false → slice p (20 * i) 20 = List.replicate 17 0 ++ [4, 0, 0])) ∧
      (1 ≤ f → 1 ≤ n → n ≤ 64 → f + n ≤ 641 → Answers (.getCells t r) s (fun s' => ∃ p, Replied s' r 0x0202 stOk 0 p ∧
        ∀ i c d g, i < n → g = f + i → a.groupOk g = true → c = a.cell g → d = slice p (20 * i) 20 →
          uAt d 0 4 = a.cellV g % 1048576 ∧ iAt d 4 2 = clipS 16 (a.tGroup g) ∧
          (c.init = true → uAt d 6 2 = pct c.soc ∧ uAt d 8 2 = pct (a.usable c) ∧ uAt d 10 2 = min 65535 (pctUp c.unc)) ∧
          (c.init = false → uAt d 6 6 = 0) ∧ uAt d 12 2 = a.capSoh c ∧ uAt d 14 2 = c.rgrow % 65536 ∧ uAt d 16 1 = c.qual % 256 ∧
          (uAt d 17 1).testBit 0 = a.wireSuspect g ∧ (uAt d 17 1).testBit 1 = (c.confE || c.confF) ∧ (uAt d 17 1).testBit 2 = false ∧
          (uAt d 17 1).testBit 3 = a.stale (groupPos g) ∧ (uAt d 17 1).testBit 4 = a.tSub g ∧ (uAt d 17 1).testBit 5 = c.learned ∧
          uAt d 18 2 = 0)) ∧
      (f = 0 ∨ 640 < f → Answers (.getCells t r) s (fun s' => Replied s' r 0x0202 stBadParam 0 (leBytes 2 0 ++ leBytes 2 0)))) ∧
    (serves a 0x0203 r (Fmt.fixed 0 []) = true → Answers (.getString t r) s (fun s' => ∃ p, Replied s' r 0x0203 stOk 0 p ∧ p.length = 48 ∧
      (∀ x ∈ [(0, 0x50010), (4, 0x5001C), (8, 0x50020), (12, 0x50014), (16, 0x50018), (28, 0x60028), (32, 0x6002C), (36, 0x9001C), (40, 0x50034)],
        uAt p x.1 4 = (a.word x.2).toNat) ∧
      (∀ x ∈ [(20, F.EST_STR_SOC_USOC), (22, F.EST_STR_USOC_LO), (24, F.EST_STR_USOC_HI), (26, F.EST_STR_SOC_UNCMAX)], uAt p x.1 2 = a.get x.2) ∧
      uAt p 44 1 = a.get F.CVI_INS_STAT_STATE ∧ uAt p 45 1 = a.get F.PRT_CONTSTAT_CONN ∧ uAt p 46 2 = (a.view 0x60018).toNat % 65536)) ∧
    (serves a 0x0204 r (Fmt.fixed 0 []) = true → Answers (.getLimits t r) s (fun s' => ∃ p, Replied s' r 0x0204 stOk 0 p ∧ p.length = 92 ∧
      uAt p 0 4 = a.get F.PRT_LDIS ∧ uAt p 4 4 = a.get F.PRT_LCHG ∧ uAt p 8 1 = a.get F.PRT_LIMIT_BIND_DIS ∧
      uAt p 9 1 = a.get F.PRT_LIMIT_BIND_CHG ∧ uAt p 10 1 = a.get F.PRT_LIMIT_BLK_CHG + 2 * a.get F.PRT_LIMIT_BLK_DIS ∧ uAt p 11 1 = 0 ∧
      ∀ i, i < 10 → uAt p (12 + 8 * i) 4 = a.get (F.PRT_ENT_DIS.ix8 i) ∧ uAt p (16 + 8 * i) 4 = a.get (F.PRT_ENT_CHG.ix8 i))) ∧
    (serves a 0x0205 r (Fmt.fixed 0 []) = true → Answers (.getHealth t r) s (fun s' => ∃ p, Replied s' r 0x0205 stOk 0 p ∧ p.length = 92 ∧
      (∀ n, n < 5 → uAt p (4 * n) 4 = a.hoursWord n ∧ uAt p (20 + 4 * n) 4 = a.bistWord n % 4294967296) ∧ uAt p 40 4 = (a.view 0x100000).toNat ∧
      (∀ i g, FlashRegion.all[i]? = some g → uAt p (44 + 4 * i) 4 = min 4294967295 (a.flash.highest g)) ∧
      uAt p 72 2 = 366 - a.flash.retBlocks ∧ uAt p 74 2 = 0 ∧ uAt p 76 4 = min 4294967295 a.flash.swaps ∧ uAt p 80 4 = (a.view 0x50008).toNat ∧
      uAt p 84 1 = a.get F.RING_BREAK_BRKCNT ∧ uAt p 85 1 = 0 ∧ uAt p 86 2 = a.get F.TIM_ETH_LOSS ∧ uAt p 88 2 = a.get (F.TIM_ETH_LOSS.ix 1) ∧
      uAt p 90 2 = 0)) ∧
    (serves a 0x0E01 r (Fmt.fixed 0 []) = true → Answers (.safeStatus t r) s (fun s' => ∃ p, Replied s' r 0x0E01 stOk 0 p ∧ p.length = 24 ∧
      ∀ i, i < 6 → uAt p (4 * i) 4 = (a.word (0xA0000 + 4 * i)).toNat)))

/-- R377 to R386, Table 19.1 and the table of TILE_SCRUB: a load whose CRC matches changes nothing; one whose retry passes counts and ends the tile's suspect mark; one that fails again retires the tile
while spares last and starts the recovery of what it held, which ends by its row; a suspect tile is recovered without a retry; the background
scrub of main SRAM moves on by at most 64 tiles, that of a lane over its own, and both withdraw bad spares; a host's scrub is a job. Where the manual leaves a corner open, the model chooses as log entry 63 says. -/
def Obligations.TilesAreRetiredRecoveredAndScrubbed : Prop :=
  ∀ (s a : State) (t tile n bad : Nat) (u : TileUse) (r : Req), a = s.upto t →
    (∀ (ld : TileLoad) (again : TileRead), a.tileLive 0 tile = true → (∀ y ∈ a.til.recovering, ¬ (y.region = 0 ∧ y.tile = tile)) →
      (tilePasses ld.read = true → Answers (.tileLoadMismatch t 0 tile u ld again) s (fun s' =>
        s'.til = a.til ∧ s'.flash = a.flash ∧ s'.regs = a.regs)) ∧
      (tilePasses ld.read = false → ld.suspect = true → a.marked 0 tile = true → (∀ k i c, u ≠ .queue k i c) → (∀ x y z, u ≠ .work x y z) →
        Answers (.tileLoadMismatch t 0 tile u ld again) s (fun s' => s'.flag F.TIL_STAT_SUSPECT_SEEN = true ∧
          s'.flash.tiles = a.flash.tiles ∧ s'.til.recovering = a.til.recovering ++ [{ region := 0, tile := tile, use := u }])) ∧
      (tilePasses ld.read = false → ld.suspect = false → tilePasses again = true → a.get F.TIL_STAT_RETRYOK < 255 →
        Answers (.tileLoadMismatch t 0 tile u ld again) s (fun s' =>
          s'.get F.TIL_STAT_RETRYOK = a.get F.TIL_STAT_RETRYOK + 1 ∧ s'.flash = a.flash ∧ s'.til.recovering = a.til.recovering ∧
          (a.til.suspect ≠ [] → s'.marked 0 tile = false))) ∧
      (tilePasses ld.read = false → ld.suspect = false → tilePasses again = false → 0 < a.mainSpares → (∀ k i c, u ≠ .queue k i c) →
        (∀ x y z, u ≠ .work x y z) → Answers (.tileLoadMismatch t 0 tile u ld again) s (fun s' =>
        s'.flash.tiles = a.flash.tiles ++ [(0, tile)] ∧ s'.flag F.TIL_STAT_RETIRE_SEEN = true ∧ 112 ∈ s'.evr.pend ∧
        s'.get F.TIL_LAST_TILE = tile ∧ s'.get F.TIL_LAST_REGION = 0 ∧ s'.get F.TIL_LAST_POLICY = policyRow 0 u ∧
        s'.til.recovering = a.til.recovering ++ [{ region := 0, tile := tile, use := u }])) ∧
      (tilePasses ld.read = false → ld.suspect = false → tilePasses again = false → a.mainSpares = 0 →
        Answers (.tileLoadMismatch t 0 tile u ld again) s (fun s' => s'.flag F.TIL_STAT_NOSPARE = true ∧
        s'.flash.tiles = a.flash.tiles ∧ 113 ∈ s'.evr.pend))) ∧
    (∀ x, a.started = true → a.til.recovering.find? (fun y => y.region == n && y.tile == tile) = some x → x.use ≠ .cells →
      Answers (.tileRecoveryDone t n tile) s (fun s' => s'.til.recovering = a.til.recovering.filter (fun y => !(y == x)) ∧
        s'.est = a.est)) ∧
    (a.scrubDue = true →
      (a.til.cursor + min 64 n < 32768 → Answers (.scrubTick t ⟨0, n⟩ bad) s (fun s' => s'.til.cursor = a.til.cursor + min 64 n ∧
        s'.til.loadAt = a.now ∧ s'.flash.badSpares = a.flash.badSpares + min bad a.mainSpares)) ∧
      (32768 ≤ a.til.cursor + min 64 n → Answers (.scrubTick t ⟨0, n⟩ bad) s (fun s' => s'.til.cursor = 0 ∧
        s'.til.passAt = a.opsec + 3600 * a.get F.TIL_SCRUBCFG_PERIOD))) ∧
    (∀ l q, l < a.til.lanePass.length → l < a.flash.laneBad.length → a.laneScrubDue l = true → q = nth (0, 0) a.til.lanePass l →
      Answers (.scrubTick t ⟨l + 1, n⟩ bad) s (fun s' =>
        nth (0, 0) s'.til.lanePass l = (if 1056 ≤ q.1 + n then (0, a.opsec + 3600 * a.get F.TIL_SCRUBCFG_PERIOD) else (q.1 + n, q.2)) ∧
        nth 0 s'.flash.laneBad l = nth 0 a.flash.laneBad l + min bad (32 - nth 0 a.flash.laneTiles l - nth 0 a.flash.laneBad l))) ∧
    (∀ g f c, g = uAt r.payload 0 1 → f = uAt r.payload 4 4 → c = uAt r.payload 8 4 → serves a 0x0F02 r (Fmt.fixed 12 [1, 2, 3]) = true →
      (g ≤ 5 → f < (if g = 0 then 33792 else 1056) → f + c ≤ (if g = 0 then 33792 else 1056) → a.cfgOut = false → a.til.scrub = none →
        a.jobRoom = true → Answers (.tileScrub t r) s (fun s' => ∃ j, Replied s' r 0x0F02 stAccepted j [] ∧ s'.til.scrub = some (g, f, c, j))) ∧
      (5 < g → Answers (.tileScrub t r) s (fun s' => Replied s' r 0x0F02 stBadParam 0 (leBytes 2 0 ++ leBytes 2 0) ∧
        s'.til.scrub = a.til.scrub))) ∧
    (∀ g f c i j, a.inService = true → a.s1Down = false → a.til.scrub = some (g, f, c, i) → a.job? i = some j → j.st = .running →
      Answers (.tileScrubDone ⟨t, bad⟩) s (fun s' => s'.til.scrub = none ∧
        (g = 0 → s'.flash.badSpares = a.flash.badSpares + min (min bad (f + c - max f 32768)) a.mainSpares) ∧ ∃ k, s'.job? i = some k ∧ k.st = .done ∧ k.value = j.total))
/-- R387 to R394, R253 and the recorder's command tables: operating time counts a second, closes the interval at a whole hour and keeps the
lanes' hours in flash; a waiting record is written with the next number; the records of an old day merge into one; a freeze holds writes and
lasts 86,400 s; a read replies the record of lowest number from FIRST on, or BUSY while Q43 is full. R391: bins, QDIS, QCHG, the intervals'
seconds and the count of merged records saturate at their maximum and set FLAGS.SAT, where an interval grows and where two merge, and so does a
balancing time beyond its maximum; every record written with SAT set raises event REC_SAT. Where the manual leaves a corner open, the model
chooses as log entry 64 says. -/
def Obligations.TheRecorderCountsWritesFreezesAndSaturates : Prop :=
  (∀ (l : List Nat) (i n : Nat), i < l.length → nth 0 (binAdd l i n).1 i = min 4294967295 (nth 0 l i + n) ∧
    ((binAdd l i n).2 = true ↔ 4294967295 < nth 0 l i + n)) ∧
  (∀ (s : State) (dq : Int), (s.recCharge dq).rcd.cur.qdis = min 18446744073709551615 (s.rcd.cur.qdis + dq.toNat) ∧
    (s.recCharge dq).rcd.cur.qchg = min 18446744073709551615 (s.rcd.cur.qchg + (-dq).toNat) ∧
    (18446744073709551615 < s.rcd.cur.qdis + dq.toNat ∨ 18446744073709551615 < s.rcd.cur.qchg + (-dq).toNat →
      (s.recCharge dq).rcd.cur.flags.testBit 0 = true)) ∧
  (∀ (s : State) (p : Nat) (raw : List Byte), (assoc? p s.rcd.cur.bal).getD 0 ≤ 4294967295000 →
    4294967295000 < (assoc? p (s.recRecord p raw).rcd.cur.bal).getD 0 → (s.recRecord p raw).rcd.cur.flags.testBit 0 = true) ∧
  (∀ s : State, s.recSecond.rcd.cur.dur = min 4294967295 (s.rcd.cur.dur + 1) ∧
    (4294967295 < s.rcd.cur.dur + 1 → s.recSecond.rcd.cur.flags.testBit 0 = true)) ∧
  (∀ (a b : RecInt) (k i : Nat), (i < a.ihist.length → i < b.ihist.length → nth 0 (a.merge b k).ihist i =
      min 4294967295 (nth 0 a.ihist i + nth 0 b.ihist i) ∧
      (4294967295 < nth 0 a.ihist i + nth 0 b.ihist i → (a.merge b k).flags.testBit 0 = true)) ∧
    (a.merge b k).qdis = min 18446744073709551615 (a.qdis + b.qdis) ∧ (a.merge b k).qchg = min 18446744073709551615 (a.qchg + b.qchg) ∧
    (a.merge b k).dur = min 4294967295 (a.dur + b.dur) ∧ (a.merge b k).park = min 4294967295 (a.park + b.park) ∧
    (a.merge b k).merged = min 65535 (a.merged + b.merged) ∧
    (18446744073709551615 < a.qdis + b.qdis ∨ 18446744073709551615 < a.qchg + b.qchg ∨ 4294967295 < a.dur + b.dur ∨
      4294967295 < a.park + b.park ∨ 65535 < a.merged + b.merged → (a.merge b k).flags.testBit 0 = true)) ∧
  ∀ (s a : State) (t : Nat) (bad : List Nat) (r : Req), a = s.upto t →
    (a.rst.mode ≠ .off → a.rcd.tickAt + sec ≤ a.now → a.opsec < 4294967295 →
      Answers (.operatingTimeTick t) s (fun s' => s'.opsec = a.opsec + 1 ∧ s'.rcd.tickAt = a.now ∧
        (a.inService = true → s'.flash.hours = s'.lan.hours) ∧
        (a.inService = true → (a.opsec + 1) % 3600 ≠ 0 → s'.rcd.cur.dur = min 4294967295 (a.rcd.cur.dur + 1)) ∧
        (a.inService = true → (a.opsec + 1) % 3600 = 0 → s'.rcd.cur.opsec = a.opsec + 1 ∧ s'.rcd.cur.dur = 0))) ∧
    (∀ x rest, a.recWritable = true → a.rcd.q42 = x :: rest → a.flash.hourly.length < 2304 →
      Answers (.recordWriteDone t bad) s (fun s' =>
        s'.flash.hourly = a.flash.hourly ++ [{ no := a.flash.recNext, marked := false, r := x }] ∧
        s'.flash.recNext = a.flash.recNext + 1 ∧ s'.get F.REC_LAST = a.flash.recNext % 4294967296 ∧
        (x.flags.testBit 0 = true → s'.flag F.REC_STATE_SAT_SEEN = true ∧ 116 ∈ s'.evr.pend ∧
          assoc? 116 s'.evr.cnt = some (min 15 ((assoc? 116 a.evr.cnt).getD 0 + 1))) ∧
        (a.flag F.REC_STATE_FROZEN = true → s'.rcd.q42 = rest ∧ s'.rcd.inWrite = false))) ∧
    (∀ d, a.inService = true → a.s1Down = false → a.flag F.REC_STATE_FROZEN = false → a.mergeDay = some d →
      Answers (.dailyMerge ⟨t, bad⟩) s (fun s' => s'.flash.recNext = a.flash.recNext + 1 ∧
        (∀ e ∈ s'.flash.hourly, e.marked = false → e.r.day ≠ d) ∧
        ∃ e, s'.flash.daily.getLast? = some e ∧ e.no = a.flash.recNext ∧ e.marked = false ∧ e.r.kind = 2)) ∧
    (a.inService = true → a.flag F.REC_STATE_FROZEN = true → 86400 ≤ a.rcd.frozenSec →
      Answers (.recFreezeExpire t) s (fun s' => s'.flag F.REC_STATE_FROZEN = false ∧ s'.get F.REC_EXPIRE = 0 ∧
        s'.flag F.REC_STATE_EXPIRED_SEEN = true ∧ 115 ∈ s'.evr.pend ∧ s'.rcd.pend = a.rcd.pend.drop (8 - a.rcd.q42.length))) ∧
    (serves a 0x0801 r (Fmt.fixed 0 []) = true → Answers (.recFreeze t r) s (fun s' => Replied s' r 0x0801 stOk 0 (leBytes 4 86400) ∧
      s'.flag F.REC_STATE_FROZEN = true ∧ s'.get F.REC_EXPIRE = 86400 ∧ s'.rcd.frozenSec = 0)) ∧
    (serves a 0x0803 r (Fmt.fixed 0 []) = true → Answers (.recUnfreeze t r) s (fun s' => Replied s' r 0x0803 stOk 0 [] ∧
      (a.flag F.REC_STATE_FROZEN = true → s'.flag F.REC_STATE_FROZEN = false ∧ s'.get F.REC_EXPIRE = 0 ∧
        s'.rcd.q42 = a.rcd.q42 ++ a.rcd.pend.take (8 - a.rcd.q42.length)) ∧
      (a.flag F.REC_STATE_FROZEN = false → s'.rcd = a.rcd ∧ s'.flag F.REC_STATE_FROZEN = false))) ∧
    (serves a 0x0802 r (Fmt.fixed 8 [5, 6, 7]) = true →
      (∀ e, uAt r.payload 4 1 ≠ 0 → uAt r.payload 0 4 < a.flash.recNext → a.fill 43 < queueDepth 43 →
        a.recFrom (uAt r.payload 0 4) = some e →
        Answers (.recRead t r) s (fun s' => Replied s' r 0x0802 stOk 0 ([1, 0, 0, 0] ++ leBytes 4 (e.no + 1) ++ e.bytes) ∧
          s'.flash = a.flash)) ∧
      (uAt r.payload 4 1 ≠ 0 → uAt r.payload 0 4 < a.flash.recNext → queueDepth 43 ≤ a.fill 43 →
        Answers (.recRead t r) s (fun s' => Replied s' r 0x0802 stBusy 0 (leBytes 2 0 ++ leBytes 2 0xFFFF) ∧ s'.flash = a.flash)) ∧
      (uAt r.payload 4 1 ≠ 0 → a.flash.recNext ≤ uAt r.payload 0 4 →
        Answers (.recRead t r) s (fun s' => Replied s' r 0x0802 stBadParam 0 (leBytes 2 0 ++ leBytes 2 0) ∧ s'.flash = a.flash)))

/-- R397 to R403 and the tables of the update group: UPD_BEGIN opens an update and invalidates the target slot; UPD_DATA appends in order;
a piece of another session, and one that meets a full Q46, answer BUSY; UPD_APPLY starts the job of phase 2; a stream that passes every check is
stored with its option bytes, one that fails a step is discarded; power lost in the job leaves the slot record and the option bytes as far as
the job came; a trial is confirmed, or expires; UPD_ABORT discards an update. Where the manual leaves a corner open, the model chooses as log
entries 11, 62 and 66 say. -/
def Obligations.UpdatesAreReceivedAppliedAndConfirmed : Prop :=
  ∀ (s a : State) (t k : Nat) (r : Req), a = s.upto t →
    (serves a 0x0901 r (Fmt.fixed 16 [1, 2, 3]) = true →
      (k = a.updTarget → k < 2 → k < a.flash.slots.length → a.updReason = none → a.get F.UPD_STATE_PHASE ∉ [1, 2, 4] →
        a.updParam r.payload = none → r.session < 8 → Answers (.updBegin t r) s (fun s' => Replied s' r 0x0901 stOk 0 [] ∧
          s'.get F.UPD_STATE_PHASE = 1 ∧ s'.get F.UPD_STATE_KIND = uAt r.payload 0 1 ∧ s'.get F.UPD_STATE_TARGET = k ∧
          s'.get F.UPD_STATE_SESSION = r.session ∧ s'.get F.UPD_RECV_BYTES = 0 ∧ (s'.imgSlot k).st = 4 ∧ (s'.imgSlot k).image = [] ∧
          s'.imgSlot (1 - k) = a.imgSlot (1 - k))) ∧
      (∀ c, a.updReason = some c → Answers (.updBegin t r) s (fun s' =>
        Replied s' r 0x0901 stRefused 0 (leBytes 2 c ++ leBytes 2 0xFFFF) ∧ s'.upd = a.upd ∧ s'.flash = a.flash))) ∧
    (∀ kind stream result crc z, serves a 0x0902 r { len := fun p => decide (5 ≤ p.length) && decide (p.length ≤ 1400) } = true →
      a.upd.open_ = some (kind, stream, result, crc, z) → a.get F.UPD_STATE_PHASE = 1 → a.get F.UPD_STATE_SESSION = r.session →
      a.upd.fault = false → (kind = 0 → a.fill 46 < queueDepth 46) →
      uAt r.payload 0 4 = a.upd.data.length → a.upd.data.length + (r.payload.length - 4) ≤ stream →
      ((32 ≤ a.upd.data.length ∨ streamHeaderOk (a.upd.data ++ r.payload.drop 4) kind result crc = true) →
        Answers (.updData t r) s (fun s' => Replied s' r 0x0902 stOk 0 [] ∧ s'.upd.data = a.upd.data ++ r.payload.drop 4 ∧
          s'.get F.UPD_RECV_BYTES = (a.upd.data.length + (r.payload.length - 4)) % 4294967296 ∧ s'.get F.UPD_STATE_PHASE = 1)) ∧
      (a.upd.data.length < 32 → 32 ≤ a.upd.data.length + (r.payload.length - 4) →
        streamHeaderOk (a.upd.data ++ r.payload.drop 4) kind result crc = false →
        Answers (.updData t r) s (fun s' => Replied s' r 0x0902 stBadParam 0 (leBytes 2 0 ++ leBytes 2 4) ∧
          s'.get F.UPD_STATE_PHASE = 0 ∧ s'.upd.open_ = none))) ∧
    (∀ kind stream result crc z, serves a 0x0902 r { len := fun p => decide (5 ≤ p.length) && decide (p.length ≤ 1400) } = true →
      a.upd.open_ = some (kind, stream, result, crc, z) → (a.get F.UPD_STATE_SESSION ≠ r.session ∨
        a.get F.UPD_STATE_PHASE = 1 ∧ kind = 0 ∧ queueDepth 46 ≤ a.fill 46) →
      Answers (.updData t r) s (fun s' => Replied s' r 0x0902 stBusy 0 (leBytes 2 0 ++ leBytes 2 0xFFFF) ∧ s'.upd = a.upd)) ∧
    (∀ kind stream result crc z, serves a 0x0903 r (Fmt.fixed 0 []) = true → a.upd.open_ = some (kind, stream, result, crc, z) →
      a.get F.UPD_STATE_PHASE = 1 → a.upd.data.length = stream → a.upd.fault = false → a.updReason = none → a.jobRoom = true →
      Answers (.updApply t r) s (fun s' => ∃ j, Replied s' r 0x0903 stAccepted j [] ∧ s'.get F.UPD_STATE_PHASE = 2 ∧ s'.upd.job = some j)) ∧
    (∀ kind stream result crc z, a.upd.open_ = some (kind, stream, result, z, crc) → (a.inService = true ∨ a.rst.mode = .recovery) →
      a.get F.UPD_STATE_PHASE = 2 →
      k = a.get F.UPD_STATE_TARGET → k < a.flash.slots.length → ∀ w : FlashDone, Answers (.updApplyDone t w) s (fun s' =>
        (w.cut = none → s'.upd.open_ = none) ∧
        (∀ b, a.updCheck kind result crc w.ok = .inr b → (w.cut = none → s'.get F.UPD_STATE_PHASE = 3 ∧ s'.flag F.UPD_STATE_DONE_SEEN = true) ∧
          ((∀ c, w.cut = some c → 6 ≤ c) → (s'.imgSlot k).image = b ∧ (s'.imgSlot k).st = (if a.get F.RST_OPT_FALLBACK = 1 then 1 else 2)) ∧
          (w.cut = none → optValid s'.flash.opt = true) ∧ (∀ c, w.cut = some c → s'.rst.mode = .off ∧
            (c < 6 → s'.flash.slots = a.flash.slots) ∧ (c ≤ 6 → s'.flash.opt = a.flash.opt) ∧ (6 < c → optValid s'.flash.opt = false))) ∧
        (∀ n, a.updCheck kind result crc w.ok = .inl n → s'.flash.slots = a.flash.slots ∧ s'.flash.opt = a.flash.opt ∧
          (w.cut = none → s'.get F.UPD_STATE_PHASE = 0 ∧ s'.get F.UPD_STATE_FAILSTEP = n ∧ s'.flag F.UPD_STATE_FAIL_SEEN = true)))) ∧
    (serves a 0x0904 r (Fmt.fixed 0 []) = true →
      (k = a.get F.RST_BOOT_SLOT → k < a.flash.slots.length → a.get F.UPD_STATE_PHASE = 4 → a.trialLeft ≠ 0 →
        Answers (.updConfirm t r) s (fun s' => Replied s' r 0x0904 stOk 0 [] ∧ s'.get F.UPD_STATE_PHASE = 0 ∧
          (s'.imgSlot k).st = 1 ∧ 120 ∈ s'.evr.pend)) ∧
      (a.get F.UPD_STATE_PHASE ≠ 4 → Answers (.updConfirm t r) s (fun s' =>
        Replied s' r 0x0904 stRefused 0 (leBytes 2 0x000D ++ leBytes 2 0xFFFF) ∧ s'.flash = a.flash))) ∧
    (serves a 0x0905 r (Fmt.fixed 0 []) = true →
      ((a.get F.UPD_STATE_PHASE = 1 ∨ a.get F.UPD_STATE_PHASE = 2) → Answers (.updAbort t r) s (fun s' =>
        Replied s' r 0x0905 stOk 0 [] ∧ s'.get F.UPD_STATE_PHASE = 0 ∧ s'.upd.open_ = none ∧ s'.flash = a.flash)) ∧
      (a.get F.UPD_STATE_PHASE ≠ 1 → a.get F.UPD_STATE_PHASE ≠ 2 → Answers (.updAbort t r) s (fun s' =>
        Replied s' r 0x0905 stOk 0 [] ∧ s'.upd = a.upd))) ∧
    (k = a.get F.RST_BOOT_SLOT → k < a.flash.slots.length → a.started = true → a.get F.UPD_STATE_PHASE = 4 → a.trialLeft = 0 →
      Answers (.updTrialExpire t) s (fun s' => s'.get F.UPD_STATE_PHASE = 5 ∧ s'.flag F.UPD_STATE_EXPIRE_SEEN = true ∧
        (s'.imgSlot k).expired = true ∧ 118 ∈ s'.evr.pend))

/-- R113, R114, R308, R309 and their command tables: CAL_READ replies the stored set; a set that passes is stored with ORIGIN 1 and in use;
one that does not read back leaves the block erased and the nominal set in use; power lost in the write leaves what was programmed; a
measurement is a job whose completion event holds mean and deviation in 2^−16 code, each to the nearest, and the count of its samples; TRACE
stops, starts and reads. Where the manual leaves a corner open, the model chooses as log entries 25, 39 and 74 say. -/
def Obligations.CalibrationAndTraceAct : Prop :=
  ∀ (s a : State) (t : Nat) (r : Req), a = s.upto t →
    (serves a 0x0C01 r (Fmt.fixed 0 []) = true → Answers (.calRead t r) s (fun s' => Replied s' r 0x0C01 stOk 0 a.flash.cal ∧ s'.flash = a.flash)) ∧
    (serves a 0x0C02 r (Fmt.fixed 96 []) = true → a.get F.UPD_STATE_PHASE ≠ 2 →
      (a.allOpen = true → a.convOff = true → calOk r.payload = true → uAt r.payload 4 1 ≤ 1 → ∀ bad,
        Answers (.calWrite t ⟨r, { ok := true, bad := bad }⟩) s (fun s' => Replied s' r 0x0C02 stOk 0 [] ∧ s'.flash.cal = calSeal r.payload ∧
          s'.flag F.CVI_CAL_STAT_VALID = true ∧ s'.flag F.CVI_CAL_STAT_DEFAULTS = false ∧ s'.get F.CVI_CAL_STAT_ORIGIN = 1) ∧
        Answers (.calWrite t ⟨r, { ok := false, bad := bad }⟩) s (fun s' => Replied s' r 0x0C02 stInternal 0 (leBytes 2 0 ++ leBytes 2 0xFFFF) ∧
          (∀ x ∈ s'.flash.cal, x = 0xFF) ∧ s'.flag F.CVI_CAL_STAT_VALID = false ∧ s'.flag F.CVI_CAL_STAT_DEFAULTS = true) ∧
        ∀ ok n, Answers (.calWrite t ⟨r, { ok := ok, bad := bad, cut := some n }⟩) s (fun s' => s'.rst.mode = .off ∧
          s'.flash.cal = (calSeal r.payload).take (min 95 n) ++ List.replicate (96 - min 95 n) 0xFF)) ∧
      (∀ w : FlashDone, w.cut = none →
        (a.allOpen = false → Answers (.calWrite t ⟨r, w⟩) s (fun s' => Replied s' r 0x0C02 stRefused 0 (leBytes 2 2 ++ leBytes 2 0xFFFF) ∧
          s'.flash = a.flash)) ∧
        (a.allOpen = true → a.convOff = true → calOk r.payload = false → Answers (.calWrite t ⟨r, w⟩) s (fun s' =>
          Replied s' r 0x0C02 stBadParam 0 (leBytes 2 0 ++ leBytes 2 0xFFFF) ∧ s'.flash = a.flash)))) ∧
    (∀ c u, serves a 0x0C03 r (Fmt.fixed 4 [1]) = true → c = uAt r.payload 0 1 → u = uAt r.payload 2 2 → c ≤ 8 → 10 ≤ u → u ≤ 60000 →
      (c = 0 → a.shFailed false = false) → (c = 1 → a.shFailed true = false) → a.cvi.cmJob = none → a.jobRoom = true →
      Answers (.calMeasure t r) s (fun s' => ∃ j, Replied s' r 0x0C03 stAccepted j [] ∧ s'.cvi.cmJob = some j ∧ s'.cvi.cmConv = c ∧
        s'.cvi.cmTime = u ∧ s'.cvi.cmSince = a.now ∧ s'.cvi.cmN = 0)) ∧
    (∀ i j, a.inService = true → a.cvi.cmJob = some i → a.cvi.cmSince + a.cvi.cmTime * msec ≤ a.now → a.job? i = some j → j.st = .running →
      Answers (.calMeasureDone t) s (fun s' => s'.cvi.cmJob = none ∧ (∃ k, s'.job? i = some k ∧ k.st = .done ∧ k.final = stOk) ∧
        (a.isOpen j.session = true → a.cvi.cmN ≠ 0 → ∃ p : Pkt, p.opcode = 0x0700 ∧ p.session = j.session ∧ p.jobid = i ∧ p.status = stOk ∧
          uAt p.payload 0 2 = 0xFFFF ∧
          p.payload.drop 20 = leBytesI 8 (divRne (a.cvi.cmSum * 65536) a.cvi.cmN) ++ leBytes 4 (min 4294967295 (sqrtNear
            ((a.cvi.cmN * a.cvi.cmSq - a.cvi.cmSum * a.cvi.cmSum).toNat * 4294967296 / (a.cvi.cmN * a.cvi.cmN)))) ++ leBytes 4 a.cvi.cmN ∧
          ((a.session j.session).via ≠ .spi → OutMsg.packet (a.session j.session).via (a.session j.session).src p ∈ s'.out) ∧
          ((a.session j.session).via = .spi → p ∈ s'.host.spiOut)))) ∧
    (serves a 0x0F03 r traceFmt = true →
      (uAt r.payload 0 1 = 0 → Answers (.traceStop t r) s (fun s' => Replied s' r 0x0F03 stOk 0 [] ∧ s'.host.traceMask = none)) ∧
      (uAt r.payload 0 1 = 1 → Answers (.traceStart t r) s (fun s' => Replied s' r 0x0F03 stOk 0 [] ∧
        s'.host.traceMask = some (uAt r.payload 4 4))) ∧
      (uAt r.payload 0 1 = 2 → Answers (.traceRead t r) s (fun s' => s'.host.trace = a.host.trace.drop 255 ∧
        Replied s' r 0x0F03 stOk 0 (leBytes 1 (a.host.trace.take 255).length ++ [0, 0, 0] ++ (a.host.trace.take 255).flatten))))
/-- R308, R309, R322, R324, R358, R361 and the tables of TIME_GET, TIME_STEP, TIME_STATUS and RESET: the time and the state of PTP are replied;
one step sets quartz to the value sent, once; an accepted RESET replies OK and its reset asserts 10 ms later, with its cause bit; a system
reset with a contactor closed is refused without FORCE, and a lane reset of a lane that serves; at its instant a lane reset leaves the mule
of a switch-over in progress, and a FENCED lane meanwhile, as they are. Where the manual leaves a corner open, the model chooses as log
entries 25, 26 and 56 say. -/
def Obligations.TimeOpcodesStepOnceAndResetsFollowTheirReply : Prop :=
  (∀ (s a : State) (t x : Nat) (r : Req), a = s.upto t →
    (serves a 0x0D01 r (Fmt.fixed 0 []) = true → Answers (.timeGet t r) s (fun s' => s'.time = a.time ∧
      Replied s' r 0x0D01 stOk 0 (leBytes 6 a.quartzSec ++ [0, 0] ++ leBytes 4 a.quartzNano
        ++ leBytes 1 (bitsOf [a.flag F.TIM_STAT_VALID, a.get F.TIM_STAT_STATE == 2, a.get F.TIM_STAT_STATE == 3,
            a.flag F.TIM_STAT_JUMP_REFUSED]) ++ [0, 0, 0]))) ∧
    (serves a 0x0D02 r (Fmt.fixed 12 [6, 7]) = true →
      (x = uAt r.payload 0 6 * sec + uAt r.payload 8 4 → uAt r.payload 8 4 < 1000000000 → a.flag F.TIM_STAT_STEPPED = false →
        a.get F.TIM_STAT_STATE ≠ 2 → Answers (.timeStep t r) s (fun s' => Replied s' r 0x0D02 stOk 0 [] ∧ s'.quartzNs = x ∧
          s'.flag F.TIM_STAT_STEPPED = true ∧ s'.flag F.TIM_STAT_VALID = true)) ∧
      (uAt r.payload 8 4 < 1000000000 → a.flag F.TIM_STAT_STEPPED = true → Answers (.timeStep t r) s (fun s' =>
        Replied s' r 0x0D02 stRefused 0 (leBytes 2 0x000B ++ leBytes 2 0xFFFF) ∧ s'.time = a.time)) ∧
      (1000000000 ≤ uAt r.payload 8 4 → Answers (.timeStep t r) s (fun s' =>
        Replied s' r 0x0D02 stBadParam 0 (leBytes 2 0 ++ leBytes 2 8) ∧ s'.time = a.time))) ∧
    (serves a 0x0D03 r (Fmt.fixed 0 []) = true → Answers (.timeStatus t r) s (fun s' =>
      Replied s' r 0x0D03 stOk 0 (leBytes 1 (a.get F.TIM_STAT_STATE) ++ leBytes 1 (a.get F.TIM_STAT_PORT)
        ++ leBytes 1 (a.get F.TIM_STAT_STEPPED) ++ ([0] : List Byte) ++ leBytes 4 (a.get F.TIM_OFS_OFFSET) ++ leBytes 4 (a.get F.TIM_ADJ_RATE)
        ++ beBytes 8 ((a.ptp.sel.map (fun f => f.a.gm)).getD 0) ++ leBytes 2 (a.get F.TIM_STAT_JUMPS) ++ [0, 0])))) ∧
  (∀ (s a : State) (t u : Nat) (r : Req), a = s.upto t → serves a 0x0F01 r resetFmt = true → u = uAt r.payload 1 1 →
    (uAt r.payload 0 1 = 0 → u = 0 →
      ((a.allOpen = true ∨ uAt r.payload 2 1 ≠ 0) → Answers (.resetSystem t r) s (fun s' => Replied s' r 0x0F01 stOk 0 [] ∧
        s'.rst.due = a.rst.due ++ [(0, u, a.now + 10 * msec)])) ∧
      (a.allOpen = false → uAt r.payload 2 1 = 0 → Answers (.resetSystem t r) s (fun s' =>
        Replied s' r 0x0F01 stRefused 0 (leBytes 2 2 ++ leBytes 2 0xFFFF) ∧ s'.rst.due = a.rst.due))) ∧
    (uAt r.payload 0 1 = 1 → u = 0 → a.rst.mode ≠ .recovery → (a.allOpen = true ∨ uAt r.payload 2 1 ≠ 0) →
      Answers (.resetSupervisor t r) s (fun s' => Replied s' r 0x0F01 stOk 0 [] ∧
        s'.rst.due = a.rst.due ++ [(1, u, a.now + 10 * msec)])) ∧
    (uAt r.payload 0 1 = 2 → u ≤ 4 → a.rst.mode ≠ .recovery →
      (a.laneSt u ∈ [2, 3, 4] → Answers (.resetLane t r) s (fun s' => Replied s' r 0x0F01 stOk 0 [] ∧
        s'.rst.due = a.rst.due ++ [(2, u, a.now + 10 * msec)])) ∧
      (a.laneSt u = 1 → Answers (.resetLane t r) s (fun s' =>
        Replied s' r 0x0F01 stRefused 0 (leBytes 2 10 ++ leBytes 2 0xFFFF) ∧ s'.rst.due = a.rst.due))) ∧
    (uAt r.payload 0 1 = 3 → u ≤ 4 → a.rst.mode ≠ .recovery → Answers (.resetPort t r) s (fun s' => Replied s' r 0x0F01 stOk 0 [] ∧
      s'.rst.due = a.rst.due ++ [(3, u, a.now + 10 * msec)]))) ∧
  (∀ (s : State) (t u d : Nat), d ≤ t →
    (s.rst.due = [(0, u, d)] → s.rst.mode ≠ .off → (s.upto t).rst.mode = .reset ∧ (s.upto t).flag F.RST_CAUSE_OPSYS = true ∧
      (s.upto t).rst.due = [] ∧ (s.upto t).flash = s.flash) ∧
    (s.rst.due = [(1, u, d)] → (s.upto t).flag F.RST_CAUSE_OPSUP = true ∧ (s.upto t).lan.supDown = true ∧ (s.upto t).jobs = []) ∧
    (s.rst.due = [(2, u, d)] → u < s.lan.st.length → s.laneSt u ∈ [2, 3, 4] →
      (s.lan.sw = none → (s.upto t).flag F.RST_CAUSE_LANE = true ∧ (s.upto t).laneSt u = 3) ∧
      (∀ x, s.lan.sw = some x → x.mule = u ∨ s.laneSt u = 4 → (s.upto t).laneSt u = s.laneSt u ∧ (s.upto t).lan.sw = some x)) ∧
    (s.rst.due = [(3, u, d)] → (s.upto t).flag F.RST_CAUSE_PORT = true ∧ assoc? u (s.upto t).rst.portAt = some (max s.now d + msec)))

/-- R312, R313, R316, R318 and Table 15.1: a link is lost and comes up; a frame is learned and enters the high or the low egress queue of its
port, of every other port or of none, and of the module port where it is untagged or priority-tagged; as time moves on, the high queues leave
before the low ones; entries age after 300 s; requests to an own address are answered. Where the manual leaves a corner open, the model
chooses as log entries 57 and 76 say. -/
def Obligations.TheSwitchForwardsAndTheStackAnswers : Prop :=
  ∀ (s a : State) (t p x y z : Nat) (f : List Byte), a = s.upto t →
    (a.inService = true → (p = 1 ∨ p = 2) → a.flag (linkF p) = true → Answers (.ethLinkLoss t p) s (fun s' => s'.flag (linkF p) = false ∧
      (a.get (F.TIM_ETH_LOSS.ix (p - 1)) < 65535 → s'.get (F.TIM_ETH_LOSS.ix (p - 1)) = a.get (F.TIM_ETH_LOSS.ix (p - 1)) + 1) ∧
      ∀ m ∈ s'.ptp.masters, m.port ≠ p)) ∧
    ((p = 1 ∨ p = 2) → a.ethRuns p = true → Answers (.ethLinkUp t p) s (fun s' => s'.flag (linkF p) = true)) ∧
    (∀ res, a.ethRuns p = true → (p = 1 ∨ p = 2) → 14 ≤ f.length → x = ofBe (slice f 6 6) → y = ofBe (f.take 6) → z = ofBe (slice f (etherAt f) 2) →
      ofBe (slice f 6 1) % 2 = 0 → a.eth.macs.length < 256 → z ≠ 0x88B5 → y ≠ Config.mac.toNat → y ≠ x → ofBe (f.take 1) % 2 = 0 → ptpAt f = none →
      Answers (.switchFrameForward t p f res) s (fun s' => assoc? x s'.eth.macs = some (p, a.now) ∧ s'.out = a.out ∧
        (∀ q b, assoc? y a.eth.macs = some (q, b) → (q = 1 ∨ q = 2) → q ≠ p → a.ethRuns q = true → a.flag (linkF q) = true →
          ∀ i, enqueued a s' i (if i = q - 1 then some (highFrame f, .eth q z f) else none)) ∧
        (∀ b, assoc? y a.eth.macs = some (p, b) → s'.eth.egress = a.eth.egress) ∧
        (assoc? y a.eth.macs = none → ∀ i, enqueued a s' i (
          if i = 2 - p ∧ a.ethRuns (3 - p) = true ∧ a.flag (linkF (3 - p)) = true then some (highFrame f, .eth (3 - p) z f)
          else if i = 2 ∧ moduleTakes f = true then some (highFrame f, .eth 3 z f) else none)))) ∧
    (∀ u, s.rst.due = [] → s.now < u → ∃ late early, (s.upto u).out = late ++ early ∧ ∀ i < 3, (i = 2 ∨ s.ethRuns (i + 1) = true) →
      (∀ m ∈ (nth ([], []) s.eth.egress i).1, m ∈ early) ∧ (∀ m ∈ (nth ([], []) s.eth.egress i).2, m ∈ late) ∧
      nth ([], []) (s.upto u).eth.egress i = ([], [])) ∧
    Answers (.macEntryAgeing t) s (fun s' => (∀ e ∈ s'.eth.macs, a.now < e.2.2 + 300 * sec) ∧
      ∀ e ∈ a.eth.macs, a.now < e.2.2 + 300 * sec → e ∈ s'.eth.macs) ∧
    (a.ethOn p = true → a.ownIp4 z = true → Answers (.arpRequest t p x y z) s (fun s' => s'.out = .eth p 0x0806 (([0, 1, 8, 0, 6, 4, 0, 2] : List Byte)
      ++ beBytes 6 Config.mac.toNat ++ beBytes 4 z ++ beBytes 6 x ++ beBytes 4 y) :: a.out)) ∧
    (a.ethOn p = true → a.ownIp6 y = true → Answers (.neighbourSolicitation t p x y) s (fun s' =>
      ∃ c, s'.out = .eth p 0x86DD (([136, 0] : List Byte) ++ beBytes 2 c ++ (([if x = 0 then 0x20 else 0x60, 0, 0, 0] : List Byte) ++ beBytes 16 y ++ ([2, 1] : List Byte) ++ beBytes 6 Config.mac.toNat)) :: a.out)) ∧
    (a.ethOn p = true → a.ownIp4 y = true → Answers (.icmpEcho t p false x y f) s (fun s' =>
      ∃ c, s'.out = .eth p 0x0800 (([0, 0] : List Byte) ++ beBytes 2 c ++ f) :: a.out)) ∧
    (a.ethOn p = true → a.ownIp6 y = true → Answers (.icmpEcho t p true x y f) s (fun s' =>
      ∃ c, s'.out = .eth p 0x86DD (([129, 0] : List Byte) ++ beBytes 2 c ++ f) :: a.out))
/-- R317 to R324 and Table 15.2: an Announce enters the masters heard and the best one is selected; Sync, Follow_Up and the delay messages
give an offset that steps quartz once, steers its rate, or is refused as a jump; a Delay_Req of profile 0 goes over UDP port 319, and none
goes without an IPv4 address; transmit timestamps go on with their exchange; without
pairs for 3 s, or without the master, the time holds over. Where the manual leaves a corner open, the model chooses as log entries 13, 56
and 77 say. -/
def Obligations.NetworkTimeFollowsItsMaster : Prop :=
  ∀ (s a : State) (t p n : Nat) (m f : PtpMsg) (x : Announce) (o t1 arr org : Int), a = s.upto t →
    (a.ptpOn p x.domain = true → Answers (.ptpAnnounce t p x) s (fun s' =>
      (∃ g ∈ s'.ptp.masters, g.port = p ∧ g.a = x ∧ g.times.head? = some a.now) ∧ s'.ptp.sel = bestMaster a.now a.ptp.sel s'.ptp.masters ∧
      (∀ g, bestMaster a.now a.ptp.sel s'.ptp.masters = some g → a.get F.TIM_STAT_STATE = 0 → s'.get F.TIM_STAT_STATE = 1))) ∧
    (a.fromMaster p m = true → Answers (.ptpSync t p m) s (fun s' =>
      s'.ptp.sync = some (p, m.src, m.seq, t16 a.stamp - m.corr - a.asym p))) ∧
    (a.fromMaster p m = true → a.ptp.sync = some (p, m.src, m.seq, arr) → org = t16 m.stamp + m.corr → o = arr - org - a.pathDelay p →
      (a.flag F.TIM_STAT_STEPPED = false → a.ptp.first.length < 3 → Answers (.ptpFollowUp t p m) s (fun s' =>
        s'.ptp.first = a.ptp.first ++ [o] ∧ s'.ptp.sync = none ∧ s'.ptp.pair = some (arr, org) ∧ s'.time = a.time)) ∧
      (a.flag F.TIM_STAT_STEPPED = false → a.ptp.first.length = 3 → Answers (.ptpFollowUp t p m) s (fun s' =>
        s'.flag F.TIM_STAT_STEPPED = true ∧ s'.flag F.TIM_STAT_VALID = true ∧ s'.ptp.first = [])) ∧
      (a.flag F.TIM_STAT_STEPPED = true → a.jumpThr < (absN o : Int) → Answers (.ptpFollowUp t p m) s (fun s' =>
        s'.flag F.TIM_STAT_JUMP_REFUSED = true ∧ 88 ∈ s'.evr.pend ∧ s'.time.qz = a.time.qz)) ∧
      (a.flag F.TIM_STAT_STEPPED = true → (absN o : Int) ≤ a.jumpThr → Answers (.ptpFollowUp t p m) s (fun s' =>
        s'.getI F.TIM_ADJ_RATE = clip (-2147484) 2147484 (Config.servo o (a.ptp.integ + o)) ∧ s'.ptp.integ = a.ptp.integ + o ∧
        s'.getI F.TIM_OFS_OFFSET = clipS 32 (divRne o 65536)))) ∧
    (a.ptpOn p (a.get F.TIM_CFG_DOMAIN) = true → a.flag (F.TIM_ETH_LINK.ix (p - 1)) = true → a.eth.tsq.length = 2 →
      (nth [] a.eth.tsq (p - 1)).length < 16 →
      (a.get F.TIM_CFG_PROFILE = 0 → a.get F.TIM_IP4 = 0 → Answers (.ptpDelayReqSend t p) s (fun s' => s'.ptp = a.ptp ∧ s'.out = a.out)) ∧
      (a.get F.TIM_CFG_PROFILE ≠ 2 → (a.get F.TIM_CFG_PROFILE = 0 → a.get F.TIM_IP4 ≠ 0) → a.get F.TIM_STAT_PORT = p → n = a.ptp.dseq →
        Answers (.ptpDelayReqSend t p) s (fun s' => (∃ b, s'.out = .eth p (if a.get F.TIM_CFG_PROFILE = 0 then 0x0800 else 0x88F7) b :: a.out ∧
          (a.get F.TIM_CFG_PROFILE = 0 → slice b 9 1 = [17] ∧ slice b 12 4 = beBytes 4 (a.get F.TIM_IP4) ∧ slice b 22 2 = beBytes 2 319)) ∧
        s'.ptp.dreq = some (n, none) ∧ s'.ptp.dseq = (n + 1) % 65536 ∧ nth [] s'.eth.tsq (p - 1) = nth [] a.eth.tsq (p - 1)
          ++ [(n, 1, a.stamp / sec % 281474976710656, a.stamp % sec)])) ∧
      (a.get F.TIM_CFG_PROFILE = 2 → a.ptp.preq.length = 2 → n = nth 0 a.ptp.pseq (p - 1) → Answers (.ptpDelayReqSend t p) s (fun s' =>
        nth none s'.ptp.preq (p - 1) = some (n, none) ∧ nth [] s'.eth.tsq (p - 1) = nth [] a.eth.tsq (p - 1)
          ++ [(n, 2, a.stamp / sec % 281474976710656, a.stamp % sec)]))) ∧
    (a.fromMaster p m = true → a.get F.TIM_CFG_PROFILE ≠ 2 → a.ptp.dreq = some (m.seq, some t1) → a.ptp.pair = some (arr, org) →
      Answers (.ptpDelayResp t p m) s (fun s' => s'.ptp.dreq = none ∧
        s'.ptp.delay = ((arr - org) + (t16 m.stamp - t1) - m.corr).fdiv 2)) ∧
    (a.ptpOn p m.domain = true → a.get F.TIM_CFG_PROFILE = 2 →
      Answers (.ptpPdelayReq t p m) s (fun s' =>
        s'.out = .eth p 0x88F7 (a.ptpBytes p 3 m.seq 0 (stampBytes a.stamp ++ beBytes 10 m.src)) :: a.out) ∧
      (nth none a.ptp.preq (p - 1) = some (m.seq, some t1) → f.seq = m.seq → f.src = m.src → a.ptp.linkDelay.length = 2 →
        Answers (.ptpPdelayResp t p m f) s (fun s' => nth none s'.ptp.preq (p - 1) = none ∧ nth 0 s'.ptp.linkDelay (p - 1) =
          ((t16 a.stamp - t1) - (t16 f.stamp - t16 m.stamp) - (m.corr + a.asym p) - f.corr).fdiv 2))) ∧
    (∀ rest sc ns y, a.ethOn p = true → (p = 1 ∨ p = 2) → nth [] a.eth.tsq (p - 1) = (n, 1, sc, ns) :: rest → a.ptp.dreq = some (n, y) →
      Answers (.txTimestampDrain t p) s (fun s' => nth [] s'.eth.tsq (p - 1) = rest ∧
        s'.ptp.dreq = some (n, some (t16 (sc * sec + ns))))) ∧
    (a.inService = true → (a.get F.TIM_STAT_STATE = 1 ∨ a.get F.TIM_STAT_STATE = 2) →
      (a.ptp.pairAt + 3 * sec ≤ a.now → Answers (.ptpSyncTimeout t) s (fun s' => s'.get F.TIM_STAT_STATE = 3 ∧
        s'.ptp.holdAt = some a.now ∧ 89 ∈ s'.evr.pend)) ∧
      (∀ g, a.ptp.sel = some g → g.times.headD 0 + 3 * g.a.every ≤ a.now → bestMaster a.now (some g) (a.ptp.masters.filter (fun h => !g.same h)) = none →
        Answers (.ptpMasterLost t) s (fun s' => s'.get F.TIM_STAT_STATE = 3 ∧ s'.ptp.sel = none ∧ s'.get F.TIM_STAT_PORT = 0)))

/-- R326 to R337, R345 and the tables of the CAN port: a restart clears queues, logs and counters; a data frame overwrites its object, a remote
frame none; the search for the bit rate moves on; errors count and lead to bus-off, from which the port recovers; the frame offered goes on the
bus and leaves its queue, or stays in it; the limit frame holds the values of the last control sample; it and a staged frame enter their
queues, and a staged frame that meets bus-off is discarded and counted. Where the manual leaves a corner open, the model chooses as log entry 58 says. -/
def Obligations.TheCanPortReceivesConfinesAndTransmits : Prop :=
  ∀ (s a : State) (t n v typ inc ago : Nat) (f : CanFrame) (dph tx : Bool), a = s.upto t →
    (a.inService = true → Answers (.canPortRestart t) s (fun s' => s'.can.txq = [[], [], [], []] ∧ s'.can.errq = [] ∧
      s'.get F.CAN_ERRCNT_TEC = 0 ∧ s'.get F.CAN_ERRCNT_REC = 0 ∧ s'.can.integrating = true ∧
      s'.get F.CAN_STAT_STATE = (if a.get F.CAN_CFG_MODE = 0 then 0 else 1) ∧ s'.get F.CAN_STAT_ABD = (if a.get F.CAN_CFG_MODE = 3 then 1 else 0))) ∧
    (a.inService = true → a.get F.CAN_STAT_STATE ≠ 0 → a.portHeld 3 = false →
      Answers (.canBusIntegration t) s (fun s' => s'.can.integrating = false)) ∧
    (a.canListens = true → f.rtr = true → Answers (.canFrameReceive t f ago) s (fun s' => s'.can.objs = a.can.objs)) ∧
    (a.canListens = true → f.rtr = false → a.rxObject f = some n → Answers (.canFrameReceive t f ago) s (fun s' =>
      ∃ x, assoc? n s'.can.objs = some x ∧ x.frame = f ∧ x.new = true ∧ x.ns = (a.quartzNs - ago) % sec ∧
        (∀ y, assoc? n a.can.objs = some y → y.new = true → x.lost = true ∧ s'.flag F.CAN_STAT_RXLOST_SEEN = true) ∧
        (assoc? n a.can.objs = none → x.lost = false))) ∧
    (a.inService = true → a.get F.CAN_STAT_ABD = 1 → a.can.candAt + a.get F.CAN_CFG_ABDDWELL * 10 * msec ≤ a.now →
      (∀ i, a.candFrom (a.get F.CAN_STAT_CAND + 1) = some i → Answers (.canAbdDwellTimeout t) s (fun s' =>
        s'.get F.CAN_STAT_CAND = i ∧ s'.can.candAt = a.now ∧ s'.can.good = 0)) ∧
      (a.candFrom (a.get F.CAN_STAT_CAND + 1) = none → Answers (.canAbdDwellTimeout t) s (fun s' =>
        s'.flag F.CAN_STAT_ABDFAIL_SEEN = true ∧ s'.get F.CAN_STAT_CAND = (a.candFrom 0).getD 0))) ∧
    (a.canListens = true → 1 ≤ typ → typ ≤ 5 → inc ∈ [0, 1, 8] →
      (a.canNormal = true → a.get F.CAN_ERRCNT_TEC ≤ 255 → Answers (.canError t typ false dph inc) s (fun s' =>
        s'.get F.CAN_ERRCNT_REC = min 255 (a.get F.CAN_ERRCNT_REC + inc) ∧ s'.get F.CAN_ERRCNT_TEC = a.get F.CAN_ERRCNT_TEC ∧
        (127 < a.get F.CAN_ERRCNT_REC + inc → a.get F.CAN_STAT_STATE = 1 → s'.get F.CAN_STAT_STATE = 2 ∧
          s'.flag F.CAN_STAT_PASSIVE_SEEN = true))) ∧
      (a.canNormal = true → 255 < a.get F.CAN_ERRCNT_TEC + inc → a.get F.CAN_ERRCNT_TEC ≤ 255 →
        Answers (.canError t typ true dph inc) s (fun s' => s'.get F.CAN_STAT_STATE = 3 ∧ s'.flag F.CAN_STAT_BUSOFF_SEEN = true ∧
          s'.can.txq = [[], [], [], []] ∧ 96 ∈ s'.evr.pend ∧ (a.flag F.CAN_CFG_BOHOLD = true → s'.flag F.CAN_STAT_HELD = true) ∧
          (a.flag F.CAN_CFG_BOHOLD = false → s'.flag F.CAN_STAT_RECOV = true))) ∧
      (a.canNormal = false → Answers (.canError t typ tx dph inc) s (fun s' =>
        s'.get F.CAN_ERRCNT_TEC = a.get F.CAN_ERRCNT_TEC ∧ s'.get F.CAN_ERRCNT_REC = a.get F.CAN_ERRCNT_REC))) ∧
    (a.inService = true → a.writeErr 0xE0014 (a.withField F.CAN_CTRL_RECOVER 1) = none → a.flag F.CAN_STAT_HELD = true →
      Answers (.canRecoverWrite t) s (fun s' => s'.flag F.CAN_STAT_HELD = false ∧ s'.flag F.CAN_STAT_RECOV = true)) ∧
    (a.inService = true → a.portHeld 3 = false → a.get F.CAN_STAT_STATE = 3 → a.flag F.CAN_STAT_RECOV = true → Answers (.canRecoveryComplete t) s (fun s' =>
      s'.get F.CAN_STAT_STATE = 1 ∧ s'.flag F.CAN_STAT_RECOV = false ∧ s'.get F.CAN_ERRCNT_TEC = 0 ∧ s'.get F.CAN_ERRCNT_REC = 0 ∧
      97 ∈ s'.evr.pend)) ∧
    (a.canListens = true → a.canNormal = true →
      (a.can.onBus = none → Answers (.canFrameTransmitted t .start) s (fun s' => s'.can.onBus = a.canOffer ∧ s'.can.txq = a.can.txq ∧
        s'.out = a.out)) ∧
      (a.can.onBus = some (n, f) →
        Answers (.canFrameTransmitted t .sent) s (fun s' => s'.can.onBus = none ∧
          ((nth [] a.can.txq n).head? = some f → nth [] s'.can.txq n = (nth [] a.can.txq n).drop 1) ∧
          (∀ k, k ≠ n → nth [] s'.can.txq k = nth [] a.can.txq k) ∧
          s'.get F.CAN_ERRCNT_TEC = a.get F.CAN_ERRCNT_TEC - 1 ∧ ∃ g, s'.out = .can g :: a.out ∧ g.id = f.id ∧ g.data = f.data ∧
            g.brs = (f.brs && a.flag F.CAN_STAT_DATAVER) ∧ g.esi = (f.fdf && a.get F.CAN_STAT_STATE == 2)) ∧
        Answers (.canFrameTransmitted t .lost) s (fun s' => s'.can.onBus = none ∧ s'.can.txq = a.can.txq ∧ s'.out = a.out))) ∧
    (a.sampleDue = true → ∀ x, Answers (.controlSample t x) s (fun s' => s'.can.limits = leBytes 2 (clipU 16 (s'.getI F.PRT_LDIS / 100))
      ++ leBytes 2 (clipU 16 (s'.getI F.PRT_LCHG / 100)) ++ leBytes 2 (s'.get F.EST_STR_SOC_USOC)
      ++ leBytes 1 (bitsOf [s'.get F.PRT_CONTSTAT_CONN == 4, s'.get F.CTL_STAT_STATE == 2, s'.tripped, s'.get F.SAF_STAT_STATE != 1,
        s'.flag F.EST_FLAGS_REST_WANTED]))) ∧
    (a.canNormal = true → a.canUp = true → a.flag F.CAN_TXCFG_STATEN = true →
      a.can.limitAt + a.get F.CAN_TXCFG_STATPER * 10 * msec ≤ a.now → a.can.txq.length = 4 →
      Answers (.canLimitFrame t) s (fun s' => s'.can.limitAt = a.now ∧ s'.can.alive = (a.can.alive + 1) % 256 ∧
        (nth [] s'.can.txq 0).getLast? = some (classic (a.get F.CAN_TXCFG_STATID) (a.can.limits ++ leBytes 1 a.can.alive)) ∧
        (nth [] a.can.txq 0 = [] → (nth [] s'.can.txq 0).length = 1))) ∧
    (a.inService = true →
      (a.writeErr 0xE002C v = none → a.can.txq.length = 4 → n = 1 + v / 256 % 2 → (nth [] a.can.txq n).length < 8 →
        a.canUp = true → Answers (.canTxgo t v) s (fun s' => nth [] s'.can.txq n = nth [] a.can.txq n ++ [a.canStaged (v % 128)])) ∧
      (a.writeErr 0xE002C v = none → a.canUp = false → Answers (.canTxgo t v) s (fun s' => s'.can.txq = a.can.txq ∧
        s'.flag F.CAN_STAT_TXDROP_SEEN = true)) ∧
      (∀ e, a.writeErr 0xE002C v = some e → Answers (.canTxgo t v) s (fun s' => s'.can = a.can)))

/-- R9, R338 to R345 and the tables of the I²C port: bytes written reach the mailbox alone and their posting its queue; bytes read come from the
pointer on; a transaction to another address only uses the bus; the bus is free after the mode's bus free time from a STOP, or 100 µs of both
lines high; calls start on a free bus after MINGAP, and end, are retried or fail; a call that loses its address byte to the own address is
served as target; a hang counts after STRTMO; a counter at its maximum stays there and sets SAT. Where the manual leaves a corner open, the model chooses
as log entry 59 says. -/
def Obligations.TheI2cPortServesAndCalls : Prop :=
  ∀ (s a : State) (t n k ad : Nat) (p b : Byte) (bs : List Byte), a = s.upto t →
    (a.iicOn = true → ad ≠ a.get F.IIC_CFG_TADDR →
      (∀ cut, Answers (.iicTargetWrite t ⟨ad, bs⟩ cut) s (fun s' => s'.iic.ptr = a.iic.ptr ∧ s'.iic.q45 = a.iic.q45 ∧ s'.out = a.out ∧
        s'.flag F.IIC_STAT_BUSY = true)) ∧
      Answers (.iicTargetRead t ⟨ad, n⟩) s (fun s' => s'.iic.ptr = a.iic.ptr ∧ s'.out = a.out)) ∧
    (a.iicOn = true → ad = a.get F.IIC_CFG_TADDR →
      Answers (.iicTargetWrite t ⟨ad, p :: bs⟩ false) s (fun s' => s'.iic.ptr = (p.toNat + bs.length) % 256 ∧ s'.flag F.IIC_STAT_BUSY = true ∧
        s'.iic.busFree = false) ∧
      (128 ≤ p.toNat → a.iic.q45.length < 8 → Answers (.iicTargetWrite t ⟨ad, [p, b]⟩ false) s (fun s' => s'.winByte p.toNat = b ∧
        s'.iic.q45 = a.iic.q45 ++ [(p.toNat, 1)])) ∧
      (p.toNat < 128 → Answers (.iicTargetWrite t ⟨ad, [p, b]⟩ false) s (fun s' => s'.iic.q45 = a.iic.q45 ∧
        ∀ f : Fld, f.fits → f.addr ≠ 0xF000C → s'.get f = a.get f)) ∧
      (a.get F.IIC_ERR_PROTO_ERR = 255 → Answers (.iicTargetWrite t ⟨ad, [p, b]⟩ true) s (fun s' => s'.get F.IIC_ERR_PROTO_ERR = 255 ∧
        s'.flag F.IIC_ERR_SAT = true)) ∧
      Answers (.iicTargetWrite t ⟨ad, [p, b]⟩ true) s (fun s' => s'.flag F.IIC_STAT_PROTO_SEEN = true ∧ s'.iic.q45 = a.iic.q45 ∧
        s'.iic.ptr = p.toNat) ∧
      Answers (.iicTargetRead t ⟨ad, n⟩) s (fun s' => s'.iic.ptr = (a.iic.ptr + n) % 256 ∧
        s'.out = .iic ((List.range n).map (fun i => a.winByte ((a.iic.ptr + i) % 256))) :: a.out)) ∧
    (∀ f c rest, a.inService = true → a.s0Down = false → a.iic.q45 = (f, c) :: rest →
      Answers (.iicMailboxDrain t) s (fun s' => s'.iic.q45 = rest ∧ 104 ∈ s'.evr.pend)) ∧
    (∀ x : BusIdle, x.t = t → (x.since < a.iic.usedAt ∨ a.now < x.since + (if x.stop then a.freeTime else 100 * usec)) →
      Answers (.iicBusFree x) s (fun s' => s'.iic = a.iic)) ∧
    (∀ x : BusIdle, x.t = t → a.iicOn = true → a.iic.onBus = false → a.iic.call = none → a.iic.usedAt ≤ x.since →
      x.since + (if x.stop then a.freeTime else 100 * usec) ≤ a.now →
      (a.iic.waiting = true → a.gapOver = true → Answers (.iicBusFree x) s (fun s' => s'.iic.call = some a.callBytes ∧
        s'.iic.onBus = true ∧ s'.iic.waiting = false ∧ s'.flag F.IIC_STAT_BUSY = true ∧ s'.get F.IIC_STAT_ROLE = 2)) ∧
      (a.iic.waiting = false → Answers (.iicBusFree x) s (fun s' => s'.iic.busFree = true ∧ s'.iic.call = none ∧
        s'.flag F.IIC_STAT_BUSY = false)) ∧
      (a.iic.waiting = true → a.gapOver = true → a.iic.busFree = true → Answers (.iicMingapExpiry t) s (fun s' =>
        s'.iic.call = some a.callBytes ∧ s'.iic.onBus = true ∧ s'.iic.waiting = false ∧ s'.flag F.IIC_STAT_CALLPEND = true))) ∧
    (a.iicOn = true → a.iic.call = some bs → a.iic.onBus = true →
      Answers (.iicAttnCallEnd t 0) s (fun s' => s'.iic.call = none ∧ s'.iic.onBus = false ∧ s'.iic.lastAt = some a.now ∧ s'.out = .iic bs :: a.out) ∧
      (a.get F.IIC_ARB_RETRIES < a.get F.IIC_CFG_RETRY → Answers (.iicAttnCallEnd t 1) s (fun s' => s'.iic.call = some bs ∧
        s'.iic.onBus = false ∧ s'.iic.gap = true ∧ s'.get F.IIC_ARB_RETRIES = a.get F.IIC_ARB_RETRIES + 1)) ∧
      (a.get F.IIC_CFG_RETRY ≤ a.get F.IIC_ARB_RETRIES → Answers (.iicAttnCallEnd t 1) s (fun s' => s'.iic.call = none ∧
        s'.iic.onBus = false ∧ s'.flag F.IIC_STAT_ATTNFAIL_SEEN = true ∧ 105 ∈ s'.evr.pend)) ∧
      (n < 256 → k < 8 → Answers (.iicArbitrationLost t n ⟨k, ad⟩) s (fun s' =>
        s'.get F.IIC_STAT_ROLE = (if n = 0 ∧ ad = a.get F.IIC_CFG_TADDR then 1 else 0) ∧ s'.get F.IIC_ARB_BYTE = n ∧ s'.get F.IIC_ARB_BIT = k ∧
        s'.flag F.IIC_STAT_ARB_SEEN = true ∧ s'.iic.onBus = false ∧
        (a.get F.IIC_ERR_ARBCNT < 255 → s'.get F.IIC_ERR_ARBCNT = a.get F.IIC_ERR_ARBCNT + 1))) ∧
      (∀ x : BusHang, x.since + a.get F.IIC_CFG_STRTMO * msec < a.now → Answers (.iicStretchTimeout t x) s (fun s' => s'.iic.onBus = false ∧
        ((x.sda = false ∨ x.freed = false) → s'.flag F.IIC_STAT_BUSERR_SEEN = true ∧
          (a.get F.IIC_ERR_BUSERR < 255 → s'.get F.IIC_ERR_BUSERR = a.get F.IIC_ERR_BUSERR + 1)) ∧
        (x.sda = true → x.freed = true → s'.get F.IIC_ERR_BUSERR = a.get F.IIC_ERR_BUSERR))) ∧
      (∀ x : BusHang, x.sda = false → a.now ≤ x.since + a.get F.IIC_CFG_STRTMO * msec → Answers (.iicStretchTimeout t x) s (fun s' =>
        s'.iic = a.iic ∧ s'.get F.IIC_ERR_BUSERR = a.get F.IIC_ERR_BUSERR))) ∧
    (a.iicOn = true → k < 4 → a.flag F.IIC_ATTN_EN = true → (a.get F.IIC_ATTN_MASK).testBit k = true →
      nth [] (statusGroups a.iic.status) k ≠ nth [] (statusGroups a.iicStatus) k →
      Answers (.iicAttnSchedule t) s (fun s' => s'.iic.seq = (a.iic.seq + 1) % 256 ∧ s'.iic.status = a.iicStatus ∧
        (s'.iic.waiting = true ∨ s'.iic.call.isSome = true)))

/-- R356, R358 to R361, R365, R367, R368, R387, R404 and Tables 18.1, 18.2: a power-on reset puts every register at its reset value and keeps
the flash; the other sources of system reach set their cause and reset the system; two that meet in one SAFE cycle both set their cause; the
release waits for every condition's end and its minimum, and begins the start, in which the option bytes load, the supply VCOIL shows, and
after a power-on the counters and the operating time resume from flash; the boot ROM takes a slot and counts the attempt, or enters RECOVERY;
the firmware's start confirms it. (That registers are at the value of State.reset rests, where the
manual gives no value, on the log entry 7.) Where the manual leaves a corner open, the model chooses as log entries 7, 60, 61 and 62 say. -/
def Obligations.ResetsAndTheStartRun : Prop :=
  ∀ (s a : State) (t k : Nat) (bw0 bw1 : Bool), a = s.upto t →
    Answers (.powerOnReset ⟨t, true⟩) s (fun s' => s'.regs = State.reset.regs ∧ s'.rst.mode = .reset ∧
      (1 ∉ a.rst.holding → s'.rst.asserted = [(0, a.now + 10 * msec)]) ∧ 0 ∈ s'.rst.holding ∧ s'.flash = a.flash ∧ s'.jobs = [] ∧ s'.host.sess = State.reset.host.sess ∧ s'.pads.gates = false) ∧
    (a.rst.mode ≠ .off → 0 ∈ a.rst.holding → Answers (.powerOnReset ⟨t, false⟩) s (fun s' => 0 ∉ s'.rst.holding ∧
      (∀ x ∈ s'.rst.asserted, x.1 = 0 → x.2 = a.now + 10 * msec) ∧ s'.regs = a.regs)) ∧
    (a.rst.mode ≠ .off → 1 ∈ a.rst.holding → Answers (.resetPin ⟨t, false⟩) s (fun s' => 1 ∉ s'.rst.holding ∧
      (∀ x ∈ s'.rst.asserted, x.1 = 1 → x.2 = a.now + 100 * usec) ∧ s'.regs = a.regs)) ∧
    (a.rst.mode ≠ .off → 1 ∉ a.rst.holding → Answers (.resetPin ⟨t, true⟩) s (fun s' => 1 ∈ s'.rst.holding ∧ s'.rst.mode = .reset ∧ s'.flag F.RST_CAUSE_PIN = true ∧
      (1, a.now + 100 * usec) ∈ s'.rst.asserted ∧ s'.flash = a.flash ∧ s'.time.aoSec = a.time.aoSec ∧ s'.jobs = [] ∧ s'.pads.gates = false ∧
      s'.get F.RST_BOOT_ATTEMPTS = a.get F.RST_BOOT_ATTEMPTS ∧ s'.get F.PRT_CONTSTAT_COIL = 0)) ∧
    ((a.inService = true ∨ a.rst.mode = .starting ∧ a.rst.image = true) → a.rst.wdogAt + 2 * sec ≤ a.now → Answers (.supervisorWatchdogTimeout t) s (fun s' =>
      s'.rst.mode = .reset ∧ s'.flag F.RST_CAUSE_SWDT = true ∧ s'.flash = a.flash)) ∧
    (a.rst.mode = .reset → a.safeCycle a.rst.assertAt = true →
      (2 ∈ a.rst.coin → Answers (.supervisorWatchdogTimeout t) s (fun s' => s'.flag F.RST_CAUSE_SWDT = true ∧
        (2, a.now + 100 * usec) ∈ s'.rst.asserted)) ∧
      (3 ∈ a.rst.coin → Answers (.startTimeout t) s (fun s' => s'.flag F.RST_CAUSE_STARTTMO = true ∧
        (3, a.now + 100 * usec) ∈ s'.rst.asserted))) ∧
    (a.inService = true → Answers (.watchdogKick t) s (fun s' => s'.rst.wdogAt = a.now ∧ s'.regs = a.regs)) ∧
    (∀ b, a.rst.mode = .starting → a.rst.bootAt = some b → b + 5 * sec ≤ a.now → Answers (.startTimeout t) s (fun s' =>
      s'.rst.mode = .reset ∧ s'.flag F.RST_CAUSE_STARTTMO = true ∧ s'.get F.RST_BOOT_ATTEMPTS = a.get F.RST_BOOT_ATTEMPTS)) ∧
    (a.rst.mode = .reset → (a.rst.holding ≠ [] ∨ ∃ x ∈ a.rst.asserted, a.now < x.2) → Answers (.resetRelease t bw0 bw1) s (fun s' => s' = a)) ∧
    (a.rst.mode = .reset → a.rst.holding = [] → (∀ x ∈ a.rst.asserted, x.2 ≤ a.now) → Answers (.resetRelease t bw0 bw1) s (fun s' =>
      s'.rst.mode = .starting ∧ s'.rst.asserted = [] ∧ s'.get F.BAY_POS_ROLE = b2n bw0 + 2 * b2n bw1 ∧
      s'.flag F.RST_OPT_OPTVALID = optValid a.flash.opt ∧
      s'.flag F.PRT_CONTSTAT_VCOILLOW = !a.prt.vcoil ∧
      ((∃ x ∈ a.rst.asserted, x.1 = 0) → s'.flash.pwrcyc = min 4294967295 (a.flash.pwrcyc + 1) ∧ s'.opsec = a.flash.opsec % 4294967296 ∧
        s'.rcd.cur.flags.testBit 1 = true))) ∧
    (a.rst.mode = .starting → a.rst.bootAt = none → a.domainOn 2 = true → (a.get F.RST_CLKFAIL_FAIL).testBit 2 = false → a.clockGood 1 = true →
      (∀ x, a.lan.supRst = some x → x + msec ≤ a.now) →
      (a.get F.RST_BOOT_ATTEMPTS = 3 → Answers (.clockGood t (.of 2)) s (fun s' => s'.rst.mode = .recovery ∧ s'.flag F.RST_BOOT_RECOV = true ∧
        s'.get F.RST_BOOT_SLOT = 3 ∧ s'.get F.RST_STAT_MSTATE = 3)) ∧
      (a.get F.RST_BOOT_ATTEMPTS < 3 → a.flag F.RST_OPT_OPTVALID = true → k = a.get F.RST_OPT_BOOTSLOT → (a.imgSlot k).st = 1 →
        (a.imgSlot k).passes = true → Answers (.clockGood t (.of 2)) s (fun s' => s'.rst.mode = .starting ∧ s'.rst.image = true ∧
          s'.rst.bootAt = some a.now ∧ s'.get F.RST_BOOT_SLOT = k ∧ s'.get F.RST_BOOT_ATTEMPTS = a.get F.RST_BOOT_ATTEMPTS + 1))) ∧
    (a.rst.mode = .starting → a.rst.image = true → a.domainGood 1 = true → a.domainGood 2 = true → Answers (.firmwareStart t) s (fun s' =>
      s'.inService = true ∧ s'.rst.bootAt = none ∧ s'.flag F.RST_BOOT_CONFIRMED = true ∧ s'.get F.RST_BOOT_ATTEMPTS = 0 ∧
      s'.get F.EVR_STAT_MODE = 1 ∧ s'.time.run = true))

/-- R22, R28 to R31, R362 to R364, R372 and Table 18.3: a domain becomes clock-good, fails to, or is lost, with what follows for each:
AO's loss stops the coarse time, SHUNT's and HVS's are barrier losses of their crossings, a lane's fences it, an Ethernet domain takes its link
down; a lane whose clock is stopped neither fails nor is lost; a debug probe releases a domain unless the option bytes lock it. Where the manual
leaves a corner open, the model chooses as log entries 3, 52 and 61 say. -/
def Obligations.ClockDomainsComeAndGo : Prop :=
  ∀ (s a : State) (t d l : Nat), a = s.upto t →
    (a.domainOn d = true → d ≠ 7 → d ≠ 8 → (a.get F.RST_CLKFAIL_FAIL).testBit d = false ∨ d = 3 → a.rst.mode ≠ .starting →
      Answers (.clockGood t (.of d)) s (fun s' => s'.rst.good.testBit d = true ∧ (d = 0 → s'.flag F.RST_STAT_REFSAFE = false))) ∧
    (a.rst.mode = .run → d ∈ [4, 5, 6, 11] → a.clockLate d = true → Answers (.clockGoodTimeout t d l) s (fun s' =>
      (s'.get F.RST_CLKFAIL_FAIL).testBit d = true ∧ s'.rst.mode = .halt ∧ s'.get F.RST_STAT_HALTC = 3 ∧ s'.get F.RST_STAT_MSTATE = 2 ∧
      s'.pads.gates = false)) ∧
    (a.laneClock l = true → l < 5 → Answers (.clockGood t (.lane l)) s (fun s' => nth none s'.lan.gate l = none)) ∧
    (a.domainOn d = true → (d = 9 ∨ d = 10) → a.clockLate d = true → Answers (.clockGoodTimeout t d l) s (fun s' =>
      (s'.get F.RST_CLKFAIL_FAIL).testBit d = true ∧ s'.rst.good.testBit d = false ∧ s'.flag (linkF (d - 8)) = false ∧
      s'.rst.mode = a.rst.mode)) ∧
    (a.domainOn d = true → d ∈ [0, 1, 2] → a.clockLate d = true → Answers (.clockGoodTimeout t d l) s (fun s' =>
      (s'.get F.RST_CLKFAIL_FAIL).testBit d = true ∧ s'.rst.good.testBit d = false ∧ s'.rst.mode = a.rst.mode)) ∧
    (a.laneClock l = true → l < 5 → l < a.lan.st.length → a.laneSt l ∈ [1, 2] →
      (a.laneLate l = true → Answers (.clockGoodTimeout t 3 l) s (fun s' => (s'.laneSt l = 4 ∨ s'.laneSt l = 3) ∧ (s'.lan.sw = none → s'.laneSt l = 3) ∧
        s'.flag F.LAN_STAT_FENCE_SEEN = true)) ∧
      (a.clockGood 3 = true → nth none a.lan.gate l = none → Answers (.clockLoss t 3 l) s (fun s' => s'.laneSt l = 4 ∨ s'.laneSt l = 3))) ∧
    (a.laneClock l = false → Answers (.clockLoss t 3 l) s (fun s' => s' = a) ∧ Answers (.clockGoodTimeout t 3 l) s (fun s' => s' = a)) ∧
    (a.clockGood 0 = true → Answers (.clockLoss t 0 l) s (fun s' => s'.rst.good.testBit 0 = false ∧ s'.clockGood 0 = false ∧ s'.rst.mode = a.rst.mode)) ∧
    (a.clockGood 0 = false → Answers (.aoCoarseTimeUpdate t) s (fun s' => s'.time = a.time)) ∧
    (a.clockGood 5 = true → Answers (.clockLoss t 5 l) s (fun s' => s'.rst.good.testBit 5 = false ∧ s'.rst.mode = a.rst.mode ∧
      ∀ x ∈ [Crossing.shuntA, .shuntB], s'.silent x = true ∧ (a.silent x = false → s'.flag F.PRT_TRIP_BARRIER = true))) ∧
    (a.clockGood 6 = true → Answers (.clockLoss t 6 l) s (fun s' => s'.rst.good.testBit 6 = false ∧ s'.rst.mode = a.rst.mode ∧
      ∀ x ∈ [Crossing.string, .bus, .ins], s'.silent x = true ∧ (a.silent x = false → s'.flag F.PRT_TRIP_BARRIER = true))) ∧
    (a.clockGood 4 = true → a.rst.mode = .run → Answers (.clockLoss t 4 l) s (fun s' => s'.rst.good.testBit 4 = false ∧
      s'.flag F.PRT_TRIP_CTRL_CLK = true ∧ s'.rst.mode = .halt ∧ s'.get F.RST_STAT_HALTC = 3 ∧ s'.pads.gates = false)) ∧
    (a.clockGood 1 = true → a.rst.mode = .run → Answers (.clockLoss t 1 l) s (fun s' => s'.rst.good.testBit 1 = false ∧
      s'.rst.mode = .halt ∧ s'.get F.RST_STAT_HALTC = 4 ∧ s'.pads.gates = false)) ∧
    (a.clockGood 11 = true → a.rst.mode = .run → Answers (.clockLoss t 11 l) s (fun s' => s'.flag F.PRT_TRIP_GANDER = true ∧
      s'.rst.mode = .halt ∧ s'.get F.RST_STAT_HALTC = 3)) ∧
    (a.clockGood 2 = true → Answers (.clockLoss t 2 l) s (fun s' => s'.rst.mode = .reset ∧ s'.flag F.RST_CAUSE_GSYS = true)) ∧
    ((d = 9 ∨ d = 10) → a.clockGood d = true → Answers (.clockLoss t d l) s (fun s' => s'.rst.good.testBit d = false ∧
      s'.flag (linkF (d - 8)) = false)) ∧
    (d < 12 → a.rst.mode ≠ .off → a.rst.mode ≠ .reset →
      (a.flag F.RST_OPT_DBGLOCK = false → Answers (.debugReleaseRequest t d) s (fun s' => s'.flag F.RST_STAT_DBGOVR = true ∧
        s'.rst.forced.testBit d = true)) ∧
      (a.flag F.RST_OPT_DBGLOCK = true → Answers (.debugReleaseRequest t d) s (fun s' => s'.regs = a.regs ∧ s'.rst = a.rst)))

/-- R38, R315, R337, R338, R370, R374, R375 and Tables 18.8, 18.9: the supply is measured and its loss stops the module; AO keeps the coarse
time (a second of quartz, or of its own clock as corrected); a loss in the boot ROM's write of the option bytes leaves them invalid; signals on a port open its listen window or wake the module; a window without a
packet that waits closes in its time, and a port trains. Where the manual leaves a corner open,
the model chooses as log entries 3 and 61 say. -/
def Obligations.SupplyAndWakeEventsAct : Prop :=
  ∀ (s a : State) (t p mv : Nat), a = s.upto t →
    (a.rst.mode ≠ .off → a.rst.mode ≠ .reset → Answers (.vauxMeasure t mv) s (fun s' => s'.get F.RST_VAUX_VAUX = min mv 65535 ∧
      s'.flag F.RST_VAUX_VAUXLOW = decide (mv < 6000) ∧ (mv < 6000 → s'.flag F.RST_VAUX_LOW_SEEN = true))) ∧
    Answers (.vauxLoss ⟨t, false⟩) s (fun s' => s'.rst.mode = .off ∧ s'.flash = a.flash ∧ s'.pads.gates = false ∧ s'.host.sess = State.reset.host.sess ∧
      s'.rst.asserted = []) ∧
    (∀ x, a.rst.optAt = some x → a.now ≤ x + 20 * msec → Answers (.vauxLoss ⟨t, true⟩) s (fun s' => s'.rst.mode = .off ∧
      optValid s'.flash.opt = false ∧ s'.flash.slots = a.flash.slots)) ∧
    (a.clockGood 0 = true → a.time.aoAt + sec ≤ a.now → Answers (.aoCoarseTimeUpdate t) s (fun s' =>
      s'.time.aoAt = a.now ∧ (a.quartzOn = true → s'.time.aoSec = a.quartzSec) ∧
      ∀ e : Int, a.quartzOn = false → e = a.time.aoFrac + a.thm.aoPpb →
        (-1000000000 < e → e < 1000000000 → s'.time.aoSec = a.time.aoSec + 1 ∧ s'.time.aoFrac = e) ∧
        (1000000000 ≤ e → s'.time.aoSec = a.time.aoSec + 2 ∧ s'.time.aoFrac = e - 1000000000) ∧
        (e ≤ -1000000000 → s'.time.aoSec = a.time.aoSec ∧ s'.time.aoFrac = e + 1000000000))) ∧
    (a.rst.mode = .park →
      ((p = 1 ∨ p = 2) → a.flag F.RST_WAKECFG_ETHWAKE = true → Answers (.wakeEthEnergy t p) s (fun s' =>
        (p, a.now, a.now) ∈ s'.rst.listen ∧ s'.rst.mode = .park)) ∧
      (a.flag F.RST_WAKECFG_SPIWAKE = true → Answers (.wakeSpiCs t) s (fun s' => (3, a.now, a.now) ∈ s'.rst.listen ∧ s'.rst.mode = .park)) ∧
      Answers (.listenWindowExpire t) s (fun s' => (∀ w ∈ s'.rst.listen, w ∈ a.rst.listen) ∧ ∀ w ∈ a.rst.listen,
        (a.now < w.2.1 + a.get F.RST_WAKECFG_LISTEN * 10 * msec → w ∈ s'.rst.listen) ∧
        (a.now < w.2.1 + a.get F.RST_WAKECFG_LISTEN * 10 * msec ∨
          (∃ x ∈ a.host.sess, ∃ q ∈ x.cmdq, viaPort q.req.via = w.1) ∨ w ∉ s'.rst.listen)) ∧
      (a.haltCause = 0 → a.rst.halted = false →
        (a.flag F.RST_WAKECFG_CANWAKE = true → Answers (.wakeCanDominant t) s (fun s' => s'.rst.mode = .run ∧ s'.time.run = true ∧
          s'.get F.RST_WAKESRC_SRC = 3 ∧ (s'.get F.RST_WAKESRC_SEEN).testBit 2 = true)) ∧
        (a.flag F.RST_WAKECFG_IICWAKE = true → Answers (.wakeIicAddress ⟨t, a.get F.IIC_CFG_TADDR⟩) s (fun s' => s'.rst.mode = .run ∧ s'.time.run = true ∧
          s'.get F.RST_WAKESRC_SRC = 4 ∧ (s'.get F.RST_WAKESRC_SEEN).testBit 3 = true)) ∧
        (a.get F.RST_WAKETMR_SEC ≠ 0 → a.rst.parkAt + a.get F.RST_WAKETMR_SEC * sec ≤ a.now → Answers (.wakeTimer t) s (fun s' =>
          s'.rst.mode = .run ∧ s'.time.run = true ∧ s'.get F.RST_WAKESRC_SRC = 6 ∧ (s'.get F.RST_WAKESRC_SEEN).testBit 5 = true)))) ∧
    (a.rst.mode = .park → p ≠ a.get F.IIC_CFG_TADDR → Answers (.wakeIicAddress ⟨t, p⟩) s (fun s' => s' = a)) ∧
    (a.ethOn p = true → (p = 1 ∨ p = 2) → a.flag (linkF p) = false → a.rst.training.length = 2 → nth 0 a.rst.training (p - 1) ≤ a.now →
      Answers (.linkTrainingAttempt t p) s (fun s' => nth 0 s'.rst.training (p - 1) = a.now + a.get F.RST_WAKECFG_LINKPER * sec ∧
        s'.out = .eth p 0 [] :: a.out))

/-- One step of the module runs the command in front of its queue on the rest of the queue; with nothing waiting it runs the next request the
interpreter chooses, and with none of those it idles (the model's choice, in the log entry 2). -/
def Obligations.AStepRunsTheCommandInFront : Prop :=
  (∀ (c : Instr) (s : State), step { s with pending := c :: s.pending } = exec c s) ∧
  (∀ (c : Instr) (s s1 : State), s.pending = [] → s.nextRequest = some (c, s1) → step s = exec c s1) ∧
  (∀ s : State, s.pending = [] → s.nextRequest = none → step s = .next s.idle)

/-- The module right after reset: mode, cause, gates and coils, the queues and the sessions as R282, R358, R361, R366 have them; every register at the reset
word of its table (a word the tables do not give is the model's choice, in the log entry 7); registers in canonical form,
every list of the length its rule gives, and the pads settled. -/
def Obligations.ResetLeavesTheTablesValues : Prop :=
  State.reset.rst.mode = .reset ∧ State.reset.pending = [] ∧ (∀ x, x ≠ 0xA0000 → State.reset.word x = resetWord x) ∧
  State.reset.word 0xA0000 = 0x10000#32 ∧ State.reset.word 0x10000 = 0x10001#32 ∧ Regs.wf State.reset.regs ∧
  (∀ n, n < 8 → (State.reset.session n).st = .free) ∧ State.reset.jobs = [] ∧ (∀ n, n < 48 → State.reset.fill n = 0) ∧
  State.reset.pads.gates = false ∧ State.reset.pads.convEn = false ∧ State.reset.pads.coils = [false, false, false] ∧
  State.reset.pads.attn = [false, false, false, false] ∧ Settled State.reset ∧ PadsSafe State.reset ∧
  Shape State.reset

/-- R163, R177, R185, R350, R353, R366, for the whole machine: after every step, whatever the command, the pads follow the state: while a cause of PRT_TRIP is
latched every gate is low and CONV_EN low 10 µs after; no gate switches outside RUN, both gates of a phase are never high together, those of
a phase whose token no lane holds are low, and no attention line is up unless the router is in NORMAL. Where the manual
leaves a corner open, the model chooses as log entry 45 says. -/
def Obligations.EveryStepLeavesThePadsSafe : Prop :=
  ∀ s s' : State, step s = .next s' → Settled s' ∧ PadsSafe s'

/-- For the whole machine: the registers keep their canonical form, addresses rising strictly and no entry at its reset word, so that two
register files that read alike are alike; whatever the state and the command, a step keeps it. (The form is the model's own choice: log entry 7.) -/
def Obligations.EveryStepKeepsTheRegistersCanonical : Prop :=
  ∀ s s' : State, Regs.wf s.regs → step s = .next s' → Regs.wf s'.regs

/-- For the whole machine: what the manual has a fixed number of stays of that number in every step: eight sessions (R281), the transmit queues
of CAN (Table 19.2), the timestamp queues and the line ports' records of two Ethernet ports, three contactor coils, four phases (R28), the six inputs and
six stages of the safety evaluation, five lanes with four tokens and quarters (R28, R237), two image slots (R399). (That State holds them
as lists of these lengths is the model's choice: log entry 7.) -/
def Obligations.EveryStepKeepsTheShape : Prop :=
  ∀ s s' : State, Shape s → step s = .next s' → Shape s'

/-- Every command answers a next state; it leaves the waiting commands alone, and time does not run back. (That time moves
on with the commands, and that one out of place answers the state it found, is the model's choice: log entries 3 and 5.) -/
def Obligations.EveryCommandAnswersAndKeepsTheQueue : Prop :=
  ∀ (c : Instr) (s : State), ∃ s', exec c s = .next s' ∧ s'.pending = s.pending ∧ s.now ≤ s'.now

/-- R423, whole: a register whose block is held in reset reads its reset value, and a write to it is answered REFUSED_STATE with REASON 0 and
changes nothing; AO's block and the safety block are always readable. (Which blocks the other domains hold is the model's reading: log entry 24.) -/
def Obligations.RegistersHeldInResetReadTheirResetValue : Prop :=
  (∀ (s a : State) (t x : Nat) (r : Req), a = s.upto t → x = uAt r.payload 0 4 → a.regUp x = false →
    ((regDef? x).isSome = true → serves a 0x0101 r (Fmt.fixed 4 []) = true → Answers (.regRead t r) s (fun s' =>
      Replied s' r 0x0101 stOk 0 (leBytes 4 (resetWord x).toNat))) ∧
    ((writable x).isSome = true → serves a 0x0102 r (Fmt.fixed 8 []) = true → Answers (.regWrite t r) s (fun s' =>
      (∃ p, Replied s' r 0x0102 stRefused 0 p ∧ uAt p 0 2 = 0) ∧ SameMeasured a s' ∧ SameControl a s' ∧ SameStored a s' ∧ SamePorts a s' ∧
      ∀ y, replyReg y = false → s'.word y = a.word y))) ∧
  (∀ (s : State) (x : Nat), (x / 65536 = 1 ∨ x / 65536 = 10 → s.regUp x = true) ∧
    (x / 65536 = 7 → s.domainGood 4 = false → s.regUp x = false) ∧ (x / 65536 = 6 → s.domainGood 3 = false → s.regUp x = false) ∧
    (x / 65536 = 14 → s.portHeld 3 = true → s.regUp x = false) ∧ (x / 65536 = 15 → s.portHeld 4 = true → s.regUp x = false))

/-- R342, whole: a byte cut short by a START or a STOP in its acknowledge slot is discarded: the transaction acts as one of the bytes before
it, so P does not advance past them, and PROTO_ERR counts. -/
def Obligations.MalformedTargetTransactionsDiscardTheByte : Prop :=
  ∀ (s a : State) (t : Nat) (bs : List Byte) (b : Byte), a = s.upto t → a.iicOn = true →
    Answers (.iicTargetWrite t ⟨a.get F.IIC_CFG_TADDR, bs⟩ false) s (fun u => Answers (.iicTargetWrite t ⟨a.get F.IIC_CFG_TADDR, bs ++ [b]⟩ true) s (fun s' =>
      s'.iic = u.iic ∧ (∀ p, 128 ≤ p → p < 256 → s'.winByte p = u.winByte p) ∧ s'.flag F.IIC_STAT_PROTO_SEEN = true ∧
      (a.get F.IIC_ERR_PROTO_ERR < 255 → s'.get F.IIC_ERR_PROTO_ERR = a.get F.IIC_ERR_PROTO_ERR + 1)))

/-- R180, whole: a structure record is accepted only with STATE = STOPPED and all gates low, and otherwise refused with REFUSED_STATE; it
replaces the structure at once, and a gain bank whose dimensions no longer match becomes invalid. -/
def Obligations.StructureRecordsNeedAStoppedLoop : Prop :=
  ∀ (s a : State) (t : Nat) (r : Req) (d : List Byte) (c : CtlStruct), a = s.upto t →
    serves a 0x0305 r { len := fun p => decide (12 ≤ p.length) && decide (p.length ≤ 1400), pad := [9, 10, 11], flagsAt := some (8, 3) } = true →
    d.length = uAt r.payload 4 4 → d.length ≤ 8192 → d ≠ [] → uAt r.payload 8 1 = 0 → uAt d 2 1 = 1 → structOf d = some c →
    ((uAt r.payload 0 4 = 0 ∧ d = r.payload.drop 12) ∨ (∃ x, a.cfg.asmC = some x ∧ x.session = r.session ∧ x.total = d.length ∧
      uAt r.payload 0 4 = x.data.length ∧ x.data ≠ [] ∧ d = x.data ++ r.payload.drop 12)) →
    (a.get F.CTL_STAT_STATE = 0 → a.ctl.gatesLow = true → Answers (.coefLoad t r) s (fun s' => Replied s' r 0x0305 stOk 0 [] ∧
      s'.ctl.struct = some c ∧
      (∀ g, a.ctl.bank0 = some g → s'.ctl.bank0 = if g.fits c then some g else none) ∧ (a.ctl.bank0 = none → s'.ctl.bank0 = none) ∧
      (∀ g, a.ctl.bank1 = some g → s'.ctl.bank1 = if g.fits c then some g else none) ∧ (a.ctl.bank1 = none → s'.ctl.bank1 = none))) ∧
    (a.get F.CTL_STAT_STATE ≠ 0 ∨ a.ctl.gatesLow = false → Answers (.coefLoad t r) s (fun s' =>
      Replied s' r 0x0305 stRefused 0 (leBytes 2 3 ++ leBytes 2 0xFFFF) ∧ s'.ctl = a.ctl))

/-- R361, whole: RST_CAUSE keeps a sticky bit for every source seen; FIRST is the first since the bits were all zero, the lowest bit of one
SAFE cycle; a power-on reset leaves POR and FIRST = 1; the bits survive every other reset, and GET_STATUS reports the register. -/
def Obligations.ResetCausesAreKept : Prop :=
  (∀ (s : State) (n : Nat), n < 10 →
    (∀ k, k < 10 → ((s.cause n).word 0x10000).toNat.testBit k = (decide (k = n) || (s.word 0x10000).toNat.testBit k)) ∧
    ((s.word 0x10000).toNat % 1024 = 0 → (s.cause n).get F.RST_CAUSE_FIRST = n + 1) ∧
    ((s.word 0x10000).toNat % 1024 ≠ 0 → 2 * s.now / 125 = 2 * s.rst.firstAt / 125 →
      (s.cause n).get F.RST_CAUSE_FIRST = min (s.get F.RST_CAUSE_FIRST) (n + 1)) ∧
    ((s.word 0x10000).toNat % 1024 ≠ 0 → 2 * s.now / 125 ≠ 2 * s.rst.firstAt / 125 →
      (s.cause n).get F.RST_CAUSE_FIRST = s.get F.RST_CAUSE_FIRST)) ∧
  (∀ (s : State) (t : Nat), Answers (.powerOnReset ⟨t, true⟩) s (fun s' => s'.word 0x10000 = 0x10001#32)) ∧
  (∀ (s : State) (n u k : Nat), k < 10 → (s.word 0x10000).toNat.testBit k = true →
    ((s.assertSystem n).word 0x10000).toNat.testBit k = true ∧ ((s.assertSupervisor n).word 0x10000).toNat.testBit k = true ∧
    ((s.laneReset u).word 0x10000).toNat.testBit k = true ∧ ((s.unitReset u).word 0x10000).toNat.testBit k = true) ∧
  (∀ (s a : State) (t : Nat) (r : Req), a = s.upto t → serves a 0x0201 r (Fmt.fixed 0 []) = true → a.rst.mode ≠ .recovery →
    Answers (.getStatus t r) s (fun s' => ∃ p, Replied s' r 0x0201 stOk 0 p ∧ uAt p 16 4 = (a.word 0x10000).toNat))

/-- The frame of the opcodes of chapter 14 (R296 to R310), whatever the request and its result: what the table `touches` does not name for an opcode
(parts of the state and registers) is as the opcode found it; an opcode that only reads names the reply alone. -/
def Obligations.OpcodesLeaveTheRest : Prop :=
  ∀ (c : Instr) (s b : State), (touches c).group = .opcode → exec c s = .next b → Frame (touches c) s b

/-- The frame of the events of ring, acquisition, current and voltage, estimation and learning (chapters 2 to 6): what the table `touches` does not
name for a command (parts of the state and registers) is as the command found it. -/
def Obligations.MeasuringEventsLeaveTheRest : Prop :=
  ∀ (c : Instr) (s b : State), (touches c).group = .measure → exec c s = .next b → Frame (touches c) s b

/-- The frame of the events of control, protection, thermal supervision, safety, lanes and bay (chapters 7 to 12): what the table `touches` does
not name for a command (parts of the state and registers) is as the command found it. -/
def Obligations.ControlEventsLeaveTheRest : Prop :=
  ∀ (c : Instr) (s b : State), (touches c).group = .control → exec c s = .next b → Frame (touches c) s b

/-- The frame of register accesses, packets, sessions, the Ethernet, CAN and I²C ports and the event router (chapters 13 and 15 to 17): what the
table `touches` does not name for a command (parts of the state and registers) is as the command found it. -/
def Obligations.PortEventsLeaveTheRest : Prop :=
  ∀ (c : Instr) (s b : State), (touches c).group = .port → exec c s = .next b → Frame (touches c) s b

/-- The frame of resets, clocks, supply, wake, tiles, recorder and update (chapters 18 to 20): what the table `touches` does not name for a command
(parts of the state and registers) is as the command found it; no reset changes the flash. -/
def Obligations.ModuleEventsLeaveTheRest : Prop :=
  ∀ (c : Instr) (s b : State), (touches c).group = .module → exec c s = .next b → Frame (touches c) s b
end

