-- ==== Sys2Proof/Laws/State.lean ====
section
/-! SUPPORT. What each named update of the state leaves alone: one lemma per field per update. -/

namespace Sys2Proof.Machine.Laws

/-! ## Storing a word -/

@[simp] theorem putWord_now (s : State) (a : Nat) (v : Word) : (s.putWord a v).now = s.now := rfl
@[simp] theorem putWord_pending (s : State) (a : Nat) (v : Word) : (s.putWord a v).pending = s.pending := rfl
@[simp] theorem putWord_time (s : State) (a : Nat) (v : Word) : (s.putWord a v).time = s.time := rfl
@[simp] theorem putWord_rst (s : State) (a : Nat) (v : Word) : (s.putWord a v).rst = s.rst := rfl
@[simp] theorem putWord_host (s : State) (a : Nat) (v : Word) : (s.putWord a v).host = s.host := rfl
@[simp] theorem putWord_jobs (s : State) (a : Nat) (v : Word) : (s.putWord a v).jobs = s.jobs := rfl
@[simp] theorem putWord_jobNext (s : State) (a : Nat) (v : Word) : (s.putWord a v).jobNext = s.jobNext := rfl
@[simp] theorem putWord_cfg (s : State) (a : Nat) (v : Word) : (s.putWord a v).cfg = s.cfg := rfl
@[simp] theorem putWord_flash (s : State) (a : Nat) (v : Word) : (s.putWord a v).flash = s.flash := rfl
@[simp] theorem putWord_evr (s : State) (a : Nat) (v : Word) : (s.putWord a v).evr = s.evr := rfl
@[simp] theorem putWord_ring (s : State) (a : Nat) (v : Word) : (s.putWord a v).ring = s.ring := rfl
@[simp] theorem putWord_acq (s : State) (a : Nat) (v : Word) : (s.putWord a v).acq = s.acq := rfl
@[simp] theorem putWord_cvi (s : State) (a : Nat) (v : Word) : (s.putWord a v).cvi = s.cvi := rfl
@[simp] theorem putWord_est (s : State) (a : Nat) (v : Word) : (s.putWord a v).est = s.est := rfl
@[simp] theorem putWord_lrn (s : State) (a : Nat) (v : Word) : (s.putWord a v).lrn = s.lrn := rfl
@[simp] theorem putWord_imp (s : State) (a : Nat) (v : Word) : (s.putWord a v).imp = s.imp := rfl
@[simp] theorem putWord_ctl (s : State) (a : Nat) (v : Word) : (s.putWord a v).ctl = s.ctl := rfl
@[simp] theorem putWord_prt (s : State) (a : Nat) (v : Word) : (s.putWord a v).prt = s.prt := rfl
@[simp] theorem putWord_thm (s : State) (a : Nat) (v : Word) : (s.putWord a v).thm = s.thm := rfl
@[simp] theorem putWord_saf (s : State) (a : Nat) (v : Word) : (s.putWord a v).saf = s.saf := rfl
@[simp] theorem putWord_lan (s : State) (a : Nat) (v : Word) : (s.putWord a v).lan = s.lan := rfl
@[simp] theorem putWord_bay (s : State) (a : Nat) (v : Word) : (s.putWord a v).bay = s.bay := rfl
@[simp] theorem putWord_ptp (s : State) (a : Nat) (v : Word) : (s.putWord a v).ptp = s.ptp := rfl
@[simp] theorem putWord_eth (s : State) (a : Nat) (v : Word) : (s.putWord a v).eth = s.eth := rfl
@[simp] theorem putWord_can (s : State) (a : Nat) (v : Word) : (s.putWord a v).can = s.can := rfl
@[simp] theorem putWord_iic (s : State) (a : Nat) (v : Word) : (s.putWord a v).iic = s.iic := rfl
@[simp] theorem putWord_til (s : State) (a : Nat) (v : Word) : (s.putWord a v).til = s.til := rfl
@[simp] theorem putWord_rcd (s : State) (a : Nat) (v : Word) : (s.putWord a v).rcd = s.rcd := rfl
@[simp] theorem putWord_upd (s : State) (a : Nat) (v : Word) : (s.putWord a v).upd = s.upd := rfl
@[simp] theorem putWord_pads (s : State) (a : Nat) (v : Word) : (s.putWord a v).pads = s.pads := rfl
@[simp] theorem putWord_out (s : State) (a : Nat) (v : Word) : (s.putWord a v).out = s.out := rfl
@[simp] theorem putWord_free (s : State) (a : Nat) (v : Word) : (s.putWord a v).free = s.free := rfl

/-! ## Setting a field -/

@[simp] theorem set_now (s : State) (f : Fld) (x : Nat) : (s.set f x).now = s.now := rfl
@[simp] theorem set_pending (s : State) (f : Fld) (x : Nat) : (s.set f x).pending = s.pending := rfl
@[simp] theorem set_time (s : State) (f : Fld) (x : Nat) : (s.set f x).time = s.time := rfl
@[simp] theorem set_rst (s : State) (f : Fld) (x : Nat) : (s.set f x).rst = s.rst := rfl
@[simp] theorem set_host (s : State) (f : Fld) (x : Nat) : (s.set f x).host = s.host := rfl
@[simp] theorem set_jobs (s : State) (f : Fld) (x : Nat) : (s.set f x).jobs = s.jobs := rfl
@[simp] theorem set_jobNext (s : State) (f : Fld) (x : Nat) : (s.set f x).jobNext = s.jobNext := rfl
@[simp] theorem set_cfg (s : State) (f : Fld) (x : Nat) : (s.set f x).cfg = s.cfg := rfl
@[simp] theorem set_flash (s : State) (f : Fld) (x : Nat) : (s.set f x).flash = s.flash := rfl
@[simp] theorem set_evr (s : State) (f : Fld) (x : Nat) : (s.set f x).evr = s.evr := rfl
@[simp] theorem set_ring (s : State) (f : Fld) (x : Nat) : (s.set f x).ring = s.ring := rfl
@[simp] theorem set_acq (s : State) (f : Fld) (x : Nat) : (s.set f x).acq = s.acq := rfl
@[simp] theorem set_cvi (s : State) (f : Fld) (x : Nat) : (s.set f x).cvi = s.cvi := rfl
@[simp] theorem set_est (s : State) (f : Fld) (x : Nat) : (s.set f x).est = s.est := rfl
@[simp] theorem set_lrn (s : State) (f : Fld) (x : Nat) : (s.set f x).lrn = s.lrn := rfl
@[simp] theorem set_imp (s : State) (f : Fld) (x : Nat) : (s.set f x).imp = s.imp := rfl
@[simp] theorem set_ctl (s : State) (f : Fld) (x : Nat) : (s.set f x).ctl = s.ctl := rfl
@[simp] theorem set_prt (s : State) (f : Fld) (x : Nat) : (s.set f x).prt = s.prt := rfl
@[simp] theorem set_thm (s : State) (f : Fld) (x : Nat) : (s.set f x).thm = s.thm := rfl
@[simp] theorem set_saf (s : State) (f : Fld) (x : Nat) : (s.set f x).saf = s.saf := rfl
@[simp] theorem set_lan (s : State) (f : Fld) (x : Nat) : (s.set f x).lan = s.lan := rfl
@[simp] theorem set_bay (s : State) (f : Fld) (x : Nat) : (s.set f x).bay = s.bay := rfl
@[simp] theorem set_ptp (s : State) (f : Fld) (x : Nat) : (s.set f x).ptp = s.ptp := rfl
@[simp] theorem set_eth (s : State) (f : Fld) (x : Nat) : (s.set f x).eth = s.eth := rfl
@[simp] theorem set_can (s : State) (f : Fld) (x : Nat) : (s.set f x).can = s.can := rfl
@[simp] theorem set_iic (s : State) (f : Fld) (x : Nat) : (s.set f x).iic = s.iic := rfl
@[simp] theorem set_til (s : State) (f : Fld) (x : Nat) : (s.set f x).til = s.til := rfl
@[simp] theorem set_rcd (s : State) (f : Fld) (x : Nat) : (s.set f x).rcd = s.rcd := rfl
@[simp] theorem set_upd (s : State) (f : Fld) (x : Nat) : (s.set f x).upd = s.upd := rfl
@[simp] theorem set_pads (s : State) (f : Fld) (x : Nat) : (s.set f x).pads = s.pads := rfl
@[simp] theorem set_out (s : State) (f : Fld) (x : Nat) : (s.set f x).out = s.out := rfl
@[simp] theorem set_free (s : State) (f : Fld) (x : Nat) : (s.set f x).free = s.free := rfl

/-! ## Setting a bit -/

@[simp] theorem setB_now (s : State) (f : Fld) (b : Bool) : (s.setB f b).now = s.now := rfl
@[simp] theorem setB_pending (s : State) (f : Fld) (b : Bool) : (s.setB f b).pending = s.pending := rfl
@[simp] theorem setB_time (s : State) (f : Fld) (b : Bool) : (s.setB f b).time = s.time := rfl
@[simp] theorem setB_rst (s : State) (f : Fld) (b : Bool) : (s.setB f b).rst = s.rst := rfl
@[simp] theorem setB_host (s : State) (f : Fld) (b : Bool) : (s.setB f b).host = s.host := rfl
@[simp] theorem setB_jobs (s : State) (f : Fld) (b : Bool) : (s.setB f b).jobs = s.jobs := rfl
@[simp] theorem setB_jobNext (s : State) (f : Fld) (b : Bool) : (s.setB f b).jobNext = s.jobNext := rfl
@[simp] theorem setB_cfg (s : State) (f : Fld) (b : Bool) : (s.setB f b).cfg = s.cfg := rfl
@[simp] theorem setB_flash (s : State) (f : Fld) (b : Bool) : (s.setB f b).flash = s.flash := rfl
@[simp] theorem setB_evr (s : State) (f : Fld) (b : Bool) : (s.setB f b).evr = s.evr := rfl
@[simp] theorem setB_ring (s : State) (f : Fld) (b : Bool) : (s.setB f b).ring = s.ring := rfl
@[simp] theorem setB_acq (s : State) (f : Fld) (b : Bool) : (s.setB f b).acq = s.acq := rfl
@[simp] theorem setB_cvi (s : State) (f : Fld) (b : Bool) : (s.setB f b).cvi = s.cvi := rfl
@[simp] theorem setB_est (s : State) (f : Fld) (b : Bool) : (s.setB f b).est = s.est := rfl
@[simp] theorem setB_lrn (s : State) (f : Fld) (b : Bool) : (s.setB f b).lrn = s.lrn := rfl
@[simp] theorem setB_imp (s : State) (f : Fld) (b : Bool) : (s.setB f b).imp = s.imp := rfl
@[simp] theorem setB_ctl (s : State) (f : Fld) (b : Bool) : (s.setB f b).ctl = s.ctl := rfl
@[simp] theorem setB_prt (s : State) (f : Fld) (b : Bool) : (s.setB f b).prt = s.prt := rfl
@[simp] theorem setB_thm (s : State) (f : Fld) (b : Bool) : (s.setB f b).thm = s.thm := rfl
@[simp] theorem setB_saf (s : State) (f : Fld) (b : Bool) : (s.setB f b).saf = s.saf := rfl
@[simp] theorem setB_lan (s : State) (f : Fld) (b : Bool) : (s.setB f b).lan = s.lan := rfl
@[simp] theorem setB_bay (s : State) (f : Fld) (b : Bool) : (s.setB f b).bay = s.bay := rfl
@[simp] theorem setB_ptp (s : State) (f : Fld) (b : Bool) : (s.setB f b).ptp = s.ptp := rfl
@[simp] theorem setB_eth (s : State) (f : Fld) (b : Bool) : (s.setB f b).eth = s.eth := rfl
@[simp] theorem setB_can (s : State) (f : Fld) (b : Bool) : (s.setB f b).can = s.can := rfl
@[simp] theorem setB_iic (s : State) (f : Fld) (b : Bool) : (s.setB f b).iic = s.iic := rfl
@[simp] theorem setB_til (s : State) (f : Fld) (b : Bool) : (s.setB f b).til = s.til := rfl
@[simp] theorem setB_rcd (s : State) (f : Fld) (b : Bool) : (s.setB f b).rcd = s.rcd := rfl
@[simp] theorem setB_upd (s : State) (f : Fld) (b : Bool) : (s.setB f b).upd = s.upd := rfl
@[simp] theorem setB_pads (s : State) (f : Fld) (b : Bool) : (s.setB f b).pads = s.pads := rfl
@[simp] theorem setB_out (s : State) (f : Fld) (b : Bool) : (s.setB f b).out = s.out := rfl
@[simp] theorem setB_free (s : State) (f : Fld) (b : Bool) : (s.setB f b).free = s.free := rfl

/-! ## Setting a signed field -/

@[simp] theorem setI_now (s : State) (f : Fld) (x : Int) : (s.setI f x).now = s.now := rfl
@[simp] theorem setI_pending (s : State) (f : Fld) (x : Int) : (s.setI f x).pending = s.pending := rfl
@[simp] theorem setI_time (s : State) (f : Fld) (x : Int) : (s.setI f x).time = s.time := rfl
@[simp] theorem setI_rst (s : State) (f : Fld) (x : Int) : (s.setI f x).rst = s.rst := rfl
@[simp] theorem setI_host (s : State) (f : Fld) (x : Int) : (s.setI f x).host = s.host := rfl
@[simp] theorem setI_jobs (s : State) (f : Fld) (x : Int) : (s.setI f x).jobs = s.jobs := rfl
@[simp] theorem setI_jobNext (s : State) (f : Fld) (x : Int) : (s.setI f x).jobNext = s.jobNext := rfl
@[simp] theorem setI_cfg (s : State) (f : Fld) (x : Int) : (s.setI f x).cfg = s.cfg := rfl
@[simp] theorem setI_flash (s : State) (f : Fld) (x : Int) : (s.setI f x).flash = s.flash := rfl
@[simp] theorem setI_evr (s : State) (f : Fld) (x : Int) : (s.setI f x).evr = s.evr := rfl
@[simp] theorem setI_ring (s : State) (f : Fld) (x : Int) : (s.setI f x).ring = s.ring := rfl
@[simp] theorem setI_acq (s : State) (f : Fld) (x : Int) : (s.setI f x).acq = s.acq := rfl
@[simp] theorem setI_cvi (s : State) (f : Fld) (x : Int) : (s.setI f x).cvi = s.cvi := rfl
@[simp] theorem setI_est (s : State) (f : Fld) (x : Int) : (s.setI f x).est = s.est := rfl
@[simp] theorem setI_lrn (s : State) (f : Fld) (x : Int) : (s.setI f x).lrn = s.lrn := rfl
@[simp] theorem setI_imp (s : State) (f : Fld) (x : Int) : (s.setI f x).imp = s.imp := rfl
@[simp] theorem setI_ctl (s : State) (f : Fld) (x : Int) : (s.setI f x).ctl = s.ctl := rfl
@[simp] theorem setI_prt (s : State) (f : Fld) (x : Int) : (s.setI f x).prt = s.prt := rfl
@[simp] theorem setI_thm (s : State) (f : Fld) (x : Int) : (s.setI f x).thm = s.thm := rfl
@[simp] theorem setI_saf (s : State) (f : Fld) (x : Int) : (s.setI f x).saf = s.saf := rfl
@[simp] theorem setI_lan (s : State) (f : Fld) (x : Int) : (s.setI f x).lan = s.lan := rfl
@[simp] theorem setI_bay (s : State) (f : Fld) (x : Int) : (s.setI f x).bay = s.bay := rfl
@[simp] theorem setI_ptp (s : State) (f : Fld) (x : Int) : (s.setI f x).ptp = s.ptp := rfl
@[simp] theorem setI_eth (s : State) (f : Fld) (x : Int) : (s.setI f x).eth = s.eth := rfl
@[simp] theorem setI_can (s : State) (f : Fld) (x : Int) : (s.setI f x).can = s.can := rfl
@[simp] theorem setI_iic (s : State) (f : Fld) (x : Int) : (s.setI f x).iic = s.iic := rfl
@[simp] theorem setI_til (s : State) (f : Fld) (x : Int) : (s.setI f x).til = s.til := rfl
@[simp] theorem setI_rcd (s : State) (f : Fld) (x : Int) : (s.setI f x).rcd = s.rcd := rfl
@[simp] theorem setI_upd (s : State) (f : Fld) (x : Int) : (s.setI f x).upd = s.upd := rfl
@[simp] theorem setI_pads (s : State) (f : Fld) (x : Int) : (s.setI f x).pads = s.pads := rfl
@[simp] theorem setI_out (s : State) (f : Fld) (x : Int) : (s.setI f x).out = s.out := rfl
@[simp] theorem setI_free (s : State) (f : Fld) (x : Int) : (s.setI f x).free = s.free := rfl

/-! ## Setting an unsigned field -/

@[simp] theorem setU_now (s : State) (f : Fld) (x : Int) : (s.setU f x).now = s.now := rfl
@[simp] theorem setU_pending (s : State) (f : Fld) (x : Int) : (s.setU f x).pending = s.pending := rfl
@[simp] theorem setU_time (s : State) (f : Fld) (x : Int) : (s.setU f x).time = s.time := rfl
@[simp] theorem setU_rst (s : State) (f : Fld) (x : Int) : (s.setU f x).rst = s.rst := rfl
@[simp] theorem setU_host (s : State) (f : Fld) (x : Int) : (s.setU f x).host = s.host := rfl
@[simp] theorem setU_jobs (s : State) (f : Fld) (x : Int) : (s.setU f x).jobs = s.jobs := rfl
@[simp] theorem setU_jobNext (s : State) (f : Fld) (x : Int) : (s.setU f x).jobNext = s.jobNext := rfl
@[simp] theorem setU_cfg (s : State) (f : Fld) (x : Int) : (s.setU f x).cfg = s.cfg := rfl
@[simp] theorem setU_flash (s : State) (f : Fld) (x : Int) : (s.setU f x).flash = s.flash := rfl
@[simp] theorem setU_evr (s : State) (f : Fld) (x : Int) : (s.setU f x).evr = s.evr := rfl
@[simp] theorem setU_ring (s : State) (f : Fld) (x : Int) : (s.setU f x).ring = s.ring := rfl
@[simp] theorem setU_acq (s : State) (f : Fld) (x : Int) : (s.setU f x).acq = s.acq := rfl
@[simp] theorem setU_cvi (s : State) (f : Fld) (x : Int) : (s.setU f x).cvi = s.cvi := rfl
@[simp] theorem setU_est (s : State) (f : Fld) (x : Int) : (s.setU f x).est = s.est := rfl
@[simp] theorem setU_lrn (s : State) (f : Fld) (x : Int) : (s.setU f x).lrn = s.lrn := rfl
@[simp] theorem setU_imp (s : State) (f : Fld) (x : Int) : (s.setU f x).imp = s.imp := rfl
@[simp] theorem setU_ctl (s : State) (f : Fld) (x : Int) : (s.setU f x).ctl = s.ctl := rfl
@[simp] theorem setU_prt (s : State) (f : Fld) (x : Int) : (s.setU f x).prt = s.prt := rfl
@[simp] theorem setU_thm (s : State) (f : Fld) (x : Int) : (s.setU f x).thm = s.thm := rfl
@[simp] theorem setU_saf (s : State) (f : Fld) (x : Int) : (s.setU f x).saf = s.saf := rfl
@[simp] theorem setU_lan (s : State) (f : Fld) (x : Int) : (s.setU f x).lan = s.lan := rfl
@[simp] theorem setU_bay (s : State) (f : Fld) (x : Int) : (s.setU f x).bay = s.bay := rfl
@[simp] theorem setU_ptp (s : State) (f : Fld) (x : Int) : (s.setU f x).ptp = s.ptp := rfl
@[simp] theorem setU_eth (s : State) (f : Fld) (x : Int) : (s.setU f x).eth = s.eth := rfl
@[simp] theorem setU_can (s : State) (f : Fld) (x : Int) : (s.setU f x).can = s.can := rfl
@[simp] theorem setU_iic (s : State) (f : Fld) (x : Int) : (s.setU f x).iic = s.iic := rfl
@[simp] theorem setU_til (s : State) (f : Fld) (x : Int) : (s.setU f x).til = s.til := rfl
@[simp] theorem setU_rcd (s : State) (f : Fld) (x : Int) : (s.setU f x).rcd = s.rcd := rfl
@[simp] theorem setU_upd (s : State) (f : Fld) (x : Int) : (s.setU f x).upd = s.upd := rfl
@[simp] theorem setU_pads (s : State) (f : Fld) (x : Int) : (s.setU f x).pads = s.pads := rfl
@[simp] theorem setU_out (s : State) (f : Fld) (x : Int) : (s.setU f x).out = s.out := rfl
@[simp] theorem setU_free (s : State) (f : Fld) (x : Int) : (s.setU f x).free = s.free := rfl

/-! ## Counting -/

@[simp] theorem count_now (s : State) (f g : Fld) : (s.count f g).now = s.now := by unfold State.count; dsimp only; split <;> rfl
@[simp] theorem count_pending (s : State) (f g : Fld) : (s.count f g).pending = s.pending := by unfold State.count; dsimp only; split <;> rfl
@[simp] theorem count_time (s : State) (f g : Fld) : (s.count f g).time = s.time := by unfold State.count; dsimp only; split <;> rfl
@[simp] theorem count_rst (s : State) (f g : Fld) : (s.count f g).rst = s.rst := by unfold State.count; dsimp only; split <;> rfl
@[simp] theorem count_host (s : State) (f g : Fld) : (s.count f g).host = s.host := by unfold State.count; dsimp only; split <;> rfl
@[simp] theorem count_jobs (s : State) (f g : Fld) : (s.count f g).jobs = s.jobs := by unfold State.count; dsimp only; split <;> rfl
@[simp] theorem count_jobNext (s : State) (f g : Fld) : (s.count f g).jobNext = s.jobNext := by unfold State.count; dsimp only; split <;> rfl
@[simp] theorem count_cfg (s : State) (f g : Fld) : (s.count f g).cfg = s.cfg := by unfold State.count; dsimp only; split <;> rfl
@[simp] theorem count_flash (s : State) (f g : Fld) : (s.count f g).flash = s.flash := by unfold State.count; dsimp only; split <;> rfl
@[simp] theorem count_evr (s : State) (f g : Fld) : (s.count f g).evr = s.evr := by unfold State.count; dsimp only; split <;> rfl
@[simp] theorem count_ring (s : State) (f g : Fld) : (s.count f g).ring = s.ring := by unfold State.count; dsimp only; split <;> rfl
@[simp] theorem count_acq (s : State) (f g : Fld) : (s.count f g).acq = s.acq := by unfold State.count; dsimp only; split <;> rfl
@[simp] theorem count_cvi (s : State) (f g : Fld) : (s.count f g).cvi = s.cvi := by unfold State.count; dsimp only; split <;> rfl
@[simp] theorem count_est (s : State) (f g : Fld) : (s.count f g).est = s.est := by unfold State.count; dsimp only; split <;> rfl
@[simp] theorem count_lrn (s : State) (f g : Fld) : (s.count f g).lrn = s.lrn := by unfold State.count; dsimp only; split <;> rfl
@[simp] theorem count_imp (s : State) (f g : Fld) : (s.count f g).imp = s.imp := by unfold State.count; dsimp only; split <;> rfl
@[simp] theorem count_ctl (s : State) (f g : Fld) : (s.count f g).ctl = s.ctl := by unfold State.count; dsimp only; split <;> rfl
@[simp] theorem count_prt (s : State) (f g : Fld) : (s.count f g).prt = s.prt := by unfold State.count; dsimp only; split <;> rfl
@[simp] theorem count_thm (s : State) (f g : Fld) : (s.count f g).thm = s.thm := by unfold State.count; dsimp only; split <;> rfl
@[simp] theorem count_saf (s : State) (f g : Fld) : (s.count f g).saf = s.saf := by unfold State.count; dsimp only; split <;> rfl
@[simp] theorem count_lan (s : State) (f g : Fld) : (s.count f g).lan = s.lan := by unfold State.count; dsimp only; split <;> rfl
@[simp] theorem count_bay (s : State) (f g : Fld) : (s.count f g).bay = s.bay := by unfold State.count; dsimp only; split <;> rfl
@[simp] theorem count_ptp (s : State) (f g : Fld) : (s.count f g).ptp = s.ptp := by unfold State.count; dsimp only; split <;> rfl
@[simp] theorem count_eth (s : State) (f g : Fld) : (s.count f g).eth = s.eth := by unfold State.count; dsimp only; split <;> rfl
@[simp] theorem count_can (s : State) (f g : Fld) : (s.count f g).can = s.can := by unfold State.count; dsimp only; split <;> rfl
@[simp] theorem count_iic (s : State) (f g : Fld) : (s.count f g).iic = s.iic := by unfold State.count; dsimp only; split <;> rfl
@[simp] theorem count_til (s : State) (f g : Fld) : (s.count f g).til = s.til := by unfold State.count; dsimp only; split <;> rfl
@[simp] theorem count_rcd (s : State) (f g : Fld) : (s.count f g).rcd = s.rcd := by unfold State.count; dsimp only; split <;> rfl
@[simp] theorem count_upd (s : State) (f g : Fld) : (s.count f g).upd = s.upd := by unfold State.count; dsimp only; split <;> rfl
@[simp] theorem count_pads (s : State) (f g : Fld) : (s.count f g).pads = s.pads := by unfold State.count; dsimp only; split <;> rfl
@[simp] theorem count_out (s : State) (f g : Fld) : (s.count f g).out = s.out := by unfold State.count; dsimp only; split <;> rfl
@[simp] theorem count_free (s : State) (f g : Fld) : (s.count f g).free = s.free := by unfold State.count; dsimp only; split <;> rfl

/-! ## Sending -/

@[simp] theorem emit_now (s : State) (m : OutMsg) : (s.emit m).now = s.now := rfl
@[simp] theorem emit_pending (s : State) (m : OutMsg) : (s.emit m).pending = s.pending := rfl
@[simp] theorem emit_regs (s : State) (m : OutMsg) : (s.emit m).regs = s.regs := rfl
@[simp] theorem emit_time (s : State) (m : OutMsg) : (s.emit m).time = s.time := rfl
@[simp] theorem emit_rst (s : State) (m : OutMsg) : (s.emit m).rst = s.rst := rfl
@[simp] theorem emit_host (s : State) (m : OutMsg) : (s.emit m).host = s.host := rfl
@[simp] theorem emit_jobs (s : State) (m : OutMsg) : (s.emit m).jobs = s.jobs := rfl
@[simp] theorem emit_jobNext (s : State) (m : OutMsg) : (s.emit m).jobNext = s.jobNext := rfl
@[simp] theorem emit_cfg (s : State) (m : OutMsg) : (s.emit m).cfg = s.cfg := rfl
@[simp] theorem emit_flash (s : State) (m : OutMsg) : (s.emit m).flash = s.flash := rfl
@[simp] theorem emit_evr (s : State) (m : OutMsg) : (s.emit m).evr = s.evr := rfl
@[simp] theorem emit_ring (s : State) (m : OutMsg) : (s.emit m).ring = s.ring := rfl
@[simp] theorem emit_acq (s : State) (m : OutMsg) : (s.emit m).acq = s.acq := rfl
@[simp] theorem emit_cvi (s : State) (m : OutMsg) : (s.emit m).cvi = s.cvi := rfl
@[simp] theorem emit_est (s : State) (m : OutMsg) : (s.emit m).est = s.est := rfl
@[simp] theorem emit_lrn (s : State) (m : OutMsg) : (s.emit m).lrn = s.lrn := rfl
@[simp] theorem emit_imp (s : State) (m : OutMsg) : (s.emit m).imp = s.imp := rfl
@[simp] theorem emit_ctl (s : State) (m : OutMsg) : (s.emit m).ctl = s.ctl := rfl
@[simp] theorem emit_prt (s : State) (m : OutMsg) : (s.emit m).prt = s.prt := rfl
@[simp] theorem emit_thm (s : State) (m : OutMsg) : (s.emit m).thm = s.thm := rfl
@[simp] theorem emit_saf (s : State) (m : OutMsg) : (s.emit m).saf = s.saf := rfl
@[simp] theorem emit_lan (s : State) (m : OutMsg) : (s.emit m).lan = s.lan := rfl
@[simp] theorem emit_bay (s : State) (m : OutMsg) : (s.emit m).bay = s.bay := rfl
@[simp] theorem emit_ptp (s : State) (m : OutMsg) : (s.emit m).ptp = s.ptp := rfl
@[simp] theorem emit_eth (s : State) (m : OutMsg) : (s.emit m).eth = s.eth := rfl
@[simp] theorem emit_can (s : State) (m : OutMsg) : (s.emit m).can = s.can := rfl
@[simp] theorem emit_iic (s : State) (m : OutMsg) : (s.emit m).iic = s.iic := rfl
@[simp] theorem emit_til (s : State) (m : OutMsg) : (s.emit m).til = s.til := rfl
@[simp] theorem emit_rcd (s : State) (m : OutMsg) : (s.emit m).rcd = s.rcd := rfl
@[simp] theorem emit_upd (s : State) (m : OutMsg) : (s.emit m).upd = s.upd := rfl
@[simp] theorem emit_pads (s : State) (m : OutMsg) : (s.emit m).pads = s.pads := rfl
@[simp] theorem emit_free (s : State) (m : OutMsg) : (s.emit m).free = s.free := rfl

/-! ## Drawing an open value -/

@[simp] theorem drew_now (s : State) : (s.drew).now = s.now := rfl
@[simp] theorem drew_pending (s : State) : (s.drew).pending = s.pending := rfl
@[simp] theorem drew_regs (s : State) : (s.drew).regs = s.regs := rfl
@[simp] theorem drew_time (s : State) : (s.drew).time = s.time := rfl
@[simp] theorem drew_rst (s : State) : (s.drew).rst = s.rst := rfl
@[simp] theorem drew_host (s : State) : (s.drew).host = s.host := rfl
@[simp] theorem drew_jobs (s : State) : (s.drew).jobs = s.jobs := rfl
@[simp] theorem drew_jobNext (s : State) : (s.drew).jobNext = s.jobNext := rfl
@[simp] theorem drew_cfg (s : State) : (s.drew).cfg = s.cfg := rfl
@[simp] theorem drew_flash (s : State) : (s.drew).flash = s.flash := rfl
@[simp] theorem drew_evr (s : State) : (s.drew).evr = s.evr := rfl
@[simp] theorem drew_ring (s : State) : (s.drew).ring = s.ring := rfl
@[simp] theorem drew_acq (s : State) : (s.drew).acq = s.acq := rfl
@[simp] theorem drew_cvi (s : State) : (s.drew).cvi = s.cvi := rfl
@[simp] theorem drew_est (s : State) : (s.drew).est = s.est := rfl
@[simp] theorem drew_lrn (s : State) : (s.drew).lrn = s.lrn := rfl
@[simp] theorem drew_imp (s : State) : (s.drew).imp = s.imp := rfl
@[simp] theorem drew_ctl (s : State) : (s.drew).ctl = s.ctl := rfl
@[simp] theorem drew_prt (s : State) : (s.drew).prt = s.prt := rfl
@[simp] theorem drew_thm (s : State) : (s.drew).thm = s.thm := rfl
@[simp] theorem drew_saf (s : State) : (s.drew).saf = s.saf := rfl
@[simp] theorem drew_lan (s : State) : (s.drew).lan = s.lan := rfl
@[simp] theorem drew_bay (s : State) : (s.drew).bay = s.bay := rfl
@[simp] theorem drew_ptp (s : State) : (s.drew).ptp = s.ptp := rfl
@[simp] theorem drew_eth (s : State) : (s.drew).eth = s.eth := rfl
@[simp] theorem drew_can (s : State) : (s.drew).can = s.can := rfl
@[simp] theorem drew_iic (s : State) : (s.drew).iic = s.iic := rfl
@[simp] theorem drew_til (s : State) : (s.drew).til = s.til := rfl
@[simp] theorem drew_rcd (s : State) : (s.drew).rcd = s.rcd := rfl
@[simp] theorem drew_upd (s : State) : (s.drew).upd = s.upd := rfl
@[simp] theorem drew_pads (s : State) : (s.drew).pads = s.pads := rfl
@[simp] theorem drew_out (s : State) : (s.drew).out = s.out := rfl

/-! ## An event's arrival -/

@[simp] theorem raise_now (s : State) (n : Nat) (d : List Byte) : (s.raise n d).now = s.now := by unfold State.raise; dsimp only; split <;> rfl
@[simp] theorem raise_pending (s : State) (n : Nat) (d : List Byte) : (s.raise n d).pending = s.pending := by unfold State.raise; dsimp only; split <;> rfl
@[simp] theorem raise_time (s : State) (n : Nat) (d : List Byte) : (s.raise n d).time = s.time := by unfold State.raise; dsimp only; split <;> rfl
@[simp] theorem raise_rst (s : State) (n : Nat) (d : List Byte) : (s.raise n d).rst = s.rst := by unfold State.raise; dsimp only; split <;> rfl
@[simp] theorem raise_host (s : State) (n : Nat) (d : List Byte) : (s.raise n d).host = s.host := by unfold State.raise; dsimp only; split <;> rfl
@[simp] theorem raise_jobs (s : State) (n : Nat) (d : List Byte) : (s.raise n d).jobs = s.jobs := by unfold State.raise; dsimp only; split <;> rfl
@[simp] theorem raise_jobNext (s : State) (n : Nat) (d : List Byte) : (s.raise n d).jobNext = s.jobNext := by unfold State.raise; dsimp only; split <;> rfl
@[simp] theorem raise_cfg (s : State) (n : Nat) (d : List Byte) : (s.raise n d).cfg = s.cfg := by unfold State.raise; dsimp only; split <;> rfl
@[simp] theorem raise_flash (s : State) (n : Nat) (d : List Byte) : (s.raise n d).flash = s.flash := by unfold State.raise; dsimp only; split <;> rfl
@[simp] theorem raise_ring (s : State) (n : Nat) (d : List Byte) : (s.raise n d).ring = s.ring := by unfold State.raise; dsimp only; split <;> rfl
@[simp] theorem raise_acq (s : State) (n : Nat) (d : List Byte) : (s.raise n d).acq = s.acq := by unfold State.raise; dsimp only; split <;> rfl
@[simp] theorem raise_cvi (s : State) (n : Nat) (d : List Byte) : (s.raise n d).cvi = s.cvi := by unfold State.raise; dsimp only; split <;> rfl
@[simp] theorem raise_est (s : State) (n : Nat) (d : List Byte) : (s.raise n d).est = s.est := by unfold State.raise; dsimp only; split <;> rfl
@[simp] theorem raise_lrn (s : State) (n : Nat) (d : List Byte) : (s.raise n d).lrn = s.lrn := by unfold State.raise; dsimp only; split <;> rfl
@[simp] theorem raise_imp (s : State) (n : Nat) (d : List Byte) : (s.raise n d).imp = s.imp := by unfold State.raise; dsimp only; split <;> rfl
@[simp] theorem raise_ctl (s : State) (n : Nat) (d : List Byte) : (s.raise n d).ctl = s.ctl := by unfold State.raise; dsimp only; split <;> rfl
@[simp] theorem raise_prt (s : State) (n : Nat) (d : List Byte) : (s.raise n d).prt = s.prt := by unfold State.raise; dsimp only; split <;> rfl
@[simp] theorem raise_thm (s : State) (n : Nat) (d : List Byte) : (s.raise n d).thm = s.thm := by unfold State.raise; dsimp only; split <;> rfl
@[simp] theorem raise_saf (s : State) (n : Nat) (d : List Byte) : (s.raise n d).saf = s.saf := by unfold State.raise; dsimp only; split <;> rfl
@[simp] theorem raise_lan (s : State) (n : Nat) (d : List Byte) : (s.raise n d).lan = s.lan := by unfold State.raise; dsimp only; split <;> rfl
@[simp] theorem raise_bay (s : State) (n : Nat) (d : List Byte) : (s.raise n d).bay = s.bay := by unfold State.raise; dsimp only; split <;> rfl
@[simp] theorem raise_ptp (s : State) (n : Nat) (d : List Byte) : (s.raise n d).ptp = s.ptp := by unfold State.raise; dsimp only; split <;> rfl
@[simp] theorem raise_eth (s : State) (n : Nat) (d : List Byte) : (s.raise n d).eth = s.eth := by unfold State.raise; dsimp only; split <;> rfl
@[simp] theorem raise_can (s : State) (n : Nat) (d : List Byte) : (s.raise n d).can = s.can := by unfold State.raise; dsimp only; split <;> rfl
@[simp] theorem raise_iic (s : State) (n : Nat) (d : List Byte) : (s.raise n d).iic = s.iic := by unfold State.raise; dsimp only; split <;> rfl
@[simp] theorem raise_til (s : State) (n : Nat) (d : List Byte) : (s.raise n d).til = s.til := by unfold State.raise; dsimp only; split <;> rfl
@[simp] theorem raise_rcd (s : State) (n : Nat) (d : List Byte) : (s.raise n d).rcd = s.rcd := by unfold State.raise; dsimp only; split <;> rfl
@[simp] theorem raise_upd (s : State) (n : Nat) (d : List Byte) : (s.raise n d).upd = s.upd := by unfold State.raise; dsimp only; split <;> rfl
@[simp] theorem raise_pads (s : State) (n : Nat) (d : List Byte) : (s.raise n d).pads = s.pads := by unfold State.raise; dsimp only; split <;> rfl
@[simp] theorem raise_out (s : State) (n : Nat) (d : List Byte) : (s.raise n d).out = s.out := by unfold State.raise; dsimp only; split <;> rfl
@[simp] theorem raise_free (s : State) (n : Nat) (d : List Byte) : (s.raise n d).free = s.free := by unfold State.raise; dsimp only; split <;> rfl

/-! ## Changing a job -/

@[simp] theorem jobMod_now (s : State) (n : Nat) (g : Job → Job) : (s.jobMod n g).now = s.now := rfl
@[simp] theorem jobMod_pending (s : State) (n : Nat) (g : Job → Job) : (s.jobMod n g).pending = s.pending := rfl
@[simp] theorem jobMod_regs (s : State) (n : Nat) (g : Job → Job) : (s.jobMod n g).regs = s.regs := rfl
@[simp] theorem jobMod_time (s : State) (n : Nat) (g : Job → Job) : (s.jobMod n g).time = s.time := rfl
@[simp] theorem jobMod_rst (s : State) (n : Nat) (g : Job → Job) : (s.jobMod n g).rst = s.rst := rfl
@[simp] theorem jobMod_host (s : State) (n : Nat) (g : Job → Job) : (s.jobMod n g).host = s.host := rfl
@[simp] theorem jobMod_jobNext (s : State) (n : Nat) (g : Job → Job) : (s.jobMod n g).jobNext = s.jobNext := rfl
@[simp] theorem jobMod_cfg (s : State) (n : Nat) (g : Job → Job) : (s.jobMod n g).cfg = s.cfg := rfl
@[simp] theorem jobMod_flash (s : State) (n : Nat) (g : Job → Job) : (s.jobMod n g).flash = s.flash := rfl
@[simp] theorem jobMod_evr (s : State) (n : Nat) (g : Job → Job) : (s.jobMod n g).evr = s.evr := rfl
@[simp] theorem jobMod_ring (s : State) (n : Nat) (g : Job → Job) : (s.jobMod n g).ring = s.ring := rfl
@[simp] theorem jobMod_acq (s : State) (n : Nat) (g : Job → Job) : (s.jobMod n g).acq = s.acq := rfl
@[simp] theorem jobMod_cvi (s : State) (n : Nat) (g : Job → Job) : (s.jobMod n g).cvi = s.cvi := rfl
@[simp] theorem jobMod_est (s : State) (n : Nat) (g : Job → Job) : (s.jobMod n g).est = s.est := rfl
@[simp] theorem jobMod_lrn (s : State) (n : Nat) (g : Job → Job) : (s.jobMod n g).lrn = s.lrn := rfl
@[simp] theorem jobMod_imp (s : State) (n : Nat) (g : Job → Job) : (s.jobMod n g).imp = s.imp := rfl
@[simp] theorem jobMod_ctl (s : State) (n : Nat) (g : Job → Job) : (s.jobMod n g).ctl = s.ctl := rfl
@[simp] theorem jobMod_prt (s : State) (n : Nat) (g : Job → Job) : (s.jobMod n g).prt = s.prt := rfl
@[simp] theorem jobMod_thm (s : State) (n : Nat) (g : Job → Job) : (s.jobMod n g).thm = s.thm := rfl
@[simp] theorem jobMod_saf (s : State) (n : Nat) (g : Job → Job) : (s.jobMod n g).saf = s.saf := rfl
@[simp] theorem jobMod_lan (s : State) (n : Nat) (g : Job → Job) : (s.jobMod n g).lan = s.lan := rfl
@[simp] theorem jobMod_bay (s : State) (n : Nat) (g : Job → Job) : (s.jobMod n g).bay = s.bay := rfl
@[simp] theorem jobMod_ptp (s : State) (n : Nat) (g : Job → Job) : (s.jobMod n g).ptp = s.ptp := rfl
@[simp] theorem jobMod_eth (s : State) (n : Nat) (g : Job → Job) : (s.jobMod n g).eth = s.eth := rfl
@[simp] theorem jobMod_can (s : State) (n : Nat) (g : Job → Job) : (s.jobMod n g).can = s.can := rfl
@[simp] theorem jobMod_iic (s : State) (n : Nat) (g : Job → Job) : (s.jobMod n g).iic = s.iic := rfl
@[simp] theorem jobMod_til (s : State) (n : Nat) (g : Job → Job) : (s.jobMod n g).til = s.til := rfl
@[simp] theorem jobMod_rcd (s : State) (n : Nat) (g : Job → Job) : (s.jobMod n g).rcd = s.rcd := rfl
@[simp] theorem jobMod_upd (s : State) (n : Nat) (g : Job → Job) : (s.jobMod n g).upd = s.upd := rfl
@[simp] theorem jobMod_pads (s : State) (n : Nat) (g : Job → Job) : (s.jobMod n g).pads = s.pads := rfl
@[simp] theorem jobMod_out (s : State) (n : Nat) (g : Job → Job) : (s.jobMod n g).out = s.out := rfl
@[simp] theorem jobMod_free (s : State) (n : Nat) (g : Job → Job) : (s.jobMod n g).free = s.free := rfl

/-! ## A packet into the SPI stream -/

@[simp] theorem toSpi_now (s : State) (p : Pkt) : (s.toSpi p).now = s.now := rfl
@[simp] theorem toSpi_pending (s : State) (p : Pkt) : (s.toSpi p).pending = s.pending := rfl
@[simp] theorem toSpi_regs (s : State) (p : Pkt) : (s.toSpi p).regs = s.regs := rfl
@[simp] theorem toSpi_time (s : State) (p : Pkt) : (s.toSpi p).time = s.time := rfl
@[simp] theorem toSpi_rst (s : State) (p : Pkt) : (s.toSpi p).rst = s.rst := rfl
@[simp] theorem toSpi_jobs (s : State) (p : Pkt) : (s.toSpi p).jobs = s.jobs := rfl
@[simp] theorem toSpi_jobNext (s : State) (p : Pkt) : (s.toSpi p).jobNext = s.jobNext := rfl
@[simp] theorem toSpi_cfg (s : State) (p : Pkt) : (s.toSpi p).cfg = s.cfg := rfl
@[simp] theorem toSpi_flash (s : State) (p : Pkt) : (s.toSpi p).flash = s.flash := rfl
@[simp] theorem toSpi_ring (s : State) (p : Pkt) : (s.toSpi p).ring = s.ring := rfl
@[simp] theorem toSpi_acq (s : State) (p : Pkt) : (s.toSpi p).acq = s.acq := rfl
@[simp] theorem toSpi_cvi (s : State) (p : Pkt) : (s.toSpi p).cvi = s.cvi := rfl
@[simp] theorem toSpi_est (s : State) (p : Pkt) : (s.toSpi p).est = s.est := rfl
@[simp] theorem toSpi_lrn (s : State) (p : Pkt) : (s.toSpi p).lrn = s.lrn := rfl
@[simp] theorem toSpi_imp (s : State) (p : Pkt) : (s.toSpi p).imp = s.imp := rfl
@[simp] theorem toSpi_ctl (s : State) (p : Pkt) : (s.toSpi p).ctl = s.ctl := rfl
@[simp] theorem toSpi_prt (s : State) (p : Pkt) : (s.toSpi p).prt = s.prt := rfl
@[simp] theorem toSpi_thm (s : State) (p : Pkt) : (s.toSpi p).thm = s.thm := rfl
@[simp] theorem toSpi_saf (s : State) (p : Pkt) : (s.toSpi p).saf = s.saf := rfl
@[simp] theorem toSpi_lan (s : State) (p : Pkt) : (s.toSpi p).lan = s.lan := rfl
@[simp] theorem toSpi_bay (s : State) (p : Pkt) : (s.toSpi p).bay = s.bay := rfl
@[simp] theorem toSpi_ptp (s : State) (p : Pkt) : (s.toSpi p).ptp = s.ptp := rfl
@[simp] theorem toSpi_eth (s : State) (p : Pkt) : (s.toSpi p).eth = s.eth := rfl
@[simp] theorem toSpi_can (s : State) (p : Pkt) : (s.toSpi p).can = s.can := rfl
@[simp] theorem toSpi_iic (s : State) (p : Pkt) : (s.toSpi p).iic = s.iic := rfl
@[simp] theorem toSpi_til (s : State) (p : Pkt) : (s.toSpi p).til = s.til := rfl
@[simp] theorem toSpi_rcd (s : State) (p : Pkt) : (s.toSpi p).rcd = s.rcd := rfl
@[simp] theorem toSpi_upd (s : State) (p : Pkt) : (s.toSpi p).upd = s.upd := rfl
@[simp] theorem toSpi_pads (s : State) (p : Pkt) : (s.toSpi p).pads = s.pads := rfl
@[simp] theorem toSpi_evr_pend (s : State) (p : Pkt) : (s.toSpi p).evr.pend = s.evr.pend := rfl
@[simp] theorem toSpi_evr_act (s : State) (p : Pkt) : (s.toSpi p).evr.act = s.evr.act := rfl
@[simp] theorem toSpi_evr_cnt (s : State) (p : Pkt) : (s.toSpi p).evr.cnt = s.evr.cnt := rfl
@[simp] theorem toSpi_evr_ovf (s : State) (p : Pkt) : (s.toSpi p).evr.ovf = s.evr.ovf := rfl
@[simp] theorem toSpi_evr_waits (s : State) (p : Pkt) : (s.toSpi p).evr.waits = s.evr.waits := rfl
@[simp] theorem toSpi_evr_shown (s : State) (p : Pkt) : (s.toSpi p).evr.shown = s.evr.shown := rfl
@[simp] theorem toSpi_evr_withdrawn (s : State) (p : Pkt) : (s.toSpi p).evr.withdrawn = s.evr.withdrawn := rfl
@[simp] theorem toSpi_evr_last (s : State) (p : Pkt) : (s.toSpi p).evr.last = s.evr.last := rfl
@[simp] theorem toSpi_out (s : State) (p : Pkt) : (s.toSpi p).out = s.out := rfl
@[simp] theorem toSpi_free (s : State) (p : Pkt) : (s.toSpi p).free = s.free := rfl

/-! ## The combinational part -/

@[simp] theorem settle_now (s : State) : (s.settle).now = s.now := by unfold State.settle State.qSeen State.present; dsimp only; split <;> rfl
@[simp] theorem settle_pending (s : State) : (s.settle).pending = s.pending := by unfold State.settle State.qSeen State.present; dsimp only; split <;> rfl
@[simp] theorem settle_regs (s : State) : (s.settle).regs = s.regs := by unfold State.settle State.qSeen State.present; dsimp only; split <;> rfl
@[simp] theorem settle_time (s : State) : (s.settle).time = s.time := by unfold State.settle State.qSeen State.present; dsimp only; split <;> rfl
@[simp] theorem settle_rst (s : State) : (s.settle).rst = s.rst := by unfold State.settle State.qSeen State.present; dsimp only; split <;> rfl
@[simp] theorem settle_host (s : State) : (s.settle).host = s.host := by unfold State.settle State.qSeen State.present; dsimp only; split <;> rfl
@[simp] theorem settle_jobs (s : State) : (s.settle).jobs = s.jobs := by unfold State.settle State.qSeen State.present; dsimp only; split <;> rfl
@[simp] theorem settle_jobNext (s : State) : (s.settle).jobNext = s.jobNext := by unfold State.settle State.qSeen State.present; dsimp only; split <;> rfl
@[simp] theorem settle_cfg (s : State) : (s.settle).cfg = s.cfg := by unfold State.settle State.qSeen State.present; dsimp only; split <;> rfl
@[simp] theorem settle_flash (s : State) : (s.settle).flash = s.flash := by unfold State.settle State.qSeen State.present; dsimp only; split <;> rfl
@[simp] theorem settle_ring (s : State) : (s.settle).ring = s.ring := by unfold State.settle State.qSeen State.present; dsimp only; split <;> rfl
@[simp] theorem settle_acq (s : State) : (s.settle).acq = s.acq := by unfold State.settle State.qSeen State.present; dsimp only; split <;> rfl
@[simp] theorem settle_cvi (s : State) : (s.settle).cvi = s.cvi := by unfold State.settle State.qSeen State.present; dsimp only; split <;> rfl
@[simp] theorem settle_est (s : State) : (s.settle).est = s.est := by unfold State.settle State.qSeen State.present; dsimp only; split <;> rfl
@[simp] theorem settle_lrn (s : State) : (s.settle).lrn = s.lrn := by unfold State.settle State.qSeen State.present; dsimp only; split <;> rfl
@[simp] theorem settle_imp (s : State) : (s.settle).imp = s.imp := by unfold State.settle State.qSeen State.present; dsimp only; split <;> rfl
@[simp] theorem settle_ctl (s : State) : (s.settle).ctl = s.ctl := by unfold State.settle State.qSeen State.present; dsimp only; split <;> rfl
@[simp] theorem settle_prt (s : State) : (s.settle).prt = s.prt := by unfold State.settle State.qSeen State.present; dsimp only; split <;> rfl
@[simp] theorem settle_thm (s : State) : (s.settle).thm = s.thm := by unfold State.settle State.qSeen State.present; dsimp only; split <;> rfl
@[simp] theorem settle_saf (s : State) : (s.settle).saf = s.saf := by unfold State.settle State.qSeen State.present; dsimp only; split <;> rfl
@[simp] theorem settle_lan (s : State) : (s.settle).lan = s.lan := by unfold State.settle State.qSeen State.present; dsimp only; split <;> rfl
@[simp] theorem settle_bay (s : State) : (s.settle).bay = s.bay := by unfold State.settle State.qSeen State.present; dsimp only; split <;> rfl
@[simp] theorem settle_ptp (s : State) : (s.settle).ptp = s.ptp := by unfold State.settle State.qSeen State.present; dsimp only; split <;> rfl
@[simp] theorem settle_eth (s : State) : (s.settle).eth = s.eth := by unfold State.settle State.qSeen State.present; dsimp only; split <;> rfl
@[simp] theorem settle_can (s : State) : (s.settle).can = s.can := by unfold State.settle State.qSeen State.present; dsimp only; split <;> rfl
@[simp] theorem settle_iic (s : State) : (s.settle).iic = s.iic := by unfold State.settle State.qSeen State.present; dsimp only; split <;> rfl
@[simp] theorem settle_rcd (s : State) : (s.settle).rcd = s.rcd := by unfold State.settle State.qSeen State.present; dsimp only; split <;> rfl
@[simp] theorem settle_upd (s : State) : (s.settle).upd = s.upd := by unfold State.settle State.qSeen State.present; dsimp only; split <;> rfl
@[simp] theorem settle_out (s : State) : (s.settle).out = s.out := by unfold State.settle State.qSeen State.present; dsimp only; split <;> rfl
@[simp] theorem settle_free (s : State) : (s.settle).free = s.free := by unfold State.settle State.qSeen State.present; dsimp only; split <;> rfl

end Sys2Proof.Machine.Laws
end

