-- ==== Sys2Proof/Laws/Regs.lean ====
section
/-! SUPPORT. Reading a register or a field after a write of one, and the canonical form of the stored words. -/

namespace Sys2Proof.Machine.Laws

/-! ## Association lists -/

/-- Keys rise strictly. -/
def Rising {α : Type} (l : List (Nat × α)) : Prop := l.Pairwise (fun p q => p.1 < q.1)

theorem assoc_put_same {α : Type} (k : Nat) (v : α) (l : List (Nat × α)) : assoc? k (assocPut k v l) = some v := by
  induction l with
  | nil => simp [assocPut, assoc?]
  | cons p t ih =>
    obtain ⟨j, w⟩ := p
    unfold assocPut
    split
    · simp [assoc?]
    · split
      · simp [assoc?]
      · rename_i h1 h2
        simp [assoc?, ih, Ne.symm h2]

theorem assoc_put_other {α : Type} (k j : Nat) (v : α) (l : List (Nat × α)) (h : k ≠ j) : assoc? j (assocPut k v l) = assoc? j l := by
  induction l with
  | nil => simp [assocPut, assoc?, h]
  | cons p t ih =>
    obtain ⟨i, w⟩ := p
    unfold assocPut
    split
    · simp [assoc?, h]
    · split
      · rename_i h1 h2; subst h2; simp [assoc?, h]
      · simp [assoc?, ih]

theorem del_cons_pos {α : Type} (k : Nat) (p : Nat × α) (t : List (Nat × α)) (h : p.1 = k) : assocDel k (p :: t) = assocDel k t := by
  simp [assocDel, h]

theorem del_cons_neg {α : Type} (k : Nat) (p : Nat × α) (t : List (Nat × α)) (h : p.1 ≠ k) :
    assocDel k (p :: t) = p :: assocDel k t := by
  simp [assocDel, h]

theorem assoc_del_same {α : Type} (k : Nat) (l : List (Nat × α)) : assoc? k (assocDel k l) = none := by
  induction l with
  | nil => rfl
  | cons p t ih =>
    by_cases h : p.1 = k
    · rw [del_cons_pos k p t h, ih]
    · rw [del_cons_neg k p t h]; simp [assoc?, h, ih]

theorem assoc_del_other {α : Type} (k j : Nat) (l : List (Nat × α)) (h : k ≠ j) : assoc? j (assocDel k l) = assoc? j l := by
  induction l with
  | nil => rfl
  | cons p t ih =>
    by_cases hk : p.1 = k
    · rw [del_cons_pos k p t hk, ih]; simp [assoc?, hk, h]
    · rw [del_cons_neg k p t hk]; simp [assoc?, ih]

theorem mem_put {α : Type} (k : Nat) (v : α) (l : List (Nat × α)) (p : Nat × α) (h : p ∈ assocPut k v l) : p = (k, v) ∨ p ∈ l := by
  induction l with
  | nil => simpa [assocPut] using h
  | cons q t ih =>
    obtain ⟨i, w⟩ := q
    unfold assocPut at h
    split at h
    · rcases List.mem_cons.1 h with h | h
      · exact .inl h
      · exact .inr h
    · split at h
      · rcases List.mem_cons.1 h with h | h
        · exact .inl h
        · exact .inr (List.mem_cons_of_mem _ h)
      · rcases List.mem_cons.1 h with h | h
        · exact .inr (h ▸ List.mem_cons_self ..)
        · rcases ih h with h | h
          · exact .inl h
          · exact .inr (List.mem_cons_of_mem _ h)

theorem rising_put {α : Type} (k : Nat) (v : α) (l : List (Nat × α)) (h : Rising l) : Rising (assocPut k v l) := by
  induction l with
  | nil => simp [assocPut, Rising]
  | cons q t ih =>
    obtain ⟨i, w⟩ := q
    have hc := List.pairwise_cons.1 h
    unfold assocPut
    split
    · rename_i hk
      refine List.pairwise_cons.2 ⟨fun p hp => ?_, h⟩
      rcases List.mem_cons.1 hp with hp | hp
      · subst hp; exact hk
      · exact Nat.lt_trans hk (hc.1 p hp)
    · split
      · rename_i _ hk
        subst hk
        exact List.pairwise_cons.2 ⟨fun p hp => hc.1 p hp, hc.2⟩
      · rename_i h1 h2
        refine List.pairwise_cons.2 ⟨fun p hp => ?_, ih hc.2⟩
        rcases mem_put k v t p hp with hp | hp
        · subst hp; simp; omega
        · exact hc.1 p hp

theorem rising_del {α : Type} (k : Nat) (l : List (Nat × α)) (h : Rising l) : Rising (assocDel k l) := List.Pairwise.filter _ h

/-! ## Stored words -/

theorem Regs.word_put_same (r : List (Nat × Word)) (a : Nat) (v : Word) : Regs.word (Regs.put r a v) a = v := by
  unfold Regs.put Regs.word
  split
  · rename_i h; simp [assoc_del_same, h]
  · simp [assoc_put_same]

theorem Regs.word_put_other (r : List (Nat × Word)) (a b : Nat) (v : Word) (h : a ≠ b) : Regs.word (Regs.put r a v) b = Regs.word r b := by
  unfold Regs.put Regs.word
  split
  · simp [assoc_del_other _ _ _ h]
  · simp [assoc_put_other _ _ _ _ h]

/-- Every store keeps the canonical form. -/
theorem Regs.put_wf (r : List (Nat × Word)) (a : Nat) (v : Word) (h : Regs.wf r) : Regs.wf (Regs.put r a v) := by
  unfold Regs.put
  split
  · exact ⟨rising_del a r h.1, fun p hp => h.2 p (List.mem_filter.1 hp).1⟩
  · rename_i hv
    refine ⟨rising_put a v r h.1, fun p hp => ?_⟩
    rcases mem_put a v r p hp with hp | hp
    · subst hp; exact hv
    · exact h.2 p hp

theorem reset_regs : State.reset.regs = [(0xa0000, 0x10000#32)] := rfl

theorem reset_wf : Regs.wf State.reset.regs := by
  rw [reset_regs]
  refine ⟨List.pairwise_singleton _ _, fun p hp => ?_⟩
  rw [List.mem_singleton.1 hp]
  decide +kernel

@[simp] theorem word_putWord_same (s : State) (a : Nat) (v : Word) : (s.putWord a v).word a = v := Regs.word_put_same _ _ _

theorem word_putWord_other (s : State) (a b : Nat) (v : Word) (h : a ≠ b) : (s.putWord a v).word b = s.word b := Regs.word_put_other _ _ _ _ h

/-- A state's words depend on its stored words alone. -/
theorem word_congr {s s' : State} (h : s.regs = s'.regs) (a : Nat) : s.word a = s'.word a := by unfold State.word; rw [h]

theorem get_congr {s s' : State} (h : s.regs = s'.regs) (f : Fld) : s.get f = s'.get f := by unfold State.get; rw [word_congr h]

/-! ## Fields -/

theorem mask_testBit (f : Fld) (i : Nat) : f.mask.testBit i = (decide (f.lo ≤ i) && decide (i < f.lo + f.w)) := by
  unfold Fld.mask
  rw [Nat.testBit_shiftLeft, Nat.testBit_two_pow_sub_one]
  by_cases h : f.lo ≤ i
  · simp [h]; omega
  · simp [h]

theorem of_testBit (f : Fld) (v : Word) (i : Nat) : (f.of v).testBit i = (decide (i < f.w) && v.getLsbD (f.lo + i)) := by
  unfold Fld.of
  rw [Nat.testBit_mod_two_pow, Nat.testBit_shiftRight]
  rfl

theorem into_getLsbD (f : Fld) (v : Word) (x i : Nat) (hi : i < 32) :
    (f.into v x).getLsbD i = if f.lo ≤ i ∧ i < f.lo + f.w then x.testBit (i - f.lo) else v.getLsbD i := by
  unfold Fld.into
  simp only [BitVec.getLsbD_or, BitVec.getLsbD_and, BitVec.getLsbD_not, BitVec.getLsbD_ofNat, hi, decide_true, Bool.true_and,
    mask_testBit, Nat.testBit_shiftLeft, Nat.testBit_mod_two_pow]
  by_cases h1 : f.lo ≤ i
  · by_cases h2 : i < f.lo + f.w
    · have h3 : i - f.lo < f.w := by omega
      simp [h1, h2, h3]
    · have h3 : ¬ i - f.lo < f.w := by omega
      simp [h1, h2, h3]
  · simp [h1]

theorem of_into_same (f : Fld) (v : Word) (x : Nat) (h : f.fits) : f.of (f.into v x) = x % 2 ^ f.w := by
  apply Nat.eq_of_testBit_eq
  intro i
  rw [of_testBit, Nat.testBit_mod_two_pow]
  by_cases hi : i < f.w
  · have : f.lo + i < 32 := by have : f.lo + f.w ≤ 32 := h; omega
    rw [into_getLsbD _ _ _ _ this]
    have h2 : f.lo ≤ f.lo + i ∧ f.lo + i < f.lo + f.w := by omega
    simp [hi, h2]
  · simp [hi]

theorem of_into_other (f g : Fld) (v : Word) (x : Nat) (hg : g.fits) (h : f.lo + f.w ≤ g.lo ∨ g.lo + g.w ≤ f.lo) :
    g.of (f.into v x) = g.of v := by
  apply Nat.eq_of_testBit_eq
  intro i
  rw [of_testBit, of_testBit]
  by_cases hi : i < g.w
  · have : g.lo + i < 32 := by have : g.lo + g.w ≤ 32 := hg; omega
    rw [into_getLsbD _ _ _ _ this]
    have h2 : ¬ (f.lo ≤ g.lo + i ∧ g.lo + i < f.lo + f.w) := by omega
    simp [h2]
  · simp [hi]

/-- A field reads as what was written, cut to its width. -/
theorem get_set_same (s : State) (f : Fld) (x : Nat) (h : f.fits) : (s.set f x).get f = x % 2 ^ f.w := by
  unfold State.get State.set
  rw [word_putWord_same, of_into_same f _ _ h]

/-- A write of one field leaves every field that shares no bit with it. -/
theorem get_set_other (s : State) (f g : Fld) (x : Nat) (hg : g.fits) (h : Fld.apart f g) : (s.set f x).get g = s.get g := by
  unfold State.get State.set
  by_cases ha : f.addr = g.addr
  · rw [← ha, word_putWord_same]
    exact of_into_other f g _ _ hg (h.resolve_left (fun e => e ha))
  · rw [word_putWord_other _ _ _ _ ha]

theorem word_set_other (s : State) (f : Fld) (x a : Nat) (h : f.addr ≠ a) : (s.set f x).word a = s.word a := by
  unfold State.set; exact word_putWord_other _ _ _ _ h

theorem set_wf (s : State) (f : Fld) (x : Nat) (h : Regs.wf s.regs) : Regs.wf (s.set f x).regs := Regs.put_wf _ _ _ h

theorem get_lt (s : State) (f : Fld) : s.get f < 2 ^ f.w := Nat.mod_lt _ (Nat.two_pow_pos _)

end Sys2Proof.Machine.Laws
end

