-- ==== Sys2Proof/Laws/Command.lean ====
section
/-! SUPPORT. What the frame of a command does: everything a body leaves is left by the command, but time, the queue, the host lines,
the queue marks and the pads. -/

namespace Sys2Proof.Machine.Laws

@[simp] theorem command_now (s : State) (t : Nat) (f : State → State) : (s.command t f).now = (s.upto t).now := settle_now _
@[simp] theorem command_pending (s : State) (t : Nat) (f : State → State) : (s.command t f).pending = s.pending := settle_pending _
@[simp] theorem command_regs (s : State) (t : Nat) (f : State → State) : (s.command t f).regs = (f (s.upto t)).regs := settle_regs _
@[simp] theorem command_time (s : State) (t : Nat) (f : State → State) : (s.command t f).time = (f (s.upto t)).time := settle_time _
@[simp] theorem command_rst (s : State) (t : Nat) (f : State → State) : (s.command t f).rst = (f (s.upto t)).rst := settle_rst _
@[simp] theorem command_host (s : State) (t : Nat) (f : State → State) : (s.command t f).host = (f (s.upto t)).host := settle_host _
@[simp] theorem command_jobs (s : State) (t : Nat) (f : State → State) : (s.command t f).jobs = (f (s.upto t)).jobs := settle_jobs _
@[simp] theorem command_jobNext (s : State) (t : Nat) (f : State → State) : (s.command t f).jobNext = (f (s.upto t)).jobNext := settle_jobNext _
@[simp] theorem command_cfg (s : State) (t : Nat) (f : State → State) : (s.command t f).cfg = (f (s.upto t)).cfg := settle_cfg _
@[simp] theorem command_flash (s : State) (t : Nat) (f : State → State) : (s.command t f).flash = (f (s.upto t)).flash := settle_flash _
@[simp] theorem command_ring (s : State) (t : Nat) (f : State → State) : (s.command t f).ring = (f (s.upto t)).ring := settle_ring _
@[simp] theorem command_acq (s : State) (t : Nat) (f : State → State) : (s.command t f).acq = (f (s.upto t)).acq := settle_acq _
@[simp] theorem command_cvi (s : State) (t : Nat) (f : State → State) : (s.command t f).cvi = (f (s.upto t)).cvi := settle_cvi _
@[simp] theorem command_est (s : State) (t : Nat) (f : State → State) : (s.command t f).est = (f (s.upto t)).est := settle_est _
@[simp] theorem command_lrn (s : State) (t : Nat) (f : State → State) : (s.command t f).lrn = (f (s.upto t)).lrn := settle_lrn _
@[simp] theorem command_imp (s : State) (t : Nat) (f : State → State) : (s.command t f).imp = (f (s.upto t)).imp := settle_imp _
@[simp] theorem command_ctl (s : State) (t : Nat) (f : State → State) : (s.command t f).ctl = (f (s.upto t)).ctl := settle_ctl _
@[simp] theorem command_prt (s : State) (t : Nat) (f : State → State) : (s.command t f).prt = (f (s.upto t)).prt := settle_prt _
@[simp] theorem command_thm (s : State) (t : Nat) (f : State → State) : (s.command t f).thm = (f (s.upto t)).thm := settle_thm _
@[simp] theorem command_saf (s : State) (t : Nat) (f : State → State) : (s.command t f).saf = (f (s.upto t)).saf := settle_saf _
@[simp] theorem command_lan (s : State) (t : Nat) (f : State → State) : (s.command t f).lan = (f (s.upto t)).lan := settle_lan _
@[simp] theorem command_bay (s : State) (t : Nat) (f : State → State) : (s.command t f).bay = (f (s.upto t)).bay := settle_bay _
@[simp] theorem command_ptp (s : State) (t : Nat) (f : State → State) : (s.command t f).ptp = (f (s.upto t)).ptp := settle_ptp _
@[simp] theorem command_eth (s : State) (t : Nat) (f : State → State) : (s.command t f).eth = (f (s.upto t)).eth := settle_eth _
@[simp] theorem command_can (s : State) (t : Nat) (f : State → State) : (s.command t f).can = (f (s.upto t)).can := settle_can _
@[simp] theorem command_iic (s : State) (t : Nat) (f : State → State) : (s.command t f).iic = (f (s.upto t)).iic := settle_iic _
@[simp] theorem command_rcd (s : State) (t : Nat) (f : State → State) : (s.command t f).rcd = (f (s.upto t)).rcd := settle_rcd _
@[simp] theorem command_upd (s : State) (t : Nat) (f : State → State) : (s.command t f).upd = (f (s.upto t)).upd := settle_upd _
@[simp] theorem command_out (s : State) (t : Nat) (f : State → State) : (s.command t f).out = (f (s.upto t)).out := settle_out _
@[simp] theorem command_free (s : State) (t : Nat) (f : State → State) : (s.command t f).free = (f (s.upto t)).free := settle_free _
@[simp] theorem settle_evr_pend (s : State) : s.settle.evr.pend = s.evr.pend := by unfold State.settle State.qSeen State.present; dsimp only; split <;> rfl
@[simp] theorem command_evr_pend (s : State) (t : Nat) (f : State → State) : (s.command t f).evr.pend = (f (s.upto t)).evr.pend := settle_evr_pend _
@[simp] theorem settle_evr_act (s : State) : s.settle.evr.act = s.evr.act := by unfold State.settle State.qSeen State.present; dsimp only; split <;> rfl
@[simp] theorem command_evr_act (s : State) (t : Nat) (f : State → State) : (s.command t f).evr.act = (f (s.upto t)).evr.act := settle_evr_act _
@[simp] theorem settle_evr_cnt (s : State) : s.settle.evr.cnt = s.evr.cnt := by unfold State.settle State.qSeen State.present; dsimp only; split <;> rfl
@[simp] theorem command_evr_cnt (s : State) (t : Nat) (f : State → State) : (s.command t f).evr.cnt = (f (s.upto t)).evr.cnt := settle_evr_cnt _
@[simp] theorem settle_evr_ovf (s : State) : s.settle.evr.ovf = s.evr.ovf := by unfold State.settle State.qSeen State.present; dsimp only; split <;> rfl
@[simp] theorem command_evr_ovf (s : State) (t : Nat) (f : State → State) : (s.command t f).evr.ovf = (f (s.upto t)).evr.ovf := settle_evr_ovf _
@[simp] theorem settle_evr_moved (s : State) : s.settle.evr.moved = s.evr.moved := by unfold State.settle State.qSeen State.present; dsimp only; split <;> rfl
@[simp] theorem command_evr_moved (s : State) (t : Nat) (f : State → State) : (s.command t f).evr.moved = (f (s.upto t)).evr.moved := settle_evr_moved _
@[simp] theorem settle_evr_last (s : State) : s.settle.evr.last = s.evr.last := by unfold State.settle State.qSeen State.present; dsimp only; split <;> rfl
@[simp] theorem command_evr_last (s : State) (t : Nat) (f : State → State) : (s.command t f).evr.last = (f (s.upto t)).evr.last := settle_evr_last _
@[simp] theorem settle_til_recovering (s : State) : s.settle.til.recovering = s.til.recovering := by unfold State.settle State.qSeen State.present; dsimp only; split <;> rfl
@[simp] theorem command_til_recovering (s : State) (t : Nat) (f : State → State) : (s.command t f).til.recovering = (f (s.upto t)).til.recovering := settle_til_recovering _
@[simp] theorem settle_til_cursor (s : State) : s.settle.til.cursor = s.til.cursor := by unfold State.settle State.qSeen State.present; dsimp only; split <;> rfl
@[simp] theorem command_til_cursor (s : State) (t : Nat) (f : State → State) : (s.command t f).til.cursor = (f (s.upto t)).til.cursor := settle_til_cursor _
@[simp] theorem settle_til_passAt (s : State) : s.settle.til.passAt = s.til.passAt := by unfold State.settle State.qSeen State.present; dsimp only; split <;> rfl
@[simp] theorem command_til_passAt (s : State) (t : Nat) (f : State → State) : (s.command t f).til.passAt = (f (s.upto t)).til.passAt := settle_til_passAt _
@[simp] theorem settle_til_loadAt (s : State) : s.settle.til.loadAt = s.til.loadAt := by unfold State.settle State.qSeen State.present; dsimp only; split <;> rfl
@[simp] theorem command_til_loadAt (s : State) (t : Nat) (f : State → State) : (s.command t f).til.loadAt = (f (s.upto t)).til.loadAt := settle_til_loadAt _
@[simp] theorem settle_til_scrub (s : State) : s.settle.til.scrub = s.til.scrub := by unfold State.settle State.qSeen State.present; dsimp only; split <;> rfl
@[simp] theorem command_til_scrub (s : State) (t : Nat) (f : State → State) : (s.command t f).til.scrub = (f (s.upto t)).til.scrub := settle_til_scrub _
@[simp] theorem command_word (s : State) (t : Nat) (f : State → State) (a : Nat) : (s.command t f).word a = (f (s.upto t)).word a :=
  word_congr (command_regs s t f) a
@[simp] theorem command_get (s : State) (t : Nat) (f : State → State) (x : Fld) : (s.command t f).get x = (f (s.upto t)).get x :=
  get_congr (command_regs s t f) x
@[simp] theorem command_flag (s : State) (t : Nat) (f : State → State) (x : Fld) : (s.command t f).flag x = (f (s.upto t)).flag x := by
  unfold State.flag; rw [command_get]
@[simp] theorem command_getI (s : State) (t : Nat) (f : State → State) (x : Fld) : (s.command t f).getI x = (f (s.upto t)).getI x := by
  unfold State.getI; rw [command_get]

/-- The pads follow the state after every command. -/
theorem settle_pads (s : State) : s.settle.pads = s.settle.padsOf := rfl

theorem command_pads (s : State) (t : Nat) (f : State → State) : (s.command t f).pads = (s.command t f).padsOf := settle_pads _

theorem exec_command (c : Instr) (s : State) : ∃ t f, exec c s = .next (s.command t f) := by
  cases c <;> exact ⟨_, _, rfl⟩

end Sys2Proof.Machine.Laws
end

