-- ==== Sys2Proof/Laws/Fields.lean ====
section
/-! SUPPORT. Field values as functions of the stored words alone: with these a field read through any update of the rest of the state
reduces to reads after writes of fields. `simp (disch := decide)` finds the side conditions for named fields. -/

namespace Sys2Proof.Machine.Laws

/-- A field's value in a list of stored words. -/
def fieldOf (r : List (Nat × Word)) (f : Fld) : Nat := f.of (Regs.word r f.addr)

/-- The stored words after a write of a field. -/
def setField (r : List (Nat × Word)) (f : Fld) (x : Nat) : List (Nat × Word) := Regs.put r f.addr (f.into (Regs.word r f.addr) x)

theorem get_field (s : State) (f : Fld) : s.get f = fieldOf s.regs f := rfl
theorem flag_field (s : State) (f : Fld) : s.flag f = (fieldOf s.regs f == 1) := rfl
theorem getI_field (s : State) (f : Fld) : s.getI f = ofCode f.w (fieldOf s.regs f) := rfl
theorem word_field (s : State) (a : Nat) : s.word a = Regs.word s.regs a := rfl

theorem set_field (s : State) (f : Fld) (x : Nat) : (s.set f x).regs = setField s.regs f x := rfl
theorem setB_field (s : State) (f : Fld) (b : Bool) : (s.setB f b).regs = setField s.regs f (b2n b) := rfl
theorem setI_field (s : State) (f : Fld) (x : Int) : (s.setI f x).regs = setField s.regs f (toCode f.w (clipS f.w x)) := rfl
theorem setU_field (s : State) (f : Fld) (x : Int) : (s.setU f x).regs = setField s.regs f (clipU f.w x) := rfl
theorem putWord_field (s : State) (a : Nat) (v : Word) : (s.putWord a v).regs = Regs.put s.regs a v := rfl

/-- An event that arrives changes at most EVR_STAT.OVF_SEEN. -/
theorem raise_field (s : State) (n : Nat) (d : List Byte) : (s.raise n d).regs =
    if 15 ≤ (assoc? n s.evr.cnt).getD 0 then setField s.regs F.EVR_STAT_OVF_SEEN 1 else s.regs := by
  unfold State.raise; dsimp only; split <;> simp_all [setB_field, b2n]

theorem field_same (r : List (Nat × Word)) (f : Fld) (x : Nat) (h : f.lo + f.w ≤ 32) : fieldOf (setField r f x) f = x % 2 ^ f.w := by
  unfold fieldOf setField
  rw [Regs.word_put_same, of_into_same f _ _ h]

theorem field_other (r : List (Nat × Word)) (f g : Fld) (x : Nat) (hg : g.lo + g.w ≤ 32)
    (h : f.addr ≠ g.addr ∨ f.lo + f.w ≤ g.lo ∨ g.lo + g.w ≤ f.lo) : fieldOf (setField r f x) g = fieldOf r g := by
  unfold fieldOf setField
  by_cases ha : f.addr = g.addr
  · rw [← ha, Regs.word_put_same]
    exact of_into_other f g _ _ hg (h.resolve_left (fun e => e ha))
  · rw [Regs.word_put_other _ _ _ _ ha]

theorem field_put_other (r : List (Nat × Word)) (a : Nat) (v : Word) (g : Fld) (h : a ≠ g.addr) : fieldOf (Regs.put r a v) g = fieldOf r g := by
  unfold fieldOf; rw [Regs.word_put_other _ _ _ _ h]

theorem field_put_same (r : List (Nat × Word)) (v : Word) (g : Fld) : fieldOf (Regs.put r g.addr v) g = g.of v := by
  unfold fieldOf; rw [Regs.word_put_same]

/-- An event leaves every field but EVR_STAT.OVF_SEEN. -/
theorem field_raise (s : State) (n : Nat) (d : List Byte) (g : Fld) (hg : g.lo + g.w ≤ 32)
    (h : 0x20004 ≠ g.addr ∨ F.EVR_STAT_OVF_SEEN.lo + 1 ≤ g.lo ∨ g.lo + g.w ≤ F.EVR_STAT_OVF_SEEN.lo) :
    fieldOf (s.raise n d).regs g = fieldOf s.regs g := by
  rw [raise_field]
  split
  · exact field_other _ _ _ _ hg h
  · rfl

theorem field_lt (r : List (Nat × Word)) (f : Fld) : fieldOf r f < 2 ^ f.w := Nat.mod_lt _ (Nat.two_pow_pos _)

theorem b2n_mod (b : Bool) : b2n b % 2 = b2n b := by cases b <;> rfl
theorem b2n_beq (b : Bool) : (b2n b == 1) = b := by cases b <;> rfl

/-- What is pending after an arrival. -/
theorem raise_mem (s : State) (n : Nat) (d : List Byte) : n ∈ (s.raise n d).evr.pend := by
  unfold State.raise
  by_cases h : s.evr.pend.contains n
  · dsimp only; split <;> simp_all
  · dsimp only; split <;> simp_all

theorem raise_keeps (s : State) (n m : Nat) (d : List Byte) (h : m ∈ s.evr.pend) : m ∈ (s.raise n d).evr.pend := by
  unfold State.raise
  by_cases h2 : s.evr.pend.contains n
  · dsimp only; split <;> simp_all
  · dsimp only; split <;> simp_all

end Sys2Proof.Machine.Laws
end

