-- ==== Sys2Proof/Laws/Host.lean ====
section
/-! SUPPORT. What a served host command does: its body runs on the state its session has taken the request in, and its result is queued
and cached; nothing else moves but the counters of a full queue. -/

namespace Sys2Proof.Machine.Laws

open Sys2Proof.Safety

/-! ## Lists -/

theorem parts_flatten (n : Nat) (p : List Byte) : (parts n p).flatten = p := by
  induction n generalizing p with
  | zero => simp [parts]
  | succ n ih =>
    unfold parts
    split
    · simp
    · simp [ih]

theorem modNth_length {α : Type} (l : List α) (i : Nat) (f : α → α) : (modNth l i f).length = l.length := by
  induction l generalizing i with
  | nil => rfl
  | cons a t ih => cases i with
    | zero => rfl
    | succ i => simp [modNth, ih]

theorem nth_modNth_same {α : Type} (d : α) (l : List α) (i : Nat) (f : α → α) (h : i < l.length) :
    nth d (modNth l i f) i = f (nth d l i) := by
  induction l generalizing i with
  | nil => simp at h
  | cons a t ih => cases i with
    | zero => rfl
    | succ i => exact ih i (by simpa using h)

/-- A projection that a change keeps reads the same at every place, out of range too. -/
theorem nth_modNth_keep {α β : Type} (g : α → β) (d : α) (l : List α) (i : Nat) (f : α → α) (h : ∀ x, g (f x) = g x) :
    g (nth d (modNth l i f) i) = g (nth d l i) := by
  induction l generalizing i with
  | nil => rfl
  | cons a t ih => cases i with
    | zero => exact h a
    | succ i => exact ih i

theorem nth_modNth_other {α : Type} (d : α) (l : List α) (i j : Nat) (f : α → α) (h : i ≠ j) : nth d (modNth l i f) j = nth d l j := by
  induction l generalizing i j with
  | nil => rfl
  | cons a t ih => cases i with
    | zero => cases j with
      | zero => exact absurd rfl h
      | succ j => rfl
    | succ i => cases j with
      | zero => rfl
      | succ j => exact ih i j (fun e => h (by rw [e]))

/-! ## The state a request is carried out in -/

section
variable (a : State) (r : Req)

theorem taken_split : (taken a r) = a.accept r ∨ ∃ l, taken a r = { a.accept r with rst := { (a.accept r).rst with listen := l } } := by
  unfold taken State.touchWindow
  split
  · exact .inr ⟨_, rfl⟩
  · exact .inl rfl

@[simp] theorem taken_now : (taken a r).now = a.now := by unfold taken State.touchWindow; split <;> rfl
@[simp] theorem taken_pending : (taken a r).pending = a.pending := by unfold taken State.touchWindow; split <;> rfl
@[simp] theorem taken_regs : (taken a r).regs = a.regs := by unfold taken State.touchWindow; split <;> rfl
@[simp] theorem taken_time : (taken a r).time = a.time := by unfold taken State.touchWindow; split <;> rfl
@[simp] theorem taken_jobs : (taken a r).jobs = a.jobs := by unfold taken State.touchWindow; split <;> rfl
@[simp] theorem taken_jobNext : (taken a r).jobNext = a.jobNext := by unfold taken State.touchWindow; split <;> rfl
@[simp] theorem taken_cfg : (taken a r).cfg = a.cfg := by unfold taken State.touchWindow; split <;> rfl
@[simp] theorem taken_flash : (taken a r).flash = a.flash := by unfold taken State.touchWindow; split <;> rfl
@[simp] theorem taken_evr : (taken a r).evr = a.evr := by unfold taken State.touchWindow; split <;> rfl
@[simp] theorem taken_ring : (taken a r).ring = a.ring := by unfold taken State.touchWindow; split <;> rfl
@[simp] theorem taken_acq : (taken a r).acq = a.acq := by unfold taken State.touchWindow; split <;> rfl
@[simp] theorem taken_cvi : (taken a r).cvi = a.cvi := by unfold taken State.touchWindow; split <;> rfl
@[simp] theorem taken_est : (taken a r).est = a.est := by unfold taken State.touchWindow; split <;> rfl
@[simp] theorem taken_lrn : (taken a r).lrn = a.lrn := by unfold taken State.touchWindow; split <;> rfl
@[simp] theorem taken_imp : (taken a r).imp = a.imp := by unfold taken State.touchWindow; split <;> rfl
@[simp] theorem taken_ctl : (taken a r).ctl = a.ctl := by unfold taken State.touchWindow; split <;> rfl
@[simp] theorem taken_prt : (taken a r).prt = a.prt := by unfold taken State.touchWindow; split <;> rfl
@[simp] theorem taken_thm : (taken a r).thm = a.thm := by unfold taken State.touchWindow; split <;> rfl
@[simp] theorem taken_saf : (taken a r).saf = a.saf := by unfold taken State.touchWindow; split <;> rfl
@[simp] theorem taken_lan : (taken a r).lan = a.lan := by unfold taken State.touchWindow; split <;> rfl
@[simp] theorem taken_bay : (taken a r).bay = a.bay := by unfold taken State.touchWindow; split <;> rfl
@[simp] theorem taken_ptp : (taken a r).ptp = a.ptp := by unfold taken State.touchWindow; split <;> rfl
@[simp] theorem taken_eth : (taken a r).eth = a.eth := by unfold taken State.touchWindow; split <;> rfl
@[simp] theorem taken_can : (taken a r).can = a.can := by unfold taken State.touchWindow; split <;> rfl
@[simp] theorem taken_iic : (taken a r).iic = a.iic := by unfold taken State.touchWindow; split <;> rfl
@[simp] theorem taken_til : (taken a r).til = a.til := by unfold taken State.touchWindow; split <;> rfl
@[simp] theorem taken_rcd : (taken a r).rcd = a.rcd := by unfold taken State.touchWindow; split <;> rfl
@[simp] theorem taken_upd : (taken a r).upd = a.upd := by unfold taken State.touchWindow; split <;> rfl
@[simp] theorem taken_pads : (taken a r).pads = a.pads := by unfold taken State.touchWindow; split <;> rfl
@[simp] theorem taken_out : (taken a r).out = a.out := by unfold taken State.touchWindow; split <;> rfl
@[simp] theorem taken_free : (taken a r).free = a.free := by unfold taken State.touchWindow; split <;> rfl
@[simp] theorem taken_mode : (taken a r).rst.mode = a.rst.mode := by unfold taken State.touchWindow; split <;> rfl
@[simp] theorem taken_word (x : Nat) : (taken a r).word x = a.word x := word_congr (taken_regs a r) x
@[simp] theorem taken_get (f : Fld) : (taken a r).get f = a.get f := get_congr (taken_regs a r) f
@[simp] theorem taken_flag (f : Fld) : (taken a r).flag f = a.flag f := by unfold State.flag; rw [taken_get]
@[simp] theorem taken_getI (f : Fld) : (taken a r).getI f = a.getI f := by unfold State.getI; rw [taken_get]
@[simp] theorem taken_sess_length : (taken a r).host.sess.length = a.host.sess.length := by
  have h : (a.accept r).host.sess.length = a.host.sess.length := modNth_length _ _ _
  have h2 : (taken a r).host = (a.accept r).host := by unfold taken State.touchWindow; split <;> rfl
  rw [h2, h]

end

/-! ## The result -/

theorem open_lt (s : State) (n : Nat) (h : s.isOpen n = true) : n < s.host.sess.length := by
  unfold State.isOpen State.session at h
  by_contra hn
  have : nth ({} : Session) s.host.sess n = {} := by unfold nth; rw [List.getElem?_eq_none (by omega)]; rfl
  rw [this] at h
  simp at h

/-- A served request runs its body on the state in which its session took it, and its result is given. -/
theorem host_served (a : State) (op : Nat) (r : Req) (fmt : Fmt) (body : ReqId → State → State × HRes) (h : serves a op r fmt = true) :
    a.host_ op r fmt body =
      (body (reqId r op false) (taken a r)).1.giveRes (reqId r op false) (body (reqId r op false) (taken a r)).2 := by
  unfold serves at h
  simp only [Bool.and_eq_true, Bool.not_eq_true', bne_iff_ne, Option.isNone_iff_eq_none] at h
  obtain ⟨⟨⟨⟨⟨⟨⟨⟨⟨⟨h1, h2⟩, h3⟩, h4⟩, h5⟩, h6⟩, h7⟩, h8⟩, h9⟩, h10⟩, h11⟩ := h
  unfold State.host_
  simp only [h1, h2, h3, h4, h5, h6, h8, h9, Bool.not_true, Bool.or_false, Bool.false_eq_true, if_false]
  unfold State.execute
  rw [h10]
  change (match opInfo op with | none => _ | some o => _) = _
  split at h11
  · rename_i o ho
    rw [ho]
    simp only [Bool.and_eq_true, bne_iff_ne, Bool.not_eq_true'] at h11
    have hb : ((a.accept r).touchWindow r.via).barred r.session o = false := h11.2
    have hm : ¬ (o.states &&& ((a.accept r).touchWindow r.via).rst.mode.bit = 0) := h11.1
    simp only [hm, if_false, hb, Bool.and_false, Bool.false_eq_true]
    rfl
  · exact absurd h11 (by simp)

theorem hostCommand_served (s : State) (t op : Nat) (r : Req) (fmt : Fmt) (body : ReqId → State → State × HRes)
    (h : serves (s.upto t) op r fmt = true) :
    s.hostCommand t op r fmt body = s.command t (fun _ =>
      (body (reqId r op false) (taken (s.upto t) r)).1.giveRes (reqId r op false) (body (reqId r op false) (taken (s.upto t) r)).2) := by
  unfold State.hostCommand State.command
  simp only [host_served _ _ _ _ _ h]

theorem serves_auth {a : State} {op : Nat} {r : Req} {fmt : Fmt} (h : serves a op r fmt = true) : r.auth = true := by
  unfold serves at h; simp only [Bool.and_eq_true] at h; tauto

theorem serves_target {a : State} {op : Nat} {r : Req} {fmt : Fmt} (h : serves a op r fmt = true) : (r.target == 0xFE) = false := by
  unfold serves at h; simp only [Bool.and_eq_true, bne_iff_ne] at h
  simp only [beq_eq_false_iff_ne]; tauto

theorem serves_open {a : State} {op : Nat} {r : Req} {fmt : Fmt} (h : serves a op r fmt = true) : a.isOpen r.session = true := by
  unfold serves at h; simp only [Bool.and_eq_true] at h; tauto

theorem serves_len {a : State} {op : Nat} {r : Req} {fmt : Fmt} (h : serves a op r fmt = true) : r.session < (taken a r).host.sess.length := by
  rw [taken_sess_length]; exact open_lt a _ (serves_open h)

/-- What the queueing of a reply packet leaves: the host's queues and the counters of a full queue apart, everything. -/
theorem queueReply_get (s : State) (n : Nat) (via : Via) (src : Nat) (p : Pkt) (f : Fld) (hf : f.fits)
    (h : replyReg f.addr = false) (hn : n < 8) : (s.queueReply n via src p).get f = s.get f := by
  have h1 : f.addr ≠ 0x24 := by intro e; rw [e] at h; exact absurd h (by decide)
  have h2 : ∀ (s : State), (s.count F.GLB_PKTERR_QFULL F.GLB_PKTERR_SAT).get f = s.get f := by
    intro s
    unfold State.count State.setB
    dsimp only
    split
    · exact get_set_other _ _ _ _ hf (.inl (Ne.symm h1))
    · rw [get_set_other _ _ _ _ hf (.inl (Ne.symm h1)), get_set_other _ _ _ _ hf (.inl (Ne.symm h1))]
  have h3 : (0x100100 + 4 * (8 + n)) ≠ f.addr := by
    intro e
    unfold replyReg at h
    simp only [Bool.or_eq_false_iff, Bool.and_eq_false_iff, decide_eq_false_iff_not] at h
    omega
  have h4 : ∀ (s : State), (s.qLost (8 + n)).get f = s.get f := by
    intro s
    unfold State.qLost State.count State.setB
    dsimp only
    split
    · exact get_set_other _ _ _ _ hf (.inl h3)
    · rw [get_set_other _ _ _ _ hf (.inl h3), get_set_other _ _ _ _ hf (.inl h3)]
  unfold State.queueReply
  dsimp only
  split
  · split
    · rfl
    · rw [h4, h2]; rfl
  · split
    · rfl
    · rw [h4, h2]; rfl

theorem queueReply_sess_length (s : State) (n : Nat) (via : Via) (src : Nat) (p : Pkt) : (s.queueReply n via src p).host.sess.length = s.host.sess.length := by
  unfold State.queueReply
  dsimp only
  split
  · split
    · rfl
    · simp only [State.qLost, count_host]; rfl
  · split
    · exact modNth_length _ _ _
    · simp only [State.qLost, count_host]; exact modNth_length _ _ _

/-- A reply packet leaves the cache of its session. -/
theorem queueReply_cache (s : State) (n : Nat) (via : Via) (src : Nat) (p : Pkt) :
    ((s.queueReply n via src p).session n).cache = (s.session n).cache := by
  unfold State.queueReply State.session
  dsimp only
  split
  · split
    · rfl
    · simp only [State.qLost, count_host]; rfl
  · split
    · exact nth_modNth_keep Session.cache _ _ _ _ (fun _ => rfl)
    · simp only [State.qLost, count_host]; exact nth_modNth_keep Session.cache _ _ _ _ (fun _ => rfl)

theorem queueReply_now (s : State) (n : Nat) (via : Via) (src : Nat) (p : Pkt) : (s.queueReply n via src p).now = s.now := by unfold State.queueReply State.qLost; dsimp only; split <;> split <;> simp
theorem queueReply_pending (s : State) (n : Nat) (via : Via) (src : Nat) (p : Pkt) : (s.queueReply n via src p).pending = s.pending := by unfold State.queueReply State.qLost; dsimp only; split <;> split <;> simp
theorem queueReply_time (s : State) (n : Nat) (via : Via) (src : Nat) (p : Pkt) : (s.queueReply n via src p).time = s.time := by unfold State.queueReply State.qLost; dsimp only; split <;> split <;> simp
theorem queueReply_rst (s : State) (n : Nat) (via : Via) (src : Nat) (p : Pkt) : (s.queueReply n via src p).rst = s.rst := by unfold State.queueReply State.qLost; dsimp only; split <;> split <;> simp
theorem queueReply_jobs (s : State) (n : Nat) (via : Via) (src : Nat) (p : Pkt) : (s.queueReply n via src p).jobs = s.jobs := by unfold State.queueReply State.qLost; dsimp only; split <;> split <;> simp
theorem queueReply_jobNext (s : State) (n : Nat) (via : Via) (src : Nat) (p : Pkt) : (s.queueReply n via src p).jobNext = s.jobNext := by unfold State.queueReply State.qLost; dsimp only; split <;> split <;> simp
theorem queueReply_cfg (s : State) (n : Nat) (via : Via) (src : Nat) (p : Pkt) : (s.queueReply n via src p).cfg = s.cfg := by unfold State.queueReply State.qLost; dsimp only; split <;> split <;> simp
theorem queueReply_flash (s : State) (n : Nat) (via : Via) (src : Nat) (p : Pkt) : (s.queueReply n via src p).flash = s.flash := by unfold State.queueReply State.qLost; dsimp only; split <;> split <;> simp
theorem queueReply_evr_pend (s : State) (n : Nat) (via : Via) (src : Nat) (p : Pkt) : (s.queueReply n via src p).evr.pend = s.evr.pend := by unfold State.queueReply State.qLost; dsimp only; split <;> split <;> simp
theorem queueReply_evr_act (s : State) (n : Nat) (via : Via) (src : Nat) (p : Pkt) : (s.queueReply n via src p).evr.act = s.evr.act := by unfold State.queueReply State.qLost; dsimp only; split <;> split <;> simp
theorem queueReply_evr_cnt (s : State) (n : Nat) (via : Via) (src : Nat) (p : Pkt) : (s.queueReply n via src p).evr.cnt = s.evr.cnt := by unfold State.queueReply State.qLost; dsimp only; split <;> split <;> simp
theorem queueReply_evr_ovf (s : State) (n : Nat) (via : Via) (src : Nat) (p : Pkt) : (s.queueReply n via src p).evr.ovf = s.evr.ovf := by unfold State.queueReply State.qLost; dsimp only; split <;> split <;> simp
theorem queueReply_evr_waits (s : State) (n : Nat) (via : Via) (src : Nat) (p : Pkt) : (s.queueReply n via src p).evr.waits = s.evr.waits := by unfold State.queueReply State.qLost; dsimp only; split <;> split <;> simp
theorem queueReply_evr_shown (s : State) (n : Nat) (via : Via) (src : Nat) (p : Pkt) : (s.queueReply n via src p).evr.shown = s.evr.shown := by unfold State.queueReply State.qLost; dsimp only; split <;> split <;> simp
theorem queueReply_evr_withdrawn (s : State) (n : Nat) (via : Via) (src : Nat) (p : Pkt) : (s.queueReply n via src p).evr.withdrawn = s.evr.withdrawn := by unfold State.queueReply State.qLost; dsimp only; split <;> split <;> simp
theorem queueReply_evr_last (s : State) (n : Nat) (via : Via) (src : Nat) (p : Pkt) : (s.queueReply n via src p).evr.last = s.evr.last := by unfold State.queueReply State.qLost; dsimp only; split <;> split <;> simp
theorem queueReply_ring (s : State) (n : Nat) (via : Via) (src : Nat) (p : Pkt) : (s.queueReply n via src p).ring = s.ring := by unfold State.queueReply State.qLost; dsimp only; split <;> split <;> simp
theorem queueReply_acq (s : State) (n : Nat) (via : Via) (src : Nat) (p : Pkt) : (s.queueReply n via src p).acq = s.acq := by unfold State.queueReply State.qLost; dsimp only; split <;> split <;> simp
theorem queueReply_cvi (s : State) (n : Nat) (via : Via) (src : Nat) (p : Pkt) : (s.queueReply n via src p).cvi = s.cvi := by unfold State.queueReply State.qLost; dsimp only; split <;> split <;> simp
theorem queueReply_est (s : State) (n : Nat) (via : Via) (src : Nat) (p : Pkt) : (s.queueReply n via src p).est = s.est := by unfold State.queueReply State.qLost; dsimp only; split <;> split <;> simp
theorem queueReply_lrn (s : State) (n : Nat) (via : Via) (src : Nat) (p : Pkt) : (s.queueReply n via src p).lrn = s.lrn := by unfold State.queueReply State.qLost; dsimp only; split <;> split <;> simp
theorem queueReply_imp (s : State) (n : Nat) (via : Via) (src : Nat) (p : Pkt) : (s.queueReply n via src p).imp = s.imp := by unfold State.queueReply State.qLost; dsimp only; split <;> split <;> simp
theorem queueReply_ctl (s : State) (n : Nat) (via : Via) (src : Nat) (p : Pkt) : (s.queueReply n via src p).ctl = s.ctl := by unfold State.queueReply State.qLost; dsimp only; split <;> split <;> simp
theorem queueReply_prt (s : State) (n : Nat) (via : Via) (src : Nat) (p : Pkt) : (s.queueReply n via src p).prt = s.prt := by unfold State.queueReply State.qLost; dsimp only; split <;> split <;> simp
theorem queueReply_thm (s : State) (n : Nat) (via : Via) (src : Nat) (p : Pkt) : (s.queueReply n via src p).thm = s.thm := by unfold State.queueReply State.qLost; dsimp only; split <;> split <;> simp
theorem queueReply_saf (s : State) (n : Nat) (via : Via) (src : Nat) (p : Pkt) : (s.queueReply n via src p).saf = s.saf := by unfold State.queueReply State.qLost; dsimp only; split <;> split <;> simp
theorem queueReply_lan (s : State) (n : Nat) (via : Via) (src : Nat) (p : Pkt) : (s.queueReply n via src p).lan = s.lan := by unfold State.queueReply State.qLost; dsimp only; split <;> split <;> simp
theorem queueReply_bay (s : State) (n : Nat) (via : Via) (src : Nat) (p : Pkt) : (s.queueReply n via src p).bay = s.bay := by unfold State.queueReply State.qLost; dsimp only; split <;> split <;> simp
theorem queueReply_ptp (s : State) (n : Nat) (via : Via) (src : Nat) (p : Pkt) : (s.queueReply n via src p).ptp = s.ptp := by unfold State.queueReply State.qLost; dsimp only; split <;> split <;> simp
theorem queueReply_eth (s : State) (n : Nat) (via : Via) (src : Nat) (p : Pkt) : (s.queueReply n via src p).eth = s.eth := by unfold State.queueReply State.qLost; dsimp only; split <;> split <;> simp
theorem queueReply_can (s : State) (n : Nat) (via : Via) (src : Nat) (p : Pkt) : (s.queueReply n via src p).can = s.can := by unfold State.queueReply State.qLost; dsimp only; split <;> split <;> simp
theorem queueReply_iic (s : State) (n : Nat) (via : Via) (src : Nat) (p : Pkt) : (s.queueReply n via src p).iic = s.iic := by unfold State.queueReply State.qLost; dsimp only; split <;> split <;> simp
theorem queueReply_til (s : State) (n : Nat) (via : Via) (src : Nat) (p : Pkt) : (s.queueReply n via src p).til = s.til := by unfold State.queueReply State.qLost; dsimp only; split <;> split <;> simp
theorem queueReply_rcd (s : State) (n : Nat) (via : Via) (src : Nat) (p : Pkt) : (s.queueReply n via src p).rcd = s.rcd := by unfold State.queueReply State.qLost; dsimp only; split <;> split <;> simp
theorem queueReply_upd (s : State) (n : Nat) (via : Via) (src : Nat) (p : Pkt) : (s.queueReply n via src p).upd = s.upd := by unfold State.queueReply State.qLost; dsimp only; split <;> split <;> simp
theorem queueReply_pads (s : State) (n : Nat) (via : Via) (src : Nat) (p : Pkt) : (s.queueReply n via src p).pads = s.pads := by unfold State.queueReply State.qLost; dsimp only; split <;> split <;> simp
theorem queueReply_out (s : State) (n : Nat) (via : Via) (src : Nat) (p : Pkt) : (s.queueReply n via src p).out = s.out := by unfold State.queueReply State.qLost; dsimp only; split <;> split <;> simp
theorem queueReply_free (s : State) (n : Nat) (via : Via) (src : Nat) (p : Pkt) : (s.queueReply n via src p).free = s.free := by unfold State.queueReply State.qLost; dsimp only; split <;> split <;> simp

theorem replyPkts_payload (s : State) (id : ReqId) (st j : Nat) (p : List Byte) :
    ((s.replyPkts id st j p).map (·.payload)).flatten = p := by
  unfold State.replyPkts
  simp only [List.map_map]
  have : ((parts 64 p).zipIdx.map ((fun x : Pkt => x.payload) ∘ fun (x : List Byte × Nat) =>
      ({ flags := 1 + (if (if id.tagged then (nth {} s.host.sess id.session).key else []) = [] then 0 else 4) +
          (if x.2 + 1 < (parts 64 p).length then 8 else 0) + (if st = stOk ∨ st = stAccepted then 0 else 16),
         session := id.session, cls := id.cls, seq := id.seq, opcode := id.op, target := s.position, status := st,
         jobid := j, payload := x.1, key := if id.tagged then (nth {} s.host.sess id.session).key else [] } : Pkt)))
      = (parts 64 p).zipIdx.map Prod.fst := List.map_congr_left (fun x _ => rfl)
  rw [this, List.zipIdx_map_fst, parts_flatten]

theorem replyPkts_mem (s : State) (id : ReqId) (st j : Nat) (p : List Byte) (x : Pkt) (h : x ∈ s.replyPkts id st j p) :
    x.opcode = id.op ∧ x.session = id.session ∧ x.seq = id.seq ∧ x.status = st ∧ x.jobid = j := by
  unfold State.replyPkts at h
  simp only [List.mem_map] at h
  obtain ⟨y, _, rfl⟩ := h
  exact ⟨rfl, rfl, rfl, rfl, rfl⟩

theorem fold_queue {β : Type} (g : State → β) (n : Nat) (via : Via) (src : Nat) (h : ∀ s p, g (State.queueReply s n via src p) = g s)
    (ps : List Pkt) (s : State) : g (ps.foldl (fun a p => a.queueReply n via src p) s) = g s := by
  induction ps generalizing s with
  | nil => rfl
  | cons p t ih => rw [List.foldl_cons, ih, h]

/-- The reply to a request that stands first in its session's cache takes its place there. -/
theorem giveRes_replied (s : State) (r : Req) (op st j : Nat) (p : List Byte) (ha : r.auth = true) (hb : (r.target == 0xFE) = false)
    (hn : r.session < s.host.sess.length) (hc : ∃ c l, (s.session r.session).cache = (r.seq, c) :: l) :
    Replied (s.giveRes (reqId r op false) (.reply st j p)) r op st j p := by
  obtain ⟨c, l, hc⟩ := hc
  have he : s.giveRes (reqId r op false) (.reply st j p) =
      let s1 := (s.replyPkts (reqId r op false) st j p).foldl (fun a q => a.queueReply r.session r.via r.src q) s
      let g := fun (x : Session) => { x with cache := cachePut r.seq (s.replyPkts (reqId r op false) st j p) x.cache }
      { s1 with host := { s1.host with sess := modNth s1.host.sess r.session g } } := by
    unfold State.giveRes State.answer
    simp only [reqId, ha, hb, Bool.not_false, Bool.and_true, Bool.false_eq_true, if_false, if_true]
  have hl := fold_queue (fun s => s.host.sess.length) r.session r.via r.src
    (fun s p => queueReply_sess_length s r.session r.via r.src p) (s.replyPkts (reqId r op false) st j p) s
  have hk := fold_queue (fun s => (s.session r.session).cache) r.session r.via r.src
    (fun s p => queueReply_cache s r.session r.via r.src p) (s.replyPkts (reqId r op false) st j p) s
  rw [he]
  refine ⟨s.replyPkts (reqId r op false) st j p, cachePut r.seq (s.replyPkts (reqId r op false) st j p) l, ?_,
    replyPkts_payload _ _ _ _ _, fun x hx => replyPkts_mem _ _ _ _ _ _ hx⟩
  unfold State.session at hk ⊢
  dsimp only at hk ⊢
  rw [nth_modNth_same _ _ _ _ (by rw [hl]; exact hn)]
  dsimp only
  rw [hk, show (nth {} s.host.sess r.session).cache = (r.seq, c) :: l from hc]
  simp [cachePut]

/-- What the queueing of packets and the host's own records do not touch, the result of a tagged request leaves. -/
theorem giveRes_leaves {β : Type} (g : State → β) (s : State) (r : Req) (op : Nat) (res : HRes) (ha : r.auth = true)
    (hq : ∀ s p, g (State.queueReply s r.session r.via r.src p) = g s) (hh : ∀ (s : State) h, g { s with host := h } = g s) :
    g (s.giveRes (reqId r op false) res) = g s := by
  cases res with
  | later => rfl
  | reply st j p =>
    unfold State.giveRes State.answer
    simp only [reqId, ha, Bool.not_false, Bool.and_true, Bool.false_eq_true, if_false, if_true]
    have := fold_queue g r.session r.via r.src hq
    split
    · exact this _ _
    · rw [hh]; exact this _ _

/-- The result of a served request leaves every field but those that count a full queue. -/
theorem giveRes_get (s : State) (r : Req) (op : Nat) (res : HRes) (f : Fld) (ha : r.auth = true) (hf : f.fits)
    (h : replyReg f.addr = false) (hn : r.session < 8) : (s.giveRes (reqId r op false) res).get f = s.get f :=
  giveRes_leaves (fun s => s.get f) s r op res ha (fun s p => queueReply_get s r.session r.via r.src p f hf h hn) (fun _ _ => rfl)


theorem giveRes_now (s : State) (r : Req) (op : Nat) (res : HRes) (ha : r.auth = true) : (s.giveRes (reqId r op false) res).now = s.now :=
  giveRes_leaves (fun s => s.now) s r op res ha (fun s p => queueReply_now s r.session r.via r.src p) (fun _ _ => rfl)
theorem giveRes_pending (s : State) (r : Req) (op : Nat) (res : HRes) (ha : r.auth = true) : (s.giveRes (reqId r op false) res).pending = s.pending :=
  giveRes_leaves (fun s => s.pending) s r op res ha (fun s p => queueReply_pending s r.session r.via r.src p) (fun _ _ => rfl)
theorem giveRes_time (s : State) (r : Req) (op : Nat) (res : HRes) (ha : r.auth = true) : (s.giveRes (reqId r op false) res).time = s.time :=
  giveRes_leaves (fun s => s.time) s r op res ha (fun s p => queueReply_time s r.session r.via r.src p) (fun _ _ => rfl)
theorem giveRes_rst (s : State) (r : Req) (op : Nat) (res : HRes) (ha : r.auth = true) : (s.giveRes (reqId r op false) res).rst = s.rst :=
  giveRes_leaves (fun s => s.rst) s r op res ha (fun s p => queueReply_rst s r.session r.via r.src p) (fun _ _ => rfl)
theorem giveRes_jobs (s : State) (r : Req) (op : Nat) (res : HRes) (ha : r.auth = true) : (s.giveRes (reqId r op false) res).jobs = s.jobs :=
  giveRes_leaves (fun s => s.jobs) s r op res ha (fun s p => queueReply_jobs s r.session r.via r.src p) (fun _ _ => rfl)
theorem giveRes_jobNext (s : State) (r : Req) (op : Nat) (res : HRes) (ha : r.auth = true) : (s.giveRes (reqId r op false) res).jobNext = s.jobNext :=
  giveRes_leaves (fun s => s.jobNext) s r op res ha (fun s p => queueReply_jobNext s r.session r.via r.src p) (fun _ _ => rfl)
theorem giveRes_cfg (s : State) (r : Req) (op : Nat) (res : HRes) (ha : r.auth = true) : (s.giveRes (reqId r op false) res).cfg = s.cfg :=
  giveRes_leaves (fun s => s.cfg) s r op res ha (fun s p => queueReply_cfg s r.session r.via r.src p) (fun _ _ => rfl)
theorem giveRes_flash (s : State) (r : Req) (op : Nat) (res : HRes) (ha : r.auth = true) : (s.giveRes (reqId r op false) res).flash = s.flash :=
  giveRes_leaves (fun s => s.flash) s r op res ha (fun s p => queueReply_flash s r.session r.via r.src p) (fun _ _ => rfl)
theorem giveRes_evr_pend (s : State) (r : Req) (op : Nat) (res : HRes) (ha : r.auth = true) : (s.giveRes (reqId r op false) res).evr.pend = s.evr.pend :=
  giveRes_leaves (fun s => s.evr.pend) s r op res ha (fun s p => queueReply_evr_pend s r.session r.via r.src p) (fun _ _ => rfl)
theorem giveRes_evr_act (s : State) (r : Req) (op : Nat) (res : HRes) (ha : r.auth = true) : (s.giveRes (reqId r op false) res).evr.act = s.evr.act :=
  giveRes_leaves (fun s => s.evr.act) s r op res ha (fun s p => queueReply_evr_act s r.session r.via r.src p) (fun _ _ => rfl)
theorem giveRes_evr_cnt (s : State) (r : Req) (op : Nat) (res : HRes) (ha : r.auth = true) : (s.giveRes (reqId r op false) res).evr.cnt = s.evr.cnt :=
  giveRes_leaves (fun s => s.evr.cnt) s r op res ha (fun s p => queueReply_evr_cnt s r.session r.via r.src p) (fun _ _ => rfl)
theorem giveRes_evr_ovf (s : State) (r : Req) (op : Nat) (res : HRes) (ha : r.auth = true) : (s.giveRes (reqId r op false) res).evr.ovf = s.evr.ovf :=
  giveRes_leaves (fun s => s.evr.ovf) s r op res ha (fun s p => queueReply_evr_ovf s r.session r.via r.src p) (fun _ _ => rfl)
theorem giveRes_evr_waits (s : State) (r : Req) (op : Nat) (res : HRes) (ha : r.auth = true) : (s.giveRes (reqId r op false) res).evr.waits = s.evr.waits :=
  giveRes_leaves (fun s => s.evr.waits) s r op res ha (fun s p => queueReply_evr_waits s r.session r.via r.src p) (fun _ _ => rfl)
theorem giveRes_evr_shown (s : State) (r : Req) (op : Nat) (res : HRes) (ha : r.auth = true) : (s.giveRes (reqId r op false) res).evr.shown = s.evr.shown :=
  giveRes_leaves (fun s => s.evr.shown) s r op res ha (fun s p => queueReply_evr_shown s r.session r.via r.src p) (fun _ _ => rfl)
theorem giveRes_evr_withdrawn (s : State) (r : Req) (op : Nat) (res : HRes) (ha : r.auth = true) : (s.giveRes (reqId r op false) res).evr.withdrawn = s.evr.withdrawn :=
  giveRes_leaves (fun s => s.evr.withdrawn) s r op res ha (fun s p => queueReply_evr_withdrawn s r.session r.via r.src p) (fun _ _ => rfl)
theorem giveRes_evr_last (s : State) (r : Req) (op : Nat) (res : HRes) (ha : r.auth = true) : (s.giveRes (reqId r op false) res).evr.last = s.evr.last :=
  giveRes_leaves (fun s => s.evr.last) s r op res ha (fun s p => queueReply_evr_last s r.session r.via r.src p) (fun _ _ => rfl)
theorem giveRes_ring (s : State) (r : Req) (op : Nat) (res : HRes) (ha : r.auth = true) : (s.giveRes (reqId r op false) res).ring = s.ring :=
  giveRes_leaves (fun s => s.ring) s r op res ha (fun s p => queueReply_ring s r.session r.via r.src p) (fun _ _ => rfl)
theorem giveRes_acq (s : State) (r : Req) (op : Nat) (res : HRes) (ha : r.auth = true) : (s.giveRes (reqId r op false) res).acq = s.acq :=
  giveRes_leaves (fun s => s.acq) s r op res ha (fun s p => queueReply_acq s r.session r.via r.src p) (fun _ _ => rfl)
theorem giveRes_cvi (s : State) (r : Req) (op : Nat) (res : HRes) (ha : r.auth = true) : (s.giveRes (reqId r op false) res).cvi = s.cvi :=
  giveRes_leaves (fun s => s.cvi) s r op res ha (fun s p => queueReply_cvi s r.session r.via r.src p) (fun _ _ => rfl)
theorem giveRes_est (s : State) (r : Req) (op : Nat) (res : HRes) (ha : r.auth = true) : (s.giveRes (reqId r op false) res).est = s.est :=
  giveRes_leaves (fun s => s.est) s r op res ha (fun s p => queueReply_est s r.session r.via r.src p) (fun _ _ => rfl)
theorem giveRes_lrn (s : State) (r : Req) (op : Nat) (res : HRes) (ha : r.auth = true) : (s.giveRes (reqId r op false) res).lrn = s.lrn :=
  giveRes_leaves (fun s => s.lrn) s r op res ha (fun s p => queueReply_lrn s r.session r.via r.src p) (fun _ _ => rfl)
theorem giveRes_imp (s : State) (r : Req) (op : Nat) (res : HRes) (ha : r.auth = true) : (s.giveRes (reqId r op false) res).imp = s.imp :=
  giveRes_leaves (fun s => s.imp) s r op res ha (fun s p => queueReply_imp s r.session r.via r.src p) (fun _ _ => rfl)
theorem giveRes_ctl (s : State) (r : Req) (op : Nat) (res : HRes) (ha : r.auth = true) : (s.giveRes (reqId r op false) res).ctl = s.ctl :=
  giveRes_leaves (fun s => s.ctl) s r op res ha (fun s p => queueReply_ctl s r.session r.via r.src p) (fun _ _ => rfl)
theorem giveRes_prt (s : State) (r : Req) (op : Nat) (res : HRes) (ha : r.auth = true) : (s.giveRes (reqId r op false) res).prt = s.prt :=
  giveRes_leaves (fun s => s.prt) s r op res ha (fun s p => queueReply_prt s r.session r.via r.src p) (fun _ _ => rfl)
theorem giveRes_thm (s : State) (r : Req) (op : Nat) (res : HRes) (ha : r.auth = true) : (s.giveRes (reqId r op false) res).thm = s.thm :=
  giveRes_leaves (fun s => s.thm) s r op res ha (fun s p => queueReply_thm s r.session r.via r.src p) (fun _ _ => rfl)
theorem giveRes_saf (s : State) (r : Req) (op : Nat) (res : HRes) (ha : r.auth = true) : (s.giveRes (reqId r op false) res).saf = s.saf :=
  giveRes_leaves (fun s => s.saf) s r op res ha (fun s p => queueReply_saf s r.session r.via r.src p) (fun _ _ => rfl)
theorem giveRes_lan (s : State) (r : Req) (op : Nat) (res : HRes) (ha : r.auth = true) : (s.giveRes (reqId r op false) res).lan = s.lan :=
  giveRes_leaves (fun s => s.lan) s r op res ha (fun s p => queueReply_lan s r.session r.via r.src p) (fun _ _ => rfl)
theorem giveRes_bay (s : State) (r : Req) (op : Nat) (res : HRes) (ha : r.auth = true) : (s.giveRes (reqId r op false) res).bay = s.bay :=
  giveRes_leaves (fun s => s.bay) s r op res ha (fun s p => queueReply_bay s r.session r.via r.src p) (fun _ _ => rfl)
theorem giveRes_ptp (s : State) (r : Req) (op : Nat) (res : HRes) (ha : r.auth = true) : (s.giveRes (reqId r op false) res).ptp = s.ptp :=
  giveRes_leaves (fun s => s.ptp) s r op res ha (fun s p => queueReply_ptp s r.session r.via r.src p) (fun _ _ => rfl)
theorem giveRes_eth (s : State) (r : Req) (op : Nat) (res : HRes) (ha : r.auth = true) : (s.giveRes (reqId r op false) res).eth = s.eth :=
  giveRes_leaves (fun s => s.eth) s r op res ha (fun s p => queueReply_eth s r.session r.via r.src p) (fun _ _ => rfl)
theorem giveRes_can (s : State) (r : Req) (op : Nat) (res : HRes) (ha : r.auth = true) : (s.giveRes (reqId r op false) res).can = s.can :=
  giveRes_leaves (fun s => s.can) s r op res ha (fun s p => queueReply_can s r.session r.via r.src p) (fun _ _ => rfl)
theorem giveRes_iic (s : State) (r : Req) (op : Nat) (res : HRes) (ha : r.auth = true) : (s.giveRes (reqId r op false) res).iic = s.iic :=
  giveRes_leaves (fun s => s.iic) s r op res ha (fun s p => queueReply_iic s r.session r.via r.src p) (fun _ _ => rfl)
theorem giveRes_til (s : State) (r : Req) (op : Nat) (res : HRes) (ha : r.auth = true) : (s.giveRes (reqId r op false) res).til = s.til :=
  giveRes_leaves (fun s => s.til) s r op res ha (fun s p => queueReply_til s r.session r.via r.src p) (fun _ _ => rfl)
theorem giveRes_rcd (s : State) (r : Req) (op : Nat) (res : HRes) (ha : r.auth = true) : (s.giveRes (reqId r op false) res).rcd = s.rcd :=
  giveRes_leaves (fun s => s.rcd) s r op res ha (fun s p => queueReply_rcd s r.session r.via r.src p) (fun _ _ => rfl)
theorem giveRes_upd (s : State) (r : Req) (op : Nat) (res : HRes) (ha : r.auth = true) : (s.giveRes (reqId r op false) res).upd = s.upd :=
  giveRes_leaves (fun s => s.upd) s r op res ha (fun s p => queueReply_upd s r.session r.via r.src p) (fun _ _ => rfl)
theorem giveRes_pads (s : State) (r : Req) (op : Nat) (res : HRes) (ha : r.auth = true) : (s.giveRes (reqId r op false) res).pads = s.pads :=
  giveRes_leaves (fun s => s.pads) s r op res ha (fun s p => queueReply_pads s r.session r.via r.src p) (fun _ _ => rfl)
theorem giveRes_out (s : State) (r : Req) (op : Nat) (res : HRes) (ha : r.auth = true) : (s.giveRes (reqId r op false) res).out = s.out :=
  giveRes_leaves (fun s => s.out) s r op res ha (fun s p => queueReply_out s r.session r.via r.src p) (fun _ _ => rfl)
theorem giveRes_free (s : State) (r : Req) (op : Nat) (res : HRes) (ha : r.auth = true) : (s.giveRes (reqId r op false) res).free = s.free :=
  giveRes_leaves (fun s => s.free) s r op res ha (fun s p => queueReply_free s r.session r.via r.src p) (fun _ _ => rfl)

end Sys2Proof.Machine.Laws
end

