-- ==== Sys2Proof/Tests/Slice0.lean ====
section
/-! SUPPORT. Tests: ill-formed commands that WellFormed refuses, and for the statements a small state and operands that meet their hypotheses,
with what the command then does. -/

namespace Sys2Proof.Tests

set_option Elab.async false

open Sys2Proof Sys2Proof.Machine Sys2Proof.Safety

/-- The state a command answers. -/
def res (c : Instr) (s : State) : State :=
  match exec c s with
  | .next s' => s'
  | _ => s

/-- Some fields set. -/
def withs (l : List (Fld × Nat)) (s : State) : State := l.foldl (fun a x => a.set x.1 x.2) s

/-- A request of session 0 over Ethernet port 1. -/
def rq (cls : Nat) (p : List Byte) : Req :=
  { via := .eth1, src := 7, auth := true, session := 0, cls := cls, seq := 1, target := 0xFF, payload := p }

/-- An open SERVICE session. -/
def svc : Session := { st := .opened, slot := 3, key := [1#8], via := .eth1, src := 7 }

/-- RUN with every domain clock-good, the router in NORMAL, four lanes active and one mule, provisioned, session 0 open. -/
def run0 : State :=
  withs [(F.EVR_STAT_MODE, 2), (F.RST_OPT_HOSTPORT, 7), (F.PRT_TRIP_CTRL_CLK, 0)]
    { State.reset with
      rst := { mode := .run, good := 4095, image := true },
      lan := { State.reset.lan with st := [1, 1, 1, 1, 2], tok := [some 0, some 1, some 2, some 3], est := [some 0, some 1, some 2, some 3] },
      host := { State.reset.host with sess := svc :: List.replicate 7 {} } }

/-- The reply in front of session 0's cache. -/
def rep (s : State) (op st job : Nat) (p : List Byte) : Bool :=
  match (s.session 0).cache with
  | (1, ps) :: _ => (ps.map (·.payload)).flatten == p && ps.all (fun x => x.opcode == op && x.session == 0 && x.seq == 1 && x.status == st && x.jobid == job)
  | _ => false

/-- The hypotheses hold, and so does `post` of what the command answers. -/
def wit (hyp : Bool) (c : Instr) (s : State) (post : State → Bool) : Bool := hyp && post (res c s)

/-- A list of bytes with bytes replaced. -/
def puts (l : List (Nat × Nat)) (b : List Byte) : List Byte := l.foldl (fun a x => modNth a x.1 (fun _ => BitVec.ofNat 8 x.2)) b

/-- The base in PARK. -/
def park0 : State := { run0 with rst := { run0.rst with mode := .park, listen := [(1, 0, 0)] } }

/-- The base with a ring of 2 nodes that scans, 16 cell groups each; time stands at 1 s in quartz and since power-on. -/
def ring0 : State :=
  withs [(F.RING_CTRL_LEN, 2), (F.RING_STAT_STATE, 3), (F.RING_STAT_FOUND, 2), (F.ACQ_SEG_CELLS, 16), (F.ACQ_SEG_CELLS.ix 1, 16)]
    { run0 with now := sec, time := { run0.time with run := true, qz := sec * 4294967296 }, ring := { run0.ring with losE := false, losW := false } }

/-- A node record of slot `h` with FLAGS `f`, all cells at 3.3 V. -/
def recd (s : State) (h f : Nat) : List Byte :=
  let b := puts [(0, 0x21), (1, h), (4, s.ring.sseq)] (List.replicate 2 0 ++ leBytes 2 f ++ List.replicate 88 0)
  b ++ leBytes 4 (crc32c b)

/-- A heartbeat symbol. -/
def hbeat (q n f : Nat) : List Byte :=
  let b : List Byte := leBytes 1 2 ++ leBytes 1 q ++ leBytes 1 n ++ leBytes 1 f
  b ++ leBytes 1 (crc8 b)

/-! ## Ill-formed commands -/

/-- None of the commands is well formed. -/
def illFormed (l : List Instr) : Bool := l.all (fun c => !c.wf)

/-- A request that is well formed, and one with a field beyond its width for each field. -/
def okReq : Req := rq 12 []

theorem test_wf_requests :
    okReq.wf = true ∧ illFormed ([{ okReq with session := 256 }, { okReq with cls := 256 }, { okReq with seq := 65536 }, { okReq with target := 256 },
      { okReq with payload := List.replicate 1401 0 }].flatMap (fun r => [.regRead 0 r, .hello 0 r, .trip 0 r])) = true := by
  decide +kernel

theorem test_wf_registers :
    illFormed [.rcFieldRead 0 2, .rcFieldRead 0 4294967296, .canRxstatRead 0 128, .prtTripClear 0 4294967296, .weldClear 0 8, .canTxgo 0 4294967296,
      .evrTgtWrite 0 192 0, .evrTgtWrite 0 0 4294967296, .evrSleepWrite 0 16, .evrRedirectTimeout 0 192, .ringLenChange 0 64, .balSourceChange 0 2 true,
      .openWireStart 0 64, .shuntForceWrite 0 4] = true := by
  decide +kernel

theorem test_wf_samples :
    (let x : SampleIn := { a := 0, b := 0, vstr := 0, vbus := 0, vins := 0, iph := [0, 0, 0, 0], sp := 0, periods := [], edge := false, posts := [] }
     let y : StartupIn := { east := true, west := true, hcnt := none, idents := [], loops := [] }
     x.wf && y.wf && illFormed ([{ x with a := 8388608 }, { x with b := -8388609 }, { x with vstr := 8388608 }, { x with vbus := 8388608 }, { x with vins := 8388608 }, { x with iph := [0] },
         { x with iph := [0, 0, 0, 8388608] }].map (.controlSample 0)) &&
       illFormed [.ringStartup 0 { y with idents := List.replicate 41 none }, .ringStartup 0 { y with idents := [some [0]] }, .nodeRecord 0 false 64 []]) = true := by
  decide +kernel

theorem test_wf_events :
    illFormed [.estimatorUpdate 0 4, .gateFault 0 4, .desatRelease 0 4, .contactorFeedbackChange 0 3 true, .coilPullEnd 0 3, .coilCurrentFault 0 3 true,
      .safetyInputSample 0 [], .switchReadCycle 0 256 0 0, .switchReadCycle 0 0 256 0, .switchReadCycle 0 0 0 256, .coilOffPulseTest 0 3 true,
      .inputStageTest 0 6 true, .scanStrobe 0 [4] [], .scanStrobe 0 [] [(4, .agree)], .ganderStartComplete 0 true true [], .laneWatchdogTimeout 0 5, .laneSelftestEnd 0 5 true true 0, .laneSelftestEnd 0 0 true true 1057,
      .authTimeout 0 8, .sessionIdleTimeout 0 8, .provisioningContextExpire 0 8, .eventReport 0 192, .eventResend 0 8, .jobTableExpire 0 0,
      .jobTableExpire 0 65536, .clockGood 0 (.of 12), .clockGood 0 (.lane 5), .clockGoodTimeout 0 12 0, .clockGoodTimeout 0 0 5, .clockLoss 0 12 0, .clockLoss 0 0 5, .debugReleaseRequest 0 12,
      .scrubTick 0 ⟨0, 65⟩ 0, .scrubTick 0 ⟨6, 0⟩ 0, .tileRecoveryDone 0 0 33792, .tileRecoveryDone 0 6 0, .tileRecoveryDone 0 1 1056, .supervisorResumed ⟨0, [⟨33792, 0, { data := [], crc := 0 }⟩]⟩,
      .supervisorResumed ⟨0, [⟨0, 2, { data := [], crc := 0 }⟩]⟩] = true := by
  decide +kernel

theorem test_wf_ports :
    (let a : Announce := { domain := 0, p1 := 0, cls := 0, acc := 0, var := 0, p2 := 0, gm := 0, steps := 0, src := 0, every := 0 }
     let m : PtpMsg := { domain := 0, src := 0, seq := 0, corr := 0, stamp := 0 }
     let f := classic 0 []
     a.wf && m.wf && f.wf &&
     illFormed ([{ a with domain := 256 }, { a with p1 := 256 }, { a with cls := 256 }, { a with acc := 256 }, { a with var := 65536 }, { a with p2 := 256 }, { a with gm := 2 ^ 64 },
       { a with steps := 65536 }, { a with src := 2 ^ 80 }].map (.ptpAnnounce 0 1)) &&
     illFormed ([{ m with domain := 256 }, { m with src := 2 ^ 80 }, { m with seq := 65536 }].flatMap (fun x => [.ptpSync 0 1 x, .ptpFollowUp 0 1 x, .ptpDelayResp 0 1 x,
       .ptpPdelayReq 0 1 x, .ptpPdelayResp 0 1 x m, .ptpPdelayResp 0 1 m x])) &&
     illFormed ([{ f with id := 2048 }, { f with id := 536870912, ide := true }, { f with data := List.replicate 9 0 }, { f with fdf := true, data := List.replicate 65 0 }, { f with rtr := true, fdf := true },
       { f with rtr := true, data := [0] }].map
       (fun x => .canFrameReceive 0 x 0)) && illFormed [.canError 0 8 true true 0, .iicTargetWrite 0 ⟨128, []⟩ false, .iicTargetRead 0 ⟨128, 0⟩, .iicBusFree ⟨0, false, 1⟩, .iicArbitrationLost 0 0 ⟨8, 0⟩,
       .iicArbitrationLost 0 0 ⟨0, 128⟩, .iicStretchTimeout 0 ⟨1, true, true⟩, .wakeIicAddress ⟨0, 128⟩]) = true := by
  decide +kernel

theorem test_wf_ethernet_ports :
    (let m : PtpMsg := { domain := 0, src := 0, seq := 0, corr := 0, stamp := 0 }
     let a : Announce := { domain := 0, p1 := 0, cls := 0, acc := 0, var := 0, p2 := 0, gm := 0, steps := 0, src := 0, every := 0 }
     illFormed ([0, 3].flatMap (fun p => [.discoveryReceive 0 p [], .reportReceive 0 p [] 0, .allocationReceive 0 p [], .ethLinkLoss 0 p, .ethLinkUp 0 p, .arpRequest 0 p 0 0 0,
       .neighbourSolicitation 0 p 0 0, .icmpEcho 0 p true 0 0 [], .ptpAnnounce 0 p a, .ptpSync 0 p m, .ptpFollowUp 0 p m, .ptpDelayReqSend 0 p, .ptpDelayResp 0 p m, .ptpPdelayReq 0 p m,
       .ptpPdelayResp 0 p m m, .txTimestampDrain 0 p, .wakeEthEnergy 0 p, .linkTrainingAttempt 0 p])) &&
     illFormed [.switchFrameForward 0 4 [] 0, .arpRequest 0 1 (2 ^ 48) 0 0, .arpRequest 0 1 0 (2 ^ 32) 0, .arpRequest 0 1 0 0 (2 ^ 32), .neighbourSolicitation 0 1 (2 ^ 128) 0,
       .neighbourSolicitation 0 1 0 (2 ^ 128), .icmpEcho 0 1 true (2 ^ 128) 0 [], .icmpEcho 0 1 true 0 (2 ^ 128) []]) = true := by
  decide +kernel

theorem test_wf_tiles :
    (let z : TileRead := { data := List.replicate 256 0, crc := 0 }
     illFormed ([.measurement 0, .measurement 41, .checkpoint 4, .queue 48 0 1, .work [8] [] false].map (fun u => .tileLoadMismatch 0 0 0 u ⟨z, false⟩ z)) &&
     illFormed [.tileLoadMismatch 0 0 0 .tables ⟨{ z with data := [] }, false⟩ z, .tileLoadMismatch 0 0 0 .tables ⟨z, false⟩ { z with data := [] },
       .tileLoadMismatch 0 0 33792 .tables ⟨z, false⟩ z] && Instr.wf (.tileLoadMismatch 0 0 0 .tables ⟨z, false⟩ z)) = true := by
  decide +kernel

/-! ## Registers -/

theorem test_register_opcodes :
    (wit (serves run0 0x0101 (rq 12 (leBytes 4 0x10000)) (Fmt.fixed 4 []) && (regDef? 0x10000).isSome) (.regRead 0 (rq 12 (leBytes 4 0x10000)))
        run0 (fun b => rep b 0x0101 stOk 0 [1, 0, 1, 0]) &&
      wit (serves run0 0x0102 (rq 12 (leBytes 4 0x10014 ++ leBytes 4 0x00051405)) (Fmt.fixed 8 []) && (writable 0x10014).isSome &&
          (run0.writeErr 0x10014 0x00051405).isNone)
        (.regWrite 0 (rq 12 (leBytes 4 0x10014 ++ leBytes 4 0x00051405))) run0
        (fun b => rep b 0x0102 stOk 0 [] && b.get F.RST_WAKECFG_LINKPER == 5 && b.get F.RST_WAKECFG_LISTEN == 20) &&
      wit (serves run0 0x0102 (rq 12 (leBytes 4 0xA0000 ++ leBytes 4 1)) (Fmt.fixed 8 []) && (run0.writeErr 0xA0000 1).isSome)
        (.regWrite 0 (rq 12 (leBytes 4 0xA0000 ++ leBytes 4 1))) run0 (fun b => b.word 0xA0000 == run0.word 0xA0000) &&
      wit (serves run0 0x0103 (rq 12 (leBytes 4 0x10018 ++ leBytes 4 0xFF ++ leBytes 4 0x15)) (Fmt.fixed 12 []) && (writable 0x10018).isSome)
        (.regModify 0 (rq 12 (leBytes 4 0x10018 ++ leBytes 4 0xFF ++ leBytes 4 0x15))) run0 (fun b => b.get F.RST_WAKETMR_SEC == 0x15) &&
      wit (serves run0 0x0104 (rq 12 (leBytes 4 0x10000 ++ [2, 0, 0, 0])) (Fmt.fixed 8 [6, 7]))
        (.regReadBlock 0 (rq 12 (leBytes 4 0x10000 ++ [2, 0, 0, 0]))) run0
        (fun b => rep b 0x0104 stOk 0 (leBytes 4 (run0.readWord 0x10000).toNat ++ leBytes 4 (run0.readWord 0x10004).toNat)) &&
      wit (serves run0 0x0103 (rq 12 (leBytes 4 0x10014 ++ leBytes 4 0 ++ leBytes 4 7)) (Fmt.fixed 12 []))
        (.regModify 0 (rq 12 (leBytes 4 0x10014 ++ leBytes 4 0 ++ leBytes 4 7))) run0 (fun b => rep b 0x0103 stBadParam 0 [0, 0, 0, 0]) &&
      wit (serves run0 0x0104 (rq 12 (leBytes 4 0x10000 ++ leBytes 4 257)) (Fmt.fixed 8 [6, 7]))
        (.regReadBlock 0 (rq 12 (leBytes 4 0x10000 ++ leBytes 4 257))) run0 (fun b => rep b 0x0104 stBadParam 0 [0, 0, 4, 0])) = true := by
  decide +kernel

/-- 0x10014 is a register without a consequence of its own. -/
theorem test_plain_register : ∃ d, plainReg 0x10014 d ∧ 0xFF &&& d.rw ≠ 0 := by
  refine ⟨(writable 0x10014).get (by decide +kernel), ?_⟩
  unfold plainReg
  decide +kernel

theorem test_register_accesses :
    (wit (run0.inService && (regDef? 0x10000).isSome && run0.regUp 0x10000) (.rcFieldRead 0 0x10000) run0
        (fun b => b.out == [.access 0x10000 stOk 0 0x10001]) &&
      wit (run0.regUp 0x50014) (.cviQ0Read 0) run0 (fun b => b.cvi.q1Shadow == 0) &&
      wit (ring0.regUp 0xD0010) (.timNsecRead sec) ring0 (fun b => b.time.secShadow == 1) &&
      (let o : CanObj := { frame := classic 5 [], ns := 0, sec := 0, new := true, lost := true }
       let a : State := { run0 with can := { run0.can with objs := [(127, o)] } }
       wit (a.regUp (0xE1000 + 128 * 127)) (.canRxstatRead 0 127) a
         (fun b => assoc? 127 b.can.objs == some { o with new := false, lost := false } && assoc? 127 b.can.shadow == some o)) &&
      (let a : State := { run0 with can := { run0.can with errq := [5#32, 6#32], logq := [7#32] } }
       wit (a.regUp 0xE0020) (.canErrqRead 0) a (fun b => b.can.errq == [6#32]) &&
       wit (a.regUp 0xE0024) (.canLogqRead 0) a (fun b => b.can.logq.isEmpty))) = true := by
  decide +kernel

/-! ## Ring -/

/-- The ring with its scan of 1 s under way, 180 µs after S. -/
def mid0 : State :=
  withs [(F.RING_THOP_THOP, 440)]
    { ring0 with
      now := sec + 180 * usec, time := { ring0.time with qz := (sec + 180 * usec) * 4294967296 },
      ring := { ring0.ring with lastS := sec, sentS := some sec, live := true } }

theorem test_ring_symbols :
    (wit (ring0.inService && ring0.scanDue) (.scanStrobe sec [] []) ring0 (fun b => b.ring.lastS == sec && b.cvi.tagS == some sec && b.cvi.winS == some sec
        && b.cvi.qPrev == ring0.cvi.qS) &&
      wit (park0.rst.mode == .park && park0.scanDue) (.scanStrobe 0 [] []) park0 (fun b => b.ring.lastS == 0 && b.cvi.tagS == none) &&
      (let d : State := { ring0 with ring := { ring0.ring with scanNo := some ring0.scanCount } }
       wit (!d.scanDue) (.scanStrobe sec [] []) d (fun b => b.ring == d.ring && b.cvi == d.cvi)) &&
      (let r := withs [(F.RING_THOP_THOP, 440)] ring0
       wit (r.strobeDue && !r.ring.split && r.served == 2) (.strobeEmit sec) r (fun b => b.ring.sseq == 1 && b.ring.sentS == some sec
        && b.out == [.ring false (4 * sec - 2 * 440) (polarity (ring0.portInv false) (symbolLine (strobeBytes 1 2 false)))])) &&
      wit (mid0.collectDue && mid0.ring.lastS + mid0.window * 2500 + 10 * usec == sec + 170 * usec) (.collectFrameSend mid0.now) mid0 (fun b => b.ring.colS == some sec
        && b.out == [.ring false (4 * (sec + 170 * usec)) (polarity (mid0.portInv false) (frameLine (collectBytes 0 2 false)))]) &&
      wit mid0.heartbeatDue (.heartbeatEmit mid0.now) mid0 (fun b => b.ring.hseq == 1 && b.ring.hbLast == some mid0.now && b.ring.hbOut == [(1, mid0.now)]
        && b.out == [.ring true (4 * mid0.now) (polarity (mid0.portInv true) (symbolLine (heartbeatBytes 1 false)))]) &&
      (let brk := fun (s : State) => withs [(F.RING_THOP_THOP, 440), (F.RING_BREAK_EREACH, 1), (F.RING_BREAK_WREACH, 1)] { s with ring := { s.ring with split := true, colSplit := true } }
       let a := brk ring0
       let m := brk mid0
       let east := polarity (a.portInv false)
       let west := polarity (a.portInv true)
       wit (a.strobeDue && a.eReach != 0 && a.wReach != 0) (.strobeEmit sec) a (fun b => b.out == [.ring true (4 * sec - 440) (west (symbolLine (strobeBytes 1 1 false))),
         .ring false (4 * sec - 440) (east (symbolLine (strobeBytes 1 1 false)))]) &&
       wit m.collectDue (.collectFrameSend m.now) m (fun b => b.out == [.ring true (4 * (sec + 170 * usec)) (west (frameLine (collectBytes 0 1 false))),
         .ring false (4 * (sec + 170 * usec)) (east (frameLine (collectBytes 0 1 false)))]) &&
       wit m.heartbeatDue (.heartbeatEmit m.now) m (fun b => b.ring.hbOut.isEmpty && b.out == [.ring true (4 * m.now) (west (symbolLine (heartbeatBytes 1 false))),
         .ring false (4 * m.now) (east (symbolLine (heartbeatBytes 1 false)))]))) = true := by
  decide +kernel

theorem test_node_records :
    (let line := fun (l : List Byte) => polarity (ring0.portInv false) (idleBauds 4 ++ recordLine l)
     let good := recd ring0 2 0
     wit (ring0.scanning && recordRead (ring0.rxLine false (line good)) == some good && ring0.slotPos false 2 == some 2 && recordSound ring0 2 good)
        (.nodeRecord sec false 2 (line good)) ring0
        (fun b => assoc? 2 b.ring.tiles == some { bytes := recd ring0 2 0, scans := 0, ever := true, fresh := true }) &&
      wit (recordSound ring0 2 (recd ring0 2 512)) (.nodeRecord sec false 2 (line (recd ring0 2 512))) ring0 (fun b => b.ring.tiles.isEmpty && b.stale 2) &&
      wit (!recordSound ring0 2 (recd ring0 1 0)) (.nodeRecord sec false 2 (line (recd ring0 1 0))) ring0
        (fun b => b.ring.tiles.isEmpty && b.stale 2 && b.get F.RING_ERRCNT_CRCERR == 1) &&
      wit (2 ≤ ring0.len) (.scanEnd sec) ring0 (fun b => b.stale 2 && (assoc? 2 b.ring.tiles).any (fun r => !r.ever)) &&
      (let a : State := { ring0 with now := 10 * sec, ring := { ring0.ring with graceAt := some 0 } }
       wit (a.get F.RING_CTRL_GRACE * 10 * msec ≤ a.now) (.graceExpiry (10 * sec)) a
         (fun b => b.flag F.RING_STAT_GRACE_EXP && b.evr.pend.contains 9 && b.getI (F.PRT_ENT_DIS.ix8 5) == 0 && b.getI (F.PRT_ENT_CHG.ix8 5) == 0))) = true := by
  decide +kernel

theorem test_heartbeats :
    (let a : State := { ring0 with ring := { ring0.ring with hbOut := [(8, sec), (9, sec)], hseq := 9, missed := 2 } }
     let d : State := { a with now := sec + 100 * usec }
     let e : State := { d with ring := { d.ring with missed := 1 } }
     let p : State := { ring0 with ring := { ring0.ring with probing := true, hseq := 9, hbOut := [(9, sec)], probeW := some 0 } }
     let q : State := { mid0 with ring := { mid0.ring with probing := true } }
     let line := fun (w : Bool) (l : List Byte) => polarity (ring0.portInv w) (idleBauds 4 ++ symbolLine l ++ idleBauds 4)
     wit (d.scanning && hbValid (hbeat 9 2 0) && d.hbRead false (line false (hbeat 9 2 0)) == hbeat 9 2 0)
       (.heartbeatReturn (sec + 100 * usec) false (line false (hbeat 9 2 0))) d (fun b => b.ring.missed == 0 && b.ring.hbOut == [(8, sec)]) &&
     wit (a.hbRead true (line true (hbeat 9 2 2)) == hbeat 9 2 2) (.heartbeatReturn sec true (line true (hbeat 9 2 2))) a
       (fun b => b.flag F.RING_STAT_BROKEN && b.evr.pend.contains 8) &&
     wit true (.heartbeatMissed (sec + 100 * usec)) e (fun b => b.ring.missed == 2 && b.ring.hbOut == [(9, sec)]) &&
     wit true (.heartbeatMissed (sec + 100 * usec)) d (fun b => b.flag F.RING_STAT_BROKEN && b.evr.pend.contains 8) &&
     wit (p.hbRead false (line false (hbeat 9 2 2)) == hbeat 9 2 2) (.probeReturn sec false (line false (hbeat 9 2 2))) p (fun b => b.ring.split
       && b.get F.RING_STAT_STATE == 4 && b.get F.RING_BREAK_EREACH == 2 && b.get F.RING_BREAK_WREACH == 0) &&
     wit (q.heartbeatDue && q.inService) (.heartbeatEmit q.now) q (fun b => b.ring.hbOut == [(1, q.now)] && b.out.length == 2) &&
     wit (ring0.ringOn && !ring0.ring.probing) (.ringLossOfSignal sec true) ring0 (fun b => b.ring.losW) &&
     wit ring0.ringOn (.ringSignalRestored sec false) ring0 (fun b => !b.ring.losE)) = true := by
  decide +kernel

theorem test_ring_commands :
    (let c : RingCmd := { queue := 1, pos := 2, west := false, cmd := 4, payload := List.replicate 34 0, rlen := 1, tries := 2, use := 0 }
     let a : State := { mid0 with ring := { mid0.ring with cmds := [c] } }
     let f : State := { ring0 with ring := { ring0.ring with inflight := some c } }
     let h : List Byte := [0, 0, 0, 2, 0, 0, 0] ++ leBytes 1 (crc8 [0, 0, 0, 2, 0, 0, 0])
     let raw := h ++ leBytes 4 (crc32c h)
     let rx := polarity (ring0.portInv (ring0.backPort false)) (idleBauds 4 ++ frameLine raw)
     let id : List Byte := puts [(5, 1), (9, 16), (10, 8), (12, 16)] (List.replicate 13 0)
     let x : StartupIn := { east := true, west := true, hcnt := some 2, idents := [some id, some id], loops := [List.replicate 16 880] }
     let g : State := { ring0 with ring := { ring0.ring with startDue := true } }
     wit (a.nextCmd == some c && a.fits (a.cmdBytes c).length) (.ringCommandSend a.now) a (fun b => b.ring.inflight == some { c with tries := 3 }
       && b.ring.cseq == 1 && b.ring.cmds.isEmpty && b.out == [.ring false (4 * a.now) (polarity (a.portInv false) (frameLine (a.cmdBytes c)))]) &&
     wit (frameRead (f.rxLine (f.backPort false) rx) == some raw && uAt raw 7 1 == crc8 (raw.take 7) && uAt raw 8 4 == crc32c (raw.take 8) && (uAt raw 3 1).testBit 1) (.ringCommandReturn sec (some rx)) f (fun b => b.ring.inflight == none && b.ring.cmds.isEmpty) &&
     wit (c.tries < 3) (.ringCommandReturn sec none) f (fun b => b.ring.cmds == [c] && b.ring.inflight == none) &&
     (let c3 : RingCmd := { c with tries := 3, use := 1 }
      let w : Waiting := { id := reqId (rq 8 []) 0x0402 false, req := rq 8 ([1, 0, 2] ++ List.replicate 33 0), why := .balance, since := 0 }
      let f3 : State := { f with ring := { f.ring with inflight := some c3 }, host := { f.host with waiting := [w], sess := { svc with cache := [(1, [])] } :: List.replicate 7 {} } }
      wit (f3.ring.replies.isEmpty && !f3.lan.supDown) (.ringCommandReturn sec none) f3 (fun b => b.ring.cmds.isEmpty && b.host.waiting.isEmpty
        && rep b 0x0402 stOk 0 [0xFF])) &&
     (let c3 : RingCmd := { c with tries := 3, use := 1 }
      let f3 : State := { f with ring := { f.ring with inflight := some c3 } }
      wit f3.ringOn (.ringCommandReturn sec none) f3 (fun b => b.ring.cmds.isEmpty && assoc? 2 b.ring.results == some 0xFF)) &&
     (let c3 : RingCmd := { c with tries := 3, use := 3 }
      let f3 : State := { f with ring := { f.ring with inflight := some c3 }, acq := { f.acq with owNodes := [1, 2] } }
      wit f3.ringOn (.ringCommandReturn sec none) f3 (fun b => !b.acq.owNodes.contains 2)) &&
     (let c3 : RingCmd := { c with tries := 3, use := 4, payload := [3] }
      let f3 : State := { f with ring := { f.ring with inflight := some c3 } }
      wit f3.ringOn (.ringCommandReturn sec none) f3 (fun b => b.imp.stale == [20])) &&
     wit (identOk (some id) && calibrate false 2 x.loops == (0, 440, true)) (.ringStartup sec x) g (fun b => b.get F.RING_STAT_FOUND == 2
       && !b.flag F.RING_STAT_LENMIS && b.get F.RING_STAT_STATE == 3 && b.get F.RING_THOP_THOP == 440 && !b.ring.startDue) &&
     wit ((ring0.writeErr 0x30000 (ring0.withField F.RING_CTRL_CAL 1)).isNone && ring0.convOff) (.ringCalWrite sec) ring0
       (fun b => b.ring.startDue && b.get F.RING_STAT_STATE == 1) &&
     wit ((ring0.writeErr 0x30000 (ring0.withField F.RING_CTRL_LEN 0)).isNone) (.ringLenChange sec 0) ring0
       (fun b => b.get F.RING_CTRL_LEN == 0 && b.get F.RING_STAT_STATE == 0) &&
     wit ((ring0.writeErr 0x30000 (ring0.withField F.RING_CTRL_LEN 40)).isNone) (.ringLenChange sec 40) ring0 (fun b => b.get F.RING_CTRL_LEN == 40)) = true := by
  decide +kernel

/-! ## Acquisition, current and insulation -/

theorem test_balancing_and_open_wire :
    (let day := 86400 * sec
     let a : State := withs [(F.ACQ_BAL_CFG_ENABLE, 1), (F.ACQ_OW_CFG_PERIOD, 1)] { ring0 with now := day }
     let b : State := { a with est := { a.est with cells := modNth a.est.cells 0 (fun c => { c with init := true, qual := 0, cap := 100, qrem := 5 }) } }
     let r : List Byte := recd ring0 1 0
     let o : State := a.setB F.ACQ_STAT_OWRUN true
     let e : State := { o with acq := { o.acq with owScans := 1000, owKind := 1 } }
     let w : State := { e with acq := { e.acq with owNodes := [1], owIdx := [(1, 4)] }, ring := { e.ring with tiles := [(1, { bytes := r, scans := 0, ever := true, fresh := true })] } }
     wit (b.scanning && b.acq.planAt + b.get F.ACQ_BAL_CFG_PERIOD * 60 * sec ≤ b.now && b.policyGroups == [1]) (.balancePolicyPlan day) b
       (fun s => s.acq.planAt == day && s.ring.cmds.map (·.pos) == [1, 2] && s.ring.cmds.all (fun c => c.cmd == 4 && c.payload.length == 34)) &&
     wit ((a.writeErr 0x40020 (F.ACQ_BAL_CFG_ENABLE.into (F.ACQ_BAL_CFG_SRC.into (a.word 0x40020) 1) 1).toNat).isNone && a.ringOn)
       (.balSourceChange day 1 true) a (fun s => s.get F.ACQ_BAL_CFG_SRC == 1 && s.ring.cmds.map (·.pos) == [1, 2]) &&
     wit (a.groups.all (fun g => !(a.cell g).init || (a.cell g).qual != 0)) (.balancePolicyPlan day) a (fun s => s.acq.planAt == day && s.ring.cmds.isEmpty) &&
     (let c : RingCmd := { queue := 1, pos := 2, west := false, cmd := 4, payload := List.replicate 34 0, rlen := 1, tries := 0, use := 1, again := true }
      let g : State := { a with acq := { a.acq with resend := [c] }, ring := { a.ring with cmds := [c] } }
      wit g.ringOn (.balSourceChange day 1 true) g (fun s => s.acq.resend.isEmpty && s.ring.cmds.map (fun x => (x.pos, x.again)) == [(2, false), (1, true), (2, true)])) &&
     wit ((a.writeErr 0x40028 (F.ACQ_OW_CFG_START.into (F.ACQ_OW_CFG_NODE.into (a.word 0x40028) 2) 1).toNat).isNone && 2 ≤ a.cells 2 && !a.cutOff 2)
       (.openWireStart day 2) a (fun s => s.flag F.ACQ_STAT_OWRUN && s.acq.owNodes == [2] && s.ring.cmds.map (fun c => (c.cmd, c.pos)) == [(6, 2)]) &&
     wit (o.flag F.ACQ_STAT_OWRUN) (.openWireStart day 2) o (fun s => s.acq.owHeld == [2] && s.ring == o.ring) &&
     (let g : State := { a with ring := { a.ring with startDue := true } }
      wit g.ring.startDue (.openWireStart day 2) g (fun s => s.acq.owHeld == [2] && s.ring == g.ring)) &&
     (let g := a.set F.RING_STAT_STATE 0
      wit (!g.ringOn) (.openWireStart day 2) g (fun s => s.acq.owHeld == [2] && s.ring == g.ring)) &&
     wit (a.acq.owAt + a.get F.ACQ_OW_CFG_PERIOD * 3600 * sec ≤ a.now) (.openWirePeriodic day) a (fun s => s.flag F.ACQ_STAT_OWRUN && s.acq.owKind == 1) &&
     wit (4 * e.get F.ACQ_OW_CFG_REPS ≤ e.acq.owScans) (.openWireRunEnd day) e (fun s => !s.flag F.ACQ_STAT_OWRUN && s.flag F.ACQ_STAT_OWDONE && s.evr.pend.contains 19) &&
     wit true (.openWireRunEnd day) { e with acq := { e.acq with owHeld := [1, 2] } } (fun s => s.flag F.ACQ_STAT_OWRUN && s.acq.owKind == 2 && s.acq.owHeld == [2] && s.evr.pend.contains 19) &&
     (let x : State := { w with ring := { w.ring with tiles := [(1, { bytes := recd ring0 1 16, scans := 0, ever := true, fresh := true })] } }
      wit ((x.tile? 1).any (fun r => (uAt r.bytes 2 2).testBit 4)) (.openWireRunEnd day) x (fun s => s.flag F.ACQ_STAT_OWRUN && s.acq == x.acq)) &&
     (let v : State := { w with ring := { w.ring with tiles := [(1, { bytes := puts [(6, 0xFF)] r, scans := 0, ever := true, fresh := true })] } }
      wit (v.segAgrees 1 (puts [(6, 0xFF)] r) && (uAt (puts [(6, 0xFF)] r) 2 2).testBit 4 == false) (.openWireRunEnd day) v
        (fun s => (s.word 0x40200).toNat == (0xFF &&& innerMask (v.cells 1))))) = true := by
  decide +kernel

theorem test_windows_and_swaps :
    (let x : Samp := { eff := sec, ia := 16777216000, ib := 16777216000, i := 16777216000, vs := 1677721600000, vb := 1677721600000, vi := 0, clip := true }
     let a : State := { ring0 with now := sec + 645 * usec, time := { ring0.time with qz := (sec + 645 * usec) * 4294967296 }, cvi := { ring0.cvi with hist := [x], winS := some sec, qS := 7, handAt := 1 } }
     let b : State := { ring0 with now := sec + msec, time := { ring0.time with qz := (sec + msec) * 4294967296 }, cvi := { ring0.cvi with hist := [{ x with eff := sec + 3000 }] } }
     let z : State := { (ring0.setB F.CVI_SH_STAT_AZINIT true) with cvi := { ring0.cvi with azA := (40, 4) } }
     let h : State := withs [(F.CVI_SH_STAT_AZINIT, 0), (F.CVI_SH_STAT_DISAGREE, 1)] { ring0 with cvi := { ring0.cvi with hist := [{ x with eff := sec - 3000 }] } }
     let k : State := withs [(F.CVI_SH_STAT_AZINIT, 0)] { ring0 with cvi := { ring0.cvi with handAt := sec - 5000 } }
     let q : State := { ring0 with cvi := { ring0.cvi with handAt := 100 * msec, shorted := 1, azA := (40, 4) } }
     let p : State := { q with cvi := { q.cvi with shorted := 2, azB := (40, 4) } }
     wit (sec + (a.win * 2500 + 5000) ≤ a.quartzNs && (a.winSum sec (·.sh) (·.i)).2 != 0 && (a.winSum sec (·.hv) (·.vs)).2 != 0) (.windowedValueReady a.now) a
       (fun s => s.getI F.CVI_I == 1000 && s.getI F.CVI_VSTR == 100000 && s.get F.CVI_Q0 == 7 && s.cvi.winS == none) &&
     wit (b.gridAt msec == sec + msec) (.gridMillisecond b.now) b (fun s => s.flag F.CVI_SH_STAT_OVR && s.flag F.CVI_SH_STAT_OVR_SEEN) &&
     wit (z.cvi.azStart + 100 * msec ≤ z.now) (.azinitEnd sec) z (fun s => !s.flag F.CVI_SH_STAT_AZINIT && s.cvi.ofsA == 10) &&
     wit (h.domainGood 5 && h.handDue && h.cvi.cmJob.isNone && h.alternating && !h.flag F.CVI_SH_STAT_AZINIT && (h.overlap sec).length == 1) (.shuntHandover sec) h
       (fun s => s.get F.CVI_SH_STAT_MEAS == 1 && s.cvi.handAt == sec && s.get F.CVI_SWAPCNT_COUNT == 1 && s.get F.CVI_SH_STAT_DISAGREE == 0) &&
     wit (0 < k.cvi.handAt && k.cvi.handAt + 5000 ≤ k.quartzNs) (.shuntAzShort sec) k (fun s => s.cvi.shorted == 2 && s.regs == k.regs) &&
     wit (q.cvi.handAt + 890 * msec ≤ q.quartzNs) (.shuntAzOffsetEnd sec) q (fun s => s.cvi.ofsA == 10 && s.cvi.ofsB == 0) &&
     wit true (.shuntAzOffsetEnd sec) p (fun s => s.cvi.ofsB == 10 && s.cvi.ofsA == 0) &&
     wit (q.cvi.handAt + 900 * msec ≤ q.quartzNs) (.shuntAzReconnect sec) q (fun s => s.cvi.shorted == 0 && s.regs == q.regs) &&
     wit ((q.writeErr 0x50000 (q.withField F.CVI_SH_CFG_FORCE 2)).isNone) (.shuntForceWrite sec 2) q
       (fun s => s.get F.CVI_SH_CFG_FORCE == 2 && s.get F.CVI_SH_STAT_MEAS == 1 && s.flag F.CVI_SH_STAT_DRIFT && s.cvi.shorted == 0)) = true := by
  decide +kernel

theorem test_insulation :
    (let v : Int := 100000 * 16777216
     let x : InsSums := { n1 := 1, v1 := v, u1 := 4 * v, n2 := 1, v2 := v, u2 := 4 * v }
     let a : State := { (ring0.set F.CVI_INS_STAT_LEG 1) with now := 100 * sec, time := { ring0.time with qz := 100 * sec * 4294967296 }, cvi := { ring0.cvi with insOpen := false, ins := x } }
     let b : State := { a with cvi := { a.cvi with insP := some (v, 4 * v) } }
     let c : State := { b with cvi := { b.cvi with ins := {} } }
     let d : State := withs [(F.CVI_INS_CFG_MODE, 1), (F.PRT_CONTSTAT_FB, 1)] ring0
     wit ring0.insRuns (.insLegSwitch sec) ring0 (fun s => s.get F.CVI_INS_STAT_LEG == 1 - ring0.get F.CVI_INS_STAT_LEG && !s.cvi.insOpen) &&
     wit (!a.cvi.insOpen && a.cvi.insAt + a.get F.CVI_INS_CFG_HALF * sec ≤ a.quartzNs && a.insRuns) (.insLegSwitch a.now) a
       (fun s => s.get F.CVI_INS_STAT_LEG == 0 && s.cvi.insAt == a.quartzNs && s.cvi.ins == {}) &&
     wit (!ring0.fb 1) (.contactorFeedbackChange sec 1 true) ring0 (fun s => s.cvi.ins.moved && !s.flag F.CVI_INS_STAT_PAUSED) &&
     wit (!ring0.fb 1) (.contactorFeedbackChange sec 1 true) (withs [(F.CVI_INS_CFG_MODE, 1)] ring0) (fun s => s.flag F.CVI_INS_STAT_PAUSED && s.cvi.insOpen) &&
     wit true (.insHalfPeriodEnd a.now) { a with cvi := { a.cvi with ins := { x with v2 := 2 * v } } }
       (fun s => s.flag F.CVI_INS_STAT_NOTSETTLED && !s.flag F.CVI_INS_STAT_INVALID) &&
     wit (!d.insRuns) (.insLegSwitch sec) d (fun s => s.flag F.CVI_INS_STAT_PAUSED && s.cvi.insOpen) &&
     wit (a.cvi.insAt + a.get F.CVI_INS_CFG_HALF * sec ≤ a.quartzNs && !a.flag F.CVI_INS_STAT_PAUSED) (.insHalfPeriodEnd a.now) a
       (fun s => !s.flag F.CVI_INS_STAT_INVALID && s.cvi.insN == some (v, 4 * v)) &&
     wit (0 < (4 * v - v) * (4 * v) - 4 * v * v) (.insHalfPeriodEnd a.now) b
       (fun s => !s.flag F.CVI_INS_STAT_INVALID && s.get F.CVI_RISO == min 100000 (insRes (uAt b.cal 44 4) (8 * v * v) (8 * v * v)).1) &&
     wit true (.insHalfPeriodEnd a.now) c (fun s => s.flag F.CVI_INS_STAT_INVALID && s.get F.CVI_RISO == c.get F.CVI_RISO)) = true := by
  decide +kernel

/-! ## Configuration, records and operation -/

/-- A record: its bytes before the CRC, and what the CRC covers. -/
def crced (h d : List Byte) : List Byte := h ++ leBytes 4 (crc32c d) ++ d

theorem test_configuration :
    (let item := fun (x v : Nat) => leBytes 4 x ++ [4, 0, 0, 0] ++ leBytes 4 v
     let r := rq 12 (item 0x10014 0x51405)
     let k := rq 12 (leBytes 4 0xFF000001 ++ [32, 0, 0, 0] ++ List.replicate 32 5)
     let u : State := { run0 with host := { run0.host with sess := { svc with slot := 2 } :: List.replicate 7 {} } }
     let g : State := { run0 with cfg := { run0.cfg with staged := [(0x10014, 0x51405)] } }
     let c := rq 12 [0, 0, 0, 0]
     let d := rq 12 [1, 0, 0, 0]
     let q := rq 12 [1, 0, 0, 0, 2, 0, 0, 0]
     wit (serves run0 0x0301 r cfgFmt && ((cfgItems r.payload).find? itemBad).isNone) (.cfgWrite 0 r) run0
       (fun s => rep s 0x0301 stOk 0 [] && s.cfg.staged == [(0x10014, 0x51405)] && s.flash.items == run0.flash.items && s.get F.RST_WAKECFG_LISTEN == run0.get F.RST_WAKECFG_LISTEN) &&
     wit (serves run0 0x0301 k cfgFmt && (cfgItems k.payload).all (fun x => x.isKey && !itemBad x)) (.cfgWrite 0 k) run0
       (fun s => rep s 0x0301 stOk 0 [] && s.cfg.keys == [(1, List.replicate 32 5)]) &&
     wit (serves u 0x0301 k cfgFmt) (.cfgWrite 0 k) u (fun s => rep s 0x0301 stAuthFail 0 [0, 0, 0, 0] && s.cfg == u.cfg) &&
     wit (serves g 0x0302 q (Fmt.fixed 8 [1, 6, 7]) && !g.cfgOut) (.cfgRead 0 q) g (fun s => rep s 0x0302 stOk 0 ([1, 0, 0, 0] ++ item 0x10014 0x51405)) &&
     wit (serves g 0x0303 c commitFmt && !g.cfgOut && g.get F.UPD_STATE_PHASE != 2 && !g.mergedBad && g.mergedRefused.isNone && g.mergedItems == [(0x10014, 0x51405)])
       (.cfgCommit 0 c { ok := true }) g (fun s => rep s 0x0303 stOk 0 [] && s.flash.items == [(0x10014, 0x51405)] && s.cfg.staged.isEmpty && s.word 0x10014 == g.cfgWord 0x10014 0x51405) &&
     (let g : State := { g with host := { g.host with traceMask := none } }
      wit (g.mergedRefused.isNone) (.cfgCommit 0 c { ok := false }) g (fun s => rep s 0x0303 stInternal 0 [0, 0, 0xFF, 0xFF] && s.flash.items == g.flash.items && s.cfg == g.cfg)) &&
     wit (serves g 0x0303 d commitFmt) (.cfgDiscard 0 d) g (fun s => rep s 0x0303 stOk 0 [] && s.cfg.staged.isEmpty)) = true := by
  decide +kernel

/-- The smallest structure record and a gain record of its shape. -/
def struct1 : List Byte :=
  let d := List.replicate 24 0 ++ List.replicate (pairBytes 1 + 28) 0
  crced (leBytes 2 0x4C43 ++ [1, 0] ++ leBytes 4 d.length ++ [1, 1, 4, 1, 1, 0] ++ List.replicate 14 0) d

def gain1 : List Byte :=
  let d := List.replicate 36 0
  crced (leBytes 2 0x4C43 ++ [2, 0, 36, 0, 0, 0, 1, 1, 4, 1, 1, 0] ++ List.replicate 14 0) d

set_option maxRecDepth 2000 in
theorem test_records :
    (let tf : Fmt := { len := fun p => decide (9 ≤ p.length) && decide (p.length ≤ 1400) }
     let cf : Fmt := { len := fun p => decide (12 ≤ p.length) && decide (p.length ≤ 1400), pad := [9, 10, 11], flagsAt := some (8, 3) }
     let z := List.replicate 672 (0 : Byte)
     let d := crced (leBytes 2 0x4C54 ++ [3, 0] ++ leBytes 4 672 ++ [1, 0, 0, 0]) z
     let lo := fun (o : Nat) (x : List Byte) => rq 12 (leBytes 4 o ++ leBytes 4 688 ++ x)
     let a : State := { run0 with cfg := { run0.cfg with asmT := some { session := 0, total := 688, data := d.take 9, since := 0 } } }
     let co := fun (f n : Nat) (x : List Byte) => rq 12 (leBytes 4 0 ++ leBytes 4 n ++ leBytes 1 f ++ [0, 0, 0] ++ x)
     let g : State := { run0 with ctl := { run0.ctl with struct := structOf struct1 } }
     let w : State := g.setB F.CTL_BANKSEL_SHVALID true
     let e : State := { a with now := 60 * sec, cfg := { a.cfg with asmC := a.cfg.asmT } }
     wit (serves run0 0x0304 (lo 0 (d.take 9)) tf) (.tableLoad 0 (lo 0 (d.take 9))) run0 (fun s => rep s 0x0304 stOk 0 [] && s.cfg.asmT == a.cfg.asmT) &&
     wit (serves a 0x0304 (lo 9 (d.drop 9)) tf && tableHeaderOk d && tableDataOk 3 z) (.tableLoad 0 (lo 9 (d.drop 9))) a
       (fun s => rep s 0x0304 stOk 0 [] && s.cfg.tables == [(3, d)] && s.cfg.asmT == none) &&
     wit (serves run0 0x0305 (co 0 struct1.length struct1) cf && (structOf struct1).isSome && run0.loopStopped && run0.ctl.gatesLow)
       (.coefLoad 0 (co 0 struct1.length struct1)) run0 (fun s => rep s 0x0305 stOk 0 [] && s.ctl.struct == structOf struct1) &&
     wit (serves run0 0x0305 (co 0 struct1.length [1]) cf) (.coefLoad 0 (co 0 struct1.length [1])) run0 (fun s => rep s 0x0305 stOk 0 [] && s.cfg.asmC.isSome) &&
     wit ((g.ctl.struct.bind (gainOf gain1)).isSome) (.coefLoad 0 (co 0 gain1.length gain1)) g
       (fun s => rep s 0x0305 stOk 0 [] && s.ctl.bank1 == g.ctl.struct.bind (gainOf gain1) && s.flag F.CTL_BANKSEL_SHVALID) &&
     wit (serves w 0x0305 (co 1 0 []) cf) (.coefLoad 0 (co 1 0 [])) w (fun s => s.flag F.CTL_BANKSEL_SWAPPEND && s.host.waiting.map (·.why) == [.swap]) &&
     wit e.inService (.loadAssemblyTimeout (60 * sec) false) e (fun s => s.cfg == { e.cfg with asmT := none }) &&
     wit true (.loadAssemblyTimeout (60 * sec) true) e (fun s => s.cfg == { e.cfg with asmC := none })) = true := by
  decide +kernel

theorem test_operation :
    (let sp := rq 11 (leBytesI 4 (-1250000))
     let bad := rq 11 (leBytesI 4 1250001)
     let so := rq 11 ([0, 1, 0, 0] ++ leBytes 4 9)
     let n := rq 11 []
     let m := rq 12 []
     let l : State := { run0 with lrn := { run0.lrn with job := some 1 } }
     let c : State := withs [(F.CTL_STAT_STATE, 2)] run0
     let b : State := withs [(F.ACQ_BAL_CFG_SRC, 1), (F.ACQ_BAL_CFG_ENABLE, 1)] ring0
     let pf : Fmt := { len := fun p => decide (2 ≤ p.length) && p.length == 2 + 34 * uAt p 0 1, pad := [1] }
     let pl := rq 12 ([1, 0, 2, 3, 7, 0] ++ List.replicate 30 0)
     let o : State := withs [(F.PRT_CONTSTAT_FB, 1)] run0
     let x : SampleIn := { a := 0, b := 0, vstr := 0, vbus := 0, vins := 0, iph := [0, 0, 0, 0], sp := 0, periods := [], edge := false, posts := [] }
     let d : State := { ring0 with ctl := { ring0.ctl with spNext := [(0x0403, sp.payload)] } }
     let h : List Byte := [0, 0, 0, 2, 0, 0, 0]
     let ret := h ++ leBytes 1 (crc8 h) ++ List.replicate 34 0 ++ [3]
     let back := ret ++ leBytes 4 (crc32c ret)
     let cmd : RingCmd := { queue := 1, pos := 2, west := false, cmd := 4, payload := List.replicate 34 0, rlen := 1, tries := 1, use := 1 }
     let wt : Waiting := { id := reqId pl 0x0405 false, req := pl, why := .balance, since := 0 }
     let rt : State := { ring0 with ring := { ring0.ring with inflight := some cmd }, host := { ring0.host with waiting := [wt], sess := { svc with cache := [(1, [])] } :: List.replicate 7 {} } }
     let sq : Req := { m with via := .spi, src := 0 }
     let spi : State := { run0 with host := { run0.host with sess := { svc with via := .spi, src := 0 } :: List.replicate 7 {} } }
     let reply : Pkt := { flags := 1, session := 0, cls := 12, seq := 1, opcode := 0x0407, target := 0, status := stOk, jobid := 0, payload := [], key := [] }
     let out : State := { spi with rst := { spi.rst with parkReq := some (reqId sq 0x0407 false) }, host := { spi.host with spiOut := [reply] } }
     wit (serves run0 0x0403 sp (Fmt.fixed 4 [])) (.setpoint 0 sp) run0 (fun s => rep s 0x0403 stOk 0 [] && s.ctl.spNext == [(0x0403, sp.payload)] && s.ctl.net == run0.ctl.net) &&
     wit (d.sampleDue && d.lrn.job.isNone && d.bay.appliedNo != some (d.gridCount 5000)) (.controlSample sec x) d (fun s => s.ctl.net == some (-1250000, sec)) &&
     (let e : State := { d with bay := { d.bay with appliedNo := some (d.gridCount 5000) } }
      wit e.sampleDue (.controlSample sec x) e (fun s => s.ctl.net == e.ctl.net && s.ctl.spNext.contains (0x0403, sp.payload))) &&
     (let e : State := { d with ctl := { d.ctl with spNext := [(0x0404, so.payload)] } }
      wit e.sampleDue (.controlSample sec x) e (fun s => s.get F.CTL_SPCFG_SRC == 0 && s.get F.CTL_SPCFG_PMODE == 1 && s.get F.CTL_SPLOCAL == 9)) &&
     wit (serves l 0x0403 sp (Fmt.fixed 4 [])) (.setpoint 0 sp) l (fun s => rep s 0x0403 stOk 0 [] && s.ctl.later == [(0x0403, sp.payload)]) &&
     wit (!run0.flag F.CTL_SPCFG_PMODE) (.setpoint 0 bad) run0 (fun s => rep s 0x0403 stBadParam 0 [0, 0, 0, 0] && s.ctl == run0.ctl) &&
     wit (serves run0 0x0404 so (Fmt.fixed 8 [2, 3]) && run0.loopStopped) (.setpointSource 0 so) run0
       (fun s => rep s 0x0404 stOk 0 [] && s.ctl.spNext == [(0x0404, so.payload)]) &&
     wit (serves l 0x0404 so (Fmt.fixed 8 [2, 3])) (.setpointSource 0 so) l (fun s => rep s 0x0404 stOk 0 [] && s.ctl.later == [(0x0404, so.payload)]) &&
     wit (!c.loopStopped) (.setpointSource 0 so) c (fun s => rep s 0x0404 stRefused 0 [3, 0, 0xFF, 0xFF]) &&
     wit (serves b 0x0405 pl pf && (b.planBad pl.payload 0).isNone && !b.planFull pl.payload) (.balancePlan b.now pl) b
       (fun s => s.ring.results.isEmpty && s.host.waiting.map (·.why) == [.balance] && s.ring.cmds.any (fun x => x.pos == 2 && x.cmd == 4 && x.use == 1
         && x.payload == [7, 0] ++ List.replicate 30 0 ++ [3, 0])) &&
     wit (serves ring0 0x0405 pl pf) (.balancePlan ring0.now pl) ring0 (fun s => rep s 0x0405 stRefused 0 [9, 0, 0xFF, 0xFF] && s.ring == ring0.ring) &&
     wit (rt.ringOn && !rt.lan.supDown) (.ringCommandReturn sec (some (polarity (rt.portInv (rt.backPort false)) (idleBauds 4 ++ frameLine back)))) rt
       (fun s => rep s 0x0405 stOk 0 [0] && s.host.waiting.isEmpty) &&
     wit (serves run0 0x0407 m (Fmt.fixed 0 []) && run0.host.waiting.isEmpty && run0.get F.PRT_CONTSTAT_COIL == 0 && run0.parkRefused.isNone && !run0.parkBusy) (.park 0 m) run0
       (fun s => rep s 0x0407 stOk 0 [] && s.rst.mode == .park && s.get F.RST_STAT_MSTATE == 1 && s.pads.coils == [false, false, false]) &&
     wit (serves spi 0x0407 sq (Fmt.fixed 0 []) && spi.parkRefused.isNone && !spi.parkBusy) (.park 0 sq) spi
       (fun s => rep s 0x0407 stOk 0 [] && s.rst.mode == .run && s.rst.parkReq == some (reqId sq 0x0407 false)) &&
     wit (out.portOpen .spi && !out.spiEarly .spi && decide (reply.bytes.length ≤ 64) && out.parkRefused.isNone && !out.parkBusy) (.spiRead 0 64) out
       (fun s => s.rst.mode == .park && s.rst.parkReq == none) &&
     (let bz := run0.set F.UPD_STATE_PHASE 2
      wit (bz.parkBusy && serves bz 0x0407 m (Fmt.fixed 0 [])) (.park 0 m) bz (fun s => rep s 0x0407 stBusy 0 [15, 0, 0xFF, 0xFF])) &&
     wit (o.parkRefused == some 2) (.park 0 m) o (fun s => rep s 0x0407 stRefused 0 [2, 0, 0xFF, 0xFF] && s.rst.mode == .run) &&
     wit (serves run0 0x0408 m (Fmt.fixed 0 [])) (.wake 0 m) run0 (fun s => rep s 0x0408 stOk 0 [] && s.rst.mode == .run) &&
     wit (serves park0 0x0408 m (Fmt.fixed 0 []) && park0.haltCause == 0) (.wake 0 m) park0
       (fun s => rep s 0x0408 stOk 0 [] && s.rst.mode == .run && s.time.run && s.get F.RST_WAKESRC_SRC == 1) && (n.payload.isEmpty)) = true := by
  decide +kernel

/-! ## Estimator -/

/-- A ring whose first slot is stale, with an empty profile in force and one initialised group. -/
def est0 : State :=
  let l : List (Nat × List Byte) := [(1, []), (2, []), (3, []), (4, [])]
  let a : State := { ring0 with flash := { ring0.flash with tables := l }, est := { ring0.est with tabs := l } }
  let c : Cell := { init := true, qual := 0, cap := 1000, qrem := 1000000 }
  { a.setStale 1 true with est := { a.est with cells := modNth a.est.cells 0 (fun _ => c) }, cvi := { a.cvi with qS := 3, qPrev := 1 }, ring := { a.ring with lastS := 1 } }

/-- A waiting request. -/
def wait (y : WaitFor) (op : Nat) (r : Req) : Waiting :=
  { why := y, id := { via := r.via, src := r.src, session := 0, cls := r.cls, seq := r.seq, op := op, tagged := true, bcast := false, prov := false }, req := r, since := 0 }

theorem test_estimator_updates :
    (let p : State := { (ring0.set F.EST_STR_USOC_HI 10000) with lrn := { ring0.lrn with started := true }, now := 10000 * 86400 * sec }
     let d : State := withs [(F.REC_OPSEC, 10000 * 86400)] p
     wit (est0.lanesOn && est0.chargeIn && est0.quarterIn 0 && est0.prof?.isSome && (nth none est0.lan.est 0).isSome && !est0.quarterOut 0 .cells && !est0.quarterStalls 0 && est0.stale 1 && est0.groups.contains 1)
       (.estimatorUpdate sec 0) est0 (fun s => s.est.done.contains 0 && (s.cell 1).qrem == 1000000 - 2 * 65536 && nth 0 s.est.lastUpd 0 == sec) &&
     wit (!est0.s1Down) (.stringValuesUpdate sec) est0 (fun s => s.get F.EST_STR_USOC_LO ≤ pct (est0.usable (est0.cell 1))
       && pct (est0.usable (est0.cell 1)) ≤ s.get F.EST_STR_USOC_HI) &&
     wit (ring0.prof?.isNone) (.stringValuesUpdate p.now) p (fun s => s.getI (F.PRT_ENT_CHG.ix8 3) == clipS 32 p.taper) &&
     wit (d.get F.EST_LRN_LAST_LEARNLAST + d.get F.EST_LRN_CFG_DAYS * 86400 ≤ d.opsec) (.learnIntervalExpiry d.now) d
       (fun s => s.flag F.EST_LRN_STAT_DUE && s.lrn.dueRaised && s.evr.pend.contains 35)) = true := by
  decide +kernel

theorem test_rest_and_snapshots :
    (let g := rq 11 [60, 0, 0, 0]
     let k := rq 12 (leBytes 2 1 ++ leBytes 2 640)
     let r0 := rq 12 (leBytes 4 4 ++ [2, 0, 0, 0])
     let r1 := rq 12 (leBytes 4 0 ++ [2, 0, 1, 0])
     let p := rq 12 (leBytes 4 0 ++ [2, 0, 0, 0, 0, 0, 0, 0, 8, 9])
     let sf : Fmt := { len := fun p => p.length == 8, pad := [7], flagsAt := some (6, 1) }
     let rf : Fmt := { len := fun p => decide (12 ≤ p.length) && p.length == 12 + uAt p 4 2, pad := [7], flagsAt := some (6, 3) }
     let c : State := { ring0 with est := { ring0.est with copy := some [1, 2, 3, 4, 5, 6], copyAt := 0 } }
     let e : State := { c with now := 700 * sec, est := { c.est with restEnd := some 600, apply := some ([], 0, false, 0), applyDue := true, restore := some ⟨[], 0⟩ } }
     let w : State := { ring0 with ring := { ring0.ring with lastS := 1 }, host := { ring0.host with waiting := [wait .capture 0x0501 r1] } }
     wit (serves run0 0x0406 g (Fmt.fixed 4 [2, 3])) (.restGrant 0 g) run0 (fun s => rep s 0x0406 stOk 0 [] && s.est.restEnd == some (60 * sec) && s.flag F.EST_FLAGS_RESTING) &&
     wit (serves e 0x0406 (rq 11 [0, 0, 0, 0]) (Fmt.fixed 4 [2, 3])) (.restGrant e.now (rq 11 [0, 0, 0, 0])) e (fun s => s.est.restEnd == some e.now && !s.flag F.EST_FLAGS_RESTING) &&
     wit e.inService (.restWindowEnd e.now) e (fun s => s.est.restEnd == none && !s.flag F.EST_FLAGS_RESTING) &&
     wit (serves run0 0x0505 k (Fmt.fixed 4 [])) (.estResetCell 0 k) run0 (fun s => rep s 0x0505 stOk 0 [] && s.est.resetReq == [(1, 640)]) &&
     wit (serves c 0x0501 r0 sf) (.estSnapshotRead sec r0) c (fun s => rep s 0x0501 stOk 0 [5, 6] && s.est.copyAt == sec) &&
     wit (serves run0 0x0501 r1 sf && !run0.parked) (.estSnapshotRead 0 r1) run0 (fun s => s.host.waiting.map (·.why) == [.capture]) &&
     wit (w.scanUpdated) (.snapshotCapture sec) w (fun s => s.est.copyAt == sec && s.host.waiting.all (fun x => x.since == 1)) &&
     wit (c.est.copyAt + 600 * sec ≤ e.now) (.snapshotCopyExpire e.now) e (fun s => s.est.copy == none && s.regs == e.regs) &&
     wit (serves run0 0x0502 p rf) (.estRestore 0 p) run0 (fun s => rep s 0x0502 stOk 0 [] && s.est.restore == some ⟨[(0, [8, 9])], 0⟩) &&
     wit (e.est.applyDue && e.chargeIn && e.scanUpdated) (.restoreApply e.now) e (fun s => s.est.apply.isNone && s.flag F.EST_FLAGS_RESTORED_SEEN && !s.flag F.EST_FLAGS_CHGLOST) &&
     wit true (.restoreDiscard e.now) e (fun s => s.est.restore.isNone && s.regs == e.regs)) = true := by
  decide +kernel

/-! ## Learning and impedance -/

/-- Carrying: connected, the loop running, 25 °C. -/
def car0 : State := withs [(F.PRT_CONTSTAT_CONN, 4), (F.CTL_STAT_STATE, 2), (F.THM_DIE_TUSE, 2500)] ring0

/-- A running job with number 1. -/
def job1 (op : Nat) : Job := { id := 1, op := op, session := 0, total := 7 }

theorem test_learning :
    (let r := rq 12 (leBytes 2 50 ++ leBytes 2 500 ++ leBytes 2 65535)
     let a : State := { (car0.set F.EST_LRN_STAT_PHASE 4) with jobs := [job1 0x0503], lrn := { car0.lrn with job := some 1, target := 65535 } }
     let b : State := { (a.set F.EST_LRN_STAT_PHASE 2) with now := 5 * 3600 * sec }
     let sw := rq 12 ([1, 0] ++ leBytes 2 20000 ++ leBytes 4 50 ++ [1, 0, 0, 0])
     let sf : Fmt := { len := fun p => decide (4 ≤ p.length) && p.length == 4 + 8 * uAt p 0 1, pad := 1 :: ((List.range 255).flatMap (fun i => [10 + 8 * i, 11 + 8 * i])) }
     wit (serves car0 0x0503 r (Fmt.fixed 6 []) && car0.carrying && car0.groups.all (fun g => car0.tGroup g == 2500)) (.learnStart sec r) car0
       (fun s => rep s 0x0503 stAccepted 1 [] && s.lrn.job == some 1 && s.get F.EST_LRN_STAT_PHASE == 1 && s.lrn.rate == 50) &&
     wit b.lrnDone (.learnPhaseEnd b.now) b (fun s => s.get F.EST_LRN_STAT_PHASE == 3 && s.lrn.phaseAt == b.now) &&
     wit a.lrnDone (.learnPhaseEnd sec) a (fun s => s.get F.EST_LRN_STAT_PHASE == 0 && s.lrn.job == none && (s.job? 1).any (fun j => j.st == .done && j.value == 7)) &&
     wit (b.lrn.phaseAt + b.lrnLimit < b.now) (.learnPhaseTimeout b.now) b (fun s => s.get F.EST_LRN_STAT_PHASE == 0 && s.flag F.EST_LRN_STAT_JOBFAIL_SEEN
       && s.evr.pend.contains 36 && (s.job? 1).any (fun j => j.st == .failed && j.final == stRefused)) &&
     wit (serves car0 0x0504 sw sf && (sweepPts sw.payload).all (·.ok)) (.impedanceSweep sec sw) car0
       (fun s => rep s 0x0504 stAccepted 1 [] && s.imp.pts == [⟨50, 1⟩] && s.get F.EST_IMP_STAT_NPTS == 1)) = true := by
  decide +kernel

theorem test_impedance_points :
    (let p : ImpPt := { freq := 200000, cycles := 1 }
     let b : ImpPt := { freq := 2000000, cycles := 1 }
     let a : State := { withs [(F.PRT_LDIS, 9000), (F.PRT_LCHG, 9000), (F.CTL_SPCFG_IRATED, 100)] car0 with ring := { car0.ring with lastS := sec }, imp := { car0.imp with pts := [p, b], ampl := 20000 } }
     let o : State := { (a.set F.EST_IMP_STAT_STATE 1) with imp := { a.imp with on := true } }
     let c : State := { (a.set F.EST_IMP_STAT_STATE 2) with imp := { o.imp with iSer := List.replicate p.len 0 } }
     let d : State := { (a.set F.EST_IMP_STAT_STATE 2) with imp := { o.imp with k := 1, iSer := List.replicate b.len 0 } }
     let u : State := a.set F.EST_IMP_STAT_STATE 3
     wit (a.imp.after < a.ring.lastS && a.sweeping) (.impPointStart sec) a (fun s => s.imp.on && s.imp.apt == 5000 && s.imp.onAt == sec && s.get F.EST_IMP_STAT_STATE == 1) &&
     (let k : State := { withs [(F.CTL_SPCFG_IRATED, 100)] car0 with ring := { car0.ring with lastS := sec }, imp := { car0.imp with pts := [p, p], ampl := 999 } }
      k.imp.after < k.ring.lastS && k.sweeping && !k.imp.on && !k.imp.ready && k.get F.EST_IMP_STAT_STATE == 0) &&
     wit (o.impPt == some p && o.imp.onAt + p.time p.settling ≤ o.ring.lastS) (.impSettlingEnd sec) o (fun s => s.get F.EST_IMP_STAT_STATE == 2 && s.imp.phaseAt == sec) &&
     wit (p.len ≤ c.imp.iSer.length && c.imp.phaseAt + p.time p.cycles ≤ c.quartzNs && !p.burst) (.impCorrelationEnd sec) c (fun s => !s.imp.on && s.get F.EST_IMP_STAT_STATE == 2 && s.imp.ready) &&
     wit (b.burst && d.impPt == some b && d.imp.phaseAt + b.time b.cycles ≤ d.quartzNs) (.impCorrelationEnd sec) d (fun s => !s.imp.on && s.get F.EST_IMP_STAT_STATE == 3) &&
     wit (!u.uploading) (.impUploadDone sec) u (fun s => s.imp.ready && s.regs == u.regs)) = true := by
  decide +kernel

theorem test_impedance_sweeps :
    (let p : ImpPt := { freq := 200000, cycles := 1 }
     let b : ImpPt := { freq := 2000000, cycles := 1 }
     let a : State := { withs [(F.PRT_LDIS, 9000), (F.PRT_LCHG, 9000), (F.CTL_SPCFG_IRATED, 100)] car0 with ring := { car0.ring with lastS := sec }, imp := { car0.imp with pts := [p, b], ampl := 20000 } }
     let f : State := { a.set F.RING_CTRL_LEN 0 with imp := { a.imp with ready := true, pts := [p] } }
     let v : State := { withs [(F.EST_IMP_CFG_AUTOH, 1), (F.REC_OPSEC, 3600)] car0 with est := { car0.est with tabs :=
       [(1, List.replicate 140 0 ++ leBytes 4 7), (5, List.replicate 12 0 ++ leBytes 4 7 ++ leBytes 4 50 ++ leBytes 4 60)] } }
     let n : State := v.set F.CTL_STAT_STATE 0
     wit (f.impPt == some p) (.impFitDone sec) { f with imp := { f.imp with clipped := true } } (fun s => s.flag F.EST_IMP_STAT_CLIP_SEEN && s.imp.clips == 1 && s.imp.k == 0) &&
     (p.actual < 4294967296) &&
     wit (v.imp.autoAt + 3600 ≤ v.opsec && v.impRef?.isSome) (.impAutoSweepDue sec) v (fun s => s.flag F.EST_IMP_STAT_AUTO && s.imp.autoAt == 3600 && s.imp.pts.map (·.freq) == [50, 60]) &&
     wit (!n.carrying) (.impAutoSweepDue sec) n (fun s => s.imp.retryAt == 4200 && s.regs == n.regs) &&
     wit (v.impRef?.isSome && !(a.imp.pts.isEmpty)) (.impAutoSweepDue sec) { v with imp := a.imp } (fun s => s.imp == a.imp && s.regs == v.regs) &&
     (let h : State := { ring0 with now := 7200 * sec, imp := { ring0.imp with tintAt := [(640, 0)] } }
      wit h.started (.tintAgeTick h.now) h (fun s => s.get (F.EST_TINT_AGE.ix 639) == 2 && s.get (F.EST_TINT_AGE.ix 0) == h.get (F.EST_TINT_AGE.ix 0)))) = true := by
  decide +kernel

/-! ## Converter control and protection -/

/-- Safety in NORMAL, connected, records loaded and valid. -/
def ctl0 : State :=
  { withs [(F.SAF_STAT_STATE, 1), (F.PRT_CONTSTAT_CONN, 4)] ring0 with
    ctl := { ring0.ctl with struct := structOf struct1, bank0 := (structOf struct1).bind (gainOf gain1), bank1 := (structOf struct1).bind (gainOf gain1) } }

theorem test_control_samples :
    (let x : SampleIn := { a := 1, b := 2, vstr := 3, vbus := 4, vins := 5, iph := [1, 2, 3, 4], sp := 0, periods := [], edge := false, posts := [none, none, none, none, none] }
     let a : State := withs [(F.SAF_STAT_STATE, 1), (F.SAF_STAT_RAMP, 0), (F.PRT_LIMIT_BLK_DIS, 1), (F.PRT_LIMIT_BLK_CHG, 1)] ring0
     wit (a.sampleDue && a.get F.CTL_STAT_STATE == 0 && !a.ctl.stopReq && !a.imp.stopping && a.safSt != 2 && !a.flag F.SAF_STAT_RAMP) (.controlSample sec x) a
       (fun s => (s.cvi.hist.map (·.eff)) == [a.quartzNs - 5000] && s.ctl.iphHist == [a.phaseSum x] && s.getI F.PRT_LDIS == 0 && s.getI F.PRT_LCHG == 0
         && s.get F.PRT_LIMIT_BIND_DIS == 15 && s.get F.PRT_LIMIT_BIND_CHG == 15 && s.getI F.CTL_SPNOW == 0) &&
     (let d : State := { a with ctl := { a.ctl with sampNo := some (a.gridCount 5000) } }
      wit (!d.sampleDue) (.controlSample sec x) d (fun s => s.ctl == d.ctl && s.cvi == d.cvi && s.regs == d.regs)) &&
     wit a.sampling (.envelopeBandUpdate sec) a (fun s => s.ctl.band == a.bandNow && s.regs == a.regs)) = true := by
  decide +kernel

theorem test_voting :
    selectVec 1 (fun _ => true) [[5, 6], [5, 6], [5, 6]] = some [5, 6] ∧ selectVec 1 (fun _ => true) [[], []] = none := by
  decide +kernel

theorem test_loop :
    (let w : State := { withs [(F.CTL_STAT_STATE, 1), (F.CTL_CTRL_RUN, 1)] ctl0 with ctl := { ctl0.ctl with warm := 1000000, convEn := true } }
     let e : State := { ctl0 with ctl := { ctl0.ctl with convEn := true } }
     let q : State := { (ctl0.setB F.CTL_BANKSEL_SHVALID true) with ctl := { ctl0.ctl with swapAt := some sec }, host := { ctl0.host with waiting := [wait .swap 0x0305 (rq 12 [])] } }
     let n : State := { ctl0.set F.CTL_SPCFG_NETTMO 1 with ctl := { ctl0.ctl with anaAt := some 0, anaOkAt := some 0, pulseOkAt := some 0 } }
     wit (ctl0.inService && (ctl0.writeErr 0x70000 (ctl0.withField F.CTL_CTRL_RUN 1)).isNone && !ctl0.flag F.CTL_CTRL_RUN) (.loopStartWrite sec) ctl0
       (fun s => s.get F.CTL_STAT_STATE == 1 && s.flag F.CTL_CTRL_RUN && s.ctl.convEn && s.ctl.islew == 0 && s.ctl.warm == 0) &&
     wit ((w.writeErr 0x70000 (w.withField F.CTL_CTRL_RUN 0)).isNone) (.loopStopWrite sec) w (fun s => s.ctl.stopReq && s.get F.CTL_STAT_STATE == 1) &&
     wit (w.sampleDue && w.warmDue) (.loopWarmupEnd sec) w (fun s => s.get F.CTL_STAT_STATE == 2 && !s.ctl.gatesLow && s.ctl.freeAt == sec + 800 && !s.pads.gates
       && s.ctl.env == some (w.getI F.CTL_ENV0_K1, w.getI F.CTL_ENV0_K0, w.get F.CTL_ENV1_BAND, w.get F.CTL_ENV1_PERSIST)) &&
     wit (e.loopStopped && e.ctl.gatesLow && e.ctl.lowAt + 10 * usec ≤ e.now) (.convEnFall sec) e (fun s => !s.ctl.convEn && !s.pads.convEn && s.regs == e.regs) &&
     wit q.swapDue (.gainSwap sec) q (fun s => s.get F.CTL_BANKSEL_ACTIVE == 1 && s.flag F.CTL_BANKSEL_ACTVALID && s.ctl.swapAt == none && s.host.waiting.isEmpty) &&
     wit (10 * msec * n.get F.CTL_SPCFG_NETTMO ≤ n.now) (.netSetpointTimeout sec) n (fun s => s.flag F.CTL_SPSTAT_NETTMO && s.flag F.CTL_SPSTAT_NETTMO_SEEN && s.ctl == n.ctl) &&
     wit true (.analogSetpointOverrange sec) n (fun s => s.flag F.CTL_SPSTAT_ANAOVR && s.flag F.CTL_SPSTAT_ANAOVR_SEEN) &&
     wit true (.pulseSetpointFault sec) n (fun s => s.flag F.CTL_SPSTAT_PULSEOVR && s.flag F.CTL_SPSTAT_PULSEOVR_SEEN) &&
     wit true (.setpointFaultClear sec true) (n.setB F.CTL_SPSTAT_PULSEOVR true) (fun s => !s.flag F.CTL_SPSTAT_PULSEOVR) &&
     wit true (.setpointFaultClear sec false) (n.setB F.CTL_SPSTAT_ANAOVR true) (fun s => !s.flag F.CTL_SPSTAT_ANAOVR)) = true := by
  decide +kernel

theorem test_flint :
    (let c : State := withs [(F.PRT_CONTSTAT_COIL, 7), (F.PRT_CFG_OCOPEN, 0)] ring0
     let h : State := { c with prt := { c.prt with ocDisAt := some 0, ocDis := true } }
     let b : State := { c with cvi := { c.cvi with lost := [(.string, 0)] } }
     let r := rq 10 [1]
     wit c.armed (.overcurrentComparator sec true) (c.setB F.PRT_CFG_OCOPEN true) (fun s => s.flag F.PRT_TRIP_OC_CHG && !s.pads.gates && s.prt.ocChg && s.get F.PRT_CONTSTAT_COIL == 0) &&
     wit c.armed (.overcurrentComparator sec false) c (fun s => s.flag F.PRT_TRIP_OC_DIS && !s.pads.gates && s.prt.ocDis && s.get F.PRT_CONTSTAT_COIL == 7) &&
     wit (!h.flag F.PRT_CFG_OCOPEN) (.ocHoldCheck sec false) h (fun s => s.flag F.PRT_TRIP_OC_HOLD && s.get F.PRT_CONTSTAT_COIL == 0) &&
     wit true (.gateFault sec 3) c (fun s => s.flag F.PRT_TRIP_DESAT && s.get F.PRT_TRIP_DESATPH == 3) &&
     wit true (.barrierLoss sec .supply) c (fun s => s.flag F.PRT_TRIP_BARRIER && s.silent .supply) &&
     wit (b.silentLong .string) (.barrierLossCoilTimeout sec) b (fun s => s.get F.PRT_CONTSTAT_COIL == 0) &&
     wit (c.clockGood 4) (.ctrlClockLoss sec) c (fun s => s.flag F.PRT_TRIP_CTRL_CLK && s.rst.mode == .halt && s.get F.RST_STAT_HALTC == 3) &&
     wit (c.clockGood 1) (.safeClockLoss sec) c (fun s => s.get F.PRT_CONTSTAT_COIL == 0 && s.rst.mode == .halt && s.get F.RST_STAT_HALTC == 4) &&
     wit (c.portOpen r.via && !c.coresHeld && !c.provClosed r && c.isOpen 0) (.trip sec r) c (fun s => s.flag F.PRT_TRIP_TRIP_CMD && s.get F.PRT_CONTSTAT_COIL == 0) &&
     wit true (.trip sec (rq 10 [0])) c (fun s => s.flag F.PRT_TRIP_TRIP_CMD && s.get F.PRT_CONTSTAT_COIL == 7) &&
     (let e : State := withs [(F.BAY_POS_VALID, 1), (F.BAY_POS_POS, 5)] c
      wit (e.role != 3) (.trip sec { r with target := 5 }) e (fun s => s.flag F.PRT_TRIP_TRIP_CMD && s.get F.PRT_CONTSTAT_COIL == 0) &&
      wit true (.trip sec { r with target := 6 }) e (fun s => !s.flag F.PRT_TRIP_TRIP_CMD && s.get F.PRT_CONTSTAT_COIL == 7) &&
      wit true (.trip sec { r with target := 0xFD }) e (fun s => !s.flag F.PRT_TRIP_TRIP_CMD && s.get F.PRT_CONTSTAT_COIL == 7))) = true := by
  decide +kernel

theorem test_flint_conditions :
    (let c : State := withs [(F.PRT_CONTSTAT_COIL, 7), (F.PRT_TRIP_TRIP_CMD, 1), (F.PRT_TRIP_OC_DIS, 1), (F.PRT_CONTSTAT_WELD_P, 1), (F.PRT_CONTSTAT_WELD_PC, 1), (F.PRT_CONTSTAT_FB, 4)] ring0
     let d : State := { c with prt := { c.prt with ocDis := true, ocChg := true, desat := [true, true, true, true] }, cvi := { c.cvi with lost := [(.bus, 3)] } }
     wit true (.overcurrentComparatorRelease sec true) d (fun s => !s.prt.ocChg && s.prt.ocDis) &&
     wit true (.overcurrentComparatorRelease sec false) d (fun s => s.prt.ocChg && !s.prt.ocDis) &&
     wit true (.desatRelease sec 3) d (fun s => s.prt.desat == [true, true, true, false]) &&
     wit (d.silent .bus) (.barrierRestored sec .bus) d (fun s => !s.silent .bus && s.cvi.back.contains (.bus, sec)) &&
     wit true (.vcoilLow sec) c (fun s => s.flag F.PRT_CONTSTAT_VCOILLOW && !s.prt.vcoil) &&
     wit true (.vcoilLow sec) { c with rst := { c.rst with mode := .off } } (fun s => !s.prt.vcoil) &&
     wit true (.vcoilRestored sec) (c.setB F.PRT_CONTSTAT_VCOILLOW true) (fun s => !s.flag F.PRT_CONTSTAT_VCOILLOW && s.prt.vcoil) &&
     wit (c.coil 2 && nth 0 c.prt.coilAt 2 + c.ms F.PRT_CONT_PULL ≤ c.now) (.coilPullEnd sec 2) c (fun s => nth false s.prt.hold 2) &&
     wit (c.coil 0) (.coilCurrentFault sec 0 true) c (fun s => s.flag F.PRT_CONTSTAT_COILSHORT && !s.coil 0) &&
     wit (c.coil 0) (.coilCurrentFault sec 0 false) c (fun s => s.flag F.PRT_CONTSTAT_COILOPEN && s.coil 0) &&
     wit ((d.writeErr 0x8002C 511).isNone && d.releasable 5 && !d.releasable 0) (.prtTripClear sec 511) d (fun s => !s.flag F.PRT_TRIP_TRIP_CMD && s.flag F.PRT_TRIP_OC_DIS) &&
     wit ((c.writeErr 0x80038 (7 * 65536)).isNone && c.fb 2) (.weldClear sec 7) c (fun s => !s.flag F.PRT_CONTSTAT_WELD_P && s.flag F.PRT_CONTSTAT_WELD_PC)) = true := by
  decide +kernel

theorem test_contactors :
    (let r := rq 12 []
     let a : State := { withs [(F.SAF_STAT_STATE, 1), (F.CVI_SH_STAT_AZINIT, 0), (F.CVI_CAL_STAT_DEFAULTS, 0), (F.CVI_INS_STAT_STATE, 0)] ring0 with est := { ring0.est with tabs := [(1, []), (2, []), (3, []), (4, [])] } }
     let q : Seq := { kind := .close, step := 2, at_ := 0, fbAt := some 0 }
     let b : State := { a.set F.PRT_CONTSTAT_CONN 4 with prt := { a.prt with seq := some q } }
     let st := fun (k : SeqKind) (n : Nat) => ({ b with prt := { b.prt with seq := some { q with kind := k, step := n } } } : State)
     let d : State := a.set F.PRT_CONTSTAT_CONN 4
     let z : State := { d.set F.CVI_INS_STAT_STATE 2 with prt := { d.prt with zeroAt := some 0 } }
     wit (serves a 0x0401 r (Fmt.fixed 0 []) && a.thWin == 0 && (taken a r).connBlk % 32768 == 0 && a.allOpen) (.stringConnect sec r true) a
       (fun s => rep s 0x0401 stAccepted 1 [] && s.get F.PRT_CONTSTAT_CONN == 2 && s.coil 2 && s.prt.seq.any (fun q => q.kind == .close && q.step == 2)) &&
     wit (serves a 0x0402 r (Fmt.fixed 0 [])) (.stringDisconnect sec r) a (fun s => rep s 0x0402 stOk 0 []) &&
     wit d.jobRoom (.stringDisconnect sec r) d (fun s => rep s 0x0402 stAccepted 1 [] && s.get F.PRT_CONTSTAT_CONN == 5 && s.prt.seq.any (fun q => q.kind == .open_)) &&
     wit (b.iAbs < b.get F.PRT_PRECH_PCWELD * 100 && b.iAbs ≤ b.get F.PRT_CFG_PCIMAX * 1000 && 0 < b.get F.PRT_CONT_KFBTMO) (.closeSequenceTimer sec) b
       (fun s => s.coil 1 && s.prt.seq.any (fun q => q.kind == .close && q.step == 3)) &&
     wit (!b.coil 2) (.closeSequenceTimer sec) (st .close 6) (fun s => s.get F.PRT_CONTSTAT_CONN == 4 && s.prt.seq.isNone) &&
     wit true (.openSequenceTimer sec) ((st .open_ 2).set F.PRT_CONTSTAT_COIL 7) (fun s => !s.coil 0 && !s.coil 2) &&
     wit b.allOpen (.openSequenceTimer sec) (st .open_ 5) (fun s => s.get F.PRT_CONTSTAT_CONN == 0 && s.prt.seq.isNone) &&
     wit true (.autoOpenStart sec) z (fun s => s.get F.PRT_CONTSTAT_CONN == 5 && s.prt.seq.any (fun q => q.kind == .open_)) &&
     wit true (.contactorFeedbackChange sec 0 true) d (fun s => s.fb 0 && s.flag F.PRT_CONTSTAT_WELD_P && s.evr.pend.contains 50) &&
     wit true (.contactorFeedbackChange sec 0 false) (withs [(F.PRT_CONTSTAT_FB, 1), (F.PRT_CONTSTAT_COIL, 7)] d)
       (fun s => !s.fb 0 && s.flag F.PRT_CONTSTAT_UNCMD && s.get F.PRT_CONTSTAT_COIL == 0)) = true := by
  decide +kernel

/-- A close or open sequence at step `n` with the string current at `i` mA, coils `c` on and contactors `f` read closed. -/
def seqAt (k : SeqKind) (n i c f : Nat) (fb low : Option Nat) : State :=
  let q : Seq := { kind := k, step := n, at_ := 0, knAt := 0, fbAt := fb, lowAt := low }
  let a : State := withs [(F.PRT_CONTSTAT_CONN, 2), (F.PRT_CONTSTAT_COIL, c), (F.PRT_CONTSTAT_FB, f), (F.PRT_PRECH_PCIMIN, 1), (F.PRT_PRECH_PCEND, 4), (F.PRT_PRECH_PCWELD, 5)] ring0
  { a with prt := { a.prt with seq := some q }, ctl := { a.ctl with iNow := i } }

/-- A close sequence that failed at step `n`. -/
def failed (n : Nat) (s : State) : Bool := s.get F.PRT_CONTSTAT_CONN == 0 && s.get F.PRT_CONTSTAT_FAILSTEP == n && s.get F.PRT_CONTSTAT_COIL == 0 && s.prt.seq.isNone

/-- A sequence of kind `k` at step `n` that waits since `t`. -/
def seqIs (k : SeqKind) (n t : Nat) (s : State) : Bool := s.prt.seq.any (fun x => x.kind == k && x.step == n && x.at_ == t)

theorem test_close_steps :
    (let past := 1000 * 70000
     let late : State := { seqAt .close 3 300 6 6 (some 0) none with now := 0 }
     let f3 : State := seqAt .close 3 300 6 4 none none
     let f5 : State := seqAt .close 5 300 7 6 none none
     let mx := late.get F.PRT_PRECH_PCMAX
     let s4 : Option Nat → Nat → State := fun l i => withs [(F.PRT_PRECH_PCMAX, 20)] (seqAt .close 4 i 6 6 none l)
     decide (0 < mx && 20 < mx && late.get F.PRT_CFG_PCIMAX * 1000 < past) &&
     wit true (.closeSequenceTimer sec) (seqAt .close 2 600 4 4 (some 0) none) (fun s => failed 2 s && s.flag F.PRT_CONTSTAT_WELD_N && s.evr.pend.contains 50) &&
     wit true (.closeSequenceTimer sec) (seqAt .close 3 past 6 6 none none) (fun s => failed 3 s && s.flag F.PRT_CONTSTAT_WELD_P && s.evr.pend.contains 50) &&
     wit true (.closeSequenceTimer sec) (seqAt .close 4 past 6 6 none none) (fun s => failed 4 s && s.flag F.PRT_CONTSTAT_WELD_P) &&
     wit true (.closeSequenceTimer sec) (seqAt .close 2 0 4 0 none none) (failed 2) &&
     wit true (.closeSequenceTimer sec) f3 (failed 3) &&
     wit true (.closeSequenceTimer sec) f5 (failed 5) &&
     wit true (.closeSequenceTimer 1000) { late with now := 1000 } (fun s => seqIs .close 4 0 s && s.get F.PRT_CONTSTAT_COIL == 6) &&
     wit true (.closeSequenceTimer sec) (seqAt .close 3 50 6 6 (some 0) none) (failed 3) &&
     wit (decide (10 * msec ≤ 2 * sec)) (.closeSequenceTimer sec) (s4 (some 0) 300) (fun s => s.coil 0 && s.get F.PRT_CONTSTAT_CONN == 3 && seqIs .close 5 sec s) &&
     wit true (.closeSequenceTimer (2 * sec)) (s4 none 600) (failed 4) &&
     wit true (.closeSequenceTimer sec) (seqAt .close 6 300 7 7 none none) (fun s => !s.coil 2) &&
     wit true (.closeSequenceTimer sec) (seqAt .close 6 300 3 7 none none) (fun s => failed 6 s && s.flag F.PRT_CONTSTAT_WELD_PC) &&
     wit (f3.coil 1 && !f3.fb 1) (.contactorFeedbackChange sec 1 true) f3 (fun s => s.fb 1 && seqIs .close 4 sec s) &&
     wit (f5.coil 0 && f5.coil 2 && !f5.fb 0) (.contactorFeedbackChange sec 0 true) f5 (fun s => s.fb 0 && seqIs .close 6 sec s)) = true := by
  decide +kernel

theorem test_open_steps :
    (let r := rq 12 []
     let f := Fmt.fixed 0 []
     let o : Nat → Option Nat → State := fun i l => withs [(F.PRT_CONTSTAT_CONN, 5), (F.PRT_CFG_IOPEN, 5), (F.PRT_CFG_OPENTMO, 10)] (seqAt .open_ 1 i 3 3 none l)
     let c : State := seqAt .close 3 300 6 6 none none
     let j : State := { o 0 none with prt := { (o 0 none).prt with seq := some { kind := .open_, step := 1, at_ := sec, job := some 1 } } }
     let e : State := withs [(F.SAF_STAT_STATE, 1), (F.CVI_SH_STAT_AZINIT, 0), (F.CVI_CAL_STAT_DEFAULTS, 0), (F.CVI_INS_STAT_STATE, 0)] ring0
     let a : State := { e with est := { e.est with tabs := [(1, []), (2, []), (3, []), (4, [])] } }
     wit (serves a 0x0401 r f && a.thWin == 0 && (taken a r).connBlk % 32768 == 0 && a.allOpen) (.stringConnect sec r false) a
       (fun s => rep s 0x0401 stAccepted 1 [] && failed 1 s && s.flag F.SAF_FAULT_COILSUP && !s.pads.supply) &&
     wit (serves c 0x0402 r f && !c.allOpen && decide (0 < c.get F.PRT_CONT_KFBTMO)) (.stringDisconnect sec r) c
       (fun s => rep s 0x0402 stAccepted 1 [] && s.get F.PRT_CONTSTAT_COIL == 0 && s.get F.PRT_CONTSTAT_CONN == 5 && seqIs .open_ 5 sec s) &&
     wit true (.stringDisconnect sec r) (c.set F.PRT_CONTSTAT_FB 0) (fun s => rep s 0x0402 stAccepted 1 [] && s.get F.PRT_CONTSTAT_COIL == 0 && s.get F.PRT_CONTSTAT_CONN == 0 && s.prt.seq.isNone) &&
     wit (serves (o 600 none) 0x0402 r f) (.stringDisconnect sec r) (o 600 none) (fun s => rep s 0x0402 stAccepted 1 [] && s.prt.seq.any (fun q => q.job == some 1 && q.step == 1)) &&
     wit (serves j 0x0402 r f) (.stringDisconnect sec r) j (fun s => rep s 0x0402 stBusy 0 (leBytes 2 0 ++ leBytes 2 0xFFFF) && s.prt.seq == j.prt.seq) &&
     wit true (.openSequenceTimer sec) (o 0 (some 0)) (fun s => s.get F.CTL_STAT_STATE == 0 && s.ctl.gatesLow && !s.pads.gates && s.prt.seq.any (fun q => q.kind == .open_ && q.step == 2)) &&
     wit true (.openSequenceTimer sec) (o 600 none) (fun s => s.flag F.PRT_CONTSTAT_UNDERLOAD && s.ctl.gatesLow && s.prt.seq.any (fun q => q.kind == .open_ && q.step == 2)) &&
     wit true (.openSequenceTimer sec) (seqAt .open_ 3 0 2 2 none none) (fun s => !s.coil 1) &&
     (let w : State := seqAt .open_ 5 0 0 5 none none
      let q : Seq := { kind := .open_, step := 5, at_ := 0, offAt := [some 0, some 0, some 0] }
      let v : State := { w with prt := { w.prt with seq := some q } }
      wit ((List.range 3).all (v.opened q)) (.openSequenceTimer sec) v (fun s => s.get F.PRT_CONTSTAT_CONN == 0 && s.prt.seq.isNone && s.flag F.PRT_CONTSTAT_WELD_P && s.flag F.PRT_CONTSTAT_WELD_PC))) = true := by
  decide +kernel

/-! ## Thermal supervision and safety -/

theorem test_thermal :
    (let a : State := withs [(F.THM_STAT_DBROKEN, 0), (F.THM_STAT_TSD, 0), (F.THM_COOL_MANUAL, 0), (F.THM_STAT_NOCELLT, 0), (F.THM_STAT_DEVIANT, 0)] ring0
     let h : State := { a with thm := { a.thm with hotRun := 7 } }
     let x : State := { withs [(F.THM_DIECFG_ENCL, 1), (F.THM_DIE_TEMP, 9000)] a with thm := { a.thm with alone := false, neighEncl := 1, neighNew := true, neigh := [(2, 2500, sec), (3, 2600, sec)] } }
     let n : State := { x with now := 20 * sec }
     let r : List Byte := puts [(50, 0), (51, 0x80)] (recd a 1 0)
     let c : State := { a with ring := { a.ring with tiles := [(1, { bytes := r, scans := 0, ever := true, fresh := true })] } }
     let v : State := { a with thm := { a.thm with valveI := 5, valveD := 1 } }
     let e : State := { withs [(F.THM_CHIL_EN, 1), (F.CAN_CFG_MODE, 1), (F.CAN_STAT_STATE, 1)] a with can := { a.can with integrating := false } }
     wit (!a.flag F.THM_STAT_DBROKEN) (.dieSensorSample sec 12800) a (fun s => s.getI F.THM_DIE_TEMP == 12800 && s.getI F.THM_DIE_TUSE == 12800
       && s.get F.THM_STAT_DSTEP == stepN (a.get F.THM_STAT_DSTEP) (idxHot 10000 200 12800) (idxHot 10000 200 12900) && !s.flag F.THM_STAT_TSD) &&
     wit (7 ≤ h.thm.hotRun) (.dieSensorSample sec 12500) h (fun s => s.flag F.THM_STAT_TSD && s.flag F.PRT_TRIP_GANDER && s.rst.mode == .halt
       && s.get F.RST_STAT_HALTC == 1 && s.evr.pend.contains 58) &&
     wit (!dieValid ((a.setI F.THM_DIE_TEMP (-5501)).getI F.THM_DIE_TEMP)) (.dieCrossCheck sec) (a.setI F.THM_DIE_TEMP (-5501)) (fun s => s.flag F.THM_STAT_DBROKEN) &&
     wit (x.crossChecks && x.neighOwn && median [2500, 2600] == some 2550 && x.get F.THM_DIECFG_DEV * 100 < 6450 && x.thm.stepAt.isNone) (.dieCrossCheck sec) x
       (fun s => s.getI F.THM_MED_MED == 2550 && s.flag F.THM_STAT_DEVIANT && !s.flag F.THM_STAT_DBROKEN) &&
     wit (n.crossChecks && n.neighbourLost) (.neighbourTimeout n.now) n (fun s => s.flag F.THM_STAT_NONEIGH) &&
     wit true (.compensationUpdate sec) x (fun s => s.thm.tc == 9000) &&
     wit (c.channels.contains (1, 0) && (c.tile? 1).isSome && (c.therm 1 0).isNone) (.thermistorCrossCheck sec) c (fun s => s.brk 1 0 && s.flag F.THM_STAT_CBRK_SEEN) &&
     wit true (.valveUpdate sec) (withs [(F.THM_COOL_MANUAL, 1), (F.THM_VALVE_MDUTY, 321)] a) (fun s => s.get F.THM_VALVE_DUTY == 321) &&
     wit true (.valveUpdate sec) (a.setB F.THM_STAT_NOCELLT true) (fun s => s.get F.THM_VALVE_DUTY == 1000) &&
     wit (0 < v.thm.valveD) (.valveUpdate sec) v (fun s =>
       s.thm.valveI == clip 0 6000000 (5 + (v.get F.THM_COOL_KI : Int) * (v.getI F.THM_CEXT_TMAX - v.degC F.THM_COOL_TSET))) &&
     wit (e.canNormal && e.canUp) (.chillerRequestSend sec) e (fun s => s.thm.alive == 1 && (nth [] s.can.txq 3).length == 1)) = true := by
  decide +kernel

/-- Gander runs, every input is on, safety in NORMAL. -/
def saf0 : State :=
  withs [(F.SAF_STAT_STATE, 1), (F.SAF_IN_ESTOP_A, 1), (F.SAF_IN_ESTOP_B, 1), (F.SAF_IN_DOOR, 1), (F.SAF_IN_OSSD, 1), (F.SAF_STAT_CAT, 0), (F.SAF_STAT_DEMAND, 0), (F.SAF_STAT_FLTLATCH, 0)] ring0

theorem test_safety_inputs :
    (let off := [false, true, true, true, false, false]
     let a : State := { saf0 with saf := { saf0.saf with run := [7, 0, 0, 0, 0, 0] } }
     let d : State := { saf0.set F.SAF_STAT_STATE 3 with saf := { saf0.saf with discAt := some 0, healthyAt := some 0 } }
     let w : State := { saf0 with saf := { saf0.saf with swLast := some 1, swSame := 2 } }
     let v : State := { saf0 with saf := { saf0.saf with swByte := some 2, swLast := some 1, swSame := 2 } }
     wit (a.ganderRuns && a.safSt == 1 && a.safIn 0) (.safetyInputSample sec off) a (fun s => !s.safIn 0 && s.safSt == 3 && s.flag F.PRT_TRIP_GANDER
       && s.get F.PRT_CONTSTAT_COIL == 0 && s.evr.pend.contains 64) &&
     wit true (.safetyInputSample sec off) saf0 (fun s => s.safIn 0) &&
     (let o : State := { saf0 with saf := { saf0.saf with run := [6, 6, 0, 5, 0, 0] } }
      wit (o.safIn 0 && o.safIn 3) (.safetyInputSample sec [false, true, true, false, false, false]) o (fun s => s.safIn 0 && !s.safIn 3)) &&
     wit true (.estopDiscrepancyTimeout sec) d (fun s => s.flag F.SAF_FAULT_DISCREP && s.flag F.SAF_STAT_FLTLATCH && s.flag F.PRT_TRIP_GANDER) &&
     wit (d.safSt == 3) (.safetyHealthyTimer sec) d (fun s => s.safSt == (if d.flag F.SAF_STAT_LATCHED then 4 else 1)) &&
     (switchByte 1 0 0 == some 1 && switchOk 1 && w.saf.swByte.isNone && w.ganderRuns) &&
     wit (!v.flag F.SAF_FAULT_SWCHG && v.safSt != 0) (.switchReadCycle sec 1 0 0) v (fun s => s.flag F.SAF_FAULT_SWCHG && s.safSt == 6)) = true := by
  decide +kernel

theorem test_safety_stops :
    (let r := rq 12 []
     let a : State := { withs [(F.SAF_STAT_STATE, 1), (F.CVI_SH_STAT_AZINIT, 0), (F.CVI_CAL_STAT_DEFAULTS, 0), (F.CVI_INS_STAT_STATE, 0)] saf0 with est := { ring0.est with tabs := [(1, []), (2, []), (3, []), (4, [])] }, saf := { saf0.saf with thAt := some 0, cat1At := some 0, healthyAt := some 0, start := true } }
     let f : State := { a.set F.SAF_STAT_STATE 4 with saf := a.saf }
     let c : State := { withs [(F.PRT_CONTSTAT_COIL, 1)] a with prt := { a.prt with hold := [true, false, false] }, ctl := { a.ctl with convEn := true, lowAt := sec } }
     wit a.ganderRuns (.cat1GateBackstop sec) a (fun s => s.flag F.PRT_TRIP_GANDER && !s.flag F.SAF_STAT_RAMP) &&
     wit true (.cat1CoilBackstop sec) c (fun s => s.get F.PRT_CONTSTAT_COIL == 0 && s.saf.cat1At.isNone) &&
     wit (serves f 0x0E02 r (Fmt.fixed 0 []) && f.safeResettable) (.safeReset sec r) f (fun s => rep s 0x0E02 stOk 0 [] && s.safSt == 1 && !s.flag F.SAF_STAT_LATCHED) &&
     wit (a.connBlk == 0 && a.allOpen && a.get F.PRT_CONTSTAT_CONN == 0 && a.prt.seq.isNone) (.panelCloseHold sec true) a
       (fun s => s.evr.pend.contains 66 && s.get F.PRT_CONTSTAT_CONN == 2 && s.coil 2) &&
     wit true (.panelCloseHold sec true) (a.setB F.CVI_CAL_STAT_DEFAULTS true) (fun s => s.evr.pend.contains 67 && s.get F.PRT_CONTSTAT_CONN == 0) &&
     wit (c.coil 0) (.coilOffPulseTest sec 0 true) c (fun s => s.regs == c.regs) &&
     wit (c.coil 0) (.coilOffPulseTest sec 0 false) c (fun s => s.flag F.SAF_FAULT_COILTEST && !s.flag F.SAF_STAT_COILSW && s.get F.PRT_CONTSTAT_COIL == 0) &&
     wit true (.convEnReadback sec true) a (fun s => s.regs == a.regs) &&
     wit c.convLevel (.convEnReadback sec false) c (fun s => s.flag F.SAF_FAULT_ENRB && !s.pads.convEn) &&
     wit (!a.convLevel) (.convEnReadback sec false) a (fun s => s.flag F.SAF_FAULT_ENRB && !s.flag F.SAF_STAT_COILSW) &&
     wit true (.inputStageTest sec 5 true) a (fun s => nth 0 s.saf.pass 5 == 1) &&
     wit true (.inputStageTest sec 5 false) a (fun s => s.flag F.SAF_FAULT_INSTUCK) &&
     wit true (.ganderSelfTest sec true) a (fun s => s.regs == a.regs) &&
     wit true (.ganderSelfTest sec false) a (fun s => s.flag F.SAF_FAULT_GSELF && s.rst.mode == .halt) &&
     wit (a.demandBits == 0 && a.saf.start && !a.flag F.SAF_FAULT_SWCHG && !a.flag F.SAF_STAT_FLTLATCH) (.ganderStartComplete sec true true [true]) a
       (fun s => !s.saf.start && s.flag F.SAF_STAT_COILSW && s.safSt == (if a.flag F.SAF_STAT_LATCHED then 4 else 1)) &&
     wit true (.ganderStartComplete sec true true [true]) (a.set F.SAF_IN_ESTOP_A 0) (fun s => !s.saf.start && s.safSt == 3 && s.flag F.PRT_TRIP_GANDER)) = true := by
  decide +kernel

/-! ## Lanes and bay -/

/-- Lane 0 fenced, its token with the mule in a switch-over. -/
def sw0 (x : Switch) : State := { ring0 with lan := { ring0.lan with st := [4, 1, 1, 1, 2], tok := [none, some 1, some 2, some 3], sw := some x } }

theorem test_lanes :
    (let x : Switch := { tok := 0, mule := 4 }
     let tst : State := { ring0 with lan := { ring0.lan with st := [1, 1, 1, 1, 3], testing := [(4, true)] } }
     let d : State := { ring0.set F.REC_OPSEC (3600 * 255) with now := ring0.now }
     wit (ring0.laneSt 0 == 1) (.laneWatchdogTimeout sec 0) ring0 (fun s => s.laneSt 0 == 4 && s.get F.LAN_STAT_CAUSE == 1 && s.flag F.LAN_STAT_FENCE_SEEN
       && !s.lan.tok.contains (some 0) && !s.lan.est.contains (some 0) && s.flash.lanes == s.lan.st) &&
     (let u : State := { ring0 with lan := { ring0.lan with st := [1, 1, 1, 1, 5] } }
      wit (u.laneSt 3 == 1) (.laneWatchdogTimeout sec 3) u (fun s => s.lan.sw.isNone && s.laneSt 3 == 3 && !s.lan.tok.contains (some 3))) &&
     (let w : State := { ring0 with lan := { ring0.lan with suspect := [2], round := 19 } }
      let f : State := { w with lan := { w.lan with st := [5, 5, 1, 1, 5], tok := [none, none, some 2, some 3], est := [none, none, some 2, some 3] } }
      wit (w.scanDue && w.gridCount (w.periodMs * msec) * w.periodMs % 1000 == 0 && w.laneAfter 2 0 == some 2 && w.laneAfter 2 1 == some 3 && 3 ≤ w.actives.length)
        (.scanStrobe sec [] [(2, .owner)]) w (fun s => s.laneSt 2 == 4 && s.get F.LAN_STAT_CAUSE == 5 && s.get F.LAN_STAT_FLANE == 2 && s.lan.suspect.isEmpty) &&
      wit true (.scanStrobe sec [1] [(2, .agree)]) w (fun s => s.lan.st == w.lan.st && s.flag F.LAN_STAT_WITTRANS_SEEN && s.lan.round == 0) &&
      wit true (.scanStrobe sec [] [(2, .owner)]) f (fun s => s.lan.st == f.lan.st && s.flag F.LAN_STAT_WITTRANS_SEEN && s.evr.pend.contains 74)) &&
     wit (ring0.domainGood 3 && !ring0.laneStalls 4 && !ring0.masterOut) (.switchoverTilesVerified sec) (sw0 x) (fun s => s.lan.sw == some { x with verified := true, caught := true }) &&
     wit true (.switchoverShadowStart sec) (sw0 { x with caught := true }) (fun s => s.get F.LAN_STAT_SW == 2 && s.lan.sw == some { x with caught := true, shadow := some 0 }) &&
     (let a := sw0 { x with shadow := some 16, samples := 3998 }
      wit ((a.laneOf 0).isNone && (a.tokenOf 4).isNone && a.laneSt 4 == 2) (.tokenGrant sec) a (fun s => s.laneOf 0 == some 4 && s.laneSt 4 == 1 && s.lan.sw.isNone
        && s.get F.LAN_STAT_SW == 0 && s.flag F.LAN_STAT_SWDONE_SEEN && s.evr.pend.contains 72 && s.get F.LAN_GAP_LAST == 3999)) &&
     wit true (.switchoverAbandon sec) (sw0 { x with samples := 4000 }) (fun s => s.laneSt 4 == 3 && s.flag F.LAN_STAT_SWFAIL_SEEN && s.get F.LAN_STAT_CAUSE == 4
       && s.get F.LAN_STAT_FLANE == 4 && s.get F.LAN_GAP_LAST == 4095 && s.evr.pend.contains 72) &&
     wit (tst.fences 4 < tst.get F.LAN_CFG_MAXFENCE && !tst.laneStalls 4) (.laneSelftestEnd sec 4 true true 32) tst (fun s => s.laneSt 4 == 2 && nth (0, none) s.flash.bist 4 == (1, some tst.opsec)) &&
     wit true (.laneSelftestEnd sec 4 true true 33) tst (fun s => s.laneSt 4 == 5 && s.flag F.LAN_STAT_BISTFAIL_SEEN) &&
     wit true (.laneSelftestEnd sec 4 true false 0) tst (fun s => s.laneSt 4 == 5 && s.flag F.LAN_STAT_BISTFAIL_SEEN && s.evr.pend.contains 73
       && nth (0, none) s.flash.bist 4 == (3, some tst.opsec)) &&
     wit (d.inRun && d.mule? == some 4 && 3600 * d.get F.LAN_CFG_TESTH ≤ d.opsec) (.muleSelftestDue sec) d (fun s => s.laneSt 4 == 3 && s.lan.testing.contains (4, true))) = true := by
  decide +kernel

theorem test_supervisors :
    (let r := rq 12 []
     let a : State := { ring0 with lan := { ring0.lan with supLast := some 0 } }
     let d : State := { ring0 with lan := { ring0.lan with supDown := true, supRst := some 0 } }
     let p : State := withs [(F.LAN_CFG_ROTDAYS, 1), (F.RST_OPT_ROTPOL, 1)] ring0
     let o : State := p.set F.LAN_CFG_ROTDAYS 0
     wit ring0.lan.supLast.isNone (.supervisorHeartbeatTimeout sec) ring0 (fun s => s.lan.supDown && s.lan.supRst == some sec && s.flag F.LAN_STAT_SUPRST_SEEN
       && s.jobs.isEmpty && s.rst.mode == .run && s.flag ⟨0x10000, 5, 1⟩) &&
     wit true (.supervisorHeartbeatTimeout sec) a (fun s => s.rst.mode == .reset && s.flag ⟨0x10000, 4, 1⟩ && !s.pads.gates) &&
     wit true (.supervisorResumeTimeout sec) d (fun s => [1, 3, 4, 5, 8].all (fun i => s.getI (F.PRT_ENT_DIS.ix8 i) == 0 && s.getI (F.PRT_ENT_CHG.ix8 i) == 0)) &&
     (let k : CodeTile := { tile := 3, core := 1, again := { data := [], crc := 0 } }
      wit (!tilePasses k.again && d.til.recovering.isEmpty) (.supervisorResumed ⟨sec, [k]⟩) d (fun s => s.lan.supDown && s.til.recovering == [{ region := 0, tile := 3, use := .code 1 }])) &&
     wit (!d.coreOut 0 && !d.coreOut 1) (.supervisorResumed ⟨sec, []⟩) d (fun s => !s.lan.supDown && s.lan.supRst.isNone
       && s.getI (F.PRT_ENT_DIS.ix8 4) == (if d.get F.CVI_INS_STAT_STATE = 2 then 0 else noLimit)) &&
     wit ring0.started (.healthHourlyWrite ⟨sec, []⟩) ring0 (fun s => s.flash.hours == ring0.lan.hours && s.flash.opsec == ring0.flash.opsec && s.regs == ring0.regs) &&
     wit (serves ring0 0x0B01 r (Fmt.fixed 0 [])) (.laneStatus sec r) ring0 (fun s => rep s 0x0B01 stOk 0
       (([0xB0000, 0xB0004, 0xB000C, 0xB0010] ++ (List.range 5).map (fun n => 0xB0040 + 4 * n) ++ (List.range 5).map (fun n => 0xB0060 + 4 * n)).flatMap (fun x => leBytes 4 (ring0.view x).toNat))) &&
     (let c : State := { ring0 with til := { ring0.til with recovering := [{ region := 0, tile := 7, use := .config }] } }
      c.cfgOut && !ring0.cfgOut &&
      wit (serves c 0x0B01 r (Fmt.fixed 0 [])) (.laneStatus sec r) c (fun s => rep s 0x0B01 stTileFault 0 [0, 0, 0xFF, 0xFF]) &&
      wit true (.laneRotate sec r) c (fun s => rep s 0x0B02 stTileFault 0 [0, 0, 0xFF, 0xFF] && s.lan == c.lan) &&
      wit true (.selftest sec r) c (fun s => rep s 0x0B03 stTileFault 0 [0, 0, 0xFF, 0xFF] && s.lan == c.lan)) &&
     wit (serves p 0x0B02 r (Fmt.fixed 0 []) && !p.rotOff && p.mule?.isSome) (.laneRotate sec r) p (fun s => rep s 0x0B02 stOk 0 [] && s.flag F.LAN_CFG_ROTPEND) &&
     wit o.rotOff (.laneRotate sec r) o (fun s => rep s 0x0B02 stRefused 0 [9, 0, 0xFF, 0xFF] && !s.flag F.LAN_CFG_ROTPEND) &&
     wit (serves ring0 0x0B03 r (Fmt.fixed 0 []) && ring0.mule? == some 4) (.selftest sec r) ring0
       (fun s => rep s 0x0B03 stAccepted 1 [] && s.lan.testJob == some 1 && s.laneSt 4 == 3 && s.lan.testing.contains (4, true))) = true := by
  decide +kernel

/-- A bay module of role `r`, position 3, in cycle 100. -/
def bay0 (r : Nat) : State :=
  { withs [(F.BAY_POS_ROLE, r), (F.BAY_POS_POS, 3), (F.BAY_POS_VALID, 1)] ring0 with bay := { ring0.bay with src := 3, cycle := some 99, body := List.replicate 40 0, map := [7, 8] } }

theorem test_bay_frames :
    (let m : State := { (bay0 0).setB F.BAY_POS_VALID false with bay := { (bay0 0).bay with takeNext := true } }
     let df := bayFrame 3 0 5 [62, 1, 0, 0]
     let rf := bayFrame 1 9 99 (List.replicate 40 1)
     let af := bayFrame 2 0 99 (List.replicate 16 0)
     let b : List Byte := List.replicate 12 0 ++ [4] ++ List.replicate 51 0 ++ (leBytesI 4 (-5) ++ leBytes 2 6 ++ leBytes 2 7 ++ List.replicate 8 0)
     let h : State := { bay0 0 with bay := { (bay0 0).bay with held := some { cycle := 99, alt := false, body := b, due := 0, ta := 0 } } }
     let a0 := bay0 0
     let a1 := bay0 1
     wit (a1.role == 1 && a1.ethOn 2) (.discoverySend sec) a1 (fun s => s.get F.BAY_POS_POS == 0 && s.bay.discAt == some sec
       && s.out.head? == some (bayMsg 2 (bayFrame 3 0 (a1.get F.BAY_CYCLE_CYCLE) ([0] ++ leBytes 1 (a1.get F.BAY_CFG_BAYID) ++ [0, 0])))) &&
     wit (m.ethOn 2 && m.ethOn 1 && bayParse df == some (3, 0, 5, [62, 1, 0, 0])) (.discoveryReceive sec 2 df) m (fun s => s.get F.BAY_POS_POS == 63 && s.flag F.BAY_POS_VALID
       && s.get F.BAY_POS_UPPORT == 1 && s.out.head? == some (bayMsg 1 (bayFrame 3 0 5 [63, 1, 0, 0]))) &&
     wit m.cycleDue (.dispatchCycleStart sec) m (fun s => s.get F.BAY_CYCLE_CYCLE == 100 && s.bay.cycle == some 100 && s.bay.body.length == 40 && s.bay.src == m.position
       && s.flag F.BAY_POS_DISP && !s.bay.sent) &&
     wit (a0.inCycle 2) (.reportSend sec) a0 (fun s => s.bay.sent && [1, 2].all (fun p => s.out.contains (bayMsg p (bayFrame 1 3 99 (List.replicate 40 0))))) &&
     wit (bayParse rf == some (1, 9, 99, List.replicate 40 1)) (.reportReceive sec 1 rf 4) a0 (fun s => s.out.head? == some (bayMsg 2 rf) && s.bay.reports.isEmpty) &&
     (let a : State := { a1 with bay := { a1.bay with cycle := some 100 } }
      let f := bayFrame 1 9 100 (List.replicate 40 1)
      wit (a.onLine 2 && a.bayEnd && !a.inCycle 6) (.reportReceive sec 2 f 4) a (fun s => assoc? 9 s.bay.reports == some { idx := 100, body := List.replicate 40 1, serial := 4 })) &&
     wit ((bayParse af).isSome) (.allocationReceive sec 1 af) a0 (fun s => s.out.head? == some (bayMsg 2 af)
       && s.bay.held.any (fun h => h.cycle == 99 && h.due == (if a0.get F.TIM_STAT_STATE = 2 then 1010 * msec else sec + 3 * msec))) &&
     wit (b.length == 80) (.allocationApply sec) h (fun s => s.bay.held.isNone && s.bay.applied == some sec && s.getI F.BAY_ALLOC == -5
       && s.ctl.net == some (-5, sec) && s.bay.cap == (600, 700)) &&
     (let a : State := withs [(F.BAY_CFG_ALLOCTMO, 5), (F.CTL_SPCFG_SRC, 0)] a0
      wit (a.bay.applied.getD a.bay.startAt + 50 * msec ≤ a.now && a.get F.CTL_SPCFG_SRC == 0) (.allocationTimeout sec) a (fun s => s.bay.cap == (0, 0)
        && s.getI (F.PRT_ENT_DIS.ix8 8) == 0 && s.getI (F.PRT_ENT_CHG.ix8 8) == 0))) = true := by
  decide +kernel

theorem test_bay_dispatch :
    (let a1 := withs [(F.BAY_POS_DISP, 1), (F.BAY_CTRL_PTMO, 1), (F.BAY_CTRL_PSRC, 0)] (bay0 1)
     let n1 := (bay0 1).setB F.BAY_POS_DISP false
     let n2 := (bay0 2).setB F.BAY_POS_DISP false
     let r := rq 11 (leBytesI 4 (-9))
     let mf : Fmt := { len := fun p => p.isEmpty || (decide (4 ≤ p.length) && p.length == 4 + 4 * uAt p 1 1), pad := [2, 3], flagsAt := some (0, 1) }
     let m0 := rq 12 []
     let m1 := rq 12 ([0, 2, 0, 0] ++ leBytes 4 5 ++ leBytes 4 6)
     let y := rq 12 (List.replicate 10 0 ++ [63] ++ List.replicate 13 0)
     let yf : Fmt := { len := fun p => decide (24 ≤ p.length) && decide (p.length ≤ 1400) }
     wit (a1.inCycle 6 && !a1.bay.computed) (.allocationCompute sec) a1 (fun s => s.bay.computed && s.flag F.BAY_POS_DISP
       && s.out.any (fun o => match o with | .bayEth 2 _ _ _ f => (bayParse f).any (fun x => x.1 == 2 && x.2.2.2.length == 48) | _ => false)) &&
     wit (a1.bayEnd) (.pbayTimeout sec) a1 (fun s => s.bay.pbay == 0 && s.flag F.BAY_STAT_PTMO) &&
     wit n1.bay.heardAt.isNone (.bellwetherStartTimeout sec) n1 (fun s => s.flag F.BAY_POS_DISP && !s.flag F.BAY_POS_STANDBY) &&
     wit (!n2.bay.takeNext) (.alternateTakeover sec) n2 (fun s => s.bay.takeNext && s.flag F.BAY_STAT_TAKEOVER_SEEN && s.evr.pend.contains 82) &&
     (let a := (bay0 2).setB F.BAY_POS_DISP true
      wit ((a.writeErr 0xC0008 (a.withField F.BAY_CTRL_HANDBACK 1)).isNone) (.handbackWrite sec) a (fun s => s.bay.handover)) &&
     wit (serves a1 0x0A01 r (Fmt.fixed 4 [])) (.baySetpoint sec r) a1 (fun s => rep s 0x0A01 stOk 0 [] && s.bay.pbay == -9 && s.getI F.BAY_PBAY == -9) &&
     wit (!(bay0 0).bayEnd) (.baySetpoint sec r) (bay0 0) (fun s => (s.session 0).cache.any (fun c => c.2.all (fun p => p.status == stNotBellwether)) && s.bay.pbay == 0) &&
     wit (serves a1 0x0A02 m0 mf) (.bayMap sec m0) a1 (fun s => rep s 0x0A02 stOk 0 ([0, 2, 0, 0] ++ leBytes 4 7 ++ leBytes 4 8) && s.bay.map == [7, 8]) &&
     wit (serves a1 0x0A02 m1 mf) (.bayMap sec m1) a1 (fun s => rep s 0x0A02 stOk 0 m1.payload && s.bay.map == [5, 6] && s.get F.BAY_STAT_NMAP == 2) &&
     wit (serves (bay0 0) 0x0A03 y yf) (.relay sec y) (bay0 0) (fun s => s.bay.relay == [[], [y.payload]] && s.host.waiting.map (fun w => (w.why, w.since)) == [(.relay, sec)]) &&
     (let a : State := { bay0 0 with host := { ring0.host with waiting := [wait .relay 0x0A03 y] } }
      wit true (.relayTimeout sec) a (fun s => s.host.waiting.isEmpty))) = true := by
  decide +kernel

/-! ## Packets, sessions, the router -/

theorem test_packets :
    (let p : Pkt := { flags := 4, session := 0, cls := 12, seq := 1, opcode := 0x0101, target := 0xFF, status := 0, jobid := 0, payload := leBytes 4 0x10000, key := [1#8] }
     let r := rq 12 (leBytes 4 0x10000)
     let e : State := run0.set F.TIM_IP4 0xC0A80001
     let o : State := { run0 with host := { run0.host with spiOut := [{ p with key := [], flags := 1 }] } }
     wit (e.receives .eth1 && e.ipOn .eth1 7) (.packetReceive 0 .eth1 7 (List.replicate 23 0)) e (fun s => s.get F.GLB_PKTERR_CRCERR == 1 && s.host == e.host) &&
     wit (run0.receives .spi) (.spiWrite 0 (puts [(23, 1)] (List.replicate 24 0))) run0 (fun s => s.get F.GLB_PKTERR_CRCERR == 1 && s.host == run0.host) &&
     wit (reqOf .eth1 7 p.bytes == r && (e.headErr r p.bytes).isNone && reservedOk r p.bytes && e.tagOk r p.bytes && e.isOpen 0
         && ((e.accept r).refusal 0x0101 r).isNone)
       (.packetReceive 0 .eth1 7 p.bytes) e (fun s => (s.session 0).cmdq == [{ ord := 0, op := 0x0101, bcast := false, prov := false, req := r }] && (s.session 0).l == 1) &&
     wit (run0.portOpen .spi && !run0.spiEarly .spi) (.spiStatus 0) o (fun s => s.out.length == 1) &&
     wit run0.rst.parkReq.isNone (.spiRead 0 3) run0 (fun s => s.out == [.spi [0, 0, 0]]) &&
     wit true (.spiRead 0 28) o (fun s => s.host.spiOut.isEmpty && s.out == [.spi ({ p with key := [], flags := 1 } : Pkt).bytes]) &&
     wit true (.spiRead 0 27) o (fun s => s.host.spiOut.length == 1 && s.out == [.spi (({ p with key := [], flags := 1 } : Pkt).bytes.take 27)])) = true := by
  decide +kernel

theorem test_sessions :
    (let a : State := { run0 with flash := { run0.flash with keys := [(2, [9])] } }
     let h : Req := { rq 12 (List.replicate 16 0 ++ [2, 0, 0, 0]) with session := 0xFF, auth := false }
     let b : State := { run0 with now := 100 * sec, jobs := [{ job1 0x0503 with st := .done }], host := { run0.host with sess := svc :: { svc with st := .pending } :: List.replicate 6 {}, owner := some 0, lockout := [(7, 0)], prov := { used := true } :: List.replicate 7 {} } }
     let u : Req := { rq 12 [1, 0, 0, 0] with session := 1 }
     let c : State := { b with host := { b.host with owner := none } }
     let m := rq 12 []
     let g := rq 12 [1, 2, 3]
     wit (a.portOpen .eth1 && !a.s0Down && !a.provClosed h && ((Fmt.fixed 20 [17, 18, 19]).check h.payload).isNone && !a.lockedOut (srcAddr h) && a.freeSession 0xFF == some 1)
       (.hello 0 h) a (fun s => (s.session 1).st == .pending && (s.session 1).slot == 2 && s.host.nonces == 1) &&
     wit (!c.provClosed u && (authFmt.check u.payload).isNone) (.auth c.now u) c (fun s => (s.session 1).st == .opened && (s.session 1).l == 1 && s.host.owner == some 1) &&
     wit (serves run0 3 m (Fmt.fixed 0 [])) (.bye 0 m) run0 (fun s => rep s 3 stOk 0 [] && s.host.closing.any (fun c => c.1 == 0) && (s.session 0).cmdq.isEmpty) &&
     wit (serves run0 4 g pingFmt) (.ping 0 g) run0 (fun s => rep s 4 stOk 0 [1, 2, 3]) &&
     wit (!run0.provisional { g with auth := false }) (.ping 0 { g with auth := false }) run0 (fun s => match s.out with
       | .packet .eth1 7 p :: _ => p.payload == g.payload && p.key.isEmpty && p.seq == 1 && p.status == stOk
       | _ => false) &&
     wit ((b.session 1).since + 5 * sec ≤ b.now) (.authTimeout b.now 1) b (fun s => (s.session 1).st == .free) &&
     wit (b.isOpen 0) (.sessionIdleTimeout b.now 0) b (fun s => (s.session 0).st == .free && s.host.owner == none) &&
     wit true (.helloLockoutExpire b.now 7) b (fun s => s.host.lockout.isEmpty && s.regs == b.regs) &&
     wit true (.provisioningContextExpire b.now 0) b (fun s => s.host.prov[0]? == some ({} : ProvCtx) && s.regs == b.regs) &&
     wit ((b.job? 1).isSome) (.jobTableExpire b.now 1) b (fun s => s.jobs.isEmpty)) = true := by
  decide +kernel

theorem test_router :
    (let w : State := { run0 with now := sec, evr := { run0.evr with waits := [(8, 0)] } }
     let a := withs [(F.EVR_CTRL_REDIR, 100), (F.EVR_TGT_FB.ix 8, 1)] w
     let d := (regDef? 0x20120).map (·.rw)
     wit (namedSource 8 && (writable 0x20120).isSome && (run0.writeErr 0x20120 0x1809).isNone) (.evrTgtWrite 0 8 0x1809) run0
       (fun s => d == some 0x1FFFF && (s.word 0x20120).toNat == (((run0.word 0x20120).toNat &&& 0xFFFE0000) ||| 0x1809)) &&
     wit true (.evrTgtWrite 0 128 5) run0 (fun s => s.word 0x20300 == run0.word 0x20300 && s.evr.moved.isEmpty) &&
     wit ((run0.writeErr 0x20008 1).isNone) (.evrHoldWrite 0 true) run0 (fun s => s.flag F.EVR_GDIS_HOLD && s.evr.shown == [none, none, none, none]) &&
     wit ((run0.writeErr 0x2000C 15).isNone) (.evrSleepWrite 0 15) run0 (fun s => s.get F.EVR_HCTL_SLEEP == 15) &&
     wit (F.EVR_TGT_FB.of (a.tgtWord 8) != 0) (.evrRedirectTimeout sec 8) a (fun s => s.evr.moved == [8] && s.flag F.EVR_STAT_REDIR_SEEN) &&
     wit true (.routerTestEnd 0) (run0.set F.EVR_STAT_MODE 1) (fun s => s.get F.EVR_STAT_MODE == 2)) = true := by
  decide +kernel

theorem test_claims :
    (let a : State := { run0.set (F.EVR_TGT_TGT.ix 8) 9 with now := sec, evr := { run0.evr with pend := [8], withdrawn := [1], act := [(16, 8)], cnt := [(16, 2)] } }
     let q : Pkt := { flags := 0, session := 0, cls := 12, seq := 1, opcode := 1, target := 0xFF, status := 0, jobid := 0, payload := [], key := [] }
     let e : State := { run0 with now := sec, host := { run0.host with sess := { svc with mask := 0x10000, eventq := [{ seq := 1, pkt := q, sends := 1, sentAt := 0 }] } :: List.replicate 7 {} } }
     let m := rq 12 (leBytes 24 0x10000 ++ [1, 0, 0, 0])
     let sf : Fmt := { len := fun p => p.length == 28, pad := [25, 26, 27], flagsAt := some (24, 1) }
     let k := rq 12 [1, 0, 0, 0]
     let h := (List.range 4).findIdx (fun h => (a.presents h).isSome)
     wit (serves a 0x0703 (rq 12 (leBytes 1 h)) (Fmt.fixed 1 []) && a.presents h == some 8) (.attnClaim sec (rq 12 (leBytes 1 h))) a
       (fun s => rep s 0x0703 stOk 0 [8] && s.evr.pend.isEmpty && s.evr.act == [(8, 8 + h), (16, 8)]) &&
     wit ((a.presents 3).isNone) (.attnClaim sec (rq 12 [3])) a (fun s => rep s 0x0703 stOk 0 [0xFF] && !s.flag F.EVR_STAT_SPUR_SEEN) &&
     wit (serves a 0x0704 (rq 12 [0, 16]) (Fmt.fixed 2 [])) (.attnEoi sec (rq 12 [0, 16])) a (fun s => rep s 0x0704 stOk 0 [] && s.evr.act.isEmpty) &&
     wit true (.attnEoi sec (rq 12 [1, 16])) a (fun s => rep s 0x0704 stBadParam 0 [0, 0, 1, 0] && s.evr.act == a.evr.act) &&
     wit true (.eventReport sec 16) { e with evr := a.evr } (fun s => (assoc? 16 s.evr.cnt).isNone && (match s.out with
       | [.packet .eth1 7 p] => p.opcode == 0x0700 && p.session == 0 && p.seq == 1 && uAt p.payload 0 2 == 16 && uAt p.payload 2 1 == 2
       | _ => false)) &&
     (let v : State := { e with evr := a.evr, host := { e.host with sess := [{ svc with mask := 0x10000, via := .spi }] } }
      wit (v.isOpen 0 && !v.s1Down) (.eventReport sec 16) v (fun s => s.out.isEmpty && s.host.spiOut.any (fun p => p.opcode == 0x0700 && uAt p.payload 0 2 == 16))) &&
     wit (e.isOpen 0) (.eventResend sec 0) e (fun s => s.out == [.packet .eth1 7 q] && (s.session 0).eventq.all (fun x => sec < x.sentAt + sec)) &&
     wit (serves run0 0x0701 m sf) (.eventSubscribe 0 m) run0 (fun s => rep s 0x0701 stOk 0 [] && (s.session 0).mask == 0x10000 && (s.session 0).reliable) &&
     wit (serves e 0x0702 k (Fmt.fixed 4 [2, 3])) (.eventAck sec k) e (fun s => rep s 0x0702 stOk 0 [] && (s.session 0).eventq.isEmpty)) = true := by
  decide +kernel

/-! ## Jobs, status, tiles -/

/-- The payload of the reply in front of session 0's cache. -/
def pay (s : State) : List Byte :=
  match (s.session 0).cache with
  | (1, ps) :: _ => (ps.map (·.payload)).flatten
  | _ => []

theorem test_jobs :
    (let j := fun (op : Nat) (st : JobSt) => { ring0 with jobs := [{ job1 op with st := st, value := 5, final := 3 }], cvi := { ring0.cvi with cmJob := some 1 } }
     let r := rq 12 [1, 0, 0, 0]
     let u := rq 12 [2, 0, 0, 0]
     let b := fun (st v : Nat) => leBytes 1 st ++ [1, 3, 0] ++ leBytes 4 v ++ leBytes 4 7
     wit (serves ring0 0x0601 u (Fmt.fixed 4 [2, 3])) (.jobStatus sec u) (j 0x0503 .done) (fun s => rep s 0x0601 stBadParam 0 [0, 0, 0, 0]) &&
     wit true (.jobStatus sec r) (j 0x0503 .done) (fun s => rep s 0x0601 stOk 0 (b JobSt.done.code 5)) &&
     wit true (.jobStatus sec r) (j 0x0503 .running) (fun s => rep s 0x0601 stOk 0 (b 0 (uAt (pay s) 4 4)) && 5 ≤ uAt (pay s) 4 4) &&
     wit (serves ring0 0x0602 r (Fmt.fixed 4 [2, 3])) (.jobCancel sec r) (j 0x0503 .done) (fun s => rep s 0x0602 stOk 0 [] && s.jobs == (j 0x0503 .done).jobs) &&
     wit true (.jobCancel sec r) (j 0x0903 .running) (fun s => rep s 0x0602 stRefused 0 [14, 0, 0xFF, 0xFF] && s.jobs == (j 0x0903 .running).jobs) &&
     wit true (.jobCancel sec r) (j 0x0C03 .running) (fun s => rep s 0x0602 stOk 0 [] && s.cvi.cmJob.isNone && (s.job? 1).any (fun j => j.st == .cancelled && j.final == stRefused))) = true := by
  decide +kernel

theorem test_status :
    (let m := rq 12 []
     let c := rq 12 [32, 0, 2, 0]
     let z := rq 12 [0, 0, 1, 0]
     let a := withs [(F.PRT_ENT_DIS.ix8 9, 77), (F.EST_STR_SOC_USOC, 1234), (F.PRT_CONTSTAT_CONN, 4), (F.CVI_INS_STAT_STATE, 2), (F.RST_BOOT_SLOT, 1)] ring0
     let g : State := { a with cfg := { a.cfg with staged := [(0x40000, 0)] } }
     let n : State := { a with rst := { a.rst with mode := .recovery } }
     let e : State := { a with est := { a.est with cells := modNth a.est.cells 31 (fun _ => { init := true, qrem := 1000000, cap := 1000 }) } }
     wit (serves a 0x0201 m (Fmt.fixed 0 [])) (.getStatus sec m) a (fun s => (pay s).length == 48 && uAt (pay s) 0 1 == a.get F.RST_STAT_MSTATE && uAt (pay s) 1 1 == a.get F.RST_BOOT_SLOT
       && [(8, 0x110010), (12, 0x110014), (16, 0x10000), (20, 0x80030), (24, 0x8002C), (28, 0xA0000), (32, 0x30004),
          (36, 0x70004), (40, 0xC0000)].all (fun x => uAt (pay s) x.1 4 == ((taken a m).view x.2).toNat) && uAt (pay s) 44 4 == b2n (decide (a.get F.ACQ_CFG_WIN % 4 ≠ 0)) + 4 * b2n (a.flag F.GLB_SESS_PROV)) &&
     wit (serves g 0x0201 m (Fmt.fixed 0 [])) (.getStatus sec m) g (fun s => (uAt (pay s) 44 4).testBit 1) &&
     wit (serves n 0x0201 m (Fmt.fixed 0 [])) (.getStatus sec m) n (fun s => (pay s).drop 8 == List.replicate 40 0) &&
     wit (serves a 0x0202 c (Fmt.fixed 4 []) && !a.groupOk 33) (.getCells sec c) a (fun s => (pay s).length == 40 && slice (pay s) 20 20 == List.replicate 17 0 ++ [4, 0, 0]) &&
     wit (e.groupOk 32 && (e.cell 32).init) (.getCells sec c) e (fun s => uAt (pay s) 0 4 == e.cellV 32 % 1048576 && uAt (pay s) 6 2 == pct (e.cell 32).soc && !(uAt (pay s) 17 1).testBit 2) &&
     wit (!(a.cell 32).init) (.getCells sec c) a (fun s => uAt (pay s) 6 6 == 0) &&
     wit true (.getCells sec z) a (fun s => rep s 0x0202 stBadParam 0 [0, 0, 0, 0]) &&
     wit (serves a 0x0203 m (Fmt.fixed 0 [])) (.getString sec m) a (fun s => (pay s).length == 48 && uAt (pay s) 20 2 == 1234 && uAt (pay s) 44 1 == 2 && uAt (pay s) 45 1 == 4
       && [(0, 0x50010), (4, 0x5001C), (8, 0x50020), (12, 0x50014), (16, 0x50018), (28, 0x60028), (32, 0x6002C), (36, 0x9001C), (40, 0x50034)].all (fun x => uAt (pay s) x.1 4 == (a.word x.2).toNat)) &&
     wit (serves a 0x0204 m (Fmt.fixed 0 [])) (.getLimits sec m) a (fun s => (pay s).length == 92 && uAt (pay s) 0 4 == a.get F.PRT_LDIS && uAt (pay s) 84 4 == 77 && uAt (pay s) 88 4 == a.get (F.PRT_ENT_CHG.ix8 9)) &&
     wit (serves a 0x0205 m (Fmt.fixed 0 [])) (.getHealth sec m) a (fun s => (pay s).length == 92 && uAt (pay s) 16 4 == a.hoursWord 4 && uAt (pay s) 40 4 == (a.view 0x100000).toNat
       && uAt (pay s) 72 2 == 366 - a.flash.retBlocks) &&
     wit (serves a 0x0E01 m (Fmt.fixed 0 [])) (.safeStatus sec m) a (fun s => (pay s).length == 24 && uAt (pay s) 20 4 == (a.word 0xA0014).toNat)) = true := by
  decide +kernel

/-- A tile of zeros with its CRC. -/
def zeroTile : TileRead := { data := (List.replicate 8 (List.replicate 32 (0 : Byte))).flatten, crc := 0xB872B190 }

theorem crc_zeros (c d : Nat) (n : Nat) (h : (List.replicate 32 (0 : Byte)).foldl crc32cByte c = d) :
    ((List.replicate (n + 1) (List.replicate 32 (0 : Byte))).flatten).foldl crc32cByte c = ((List.replicate n (List.replicate 32 (0 : Byte))).flatten).foldl crc32cByte d := by
  rw [List.replicate_succ, List.flatten_cons, List.foldl_append, h]

theorem test_tile_passes : tilePasses zeroTile = true := by
  have h : zeroTile.data.foldl crc32cByte 0xFFFFFFFF = 0x478d4e6f := by
    unfold zeroTile
    rw [crc_zeros _ 0x756ec955 _ (by decide +kernel), crc_zeros _ 0xfc371498 _ (by decide +kernel), crc_zeros _ 0xae0dfb54 _ (by decide +kernel),
      crc_zeros _ 0xf7d89b24 _ (by decide +kernel), crc_zeros _ 0x1c545c65 _ (by decide +kernel), crc_zeros _ 0x8bca87cf _ (by decide +kernel),
      crc_zeros _ 0xb7050ee9 _ (by decide +kernel), crc_zeros _ 0x478d4e6f _ (by decide +kernel)]
    rfl
  have l : zeroTile.data.length = 256 := by decide +kernel
  have c : crc32c zeroTile.data = zeroTile.crc := by rw [crc32c, h]; rfl
  simp [tilePasses, l, c]

/-- Loads that pass: the first at once, the second after a repetition that also ends the mark. -/
theorem test_tile_loads_pass :
    (let a : State := { ring0 with til := { ring0.til with suspect := [2] } }
     a.tileLive 0 33791 && a.til.recovering.isEmpty && a.get F.TIL_STAT_RETRYOK == 0 && a.marked 0 33791 && !tilePasses { data := [], crc := 0 }) = true ∧
    tilePasses zeroTile = true := ⟨by decide +kernel, test_tile_passes⟩

theorem test_tiles :
    (let bad : TileRead := { data := [], crc := 0 }
     let a : State := { ring0.set F.TIL_SCRUBCFG_PERIOD 24 with til := { ring0.til with cursor := 32767, loadAt := 0 } }
     let n : State := { a with flash := { a.flash with badSpares := 1024 } }
     let v : State := { a with til := { a.til with recovering := [{ region := 0, tile := 5, use := .code 1 }] } }
     let j : State := { a with til := { a.til with scrub := some (0, 32767, 3, 1) }, jobs := [job1 0x0F02] }
     let w : State := { a with til := { a.til with suspect := [2] } }
     let p : State := { a with lan := { a.lan with st := [1, 1, 1, 1, 1] }, til := { a.til with lanePass := [(0, 0), (1055, 0), (0, 0), (0, 0), (3, 0)] } }
     let q := fun (g f c : Nat) => rq 12 (leBytes 1 g ++ [0, 0, 0] ++ leBytes 4 f ++ leBytes 4 c)
     !tilePasses bad &&
     wit (w.tileLive 0 7) (.tileLoadMismatch sec 0 7 .tables ⟨bad, true⟩ bad) w (fun s => s.flag F.TIL_STAT_SUSPECT_SEEN && s.flash.tiles.isEmpty && s.til.recovering == [{ region := 0, tile := 7, use := .tables }]) &&
     wit (0 < a.mainSpares) (.tileLoadMismatch sec 0 7 (.code 0) ⟨bad, false⟩ bad) a (fun s => s.flash.tiles == [(0, 7)] && s.flag F.TIL_STAT_RETIRE_SEEN && s.evr.pend.contains 112
       && s.get F.TIL_LAST_TILE == 7 && s.get F.TIL_LAST_POLICY == policyRow 0 (.code 0) && s.til.recovering == [{ region := 0, tile := 7, use := .code 0 }]) &&
     wit (n.mainSpares == 0) (.tileLoadMismatch sec 0 7 (.code 0) ⟨bad, false⟩ bad) n (fun s => s.flag F.TIL_STAT_NOSPARE && s.flash.tiles.isEmpty && s.evr.pend.contains 113) &&
     wit true (.tileRecoveryDone sec 0 5) v (fun s => s.til.recovering.isEmpty && s.est == v.est) &&
     wit a.scrubDue (.scrubTick sec ⟨0, 1⟩ 2) a (fun s => s.til.cursor == 0 && s.til.passAt == a.opsec + 3600 * 24) &&
     wit true (.scrubTick sec ⟨0, 64⟩ 2) { a with til := { a.til with cursor := 1 } } (fun s => s.til.cursor == 65 && s.til.loadAt == sec && s.flash.badSpares == 2) &&
     wit (p.laneScrubDue 1) (.scrubTick sec ⟨2, 1⟩ 40) p (fun s => nth (0, 0) s.til.lanePass 1 == (0, p.opsec + 3600 * 24) && nth 0 s.flash.laneBad 1 == 32) &&
     wit (p.laneScrubDue 4) (.scrubTick sec ⟨5, 1⟩ 1) p (fun s => nth (0, 0) s.til.lanePass 4 == (4, 0) && nth 0 s.flash.laneBad 4 == 1) &&
     wit (serves a 0x0F02 (q 0 33791 1) (Fmt.fixed 12 [1, 2, 3]) && !a.cfgOut) (.tileScrub sec (q 0 33791 1)) a (fun s => rep s 0x0F02 stAccepted 1 [] && s.til.scrub == some (0, 33791, 1, 1)) &&
     wit true (.tileScrub sec (q 6 0 1)) a (fun s => rep s 0x0F02 stBadParam 0 [0, 0, 0, 0] && s.til.scrub.isNone) &&
     wit ((j.job? 1).isSome && !j.s1Down) (.tileScrubDone ⟨sec, 9⟩) j (fun s => s.til.scrub.isNone && s.flash.badSpares == 2 && (s.job? 1).any (fun j => j.st == .done && j.value == 7))) = true := by
  decide +kernel

/-! ## Recorder, update, calibration -/

theorem test_recorder :
    (let x : RecInt := { opsec := 5 }
     let a : State := { ring0 with now := 2 * sec, rcd := { ring0.rcd with q42 := [x], tickAt := sec } }
     let b : State := a.set F.REC_OPSEC 3599
     let e : RecEnt := { no := 4, marked := false, r := x }
     let d : State := { (a.set F.REC_OPSEC (91 * 86400)) with flash := { a.flash with hourly := [e], recNext := 5 } }
     let f : State := { a.setB F.REC_STATE_FROZEN true with rcd := { a.rcd with pend := [x, { x with opsec := 6 }], frozenSec := 86400 } }
     let r := rq 12 []
     let q := fun (n : Nat) => rq 12 (leBytes 4 n ++ [1, 0, 0, 0])
     wit (a.rcd.tickAt + sec ≤ a.now) (.operatingTimeTick a.now) a (fun s => s.opsec == a.opsec + 1 && s.rcd.tickAt == a.now && s.rcd.cur.dur == 1 && s.flash.hours == s.lan.hours) &&
     wit (b.opsec == 3599) (.operatingTimeTick a.now) b (fun s => s.opsec == 3600 && s.rcd.cur.opsec == 3600 && s.rcd.cur.dur == 0) &&
     wit a.recWritable (.recordWriteDone a.now []) a (fun s => s.flash.hourly.map (fun e => (e.no, e.marked, e.r)) == [(a.flash.recNext, false, x)]
       && s.flash.recNext == a.flash.recNext + 1 && s.get F.REC_LAST == a.flash.recNext) &&
     (let v : State := { a.setB F.REC_STATE_FROZEN true with rcd := { a.rcd with q42 := [{ x with flags := 1 }], inWrite := true } }
      wit v.recWritable (.recordWriteDone a.now []) v (fun s => s.flag F.REC_STATE_SAT_SEEN && s.evr.pend.contains 116 && assoc? 116 s.evr.cnt == some 1
        && s.rcd.q42.isEmpty && !s.rcd.inWrite)) &&
     wit (d.mergeDay == some 0 && !d.s1Down) (.dailyMerge ⟨a.now, []⟩) d (fun s => s.flash.recNext == 6 && s.flash.hourly.all (·.marked) && s.flash.daily.map (fun e => (e.no, e.marked, e.r.kind)) == [(5, false, 2)]) &&
     wit true (.recFreezeExpire a.now) f (fun s => !s.flag F.REC_STATE_FROZEN && s.get F.REC_EXPIRE == 0 && s.flag F.REC_STATE_EXPIRED_SEEN && s.evr.pend.contains 115 && s.rcd.pend.isEmpty) &&
     wit (serves a 0x0801 r (Fmt.fixed 0 [])) (.recFreeze a.now r) a (fun s => rep s 0x0801 stOk 0 (leBytes 4 86400) && s.flag F.REC_STATE_FROZEN && s.get F.REC_EXPIRE == 86400) &&
     wit (serves f 0x0803 r (Fmt.fixed 0 [])) (.recUnfreeze a.now r) f (fun s => rep s 0x0803 stOk 0 [] && !s.flag F.REC_STATE_FROZEN && s.rcd.q42.map (·.opsec) == [5, 5, 6]) &&
     wit true (.recUnfreeze a.now r) a (fun s => rep s 0x0803 stOk 0 [] && s.rcd == a.rcd) &&
     (let u : State := { d with rcd := { d.rcd with q43 := 4 } }
      wit (u.fill 43 == queueDepth 43) (.recRead a.now (q 4)) u (fun s => rep s 0x0802 stBusy 0 [0, 0, 0xFF, 0xFF] && s.flash.hourly == [e])) &&
     wit (serves d 0x0802 (q 4) (Fmt.fixed 8 [5, 6, 7]) && d.recFrom 4 == some e && decide (d.fill 43 < queueDepth 43)) (.recRead a.now (q 4)) d (fun s => (pay s).take 8 == [1, 0, 0, 0, 5, 0, 0, 0] && (pay s).length == 8 + e.bytes.length) &&
     wit (d.flash.recNext ≤ 5) (.recRead a.now (q 5)) d (fun s => rep s 0x0802 stBadParam 0 [0, 0, 0, 0])) = true := by
  decide +kernel

/-- Each counter of an interval one short of its maximum, then beyond it. -/
theorem test_recorder_saturates :
    (let x : RecInt := { dur := 4294967295, park := 4294967295, merged := 65535, qdis := 18446744073709551615, qchg := 18446744073709551615, ihist := List.replicate 32 4294967295, bal := [(1, 4294967295000)] }
     let a : State := { ring0 with rcd := { ring0.rcd with cur := x } }
     let m := x.merge x 2
     let raw := puts [(2, 2)] (List.replicate 96 0)
     binAdd x.ihist 31 1 == (x.ihist, true) && (binAdd [4294967294] 0 1).2 == false &&
     (a.recCharge 1).rcd.cur.qdis == x.qdis && (a.recCharge 1).rcd.cur.flags.testBit 0 && (a.recCharge (-1)).rcd.cur.flags.testBit 0 &&
     decide ((assoc? 1 x.bal).getD 0 ≤ 4294967295000) && decide (4294967295000 < (assoc? 1 (a.recRecord 1 raw).rcd.cur.bal).getD 0) && (a.recRecord 1 raw).rcd.cur.flags.testBit 0 &&
     a.recSecond.rcd.cur.dur == 4294967295 && a.recSecond.rcd.cur.flags.testBit 0 &&
     m.flags.testBit 0 && m.dur == 4294967295 && m.park == 4294967295 && m.merged == 65535 && nth 0 m.ihist 31 == 4294967295) = true := by
  decide +kernel

theorem test_updates :
    (let a : State := withs [(F.SAF_STAT_STATE, 1), (F.RST_VAUX_VAUX, 12000), (F.CVI_I, 0), (F.RST_BOOT_SLOT, 0)] ring0
     let bg := rq 12 ([0, 0, 0, 0] ++ leBytes 4 4128 ++ leBytes 4 4096 ++ leBytes 4 0)
     let h : List Byte := leBytes 2 0x5553 ++ [1, 0] ++ leBytes 4 4096 ++ List.replicate 24 0
     let o : State := { withs [(F.UPD_STATE_PHASE, 1)] a with upd := { a.upd with open_ := some (0, 4128, 4096, 0, 0) } }
     wit (serves a 0x0901 bg (Fmt.fixed 16 [1, 2, 3]) && a.updTarget == 1 && a.updReason.isNone && (a.updParam bg.payload).isNone) (.updBegin sec bg) a
       (fun s => rep s 0x0901 stOk 0 [] && s.get F.UPD_STATE_PHASE == 1 && s.get F.UPD_STATE_TARGET == 1 && (s.imgSlot 1).st == 4) &&
     wit ((ring0.set F.RST_VAUX_VAUX 0).updReason.isSome) (.updBegin sec bg) (ring0.set F.RST_VAUX_VAUX 0) (fun s => (pay s).length == 4 && s.upd == ring0.upd) &&
     wit (serves o 0x0902 (rq 12 (leBytes 4 0 ++ h)) { len := fun p => decide (5 ≤ p.length) && decide (p.length ≤ 1400) } && streamHeaderOk h 0 4096 0)
       (.updData sec (rq 12 (leBytes 4 0 ++ h))) o (fun s => rep s 0x0902 stOk 0 [] && s.upd.data == h && s.get F.UPD_RECV_BYTES == 32) &&
     (let w : State := { o with upd := { o.upd with q46 := 32 } }
      let b := rq 12 (leBytes 4 0 ++ h)
      wit (serves o 0x0902 { b with session := 0 } { len := fun p => decide (5 ≤ p.length) && decide (p.length ≤ 1400) } && o.fill 46 == 0 && w.fill 46 == queueDepth 46)
        (.updData sec b) w (fun s => rep s 0x0902 stBusy 0 [0, 0, 0xFF, 0xFF] && s.upd == w.upd) &&
      wit true (.updData sec b) (o.set F.UPD_STATE_SESSION 1) (fun s => rep s 0x0902 stBusy 0 [0, 0, 0xFF, 0xFF] && s.upd == o.upd)) &&
     wit (!streamHeaderOk (List.replicate 32 0) 0 4096 0) (.updData sec (rq 12 (leBytes 4 0 ++ List.replicate 32 0))) o
       (fun s => rep s 0x0902 stBadParam 0 [0, 0, 4, 0] && s.get F.UPD_STATE_PHASE == 0 && s.upd.open_.isNone)) = true := by
  decide +kernel

theorem test_update_ends :
    (let a : State := withs [(F.SAF_STAT_STATE, 1), (F.RST_VAUX_VAUX, 12000), (F.CVI_I, 0), (F.RST_BOOT_SLOT, 0)] ring0
     let h : List Byte := leBytes 2 0x5553 ++ [1, 0] ++ leBytes 4 4096 ++ List.replicate 24 0
     let o : State := { withs [(F.UPD_STATE_PHASE, 1)] a with upd := { a.upd with open_ := some (0, 4128, 4096, 0, 0) } }
     let f : State := { o with upd := { open_ := some (0, 31, 4096, 0, 0), data := List.replicate 31 0 } }
     let p : State := { withs [(F.UPD_STATE_PHASE, 2), (F.UPD_STATE_TARGET, 1)] a with upd := { open_ := some (0, 32, 4096, 0, 0), data := h } }
     let c : State := { withs [(F.UPD_STATE_PHASE, 4)] a with upd := { trialOp := some 0 } }
     let x : State := c.set F.REC_OPSEC 600
     let r := rq 12 []
     wit (f.updReason.isNone) (.updApply sec r) f (fun s => rep s 0x0903 stAccepted 1 [] && s.get F.UPD_STATE_PHASE == 2 && s.upd.job == some 1) &&
     wit true (.updApplyDone sec { ok := false, cut := some 7 }) p (fun s => s.rst.mode == .off && s.flash.slots.map (·.st) == p.flash.slots.map (·.st) && s.flash.opt == p.flash.opt) &&
     wit (p.updCheck 0 4096 0 false == .inl 2) (.updApplyDone sec { ok := false }) p (fun s => s.get F.UPD_STATE_PHASE == 0 && s.get F.UPD_STATE_FAILSTEP == 2
       && s.flag F.UPD_STATE_FAIL_SEEN && s.upd.open_.isNone) &&
     wit (serves c 0x0904 r (Fmt.fixed 0 []) && c.trialLeft == 600) (.updConfirm sec r) c (fun s => rep s 0x0904 stOk 0 [] && s.get F.UPD_STATE_PHASE == 0
       && (s.imgSlot 0).st == 1 && s.evr.pend.contains 120) &&
     wit true (.updConfirm sec r) a (fun s => rep s 0x0904 stRefused 0 [13, 0, 0xFF, 0xFF]) &&
     wit (serves p 0x0905 r (Fmt.fixed 0 [])) (.updAbort sec r) p (fun s => rep s 0x0905 stOk 0 [] && s.get F.UPD_STATE_PHASE == 0 && s.upd.open_.isNone) &&
     wit true (.updAbort sec r) a (fun s => rep s 0x0905 stOk 0 [] && s.upd == a.upd) &&
     wit (x.trialLeft == 0) (.updTrialExpire sec) x (fun s => s.get F.UPD_STATE_PHASE == 5 && s.flag F.UPD_STATE_EXPIRE_SEEN && (s.imgSlot 0).expired && s.evr.pend.contains 118)) = true := by
  decide +kernel

theorem test_calibration :
    (let r := rq 12 []
     let w := rq 12 (List.replicate 96 0)
     let o : State := ring0.set F.PRT_CONTSTAT_FB 1
     let m := rq 12 [8, 0, 10, 0]
     let d : State := { ring0 with jobs := [job1 0x0C03], cvi := { ring0.cvi with cmJob := some 1, cmTime := 10 } }
     let g : State := { d with cvi := { d.cvi with cmN := 3, cmSum := -6, cmSq := 14 } }
     let q := fun (k : Nat) => rq 12 (leBytes 1 k ++ [0, 0, 0] ++ leBytes 4 9)
     let e : State := { ring0 with host := { ring0.host with trace := [[1, 2]] } }
     wit (serves ring0 0x0C01 r (Fmt.fixed 0 [])) (.calRead sec r) ring0 (fun s => rep s 0x0C01 stOk 0 (List.replicate 96 0xFF)) &&
     wit (serves o 0x0C02 w (Fmt.fixed 96 []) && !o.allOpen) (.calWrite sec ⟨w, { ok := true }⟩) o (fun s => rep s 0x0C02 stRefused 0 [2, 0, 0xFF, 0xFF]) &&
     wit (ring0.allOpen && ring0.convOff && !calOk w.payload) (.calWrite sec ⟨w, { ok := false, bad := [1] }⟩) ring0 (fun s => rep s 0x0C02 stBadParam 0 [0, 0, 0xFF, 0xFF]) &&
     wit (serves ring0 0x0C03 m (Fmt.fixed 4 [1])) (.calMeasure sec m) ring0 (fun s => rep s 0x0C03 stAccepted 1 [] && s.cvi.cmJob == some 1 && s.cvi.cmConv == 8 && s.cvi.cmTime == 10) &&
     wit (d.cvi.cmSince + 10 * msec ≤ d.now) (.calMeasureDone sec) d (fun s => s.cvi.cmJob.isNone && (s.job? 1).any (fun j => j.st == .done && j.final == stOk)) &&
     wit (g.isOpen 0) (.calMeasureDone sec) g (fun s => match s.out with
       | [.packet .eth1 7 p] => p.opcode == 0x0700 && p.jobid == 1 && p.status == stOk && uAt p.payload 0 2 == 0xFFFF
           && p.payload.drop 20 == leBytesI 8 (-131072) ++ leBytes 4 53510 ++ leBytes 4 3
       | _ => false) &&
     wit (serves ring0 0x0F03 (q 0) traceFmt) (.traceStop sec (q 0)) ring0 (fun s => rep s 0x0F03 stOk 0 [] && s.host.traceMask.isNone) &&
     wit true (.traceStart sec (q 1)) ring0 (fun s => rep s 0x0F03 stOk 0 [] && s.host.traceMask == some 9) &&
     wit true (.traceRead sec (q 2)) e (fun s => rep s 0x0F03 stOk 0 [1, 0, 0, 0, 1, 2] && s.host.trace.isEmpty)) = true := by
  decide +kernel

/-- A calibration set for this module: its first 92 bytes, and the set. -/
def calB : List Byte := leBytes 2 1 ++ leBytes 2 96 ++ List.replicate 84 0 ++ leBytes 4 Config.serial.toNat

def calP : List Byte := calB ++ leBytes 4 (crc32c calB)

theorem leBytes4_back (x : Nat) (h : x < 2 ^ 32) : ofLe (leBytes 4 x) = x := by
  simp [leBytes, ofLe]
  omega

theorem crc32cBits_lt (n c : Nat) (h : c < 2 ^ 32) : crc32cBits n c < 2 ^ 32 := by
  induction n generalizing c with
  | zero => exact h
  | succ n ih =>
    have q : c >>> 1 < 2 ^ 32 := by rw [Nat.shiftRight_eq_div_pow]; omega
    unfold crc32cBits
    split
    · exact ih _ (Nat.xor_lt_two_pow q (by decide))
    · exact ih _ q

theorem crc32c_lt (b : List Byte) : crc32c b < 2 ^ 32 := by
  have f : ∀ (l : List Byte) (c : Nat), c < 2 ^ 32 → l.foldl crc32cByte c < 2 ^ 32 := by
    intro l
    induction l with
    | nil => exact fun _ h => h
    | cons x l ih => exact fun c h => ih _ (crc32cBits_lt _ _ (Nat.xor_lt_two_pow h (by have := x.isLt; omega)))
  exact Nat.xor_lt_two_pow (f b _ (by decide)) (by decide)

theorem test_calibration_set :
    calOk calP = true ∧ uAt calP 4 1 ≤ 1 ∧ serves ring0 0x0C02 (rq 12 calP) (Fmt.fixed 96 []) = true ∧ ring0.allOpen = true ∧ ring0.convOff = true := by
  have e1 : uAt calP 88 4 = Config.serial.toNat := leBytes4_back _ Config.serial.isLt
  have e2 : uAt calP 92 4 = crc32c (calP.take 92) := leBytes4_back _ (crc32c_lt calB)
  have e3 : calP.length = 96 := rfl
  have e4 : uAt calP 0 2 = 1 := rfl
  have e5 : uAt calP 2 2 = 96 := rfl
  exact ⟨by simp [calOk, e1, e2, e3, e4, e5], by decide, by decide +kernel, by decide +kernel, by decide +kernel⟩

/-! ## Time, resets, the switch -/

theorem test_time_opcodes :
    (let m := rq 12 []
     let v := fun (ns : Nat) => rq 12 (leBytes 6 5 ++ [0, 0] ++ leBytes 4 ns)
     let a : State := ring0.set F.TIM_STAT_JUMPS 3
     wit (serves a 0x0D01 m (Fmt.fixed 0 [])) (.timeGet sec m) a (fun s => s.time == a.time && rep s 0x0D01 stOk 0 (leBytes 6 1 ++ [0, 0] ++ leBytes 4 0
       ++ leBytes 1 (b2n (a.flag F.TIM_STAT_VALID)) ++ [0, 0, 0])) &&
     wit (serves a 0x0D02 (v 999999999) (Fmt.fixed 12 [6, 7]) && !a.flag F.TIM_STAT_STEPPED && a.get F.TIM_STAT_STATE != 2) (.timeStep sec (v 999999999)) a
       (fun s => rep s 0x0D02 stOk 0 [] && s.quartzNs == 5999999999 && s.flag F.TIM_STAT_STEPPED && s.flag F.TIM_STAT_VALID) &&
     wit true (.timeStep sec (v 0)) (a.setB F.TIM_STAT_STEPPED true) (fun s => rep s 0x0D02 stRefused 0 [11, 0, 0xFF, 0xFF] && s.time == a.time) &&
     wit true (.timeStep sec (v 1000000000)) a (fun s => rep s 0x0D02 stBadParam 0 [0, 0, 8, 0] && s.time == a.time) &&
     wit (serves a 0x0D03 m (Fmt.fixed 0 [])) (.timeStatus sec m) a (fun s => rep s 0x0D03 stOk 0 (leBytes 1 (a.get F.TIM_STAT_STATE) ++ leBytes 1 (a.get F.TIM_STAT_PORT)
       ++ [0, 0] ++ leBytes 4 (a.get F.TIM_OFS_OFFSET) ++ leBytes 4 (a.get F.TIM_ADJ_RATE) ++ List.replicate 8 0 ++ [3, 0, 0, 0]))) = true := by
  decide +kernel

theorem test_reset_opcodes :
    (let r := fun (x u f : Nat) => rq 12 (leBytes 1 x ++ leBytes 1 u ++ leBytes 1 f ++ [0])
     let c : State := ring0.set F.PRT_CONTSTAT_FB 1
     let d := fun (x u : Nat) => ({ ring0 with rst := { ring0.rst with due := [(x, u, sec)] } } : State).upto sec
     wit (serves ring0 0x0F01 (r 0 0 0) resetFmt && ring0.allOpen) (.resetSystem sec (r 0 0 0)) ring0 (fun s => rep s 0x0F01 stOk 0 [] && s.rst.due == [(0, 0, sec + 10 * msec)]) &&
     wit (!c.allOpen) (.resetSystem sec (r 0 0 0)) c (fun s => rep s 0x0F01 stRefused 0 [2, 0, 0xFF, 0xFF] && s.rst.due.isEmpty) &&
     wit true (.resetSupervisor sec (r 1 0 1)) c (fun s => rep s 0x0F01 stOk 0 [] && s.rst.due == [(1, 0, sec + 10 * msec)]) &&
     wit (ring0.laneSt 4 == 2) (.resetLane sec (r 2 4 0)) ring0 (fun s => rep s 0x0F01 stOk 0 [] && s.rst.due == [(2, 4, sec + 10 * msec)]) &&
     wit (ring0.laneSt 0 == 1) (.resetLane sec (r 2 0 0)) ring0 (fun s => rep s 0x0F01 stRefused 0 [10, 0, 0xFF, 0xFF] && s.rst.due.isEmpty) &&
     wit true (.resetPort sec (r 3 4 0)) ring0 (fun s => rep s 0x0F01 stOk 0 [] && s.rst.due == [(3, 4, sec + 10 * msec)]) &&
     (let w := fun (u : Nat) => { sw0 { tok := 0, mule := 4 } with rst := { ring0.rst with due := [(2, u, sec)] } }
      (w 4).laneSt 4 == 2 && (w 0).laneSt 0 == 4 && ((w 4).upto sec).laneSt 4 == 2 && ((w 4).upto sec).lan.sw.isSome && ((w 0).upto sec).laneSt 0 == 4) &&
     (d 0 0).rst.mode == .reset && (d 0 0).flag F.RST_CAUSE_OPSYS && (d 0 0).rst.due.isEmpty && (d 1 0).flag F.RST_CAUSE_OPSUP && (d 1 0).lan.supDown && (d 2 4).flag F.RST_CAUSE_LANE
       && (d 2 4).laneSt 4 == 3 && (d 3 4).flag F.RST_CAUSE_PORT && assoc? 4 (d 3 4).rst.portAt == some (sec + msec)) = true := by
  decide +kernel

theorem test_switch_and_stack :
    (let a : State := { withs [(F.TIM_ETH_LINK, 1), (F.TIM_ETH_LINK.ix 1, 1), (F.TIM_IP4, 0x0A000001)] ring0 with now := 301 * sec, eth := { ring0.eth with macs := [(9, (1, 0)), (10, (2, sec + 1))] } }
     wit (a.flag (linkF 1)) (.ethLinkLoss a.now 1) a (fun s => !s.flag (linkF 1) && s.get F.TIM_ETH_LOSS == a.get F.TIM_ETH_LOSS + 1) &&
     wit (a.ethRuns 2) (.ethLinkUp a.now 2) (a.setB (linkF 2) false) (fun s => s.flag (linkF 2)) &&
     wit true (.macEntryAgeing a.now) a (fun s => s.eth.macs == [(10, (2, sec + 1))]) &&
     wit (a.ethOn 2 && a.ownIp4 0x0A000001) (.arpRequest a.now 2 5 6 0x0A000001) a (fun s => s.out.length == 1) &&
     wit (a.ethOn 1 && a.ownIp4 0x0A000001) (.icmpEcho a.now 1 false 5 0x0A000001 [1]) a (fun s => s.out.length == 1)) = true := by
  decide +kernel

/-- A frame of 20 zero bytes but for destination, source and EtherType. -/
def frameTo (dst src : Nat) : List Byte := beBytes 6 dst ++ beBytes 6 src ++ beBytes 2 0x0800 ++ List.replicate 20 0

theorem test_frames_to_others :
    ∃ y, (y = 2 ∨ y = 4) ∧ y ≠ Config.mac.toNat := by
  by_cases h : Config.mac.toNat = 2
  · exact ⟨4, .inr rfl, by omega⟩
  · exact ⟨2, .inl rfl, fun e => h e.symm⟩

theorem test_frames_are_plain :
    ([2, 4].all (fun y => ring0.ethRuns 1 && y != 8 && decide (14 ≤ (frameTo y 8).length) && ofBe (slice (frameTo y 8) 6 6) == 8 && ofBe ((frameTo y 8).take 6) == y
       && ofBe (slice (frameTo y 8) (etherAt (frameTo y 8)) 2) != 0x88B5 && ofBe (slice (frameTo y 8) 6 1) % 2 == 0 && decide (ring0.eth.macs.length < 256)
       && ofBe ((frameTo y 8).take 1) % 2 == 0 && ptpAt (frameTo y 8) == none)) = true := by
  decide +kernel

/-- A destination behind the other port that runs with its link up, behind the same port, and behind none. -/
theorem test_frames_have_ports :
    (let a := fun (l : List (Nat × (Nat × Nat))) => ({ withs [(F.TIM_ETH_LINK.ix 1, 1)] ring0 with eth := { ring0.eth with macs := l } } : State)
     [2, 4].all (fun y => (a []).ethRuns 2 && (a []).flag (linkF 2) && assoc? y (a [(y, (2, 0))]).eth.macs == some (2, 0) && assoc? y (a [(y, (1, 0))]).eth.macs == some (1, 0)
       && (assoc? y (a []).eth.macs).isNone && moduleTakes (frameTo y 8) && !highFrame (frameTo y 8))) = true := by
  decide +kernel

/-- As time moves on, a frame of the high queue leaves before one of the low queue. -/
theorem test_egress_drains :
    (let m := fun (n : Nat) => OutMsg.eth 1 0x0800 [BitVec.ofNat 8 n]
     let a : State := { ring0 with eth := { ring0.eth with egress := [([m 1, m 2], [m 3]), ([], []), ([], [])] } }
     let b := a.upto (2 * sec)
     a.rst.due.isEmpty && a.ethRuns 1 && b.out == [m 3, m 2, m 1] && b.eth.egress == [([], []), ([], []), ([], [])]) = true := by
  decide +kernel

/-- The residence times of a Pdelay_Req and of its Pdelay_Resp are both added to the correction of the Pdelay_Resp_Follow_Up (R318). -/
theorem test_transparent_clock_adds_both :
    (let msg := fun (typ id44 id20 : Nat) => List.replicate 12 (0 : Byte) ++ beBytes 2 0x88F7 ++ leBytes 1 typ ++ List.replicate 19 0 ++ beBytes 10 id20
       ++ beBytes 2 5 ++ List.replicate 12 0 ++ beBytes 10 id44
     let a := (ring0.transparent 1 (msg 2 0 77) 5).1
     let b := (a.transparent 2 (msg 3 77 88) 7).1
     ring0.flag F.TIM_CFG_TCEN && (b.transparent 2 (msg 10 77 88) 0).2 == putBytes (msg 10 77 88) 22 (beBytes 8 12)) = true := by
  decide +kernel

/-- The link-local address is the module's own in every configuration. -/
theorem test_own_ip6 : ring0.inService = true ∧ ring0.ownIp6 linkLocal = true := ⟨by decide +kernel, by simp [State.ownIp6]⟩

/-- A frame to an address that is not the module's, whatever that is, from port 1. -/
theorem test_switch_frame : ∃ f : List Byte, 14 ≤ f.length ∧ ofBe (slice f 6 1) % 2 = 0 ∧ ofBe (slice f (etherAt f) 2) ≠ 0x88B5 ∧
    ofBe (f.take 6) ≠ Config.mac.toNat ∧ ofBe (f.take 1) % 2 = 0 ∧ ptpAt f = none := by
  by_cases h : Config.mac.toNat = 0
  · exact ⟨[0, 0, 0, 0, 0, 2] ++ List.replicate 8 0, by decide, by decide, by decide, by rw [h]; decide, by decide, by decide⟩
  · exact ⟨List.replicate 14 0, by decide, by decide, by decide, fun e => h (e ▸ (by decide : ofBe ((List.replicate 14 (0 : Byte)).take 6) = 0)), by decide, by decide⟩

theorem test_network_time :
    (let x : Announce := { domain := 0, p1 := 1, cls := 6, acc := 1, var := 1, p2 := 1, gm := 77, steps := 0, src := 5, every := sec }
     let on : State := withs [(F.TIM_CFG_PTPEN, 1), (F.TIM_CFG_DOMAIN, 0), (F.TIM_CFG_PROFILE, 0), (F.TIM_ETH_LINK, 1)] { ring0 with now := 10 * sec }
     let g : Foreign := { port := 1, a := x, times := [9 * sec, 8 * sec] }
     let a : State := { withs [(F.TIM_STAT_PORT, 1), (F.TIM_STAT_STATE, 1)] on with ptp := { on.ptp with masters := [g], sel := some g, sync := some (1, 5, 3, 70), pair := some (90, 20), dreq := some (3, some 4) } }
     let m : PtpMsg := { domain := 0, src := 5, seq := 3, corr := 2, stamp := 0 }
     let f3 : State := { a with ptp := { a.ptp with first := [1, 2, 3] } }
     let st : State := a.setB F.TIM_STAT_STEPPED true
     let p2 : State := { a.set F.TIM_CFG_PROFILE 2 with ptp := { a.ptp with preq := [some (3, some 4), none] } }
     let q : State := { a with eth := { a.eth with tsq := [[(3, 1, 0, 9)], []] } }
     wit (on.ptpOn 1 0) (.ptpAnnounce on.now 1 x) { on with ptp := { on.ptp with masters := [g] } } (fun s => s.ptp.masters.map (fun g => (g.port, g.a, g.times.head?)) == [(1, x, some on.now)]
       && s.ptp.sel == bestMaster on.now on.ptp.sel s.ptp.masters && s.get F.TIM_STAT_STATE == 1) &&
     wit (a.fromMaster 1 m) (.ptpSync a.now 1 m) a (fun s => s.ptp.sync == some (1, 5, 3, t16 a.stamp - 2 - a.asym 1)) &&
     wit (!a.flag F.TIM_STAT_STEPPED) (.ptpFollowUp a.now 1 m) a (fun s => s.ptp.first == [70 - 2 - a.pathDelay 1] && s.ptp.sync.isNone && s.ptp.pair == some (70, 2) && s.time == a.time) &&
     wit true (.ptpFollowUp a.now 1 m) f3 (fun s => s.flag F.TIM_STAT_STEPPED && s.flag F.TIM_STAT_VALID && s.ptp.first.isEmpty) &&
     wit ((st.set F.TIM_CFG_JUMPTHR 0).jumpThr < 68) (.ptpFollowUp a.now 1 m) (st.set F.TIM_CFG_JUMPTHR 0) (fun s => s.flag F.TIM_STAT_JUMP_REFUSED && s.evr.pend.contains 88 && s.time.qz == a.time.qz) &&
     (68 ≤ (st.set F.TIM_CFG_JUMPTHR 1).jumpThr) &&
     wit (a.get F.TIM_IP4 == 0) (.ptpDelayReqSend a.now 1) a (fun s => s.ptp == a.ptp && s.out.isEmpty) &&
     (let b := a.set F.TIM_CFG_PROFILE 1
      wit (b.get F.TIM_CFG_PROFILE != 2) (.ptpDelayReqSend b.now 1) b (fun s => s.ptp.dreq == some (0, none) && (match s.out with | [.eth 1 0x88F7 _] => true | _ => false))) &&
     wit (a.eth.tsq.length == 2) (.ptpDelayReqSend a.now 1) (a.set F.TIM_IP4 0x0A000001) (fun s => (match s.out with
       | [.eth 1 0x0800 b] => slice b 9 1 == [17] && slice b 12 4 == beBytes 4 0x0A000001 && slice b 22 2 == beBytes 2 319
       | _ => false)) &&
     wit true (.ptpDelayReqSend a.now 1) (a.set F.TIM_IP4 0x0A000001) (fun s => s.ptp.dreq == some (0, none) && nth [] s.eth.tsq 0 == [(0, 1, a.stamp / sec % 281474976710656, a.stamp % sec)]) &&
     wit (p2.ptp.preq.length == 2) (.ptpDelayReqSend a.now 1) p2 (fun s => nth none s.ptp.preq 0 == some (0, none) && (nth [] s.eth.tsq 0).map (·.2.1) == [2]) &&
     wit true (.ptpDelayResp a.now 1 m) a (fun s => s.ptp.dreq.isNone && s.ptp.delay == ((70 : Int) + (0 - 4) - 2).fdiv 2) &&
     wit (p2.ptpOn 1 0) (.ptpPdelayReq a.now 1 m) p2 (fun s => s.out.length == 1) &&
     wit true (.ptpPdelayResp a.now 1 m m) p2 (fun s => nth none s.ptp.preq 0 == none && nth 0 s.ptp.linkDelay 0 == ((t16 a.stamp - 4) - 0 - (2 + a.asym 1) - 2).fdiv 2) &&
     wit true (.txTimestampDrain a.now 1) q (fun s => nth [] s.eth.tsq 0 == [] && s.ptp.dreq == some (3, some (t16 9))) &&
     wit (a.ptp.pairAt + 3 * sec ≤ a.now) (.ptpSyncTimeout a.now) a (fun s => s.get F.TIM_STAT_STATE == 3 && s.ptp.holdAt == some a.now && s.evr.pend.contains 89) &&
     (let l : State := { a with now := 12 * sec }
      wit (bestMaster l.now (some g) (l.ptp.masters.filter (fun h => !g.same h)) == none) (.ptpMasterLost l.now) l (fun s => s.get F.TIM_STAT_STATE == 3 && s.ptp.sel.isNone && s.get F.TIM_STAT_PORT == 0))) = true := by
  decide +kernel

/-! ## CAN and I²C -/

theorem test_can :
    (let a : State := { withs [(F.CAN_CFG_MODE, 1), (F.CAN_STAT_STATE, 1), (F.CAN_RXID_EN.ix 127, 1), (F.CAN_RXID_ID.ix 127, 5), (F.CAN_TXCFG_STATEN, 1), (F.CAN_TXCFG_STATPER, 1), (F.CAN_CFG_BOHOLD, 1)] ring0 with can := { ring0.can with integrating := false } }
     let f := classic 5 [1, 2]
     let q : State := { a with can := { a.can with txq := [[], [f], [], []], errq := [3] } }
     let o : State := { a with can := { a.can with objs := [(127, { frame := f, ns := 0, sec := 0, new := true, lost := false })] } }
     let d := withs [(F.CAN_CFG_MODE, 3), (F.CAN_STAT_ABD, 1), (F.CAN_CFG_ABDMASK, 0x81), (F.CAN_CFG_ABDDWELL, 1), (F.CAN_STAT_CAND, 0)] a
     let h := withs [(F.CAN_STAT_STATE, 3), (F.CAN_STAT_HELD, 1)] a
     let r := withs [(F.CAN_STAT_STATE, 3), (F.CAN_STAT_RECOV, 1), (F.CAN_ERRCNT_TEC, 3)] a
     wit a.inService (.canPortRestart sec) q (fun s => s.can.txq == [[], [], [], []] && s.can.errq.isEmpty && s.can.integrating && s.get F.CAN_STAT_STATE == 1 && s.get F.CAN_STAT_ABD == 0) &&
     wit true (.canBusIntegration sec) { a with can := { a.can with integrating := true } } (fun s => !s.can.integrating) &&
     wit (o.canListens && o.rxObject f == some 127) (.canFrameReceive sec f 10) o (fun s => (assoc? 127 s.can.objs).any (fun x => x.frame == f && x.new && x.lost && x.ns == sec - 10)
       && s.flag F.CAN_STAT_RXLOST_SEEN) &&
     wit (o.canListens) (.canFrameReceive sec { f with rtr := true, data := [] } 10) o (fun s => s.can.objs == o.can.objs) &&
     wit true (.canFrameReceive sec f 10) a (fun s => (assoc? 127 s.can.objs).any (fun x => !x.lost)) &&
     wit (d.candFrom 1 == some 7) (.canAbdDwellTimeout sec) d (fun s => s.get F.CAN_STAT_CAND == 7 && s.can.candAt == sec) &&
     wit ((d.set F.CAN_STAT_CAND 7).candFrom 8 == none) (.canAbdDwellTimeout sec) (d.set F.CAN_STAT_CAND 7) (fun s => s.flag F.CAN_STAT_ABDFAIL_SEEN && s.get F.CAN_STAT_CAND == 0) &&
     wit a.canNormal (.canError sec 5 false false 8) (a.set F.CAN_ERRCNT_REC 120) (fun s => s.get F.CAN_ERRCNT_REC == 128 && s.get F.CAN_STAT_STATE == 2 && s.flag F.CAN_STAT_PASSIVE_SEEN) &&
     wit true (.canError sec 1 true true 8) (q.set F.CAN_ERRCNT_TEC 248) (fun s => s.get F.CAN_STAT_STATE == 3 && s.flag F.CAN_STAT_BUSOFF_SEEN && s.can.txq == [[], [], [], []]
       && s.flag F.CAN_STAT_HELD && s.evr.pend.contains 96) &&
     wit (!(a.set F.CAN_CFG_MODE 2).canNormal && (a.set F.CAN_CFG_MODE 2).canListens) (.canError sec 1 true true 8) (a.set F.CAN_CFG_MODE 2) (fun s => s.get F.CAN_ERRCNT_TEC == 0) &&
     wit ((h.writeErr 0xE0014 (h.withField F.CAN_CTRL_RECOVER 1)).isNone) (.canRecoverWrite sec) h (fun s => !s.flag F.CAN_STAT_HELD && s.flag F.CAN_STAT_RECOV) &&
     wit (!r.portHeld 3) (.canRecoveryComplete sec) r (fun s => s.get F.CAN_STAT_STATE == 1 && !s.flag F.CAN_STAT_RECOV && s.get F.CAN_ERRCNT_TEC == 0 && s.evr.pend.contains 97) &&
     (let b : State := { q with can := { q.can with onBus := some (1, f) } }
      wit (q.canOffer == some (1, f)) (.canFrameTransmitted sec .start) q (fun s => s.can.onBus == some (1, f) && s.can.txq == q.can.txq && s.out.isEmpty) &&
      wit b.canListens (.canFrameTransmitted sec .sent) (b.set F.CAN_ERRCNT_TEC 1) (fun s => s.can.txq == [[], [], [], []] && s.can.onBus.isNone && s.get F.CAN_ERRCNT_TEC == 0 && s.out == [.can f]) &&
      wit true (.canFrameTransmitted sec .lost) b (fun s => s.can.onBus.isNone && s.can.txq == b.can.txq && s.out.isEmpty)) &&
     (let l : State := { a with can := { a.can with limits := [1, 2, 3, 4, 5, 6, 7] } }
      wit (l.canUp) (.canLimitFrame sec) l (fun s => s.can.alive == 1 && (nth [] s.can.txq 0).map (·.data) == [[1, 2, 3, 4, 5, 6, 7, 0]])) &&
     (let l : State := a.set F.CAN_STAT_STATE 3
      let m : State := { l with can := { l.can with offAt := some sec } }
      wit ((m.writeErr 0xE002C 264).isNone && !m.canUp) (.canTxgo sec 264) m (fun s => s.can.txq == m.can.txq && s.flag F.CAN_STAT_TXDROP_SEEN)) &&
     wit ((a.writeErr 0xE002C 264).isNone) (.canTxgo sec 264) a (fun s => s.can.txq == [[], [], [a.canStaged 8], []]) &&
     wit ((a.writeErr 0xE002C 9).isSome) (.canTxgo sec 9) a (fun s => s.can == a.can)) = true := by
  decide +kernel

theorem test_iic :
    (let a : State := { withs [(F.IIC_CFG_EN, 1), (F.IIC_ATTN_EN, 1), (F.IIC_ATTN_MASK, 15), (F.IIC_CFG_RETRY, 1)] ring0 with iic := { ring0.iic with ptr := 255 } }
     let c : State := { a with iic := { a.iic with call := some [1, 2], onBus := true } }
     let w : State := { a with iic := { a.iic with waiting := true } }
     let q : State := { a with iic := { a.iic with q45 := [(128, 1), (3, 4)] } }
     let e : State := { a with iic := { a.iic with status := List.replicate 14 0xAA } }
     let ad := a.get F.IIC_CFG_TADDR
     let idle := fun (stop : Bool) (x : Nat) => ({ t := sec, stop := stop, since := x } : BusIdle)
     let u : State := { a with iic := { a.iic with usedAt := 7 } }
     wit (a.iicOn && ad != 0) (.iicTargetWrite sec ⟨0, [255, 9]⟩ false) a (fun s => s.iic.ptr == 255 && s.iic.q45.isEmpty && s.out.isEmpty && s.flag F.IIC_STAT_BUSY) &&
     wit true (.iicTargetRead sec ⟨120, 2⟩) a (fun s => s.iic.ptr == 255 && s.out.isEmpty) &&
     wit true (.iicTargetWrite sec ⟨ad, [128, 9]⟩ true) (a.set F.IIC_ERR_PROTO_ERR 255) (fun s => s.get F.IIC_ERR_PROTO_ERR == 255 && s.flag F.IIC_ERR_SAT) &&
     wit (decide (6 < u.iic.usedAt)) (.iicBusFree (idle true 6)) u (fun s => s.iic == u.iic) &&
     wit (decide (0 < a.freeTime)) (.iicBusFree (idle true (sec + 1 - a.freeTime))) w (fun s => s.iic == w.iic) &&
     wit true (.iicBusFree (idle true (sec - a.freeTime))) w (fun s => s.iic.onBus) &&
     wit true (.iicBusFree (idle false (sec - 100000))) w (fun s => s.iic.onBus) &&
     wit true (.iicBusFree (idle false (sec - 99999))) w (fun s => s.iic == w.iic) &&
     wit a.iicOn (.iicTargetWrite sec ⟨ad, [255, 9]⟩ false) a (fun s => s.iic.ptr == 0 && s.flag F.IIC_STAT_BUSY && s.winByte 255 == 9 && s.iic.q45 == [(255, 1)]) &&
     wit true (.iicTargetWrite sec ⟨ad, [127, 9]⟩ false) a (fun s => s.iic.q45.isEmpty && s.regs == (a.setB F.IIC_STAT_BUSY true).regs) &&
     wit true (.iicTargetWrite sec ⟨ad, [128, 9]⟩ true) a (fun s => s.flag F.IIC_STAT_PROTO_SEEN && s.iic.q45.isEmpty && s.iic.ptr == 128) &&
     wit true (.iicTargetRead sec ⟨ad, 2⟩) a (fun s => s.iic.ptr == 1 && s.out == [.iic [a.winByte 255, a.winByte 0]]) &&
     wit (!q.s0Down) (.iicMailboxDrain sec) q (fun s => s.iic.q45 == [(3, 4)] && s.evr.pend.contains 104) &&
     wit w.gapOver (.iicBusFree (idle true 0)) w (fun s => s.iic.call == some w.callBytes && s.iic.onBus && !s.iic.waiting && s.get F.IIC_STAT_ROLE == 2) &&
     wit true (.iicBusFree (idle false 0)) a (fun s => s.iic.busFree && s.iic.call.isNone && !s.flag F.IIC_STAT_BUSY) &&
     wit w.iic.busFree (.iicMingapExpiry sec) w (fun s => s.iic.call == some w.callBytes && s.iic.onBus && s.flag F.IIC_STAT_CALLPEND) &&
     wit true (.iicAttnCallEnd sec 0) c (fun s => s.iic.call.isNone && !s.iic.onBus && s.iic.lastAt == some sec && s.out == [.iic [1, 2]]) &&
     wit true (.iicAttnCallEnd sec 1) c (fun s => s.iic.call == some [1, 2] && s.iic.gap && s.get F.IIC_ARB_RETRIES == 1) &&
     wit true (.iicAttnCallEnd sec 1) (c.set F.IIC_ARB_RETRIES 1) (fun s => s.iic.call.isNone && s.flag F.IIC_STAT_ATTNFAIL_SEEN && s.evr.pend.contains 105) &&
     wit true (.iicArbitrationLost sec 0 ⟨6, ad⟩) c (fun s => s.get F.IIC_STAT_ROLE == 1) &&
     wit true (.iicArbitrationLost sec 255 ⟨7, ad⟩) c (fun s => s.get F.IIC_ARB_BYTE == 255 && s.get F.IIC_ARB_BIT == 7 && s.flag F.IIC_STAT_ARB_SEEN && s.get F.IIC_ERR_ARBCNT == 1) &&
     (let lim := sec - c.get F.IIC_CFG_STRTMO * msec
      wit true (.iicStretchTimeout sec { since := lim }) c (fun s => s.iic == c.iic && s.get F.IIC_ERR_BUSERR == 0) &&
      wit true (.iicStretchTimeout sec { since := lim - 1, sda := true, freed := true }) c (fun s => !s.iic.onBus && s.get F.IIC_ERR_BUSERR == 0)) &&
     wit true (.iicStretchTimeout sec { since := 0 }) c (fun s => s.flag F.IIC_STAT_BUSERR_SEEN && !s.iic.onBus && s.get F.IIC_ERR_BUSERR == 1) &&
     wit (nth [] (statusGroups e.iic.status) 3 != nth [] (statusGroups e.iicStatus) 3) (.iicAttnSchedule sec) e (fun s => s.iic.seq == 1 && s.iic.status == e.iicStatus && (s.iic.waiting || s.iic.call.isSome))) = true := by
  decide +kernel

/-! ## Reset, clocks, power -/

/-- The starting module with its clocks up to SYS. -/
def start0 : State := { withs [(F.RST_BOOT_ATTEMPTS, 1)] ring0 with rst := { mode := .starting, good := 3, image := false, asserted := [] } }

theorem test_resets :
    (let a : State := { ring0 with now := 9 * sec }
     let b : State := { start0 with now := 9 * sec, rst := { start0.rst with bootAt := some (4 * sec), image := true, good := 7 } }
     let r : State := { ring0 with flash := { ring0.flash with opsec := 7 }, rst := { mode := .reset, asserted := [(0, 5), (1, sec)], good := 3 } }
     let o : State := withs [(F.RST_OPT_OPTVALID, 1), (F.RST_OPT_BOOTSLOT, 0)] start0
     wit true (.watchdogKick a.now) a (fun s => s.rst.wdogAt == a.now && s.regs == a.regs) &&
     (let h : State := { ring0 with rst := { mode := .reset, asserted := [(0, 5), (1, 6)], holding := [0, 1], good := 3 } }
      wit true (.powerOnReset ⟨sec, false⟩) h (fun s => s.rst.holding == [1] && s.rst.asserted.all (fun x => x.1 != 0 || x.2 == sec + 10 * msec) && s.regs == h.regs) &&
      wit true (.resetPin ⟨sec, false⟩) h (fun s => s.rst.holding == [0] && s.rst.asserted.all (fun x => x.1 != 1 || x.2 == sec + 100 * usec) && s.regs == h.regs) &&
      wit true (.resetRelease sec true true) h (fun s => s.rst == h.rst && s.regs == h.regs) &&
      wit true (.resetRelease sec true true) { h with rst := { h.rst with holding := [], asserted := [(1, sec + 1)] } } (fun s => s.rst.mode == .reset)) &&
     (let c : State := { ring0 with rst := { mode := .reset, asserted := [(4, sec + 5)], coin := [2, 3], assertAt := sec, good := 3 } }
      wit ((c.upto (sec + 62)).safeCycle sec && !(c.upto (sec + 63)).safeCycle sec) (.supervisorWatchdogTimeout (sec + 62)) c (fun s => s.flag F.RST_CAUSE_SWDT && s.rst.asserted.contains (2, sec + 62 + 100 * usec)) &&
      wit true (.startTimeout sec) c (fun s => s.flag F.RST_CAUSE_STARTTMO && s.rst.asserted.contains (3, sec + 100 * usec))) &&
     wit true (.supervisorWatchdogTimeout b.now) b (fun s => s.rst.mode == .reset && s.flag F.RST_CAUSE_SWDT) &&
     wit true (.powerOnReset ⟨a.now, true⟩) a (fun s => s.regs == State.reset.regs && s.rst.mode == .reset && s.rst.asserted == [(0, a.now + 10 * msec)] && s.rst.holding.contains 0 && s.jobs.isEmpty) &&
     wit (!a.rst.holding.contains 1) (.resetPin ⟨a.now, true⟩) a (fun s => s.rst.holding.contains 1 && s.rst.mode == .reset && s.flag F.RST_CAUSE_PIN && s.rst.asserted.contains (1, a.now + 100 * usec) && s.time.aoSec == a.time.aoSec
       && s.get F.PRT_CONTSTAT_COIL == 0) &&
     wit (a.rst.wdogAt + 2 * sec ≤ a.now) (.supervisorWatchdogTimeout a.now) a (fun s => s.rst.mode == .reset && s.flag F.RST_CAUSE_SWDT) &&
     wit true (.startTimeout b.now) b (fun s => s.rst.mode == .reset && s.flag F.RST_CAUSE_STARTTMO && s.get F.RST_BOOT_ATTEMPTS == 1) &&
     wit true (.resetRelease sec true true) r (fun s => s.rst.mode == .starting && s.rst.asserted.isEmpty && s.get F.BAY_POS_ROLE == 3 && s.flag F.RST_OPT_OPTVALID == optValid r.flash.opt
       && s.flash.pwrcyc == 1 && s.opsec == 7 && s.rcd.cur.flags.testBit 1 && s.flag F.PRT_CONTSTAT_VCOILLOW == !r.prt.vcoil) &&
     wit (o.domainOn 2 && !(o.get F.RST_CLKFAIL_FAIL).testBit 2 && o.clockGood 1) (.clockGood sec (.of 2)) (o.set F.RST_BOOT_ATTEMPTS 3)
       (fun s => s.rst.mode == .recovery && s.flag F.RST_BOOT_RECOV && s.get F.RST_BOOT_SLOT == 3 && s.get F.RST_STAT_MSTATE == 3) &&
     wit ((o.imgSlot 0).st == 1 && (o.imgSlot 0).passes && o.lan.supRst.isNone) (.clockGood sec (.of 2)) o (fun s => s.rst.mode == .starting && s.rst.image && s.rst.bootAt == some sec && s.get F.RST_BOOT_SLOT == 0
       && s.get F.RST_BOOT_ATTEMPTS == 2) &&
     (b.domainGood 1 && b.domainGood 2 && b.rst.image)) = true := by
  decide +kernel

theorem test_clocks :
    (let l : State := { ring0 with rst := { ring0.rst with good := 4095 } }
     let a : State := { ring0 with rst := { ring0.rst with good := 0 } }
     wit (a.domainOn 0 && !(a.get F.RST_CLKFAIL_FAIL).testBit 0) (.clockGood sec (.of 0)) a (fun s => s.rst.good.testBit 0 && !s.flag F.RST_STAT_REFSAFE) &&
     wit (l.clockLate 11) (.clockGoodTimeout sec 11 0) l (fun s => (s.get F.RST_CLKFAIL_FAIL).testBit 11 && s.rst.mode == .halt && s.get F.RST_STAT_HALTC == 3 && s.get F.RST_STAT_MSTATE == 2) &&
     wit (l.domainOn 2 && l.clockLate 2) (.clockGoodTimeout sec 2 0) l (fun s => (s.get F.RST_CLKFAIL_FAIL).testBit 2 && !s.rst.good.testBit 2 && s.rst.mode == .run) &&
     (let g : State := { l with lan := { l.lan with gate := [some (sec - 10 * msec), none, none, none, none] } }
      wit (g.laneClock 0) (.clockGood sec (.lane 0)) g (fun s => (nth none s.lan.gate 0).isNone) &&
      wit (g.laneLate 0) (.clockGoodTimeout sec 3 0) g (fun s => s.laneSt 0 == 4 && s.lan.sw.isSome && s.flag F.LAN_STAT_FENCE_SEEN) &&
      wit true (.clockGoodTimeout sec 3 0) { g with lan := { g.lan with st := [1, 1, 1, 1, 5] } } (fun s => s.laneSt 0 == 3 && s.lan.sw.isNone)) &&
     wit (!l.laneClock 4) (.clockGoodTimeout sec 3 4) l (fun s => s.lan == l.lan && s.rst == l.rst) &&
     wit true (.clockLoss sec 3 4) l (fun s => s.lan == l.lan && s.rst == l.rst) &&
     wit (l.clockLate 9) (.clockGoodTimeout sec 9 0) (l.setB (linkF 1) true) (fun s => (s.get F.RST_CLKFAIL_FAIL).testBit 9 && !s.flag (linkF 1) && s.rst.mode == .run) &&
     wit (l.clockGood 0) (.clockLoss sec 0 0) l (fun s => !s.rst.good.testBit 0 && !s.clockGood 0 && s.rst.mode == .run) &&
     wit (!a.clockGood 0) (.aoCoarseTimeUpdate sec) a (fun s => s.time == a.time) &&
     wit (l.clockGood 5) (.clockLoss sec 5 0) l (fun s => !s.rst.good.testBit 5 && s.rst.mode == .run && s.silent .shuntA && s.silent .shuntB && s.flag F.PRT_TRIP_BARRIER) &&
     wit (l.clockGood 6) (.clockLoss sec 6 0) l (fun s => !s.rst.good.testBit 6 && s.silent .string && s.silent .bus && s.silent .ins && s.flag F.PRT_TRIP_BARRIER) &&
     wit (l.clockGood 3 && l.laneClock 0 && (nth none l.lan.gate 0).isNone) (.clockLoss sec 3 0) l (fun s => s.laneSt 0 == 4) &&
     wit (l.clockGood 4) (.clockLoss sec 4 0) l (fun s => !s.rst.good.testBit 4 && s.flag F.PRT_TRIP_CTRL_CLK && s.rst.mode == .halt && s.get F.RST_STAT_HALTC == 3) &&
     wit (l.clockGood 1) (.clockLoss sec 1 0) l (fun s => !s.rst.good.testBit 1 && s.rst.mode == .halt && s.get F.RST_STAT_HALTC == 4) &&
     wit (l.clockGood 11) (.clockLoss sec 11 0) l (fun s => s.flag F.PRT_TRIP_GANDER && s.rst.mode == .halt && s.get F.RST_STAT_HALTC == 3) &&
     wit (l.clockGood 2) (.clockLoss sec 2 0) l (fun s => s.rst.mode == .reset && s.flag F.RST_CAUSE_GSYS) &&
     wit (l.clockGood 10) (.clockLoss sec 10 0) (l.setB (linkF 2) true) (fun s => !s.rst.good.testBit 10 && !s.flag (linkF 2)) &&
     wit true (.debugReleaseRequest sec 11) (l.setB F.RST_OPT_DBGLOCK false) (fun s => s.flag F.RST_STAT_DBGOVR && s.rst.forced.testBit 11) &&
     wit true (.debugReleaseRequest sec 0) (l.setB F.RST_OPT_DBGLOCK true) (fun s => s.regs == (l.setB F.RST_OPT_DBGLOCK true).regs && s.rst == l.rst)) = true := by
  decide +kernel

theorem test_power :
    (let p : State := { withs [(F.RST_WAKECFG_ETHWAKE, 1), (F.RST_WAKECFG_SPIWAKE, 1), (F.RST_WAKECFG_CANWAKE, 1), (F.RST_WAKECFG_IICWAKE, 1), (F.RST_WAKETMR_SEC, 1), (F.RST_WAKECFG_LISTEN, 20)] park0 with now := sec }
     wit true (.vauxMeasure sec 5999) ring0 (fun s => s.get F.RST_VAUX_VAUX == 5999 && s.flag F.RST_VAUX_VAUXLOW && s.flag F.RST_VAUX_LOW_SEEN) &&
     wit true (.vauxMeasure sec 65536) ring0 (fun s => s.get F.RST_VAUX_VAUX == 65535 && !s.flag F.RST_VAUX_VAUXLOW) &&
     (let b : State := { start0 with rst := { start0.rst with optAt := some (sec - 20 * msec) } }
      wit true (.vauxLoss ⟨sec, true⟩) b (fun s => s.rst.mode == .off && !optValid s.flash.opt)) &&
     wit true (.vauxLoss ⟨sec, false⟩) ring0 (fun s => s.rst.mode == .off && s.rst.asserted.isEmpty) &&
     wit (ring0.clockGood 0 && ring0.time.aoAt + sec ≤ ring0.now) (.aoCoarseTimeUpdate sec) ring0 (fun s => s.time.aoSec == 1 && s.time.aoAt == sec) &&
     (let ao := fun (e : Int) => ({ p with time := { p.time with run := false, aoSec := 7, aoFrac := e } } : State)
      wit (!(ao 5).quartzOn && (ao 5).thm.aoPpb == 0) (.aoCoarseTimeUpdate sec) (ao 5) (fun s => s.time.aoSec == 8 && s.time.aoFrac == 5) &&
      wit true (.aoCoarseTimeUpdate sec) (ao 1000000000) (fun s => s.time.aoSec == 9 && s.time.aoFrac == 0) &&
      wit true (.aoCoarseTimeUpdate sec) (ao (-1000000000)) (fun s => s.time.aoSec == 7 && s.time.aoFrac == 0)) &&
     wit true (.wakeEthEnergy sec 2) p (fun s => s.rst.listen.contains (2, sec, sec) && s.rst.mode == .park) &&
     wit true (.wakeSpiCs sec) p (fun s => s.rst.listen.contains (3, sec, sec) && s.rst.mode == .park) &&
     wit true (.listenWindowExpire sec) p (fun s => s.rst.listen.isEmpty) &&
     (let q : QReq := { ord := 0, op := 0x0101, bcast := false, prov := false, req := rq 12 [] }
      let b : State := { p with host := { p.host with sess := { svc with cmdq := [q] } :: List.replicate 7 {} } }
      wit (viaPort q.req.via == 1 && p.rst.listen == [(1, 0, 0)]) (.listenWindowExpire sec) b (fun s => s.rst.listen.map (·.1) == [1])) &&
     wit (p.haltCause == 0 && !p.rst.halted) (.wakeCanDominant sec) p (fun s => s.rst.mode == .run && s.time.run && s.get F.RST_WAKESRC_SRC == 3 && (s.get F.RST_WAKESRC_SEEN).testBit 2) &&
     wit true (.wakeIicAddress ⟨sec, p.get F.IIC_CFG_TADDR⟩) p (fun s => s.rst.mode == .run && s.get F.RST_WAKESRC_SRC == 4 && (s.get F.RST_WAKESRC_SEEN).testBit 3) &&
     wit (p.get F.IIC_CFG_TADDR != 0) (.wakeIicAddress ⟨sec, 0⟩) p (fun s => s.rst == p.rst && s.regs == p.regs) &&
     wit (p.rst.parkAt + p.get F.RST_WAKETMR_SEC * sec ≤ p.now) (.wakeTimer sec) p (fun s => s.rst.mode == .run && s.get F.RST_WAKESRC_SRC == 6 && (s.get F.RST_WAKESRC_SEEN).testBit 5) &&
     wit (!ring0.flag (linkF 2)) (.linkTrainingAttempt sec 2) ring0 (fun s => nth 0 s.rst.training 1 == sec + ring0.get F.RST_WAKECFG_LINKPER * sec && s.out == [.eth 2 0 []])) = true := by
  decide +kernel

/-! ## The whole module -/

theorem test_steps :
    (let r := rq 12 (leBytes 4 0x10000)
     let a : State := { run0 with host := { run0.host with sess := { svc with cmdq := [{ ord := 0, op := 0x0101, bcast := false, prov := false, req := r }] } :: List.replicate 7 {} } }
     a.pending.isEmpty && (a.nextRequest.map (·.1)) == some (.regRead 0 r) && run0.nextRequest.isNone) = true := by
  decide +kernel

theorem test_held_registers :
    (let a : State := { run0 with rst := { run0.rst with good := 0xFE7 } }
     let r := rq 12 (leBytes 4 0x70000)
     let w := rq 12 (leBytes 4 0x70000 ++ leBytes 4 1)
     wit (!a.regUp 0x70000 && (regDef? 0x70000).isSome && serves a 0x0101 r (Fmt.fixed 4 [])) (.regRead 0 r) a (fun s => rep s 0x0101 stOk 0 (leBytes 4 (resetWord 0x70000).toNat)) &&
     wit ((writable 0x70000).isSome && serves a 0x0102 w (Fmt.fixed 8 [])) (.regWrite 0 w) a (fun s => uAt (pay s) 0 2 == 0 && s.word 0x70000 == a.word 0x70000
       && (s.session 0).cache.any (fun c => c.2.all (fun p => p.status == stRefused))) &&
     a.regUp 0x10000 && a.regUp 0xA0000 && !a.domainGood 4) = true := by
  decide +kernel

theorem test_cut_transaction :
    (let a : State := withs [(F.IIC_CFG_EN, 1), (F.IIC_ERR_PROTO_ERR, 254)] ring0
     let u := res (.iicTargetWrite sec ⟨a.get F.IIC_CFG_TADDR, [128, 7]⟩ false) a
     wit a.iicOn (.iicTargetWrite sec ⟨a.get F.IIC_CFG_TADDR, [128, 7, 8]⟩ true) a (fun s => s.iic == u.iic && s.winByte 128 == 7 && s.winByte 129 == u.winByte 129 && s.flag F.IIC_STAT_PROTO_SEEN
       && s.get F.IIC_ERR_PROTO_ERR == 255 && !s.flag F.IIC_ERR_SAT)) = true := by
  decide +kernel

theorem test_structure_refused :
    (let r := rq 12 (leBytes 4 0 ++ leBytes 4 struct1.length ++ [0, 0, 0, 0] ++ struct1)
     let a : State := ctl0.set F.CTL_STAT_STATE 2
     wit (serves a 0x0305 r { len := fun p => decide (12 ≤ p.length) && decide (p.length ≤ 1400), pad := [9, 10, 11], flagsAt := some (8, 3) }) (.coefLoad sec r) a
       (fun s => rep s 0x0305 stRefused 0 [3, 0, 0xFF, 0xFF] && s.ctl == a.ctl) &&
     wit (ctl0.ctl.gatesLow) (.coefLoad sec r) ctl0 (fun s => rep s 0x0305 stOk 0 [] && s.ctl.struct == structOf struct1 && s.ctl.bank0 == ctl0.ctl.bank0 && s.ctl.bank0.isSome)) = true := by
  decide +kernel

theorem test_causes :
    (let a : State := { ring0.set ⟨0x10000, 0, 16⟩ 0x5 with rst := { ring0.rst with firstAt := sec } }
     let z := ring0.set ⟨0x10000, 0, 16⟩ 0
     (z.cause 9).get F.RST_CAUSE_FIRST == 10 && ((a.cause 4).word 0x10000).toNat % 1024 == 0x15 && (a.cause 4).get F.RST_CAUSE_FIRST == min (a.get F.RST_CAUSE_FIRST) 5
       && ((a.assertSystem 4).word 0x10000).toNat.testBit 2 && wit true (.powerOnReset ⟨sec, true⟩) a (fun s => s.word 0x10000 == 0x10001)
       && wit (serves a 0x0201 (rq 12 []) (Fmt.fixed 0 [])) (.getStatus sec (rq 12 [])) a (fun s => uAt (pay s) 16 4 == (a.word 0x10000).toNat)) = true := by
  decide +kernel

/-- Table 7.9: compare value 45,680 at t_k = 5 µs, dead time 100 ns. Phase 0 falls from its peak, phase 2 rises from its valley. -/
theorem test_gates_in_time :
    (let c0 : Carrier := { turn := 5000, rise := false, hi := false, edge := 0, base := 40000 }
     let c2 : Carrier := { turn := 5000, rise := true, hi := true, edge := 0, base := 40000 }
     let g := fun (c : Carrier) (ns : Nat) => (c.follow 45680 (8 * (5000 + ns))).gates 800 (8 * (5000 + ns))
     c2.count (8 * 5800) == 6400 && c0.count (8 * 5800) == 73600 &&
       g c0 4289 == (false, true) && g c0 4291 == (false, false) && g c0 4389 == (false, false) && g c0 4391 == (true, false) &&
       g c2 5709 == (true, false) && g c2 5711 == (false, false) && g c2 5809 == (false, false) && g c2 5811 == (false, true)) = true := by
  decide +kernel

/-- R392 and Table 1.4: 384 erase blocks of the recorder, 36 of them hourly; the angle of 312 − j48 is −8.75° (Table 6.8). -/
theorem test_flash_and_angle : dailyBlocks = 348 ∧ regionAt 0x01110100 = none ∧ angle (-48) 312 = -875 := by
  decide +kernel

/-- A command of each group of the frame statements answers, and a part and a register it does not name are as before. -/
theorem test_frames :
    (let g := fun (c : Instr) (k : Safety.Group) => (touches c).group == k && (match exec c ring0 with | .next _ => true | _ => false)
     g (.getStatus sec (rq 12 [])) .opcode && g (.azinitEnd sec) .measure && g (.gateFault sec 3) .control && g (.canErrqRead sec) .port && g (.vauxMeasure sec 7000) .module
       && (res (.gateFault sec 3) ring0).cvi == ring0.cvi && (res (.gateFault sec 3) ring0).word 0x50000 == ring0.word 0x50000
       && (res (.vauxMeasure sec 7000) ring0).ring == ring0.ring && (res (.getStatus sec (rq 12 [])) ring0).ctl == ring0.ctl) = true := by
  decide +kernel

end Sys2Proof.Tests
end

section
/-! Accesses of single registers: the guard of a command, and what a read leaves behind (O2). -/

namespace Sys2Proof.Machine.Laws

open Sys2Proof.Safety

/-! ## Commands under a guard -/

/-- A guarded command answers what its body makes of the state it finds, where the guard holds. -/
theorem answers_of_guard {c : Instr} {s r : State} {t : Nat} {ok : State → Bool} {body : State → State} {P : State → Prop}
    (hc : exec c s = .next (s.commandIf t ok body)) (h : ok (s.upto t) = true) (hb : body (s.upto t) = r)
    (hp : P (s.command t fun _ => r)) : Answers c s P := by
  refine ⟨_, hc, ?_⟩
  have he : s.commandIf t ok body = s.command t fun _ => r := by
    unfold State.commandIf State.command
    simp only [h, if_true, hb]
  rw [he]
  exact hp

/-- Where the guard fails, only time moves on. -/
theorem answers_of_guard_fails {c : Instr} {s : State} {t : Nat} {ok : State → Bool} {body : State → State} {P : State → Prop}
    (hc : exec c s = .next (s.commandIf t ok body)) (h : ok (s.upto t) = false) (hp : P (s.command t fun _ => s.upto t)) :
    Answers c s P := by
  refine ⟨_, hc, ?_⟩
  have he : s.commandIf t ok body = s.command t fun _ => s.upto t := by
    unfold State.commandIf State.command
    simp only [h, Bool.false_eq_true, if_false]
  rw [he]
  exact hp

/-! ## What a read of a register leaves behind (R11, R14, R335, R336) -/

/-- The register with its RC bits cleared, the first thing a read does. -/
def rcCleared (s : State) (a : Nat) : State :=
  match regDef? a with
  | none => s
  | some d => if d.rc = 0 then s else s.putWord a (s.word a &&& ~~~(BitVec.ofNat 32 d.rc))

theorem readEffect_eq {s : State} {a : Nat} (hu : s.regUp a = true) : s.readEffect a =
    if a = 0x50014 then { rcCleared s a with cvi := { (rcCleared s a).cvi with q1Shadow := ((rcCleared s a).word 0x50018).toNat } }
    else if a = 0xD0010 then { rcCleared s a with time := { (rcCleared s a).time with secShadow := (rcCleared s a).quartzSec } }
    else if a = 0xE0020 then { rcCleared s a with can := { (rcCleared s a).can with errq := (rcCleared s a).can.errq.drop 1 } }
    else if a = 0xE0024 then { rcCleared s a with can := { (rcCleared s a).can with logq := (rcCleared s a).can.logq.drop 1 } }
    else if 0xE1000 ≤ a ∧ a < 0xE5000 ∧ (a - 0xE1000) % 128 = 0 then (rcCleared s a).rxLatch ((a - 0xE1000) / 128)
    else rcCleared s a := by
  unfold State.readEffect rcCleared
  rw [hu]
  rfl

section
variable (s : State) (a : Nat)

/-- Clearing the RC bits stores at most the register's own word. -/
theorem rcCleared_stores : rcCleared s a = s ∨ ∃ v, rcCleared s a = s.putWord a v := by
  unfold rcCleared
  split
  · exact .inl rfl
  · split
    · exact .inl rfl
    · exact .inr ⟨_, rfl⟩

@[simp] theorem rcCleared_cvi : (rcCleared s a).cvi = s.cvi := by obtain h | ⟨v, h⟩ := rcCleared_stores s a <;> rw [h]; rfl
@[simp] theorem rcCleared_time : (rcCleared s a).time = s.time := by obtain h | ⟨v, h⟩ := rcCleared_stores s a <;> rw [h]; rfl
@[simp] theorem rcCleared_can : (rcCleared s a).can = s.can := by obtain h | ⟨v, h⟩ := rcCleared_stores s a <;> rw [h]; rfl
@[simp] theorem rcCleared_out : (rcCleared s a).out = s.out := by obtain h | ⟨v, h⟩ := rcCleared_stores s a <;> rw [h]; rfl
@[simp] theorem rcCleared_host : (rcCleared s a).host = s.host := by obtain h | ⟨v, h⟩ := rcCleared_stores s a <;> rw [h]; rfl

@[simp] theorem rcCleared_quartzSec : (rcCleared s a).quartzSec = s.quartzSec := by
  unfold State.quartzSec State.quartzNs; rw [rcCleared_time]

theorem rcCleared_word_same {d : RegDef} (hd : regDef? a = some d) :
    (rcCleared s a).word a = s.word a &&& ~~~(BitVec.ofNat 32 d.rc) := by
  unfold rcCleared
  rw [hd]
  by_cases h : d.rc = 0
  · simp only [h, if_true]
    exact BitVec.and_allOnes.symm
  · simp [h]

theorem rcCleared_word_other {b : Nat} (h : a ≠ b) : (rcCleared s a).word b = s.word b := by
  obtain hs | ⟨v, hs⟩ := rcCleared_stores s a
  · rw [hs]
  · rw [hs, word_putWord_other _ _ _ _ h]

@[simp] theorem rxLatch_regs : (s.rxLatch a).regs = s.regs := by unfold State.rxLatch; split <;> rfl
@[simp] theorem rxLatch_out : (s.rxLatch a).out = s.out := by unfold State.rxLatch; split <;> rfl
@[simp] theorem rxLatch_host : (s.rxLatch a).host = s.host := by unfold State.rxLatch; split <;> rfl

/-- A read of RXSTAT clears NEW and LOST of its object and latches the object as it stood. -/
theorem rxLatch_can {o : CanObj} (h : assoc? a s.can.objs = some o) :
    assoc? a (s.rxLatch a).can.objs = some { o with new := false, lost := false } ∧ assoc? a (s.rxLatch a).can.shadow = some o := by
  unfold State.rxLatch
  rw [h]
  exact ⟨assoc_put_same .., assoc_put_same ..⟩

/-- Of the registers a read changes its own RC bits alone. -/
theorem readEffect_regs (hu : s.regUp a = true) : (s.readEffect a).regs = (rcCleared s a).regs := by
  rw [readEffect_eq hu]
  split_ifs <;> simp

theorem readEffect_out : (s.readEffect a).out = s.out := by
  by_cases hu : s.regUp a = true
  · rw [readEffect_eq hu]
    split_ifs <;> simp
  · unfold State.readEffect; simp [hu]

theorem readEffect_host : (s.readEffect a).host = s.host := by
  by_cases hu : s.regUp a = true
  · rw [readEffect_eq hu]
    split_ifs <;> simp
  · unfold State.readEffect; simp [hu]

/-- A read as an access of its own sends the value the register had. -/
theorem accessRead_eq (hm : (regDef? a).isSome = true) (hu : s.regUp a = true) :
    s.accessRead a = (s.readEffect a).emit (.access a stOk 0 (s.view a).toNat) := by
  unfold State.accessRead State.readReg State.readWord
  simp [Option.isSome_iff_ne_none.1 hm, hu]

theorem accessRead_out (hm : (regDef? a).isSome = true) (hu : s.regUp a = true) :
    (s.accessRead a).out = .access a stOk 0 (s.view a).toNat :: s.out := by
  rw [accessRead_eq s a hm hu]
  exact congrArg _ (readEffect_out s a)

theorem accessRead_word {d : RegDef} (hd : regDef? a = some d) (hu : s.regUp a = true) :
    (s.accessRead a).word a = s.word a &&& ~~~(BitVec.ofNat 32 d.rc) := by
  rw [accessRead_eq s a (by simp [hd]) hu, ← rcCleared_word_same s a hd]
  exact word_congr (readEffect_regs s a hu) a

end

/-- RXSTAT of each of the 128 receive objects is mapped (Table 22.1). -/
theorem rxstat_mapped {n : Nat} (h : n < 128) : (regDef? (0xE1000 + 128 * n)).isSome = true := by
  have hb : (0xE1000 + 128 * n) / 65536 = 14 := by omega
  unfold regDef?
  rw [hb]
  show (regsCan.find? fun d => d.maps (0xE1000 + 128 * n)).isSome = true
  rw [List.find?_isSome]
  refine ⟨⟨0xe1000, 128, 128, 0, 0, 0, 0x30000, 0, 0, []⟩, by decide, ?_⟩
  simp [RegDef.maps, h]

section
variable {s : State}

/-- A read of CVI_Q0 latches the upper half of the charge for CVI_Q1 (R11). -/
theorem accessRead_q0 (hu : s.regUp 0x50014 = true) :
    (s.accessRead 0x50014).out = .access 0x50014 stOk 0 (s.word 0x50014).toNat :: s.out ∧
    (s.accessRead 0x50014).cvi.q1Shadow = (s.word 0x50018).toNat := by
  refine ⟨accessRead_out s _ (by decide) hu, ?_⟩
  rw [accessRead_eq s _ (by decide) hu, readEffect_eq hu]
  simp [rcCleared_word_other]

/-- A read of TIM_NSEC latches the seconds (R11). -/
theorem accessRead_nsec (hu : s.regUp 0xD0010 = true) :
    (s.accessRead 0xD0010).out = .access 0xD0010 stOk 0 (BitVec.ofNat 32 s.quartzNano).toNat :: s.out ∧
    (s.accessRead 0xD0010).time.secShadow = s.quartzSec := by
  refine ⟨accessRead_out s _ (by decide) hu, ?_⟩
  rw [accessRead_eq s _ (by decide) hu, readEffect_eq hu]
  simp

/-- A read of CAN_ERRQ removes the oldest entry (R336). -/
theorem accessRead_errq (hu : s.regUp 0xE0020 = true) :
    (s.accessRead 0xE0020).out = .access 0xE0020 stOk 0 (s.can.errq.headD 0).toNat :: s.out ∧
    (s.accessRead 0xE0020).can.errq = s.can.errq.drop 1 := by
  refine ⟨accessRead_out s _ (by decide) hu, ?_⟩
  rw [accessRead_eq s _ (by decide) hu, readEffect_eq hu]
  simp

/-- A read of CAN_LOGQ removes the oldest entry (R336). -/
theorem accessRead_logq (hu : s.regUp 0xE0024 = true) :
    (s.accessRead 0xE0024).out = .access 0xE0024 stOk 0 (s.can.logq.headD 0).toNat :: s.out ∧
    (s.accessRead 0xE0024).can.logq = s.can.logq.drop 1 := by
  refine ⟨accessRead_out s _ (by decide) hu, ?_⟩
  rw [accessRead_eq s _ (by decide) hu, readEffect_eq hu]
  simp

/-- A read of RXSTAT clears NEW and LOST of its object and latches it (R335). -/
theorem accessRead_rxstat {n : Nat} {o : CanObj} (hn : n < 128) (ho : assoc? n s.can.objs = some o)
    (hu : s.regUp (0xE1000 + 128 * n) = true) :
    (s.accessRead (0xE1000 + 128 * n)).out = .access (0xE1000 + 128 * n) stOk 0 (s.view (0xE1000 + 128 * n)).toNat :: s.out ∧
    assoc? n (s.accessRead (0xE1000 + 128 * n)).can.objs = some { o with new := false, lost := false } ∧
    assoc? n (s.accessRead (0xE1000 + 128 * n)).can.shadow = some o := by
  have hk : (0xE1000 + 128 * n - 0xE1000) / 128 = n := by omega
  have he : s.readEffect (0xE1000 + 128 * n) = (rcCleared s (0xE1000 + 128 * n)).rxLatch n := by
    rw [readEffect_eq hu, if_neg (by omega), if_neg (by omega), if_neg (by omega), if_neg (by omega), if_pos (by omega), hk]
  refine ⟨accessRead_out s _ (rxstat_mapped hn) hu, ?_⟩
  rw [accessRead_eq s _ (rxstat_mapped hn) hu, emit_can, he]
  exact rxLatch_can _ _ (by rw [rcCleared_can]; exact ho)

end

end Sys2Proof.Machine.Laws

namespace Sys2Proof.Proofs

open Sys2Proof.Machine Sys2Proof.Machine.Laws Sys2Proof.Safety

/-- Settles O2: each clause is what one access does under the guard that the module is in service. -/
theorem registerAccessesReturnAndLatch : Obligations.RegisterAccessesReturnAndLatch := by
  unfold Obligations.RegisterAccessesReturnAndLatch
  rintro s _ t x n rfl hs
  refine ⟨fun d hd hu => ?rc, fun hu => ?q0, fun hu => ?nsec, fun o hn ho hu => ?rxstat, fun hu => ?errq, fun hu => ?logq⟩
  case rc =>
    refine answers_of_guard rfl hs rfl ?_
    rw [command_out, command_word]
    exact ⟨accessRead_out _ _ (by simp [hd]) hu, accessRead_word _ _ hd hu⟩
  case q0 =>
    refine answers_of_guard rfl hs rfl ?_
    rw [command_out, command_cvi]
    exact accessRead_q0 hu
  case nsec =>
    refine answers_of_guard rfl hs rfl ?_
    rw [command_out, command_time]
    exact accessRead_nsec hu
  case rxstat =>
    refine answers_of_guard rfl (by simp [hs, hn]) rfl ?_
    rw [command_out, command_can]
    exact accessRead_rxstat hn ho hu
  case errq =>
    refine answers_of_guard rfl hs rfl ?_
    rw [command_out, command_can]
    exact accessRead_errq hu
  case logq =>
    refine answers_of_guard rfl hs rfl ?_
    rw [command_out, command_can]
    exact accessRead_logq hu

end Sys2Proof.Proofs
end

section
/-! The register opcodes: what a write keeps of the sessions, and the result of each opcode (O1). -/

namespace Sys2Proof.Machine.Laws

open Sys2Proof.Safety

/-! ## The place of a reply in its session's cache (R283) -/

/-- The session is there, and the request with the sequence number `q` stands first in its cache, whatever its reply is so far. -/
def HasPlace (n q : Nat) (s : State) : Prop := n < s.host.sess.length ∧ ∃ c l, (s.session n).cache = (q, c) :: l

section
variable {n q : Nat} {s s' : State}

theorem HasPlace.of_sess (h : HasPlace n q s) (hs : s'.host.sess = s.host.sess) : HasPlace n q s' := by
  unfold HasPlace State.session at h ⊢
  rw [hs]
  exact h

theorem HasPlace.of_host (h : HasPlace n q s) (hs : s'.host = s.host) : HasPlace n q s' := h.of_sess (by rw [hs])

theorem HasPlace.of_cache (h : HasPlace n q s) (hl : s'.host.sess.length = s.host.sess.length)
    (hc : (s'.session n).cache = (s.session n).cache) : HasPlace n q s' := by
  unfold HasPlace at h ⊢
  rw [hl, hc]
  exact h

/-- A served request has its place in the state it is carried out in. -/
theorem taken_hasPlace {a : State} {op : Nat} {r : Req} {fmt : Fmt} (h : serves a op r fmt = true) : HasPlace r.session r.seq (taken a r) := by
  refine ⟨serves_len h, ?_⟩
  have ht : ¬ r.target = 0xFE := by simpa using serves_target h
  have hh : (taken a r).host = (a.accept r).host := by unfold taken State.touchWindow; split <;> rfl
  unfold State.session
  rw [hh]
  unfold State.accept
  simp only [nth_modNth_same _ _ _ _ (open_lt a _ (serves_open h)), if_neg ht]
  exact ⟨_, _, rfl⟩

/-- A reply packet leaves the cache of every session. -/
theorem queueReply_cache_any (s : State) (m : Nat) (via : Via) (src : Nat) (p : Pkt) (n : Nat) :
    ((s.queueReply m via src p).session n).cache = (s.session n).cache := by
  by_cases hm : m = n
  · subst hm; exact queueReply_cache s m via src p
  · unfold State.queueReply State.session
    dsimp only
    split
    · split
      · rfl
      · simp only [State.qLost, count_host]; rfl
    · split
      · simp only [nth_modNth_other _ _ _ _ _ hm]
      · simp only [State.qLost, count_host, nth_modNth_other _ _ _ _ _ hm]

/-- The reply to any request enters its cache in its own place. -/
theorem cachePut_front (k : Nat) (ps : List Pkt) (c : List Pkt) (l : List (Nat × List Pkt)) :
    ∃ c' l', cachePut k ps ((q, c) :: l) = (q, c') :: l' := by
  unfold cachePut
  rw [List.map_cons]
  split
  next h => exact ⟨ps, _, by rw [← (show q = k from h)]⟩
  next => exact ⟨c, _, rfl⟩

theorem HasPlace.foldl {α : Type} (f : State → α → State) (hf : ∀ s x, HasPlace n q s → HasPlace n q (f s x)) (l : List α) :
    ∀ s, HasPlace n q s → HasPlace n q (l.foldl f s) := by
  induction l with
  | nil => exact fun _ h => h
  | cons x t ih => exact fun s h => ih _ (hf s x h)

theorem HasPlace.queueReply (h : HasPlace n q s) (m : Nat) (via : Via) (src : Nat) (p : Pkt) : HasPlace n q (s.queueReply m via src p) :=
  h.of_cache (queueReply_sess_length s m via src p) (queueReply_cache_any s m via src p n)

theorem HasPlace.toSpi (h : HasPlace n q s) (p : Pkt) : HasPlace n q (s.toSpi p) := h.of_sess rfl

theorem HasPlace.sendFree (h : HasPlace n q s) (via : Via) (src : Nat) (p : Pkt) : HasPlace n q (s.sendFree via src p) := by
  cases via
  · exact h.of_sess rfl
  · exact h.of_sess rfl
  · exact h.toSpi p

/-- An answer to another request leaves a request its place. -/
theorem HasPlace.answer (h : HasPlace n q s) (id : ReqId) (st j : Nat) (p : List Byte) : HasPlace n q (s.answer id st j p) := by
  unfold State.answer
  dsimp only
  split
  · exact (HasPlace.foldl _ (fun _ p h => h.toSpi p) _ _ h).of_sess rfl
  · split
    · have hf := HasPlace.foldl _ (fun _ p h => HasPlace.queueReply h id.session id.via id.src p) (s.replyPkts id st j p) _ h
      split
      · exact hf
      · obtain ⟨hl, c, l, hc⟩ := hf
        refine ⟨(modNth_length _ _ _).symm ▸ hl, ?_⟩
        unfold State.session at hc ⊢
        by_cases hn : id.session = n
        · subst hn
          simp only [nth_modNth_same _ _ _ _ hl, hc]
          exact cachePut_front _ _ _ _
        · simp only [nth_modNth_other _ _ _ _ _ hn]
          exact ⟨c, l, hc⟩
    · exact HasPlace.foldl _ (fun _ p h => HasPlace.sendFree h id.via id.src p) _ _ h

end

/-! ## The result of a served request -/

theorem word_of_get {s s' : State} {y : Nat} (h : s'.get ⟨y, 0, 32⟩ = s.get ⟨y, 0, 32⟩) : s'.word y = s.word y := by
  apply BitVec.eq_of_toNat_eq
  have hm : ∀ w : Word, (⟨y, 0, 32⟩ : Fld).of w = w.toNat := fun w => Nat.mod_eq_of_lt w.isLt
  rw [← hm, ← hm]
  exact h

theorem giveRes_word (s : State) (r : Req) (op : Nat) (res : HRes) {y : Nat} (ha : r.auth = true) (hn : r.session < 8)
    (h : replyReg y = false) : (s.giveRes (reqId r op false) res).word y = s.word y :=
  word_of_get (giveRes_get s r op res ⟨y, 0, 32⟩ ha (show 0 + 32 ≤ 32 by decide) h hn)

theorem serves_session {a : State} {op : Nat} {r : Req} {fmt : Fmt} (h : serves a op r fmt = true) : r.session < 8 := by
  have ho := serves_open h
  unfold State.isOpen at ho
  simp only [Bool.and_eq_true, decide_eq_true_eq] at ho
  exact ho.1.1

/-- A served request whose body answers at once: the reply is given, and of the registers the counters of a full queue alone move after
the body. -/
theorem answers_of_served {c : Instr} {s s1 : State} {t op st j : Nat} {r : Req} {fmt : Fmt} {body : ReqId → State → State × HRes}
    {p : List Byte} {P : State → Prop} (hc : exec c s = .next (s.hostCommand t op r fmt body)) (h : serves (s.upto t) op r fmt = true)
    (hb : body (reqId r op false) (taken (s.upto t) r) = (s1, .reply st j p)) (hs : HasPlace r.session r.seq s1)
    (hP : ∀ s', Replied s' r op st j p → (∀ y, replyReg y = false → s'.word y = s1.word y) → P s') : Answers c s P := by
  refine ⟨_, hc, ?_⟩
  rw [hostCommand_served _ _ _ _ _ _ h, hb]
  refine hP _ ?_ fun y hy => ?_
  · have hr := giveRes_replied s1 r op st j p (serves_auth h) (serves_target h) hs.1 hs.2
    unfold Replied State.session at hr ⊢
    rw [command_host]
    exact hr
  · rw [command_word]
    exact giveRes_word _ _ _ _ (serves_auth h) (serves_session h) hy

/-! ## What a write brings leaves the sessions

Nothing a write sets going touches the host's side but one reply: a ring that starts anew answers the BALANCE_PLAN that waits (R305). -/

section
variable (s : State)

theorem foldl_host {α : Type} (f : State → α → State) (hf : ∀ s x, (f s x).host = s.host) (l : List α) (s : State) :
    (l.foldl f s).host = s.host := by
  induction l generalizing s with
  | nil => rfl
  | cons x t ih => rw [List.foldl_cons, ih, hf]

@[simp] theorem qLost_host (n : Nat) : (s.qLost n).host = s.host := count_host _ _ _

@[simp] theorem entry_host (i : Nat) (d c : Int) : (s.entry i d c).host = s.host := by
  unfold State.entry State.entryPut
  dsimp only
  split_ifs <;> rfl

@[simp] theorem integrity_host : s.integrity.host = s.host := by
  unfold State.integrity
  split_ifs <;> exact entry_host ..

@[simp] theorem reach_host : s.reach.host = s.host := integrity_host _

@[simp] theorem setSegMis_host (p : Nat) (b : Bool) : (s.setSegMis p b).host = s.host := integrity_host _

@[simp] theorem acqBroadcast_host : s.acqBroadcast.host = s.host := by
  unfold State.acqBroadcast State.ringBroadcast
  dsimp only
  split_ifs <;> rfl

@[simp] theorem balanceZero_host : s.balanceZero.host = s.host := by
  unfold State.balanceZero
  dsimp only
  split
  · exact foldl_host _ (fun _ _ => by rfl) _ _
  · rfl

@[simp] theorem forceHook_host : s.forceHook.host = s.host := by
  unfold State.forceHook
  dsimp only
  split
  · rfl
  · exact integrity_host _

@[simp] theorem insFollow_host : s.insFollow.host = s.host := by
  unfold State.insFollow State.legSwitch State.insPause
  split_ifs <;> rfl

@[simp] theorem timState_host (c : Nat) : (s.timState c).host = s.host := by
  unfold State.timState
  split
  · rfl
  · rw [raise_host]; rfl

@[simp] theorem selectMaster_host : s.selectMaster.host = s.host := by
  unfold State.selectMaster
  split
  · rfl
  · simp only [apply_ite State.host, timState_host, ite_self]
    rfl

@[simp] theorem timCfgHook_host (old : Word) : (s.timCfgHook old).host = s.host := by
  unfold State.timCfgHook
  dsimp only
  split_ifs <;> simp

@[simp] theorem canLog_host (c a : Nat) : (s.canLog c a).host = s.host := by
  unfold State.canLog
  dsimp only
  split_ifs <;> simp

@[simp] theorem candApply_host (i : Nat) : (s.candApply i).host = s.host := rfl

@[simp] theorem canRestart_host : s.canRestart.host = s.host := by
  unfold State.canRestart
  dsimp only
  split
  · rw [candApply_host, set_host, canLog_host, set_host, setB_host, setB_host, setB_host, set_host, set_host]
  · rw [set_host, canLog_host, set_host, setB_host, setB_host, setB_host, set_host, set_host]

@[simp] theorem canDrop_host : s.canDrop.host = s.host := count_host _ _ _

@[simp] theorem canEvict_host (q : Nat) : (s.canEvict q).host = s.host := by
  unfold State.canEvict
  dsimp only
  split_ifs <;> simp

@[simp] theorem txgo_host (v : Nat) : (s.txgo v).host = s.host := by
  unfold State.txgo State.canPut
  dsimp only
  split_ifs <;> simp

@[simp] theorem canRecover_host : s.canRecover.host = s.host := by
  unfold State.canRecover
  split_ifs <;> rfl

@[simp] theorem owStart_host (k n : Nat) : (s.owStart k n).host = s.host := by
  unfold State.owStart
  dsimp only
  split_ifs
  · rfl
  · rfl
  · exact foldl_host _ (fun _ _ => by rfl) _ _
  · exact foldl_host _ (fun _ _ => by rfl) _ _

@[simp] theorem tripFirst_host : s.tripFirst.host = s.host := by
  unfold State.tripFirst
  split_ifs <;> rfl

@[simp] theorem tripClear_host (m : Nat) : (s.tripClear m).host = s.host := by
  unfold State.tripClear
  dsimp only
  rw [tripFirst_host]
  exact foldl_host _ (fun _ _ => by rfl) _ _

@[simp] theorem loopStart_host : s.loopStart.host = s.host := by
  unfold State.loopStart
  split <;> rfl

@[simp] theorem runWrite_host (was run : Bool) : (s.runWrite was run).host = s.host := by
  unfold State.runWrite
  split_ifs
  · exact loopStart_host _
  · exact loopStart_host _
  · rfl
  · rfl

@[simp] theorem clearBits_host (a m : Nat) : (s.clearBits a m).host = s.host := by
  unfold State.clearBits
  dsimp only
  split_ifs <;> simp

end

section
variable {n q : Nat} {s : State}

theorem HasPlace.balanceReply (h : HasPlace n q s) : HasPlace n q s.balanceReply := by
  unfold State.balanceReply
  split
  · exact h
  · dsimp only
    split
    · refine HasPlace.answer ?_ _ _ _ _
      exact h.of_sess rfl
    · exact h

theorem HasPlace.cmdsLost (h : HasPlace n q s) : HasPlace n q s.cmdsLost := by
  unfold State.cmdsLost
  dsimp only
  split
  · exact h.of_host rfl
  · refine HasPlace.balanceReply ?_
    exact h.of_host rfl

theorem HasPlace.ringStart (h : HasPlace n q s) (r : Bool) : HasPlace n q (s.ringStart r) := by
  have h1 := h.cmdsLost
  unfold State.ringStart
  generalize s.cmdsLost = s1 at h1
  exact h1.of_host rfl

theorem HasPlace.lenHook (h : HasPlace n q s) (old : Nat) : HasPlace n q (s.lenHook old) := by
  unfold State.lenHook
  have hf := h.of_host (foldl_host (fun (a : State) i => a.setSegMis (i + 1) false) (fun a i => setSegMis_host a (i + 1) false)
    ((List.range 40).filter (fun i => decide (s.len < i + 1) && s.segMis (i + 1))) s)
  dsimp only
  generalize List.foldl _ s _ = s1 at hf ⊢
  split_ifs
  · exact h
  · refine HasPlace.of_host (s := State.cmdsLost _) (HasPlace.cmdsLost ?_) (reach_host _)
    exact hf.of_host rfl
  · exact hf.of_host (reach_host _)

/-- Of all registers RING_CTRL alone has consequences that may answer a request. -/
theorem writeHook_host (s : State) {a : Nat} (old : Word) (h : a ≠ 0x30000) : (s.writeHook a old).host = s.host := by
  unfold State.writeHook State.hostLimHook State.iicStop
  simp only [if_neg h, apply_ite State.host, acqBroadcast_host, balanceZero_host, forceHook_host, insFollow_host, entry_host,
    timCfgHook_host, canRestart_host, set_host, ite_self]

theorem strobeBits_host (s : State) {a : Nat} (v : Nat) (h : a ≠ 0x30000) : (s.strobeBits a v).host = s.host := by
  unfold State.strobeBits
  simp only [if_neg h, apply_ite State.host, owStart_host, canRecover_host, txgo_host, ite_self]

theorem HasPlace.writeHook (h : HasPlace n q s) (a : Nat) (old : Word) : HasPlace n q (s.writeHook a old) := by
  by_cases ha : a = 0x30000
  · have h1 : ∀ b : Bool, HasPlace n q (if b then s.lenHook (F.RING_CTRL_LEN.of old) else s) := by
      intro b
      split
      · exact h.lenHook _
      · exact h
    unfold State.writeHook
    rw [if_pos ha]
    dsimp only
    split
    · exact (h1 _).of_host (acqBroadcast_host _)
    · exact h1 _
  · exact h.of_host (writeHook_host s old ha)

theorem HasPlace.strobeBits (h : HasPlace n q s) (a v : Nat) : HasPlace n q (s.strobeBits a v) := by
  by_cases ha : a = 0x30000
  · unfold State.strobeBits
    rw [if_pos ha]
    split
    · exact h.ringStart _
    · exact h
  · exact h.of_host (strobeBits_host s v ha)

/-- A write leaves a served request its place. -/
theorem HasPlace.writeDo (h : HasPlace n q s) (a v : Nat) : HasPlace n q (s.writeDo a v) := by
  unfold State.writeDo
  split
  · exact h
  next d _ =>
    dsimp only
    have h1 : HasPlace n q (if d.rw = 0 then s else
        (s.putWord a (BitVec.ofNat 32 (((s.word a).toNat &&& (4294967295 - d.rw)) ||| (v &&& d.rw)))).writeHook a (s.word a)) := by
      split
      · exact h
      · exact HasPlace.writeHook (s := s.putWord a _) (h.of_host rfl) _ _
    generalize (if d.rw = 0 then s else _) = s1 at h1
    have h2 : HasPlace n q (if d.w1c = 0 then s1 else s1.clearBits a (v &&& d.w1c)) := by
      split
      · exact h1
      · exact h1.of_host (clearBits_host _ _ _)
    generalize (if d.w1c = 0 then s1 else _) = s2 at h2
    split_ifs
    · exact h
    · exact (h2.strobeBits a v).of_host (runWrite_host _ _ _)
    · exact h2.strobeBits a v

end

/-! ## Writes -/

/-- A register a write can act on is aligned, mapped, and has a bit to write (R15). -/
theorem writable_def {x : Nat} {d : RegDef} (h : writable x = some d) :
    x % 4 = 0 ∧ regDef? x = some d ∧ (d.rw ≠ 0 ∨ d.w1c ≠ 0 ∨ d.wo ≠ 0) := by
  unfold writable at h
  split at h
  · cases h
  · split at h
    · cases h
    · split at h
      · cases h
      · rename_i hx d' hd hz
        cases h
        refine ⟨by tauto, hd, ?_⟩
        simp only [Bool.and_eq_true, decide_eq_true_eq] at hz
        tauto

/-- The registers that the queueing of a reply counts in have no plain bit: GLB_PKTERR none to write, TIL_QSTAT one that a 1 clears. -/
theorem not_replyReg_of_writable {x : Nat} {d : RegDef} (h : writable x = some d) (hc : d.w1c = 0) : replyReg x = false := by
  by_contra hr
  rw [Bool.not_eq_false] at hr
  unfold replyReg at hr
  rw [Bool.or_eq_true, beq_iff_eq, Bool.and_eq_true, decide_eq_true_eq, decide_eq_true_eq] at hr
  obtain rfl | hx := hr
  · cases h.symm.trans (show writable 0x24 = none by decide)
  · obtain ⟨h4, hd, -⟩ := writable_def h
    have hq : ∀ i < 48, ((regDef? (0x100100 + 4 * i)).any fun d => d.w1c == 0) = false := by decide
    have hi := hq ((x - 0x100100) / 4) (by omega)
    rw [show 0x100100 + 4 * ((x - 0x100100) / 4) = x by omega, hd] at hi
    simp [hc] at hi

section
variable {x : Nat} {d : RegDef} (s : State)

/-- What a write stores in a register without a consequence of its own (R13). -/
theorem writeDo_plain (v : Nat) (h : plainReg x d) :
    s.writeDo x v = s.putWord x (BitVec.ofNat 32 (((s.word x).toNat &&& (4294967295 - d.rw)) ||| (v &&& d.rw))) := by
  obtain ⟨hw, hc, ho, hdead, hx, hev⟩ := h
  obtain ⟨-, -, hb⟩ := writable_def hw
  have hrw : d.rw ≠ 0 := by simpa [hc, ho] using hb
  simp only [List.mem_cons, List.not_mem_nil, or_false, not_or] at hx
  obtain ⟨h0, h1, h2, h3, h4, h5, h6, h7, h8, h9, h10, h11, h12, h13, h14, h15, h16, h17⟩ := hx
  have hk : ∀ (u : State) (o : Word), u.writeHook x o = u := by
    intro u o
    unfold State.writeHook
    simp only [h0, h1, h2, h4, h5, h7, h8, h9, h11, h12, h13, h14, h17, hev, or_self, if_false]
  have hst : ∀ u : State, u.strobeBits x v = u := by
    intro u
    unfold State.strobeBits
    simp only [h0, h3, h10, h15, h16, if_false]
  unfold State.writeDo
  simp only [hw, hdead, hc, hrw, hk, hst, h6, Bool.false_eq_true, if_false, if_true]

theorem writeDo_plain_word (v : Nat) (h : plainReg x d) :
    (s.writeDo x v).word x = BitVec.ofNat 32 (((s.word x).toNat &&& (4294967295 - d.rw)) ||| (v &&& d.rw)) := by
  rw [writeDo_plain s v h, word_putWord_same]

theorem plainReg_not_replyReg (h : plainReg x d) : replyReg x = false := not_replyReg_of_writable h.1 h.2.1

theorem writeReg_ok {v : Nat} (h : s.writeErr x v = none) : s.writeReg x v = (s.writeDo x v, none) := by
  unfold State.writeReg; rw [h]

theorem writeReg_refused {v : Nat} {e : WriteErr} (h : s.writeErr x v = some e) : s.writeReg x v = (s, some e) := by
  unfold State.writeReg; rw [h]

/-- A refused write answers with its status, and with a reason and a place. -/
theorem WriteErr_res (e : WriteErr) (k : Nat) : ∃ p, e.res k = .reply e.status 0 p := by
  unfold WriteErr.res HRes.no HRes.err
  split <;> exact ⟨_, rfl⟩

/-! ## The bodies of the opcodes (Table 14.3) -/

/-- The word a modify writes: the bits of the mask from the value, the others as read, and the W1C bits outside the mask as 0 (R299). -/
def modifyWord (d : RegDef) (x m v : Nat) : Nat :=
  (((s.readWord x).toNat &&& (4294967295 - m)) ||| (v &&& m)) &&& (4294967295 - (d.w1c &&& (4294967295 - m)))

theorem modifyReg_ok {m v : Nat} (hw : writable x = some d) (hm : m &&& (d.rw ||| d.w1c ||| d.wo) ≠ 0)
    (he : s.writeErr x (modifyWord s d x m v) = none) :
    s.modifyReg x m v = (s.writeDo x (modifyWord s d x m v), .reply stOk 0 (leBytes 4 (s.readWord x).toNat ++
      leBytes 4 ((s.writeDo x (modifyWord s d x m v)).readWord x).toNat)) := by
  unfold State.modifyReg
  simp only [hw, if_neg hm]
  rw [show (((s.readWord x).toNat &&& (4294967295 - m)) ||| (v &&& m)) &&& (4294967295 - (d.w1c &&& (4294967295 - m))) =
    modifyWord s d x m v from rfl, writeReg_ok s he]
  rfl

theorem modifyReg_nothing {m v : Nat} (hw : writable x = some d) (hm : m &&& (d.rw ||| d.w1c ||| d.wo) = 0) :
    s.modifyReg x m v = (s, .reply stBadParam 0 (leBytes 2 0 ++ leBytes 2 0)) := by
  unfold State.modifyReg
  simp only [hw, if_pos hm]
  rfl

/-- A block read takes the registers one after the other, each as a single read does (R300). -/
theorem readBlock_eq (at_ : Nat → State) (h0 : at_ 0 = s) (hn : ∀ i, at_ (i + 1) = ((at_ i).readReg (x + 4 * i)).1) (n : Nat) :
    s.readBlock x n = (at_ n, (List.range n).flatMap fun i => leBytes 4 ((at_ i).readWord (x + 4 * i)).toNat) := by
  induction n with
  | zero => rw [← h0]; rfl
  | succ n ih =>
    rw [State.readBlock, ih, List.range_succ, List.flatMap_append, hn n]
    simp [State.readReg]

theorem reads_host (at_ : Nat → State) (h0 : at_ 0 = s) (hn : ∀ i, at_ (i + 1) = ((at_ i).readReg (x + 4 * i)).1) (n : Nat) :
    (at_ n).host = s.host := by
  induction n with
  | zero => rw [h0]
  | succ n ih => rw [hn, ← ih]; exact readEffect_host _ _

end

/-! ## The opcodes (Table 14.3) -/

section
variable {s a : State} {t x v : Nat} {r : Req} {P : State → Prop} (ha : a = s.upto t) (hx : x = uAt r.payload 0 4)
include ha hx

theorem regRead_served (hd : (regDef? x).isSome = true) (hs : serves a 0x0101 r (Fmt.fixed 4 []) = true)
    (hP : ∀ s', Replied s' r 0x0101 stOk 0 (leBytes 4 ((taken a r).readWord x).toNat) → P s') : Answers (.regRead t r) s P := by
  subst ha hx
  refine answers_of_served rfl hs (s1 := (taken (s.upto t) r).readEffect (uAt r.payload 0 4)) ?_
    ((taken_hasPlace hs).of_host (readEffect_host _ _)) fun s' hr _ => hP s' hr
  simp only [Option.isNone_eq_false_iff.2 hd, Bool.false_eq_true, if_false]
  rfl

theorem regWrite_served (hv : v = uAt r.payload 4 4) (hs : serves a 0x0102 r (Fmt.fixed 8 []) = true)
    (he : (taken a r).writeErr x v = none)
    (hP : ∀ s', Replied s' r 0x0102 stOk 0 [] → (∀ y, replyReg y = false → s'.word y = ((taken a r).writeDo x v).word y) → P s') :
    Answers (.regWrite t r) s P := by
  subst ha hx hv
  refine answers_of_served rfl hs ?_ ((taken_hasPlace hs).writeDo _ _) hP
  simp only [writeReg_ok _ he]
  rfl

theorem regWrite_refused {e : WriteErr} (hv : v = uAt r.payload 4 4) (hs : serves a 0x0102 r (Fmt.fixed 8 []) = true)
    (he : (taken a r).writeErr x v = some e)
    (hP : ∀ s', (∃ p, Replied s' r 0x0102 e.status 0 p) → (∀ y, replyReg y = false → s'.word y = a.word y) → P s') :
    Answers (.regWrite t r) s P := by
  subst ha hx hv
  obtain ⟨p, hp⟩ := WriteErr_res e 4
  refine answers_of_served rfl hs ?_ (taken_hasPlace hs) fun s' hr hy => hP s' ⟨p, hr⟩ fun y h => (hy y h).trans (taken_word _ _ _)
  simp only [writeReg_refused _ he, hp]

theorem regModify_served {d : RegDef} {m w : Nat} (hm : m = uAt r.payload 4 4) (hv : v = uAt r.payload 8 4)
    (hw : w = modifyWord (taken a r) d x m v) (hs : serves a 0x0103 r (Fmt.fixed 12 []) = true) (hd : writable x = some d)
    (hb : m &&& (d.rw ||| d.w1c ||| d.wo) ≠ 0) (he : (taken a r).writeErr x w = none)
    (hP : ∀ s', Replied s' r 0x0103 stOk 0 (leBytes 4 ((taken a r).readWord x).toNat ++
        leBytes 4 (((taken a r).writeDo x w).readWord x).toNat) →
      (∀ y, replyReg y = false → s'.word y = ((taken a r).writeDo x w).word y) → P s') : Answers (.regModify t r) s P := by
  subst ha hx hm hv hw
  exact answers_of_served rfl hs (modifyReg_ok _ hd hb he) ((taken_hasPlace hs).writeDo _ _) hP

theorem regModify_refused {d : RegDef} {m : Nat} (hm : m = uAt r.payload 4 4) (hs : serves a 0x0103 r (Fmt.fixed 12 []) = true)
    (hd : writable x = some d) (hb : m &&& (d.rw ||| d.w1c ||| d.wo) = 0)
    (hP : ∀ s', Replied s' r 0x0103 stBadParam 0 (leBytes 2 0 ++ leBytes 2 0) → (∀ y, replyReg y = false → s'.word y = a.word y) → P s') :
    Answers (.regModify t r) s P := by
  subst ha hx hm
  exact answers_of_served rfl hs (modifyReg_nothing _ hd hb) (taken_hasPlace hs) fun s' hr hy =>
    hP s' hr fun y h => (hy y h).trans (taken_word _ _ _)

omit hx in
theorem regReadBlock_refused {n : Nat} (hn : n = uAt r.payload 4 2) (hb : n = 0 ∨ 256 < n)
    (hs : serves a 0x0104 r (Fmt.fixed 8 [6, 7]) = true)
    (hP : ∀ s', Replied s' r 0x0104 stBadParam 0 (leBytes 2 0 ++ leBytes 2 4) → P s') : Answers (.regReadBlock t r) s P := by
  subst ha hn
  refine answers_of_served rfl hs (s1 := taken (s.upto t) r) ?_ (taken_hasPlace hs) fun s' hr _ => hP s' hr
  simp only [if_pos hb]
  rfl

theorem regReadBlock_served {n : Nat} (hn : n = uAt r.payload 4 2) (h1 : 1 ≤ n) (h2 : n ≤ 256)
    (hd : ((List.range n).all fun i => (regDef? (x + 4 * i)).isSome) = true) (hs : serves a 0x0104 r (Fmt.fixed 8 [6, 7]) = true)
    (at_ : Nat → State) (h0 : at_ 0 = taken a r) (hat : ∀ i, at_ (i + 1) = ((at_ i).readReg (x + 4 * i)).1)
    (hP : ∀ s', Replied s' r 0x0104 stOk 0 ((List.range n).flatMap (fun i => leBytes 4 ((at_ i).readWord (x + 4 * i)).toNat)) →
      (∀ y, replyReg y = false → s'.word y = (at_ n).word y) → P s') : Answers (.regReadBlock t r) s P := by
  subst ha hx hn
  have hb : ¬ (uAt r.payload 4 2 = 0 ∨ 256 < uAt r.payload 4 2) := by omega
  have hall : ((List.range (uAt r.payload 4 2)).any fun i => (regDef? (uAt r.payload 0 4 + 4 * i)).isNone) = false := by
    rw [List.any_eq_false]
    rw [List.all_eq_true] at hd
    intro i hi
    simpa using Option.isSome_iff_ne_none.1 (hd i hi)
  refine answers_of_served rfl hs ?_ ((taken_hasPlace hs).of_host (reads_host _ at_ h0 hat _)) hP
  simp only [if_neg hb, hall, Bool.false_eq_true, if_false, readBlock_eq _ at_ h0 hat]
  rfl

end

/-- The fields of a plain register follow from its word (R13). -/
theorem get_of_plain_write {s a : State} {x v : Nat} {d : RegDef} (hp : plainReg x d)
    (hy : ∀ y, replyReg y = false → s.word y = (a.writeDo x v).word y) (f : Fld) (hf : f.addr = x) :
    s.get f = f.of (BitVec.ofNat 32 (((a.word x).toNat &&& (4294967295 - d.rw)) ||| (v &&& d.rw))) := by
  unfold State.get
  rw [hf, hy _ (plainReg_not_replyReg hp), writeDo_plain_word a v hp]

/-- Without W1C bits the word of a modify is the value in the mask and the word read outside it. -/
theorem modifyWord_plain {s : State} {d : RegDef} {x m v w : Nat} (hc : d.w1c = 0)
    (hw : w = ((s.readWord x).toNat &&& (4294967295 - m)) ||| (v &&& m)) (hlt : w < 4294967296) : w = modifyWord s d x m v := by
  unfold modifyWord
  rw [← hw, hc, Nat.zero_and]
  exact (Nat.and_two_pow_sub_one_of_lt_two_pow (n := 32) hlt).symm

end Sys2Proof.Machine.Laws

namespace Sys2Proof.Proofs

open Sys2Proof.Machine Sys2Proof.Machine.Laws Sys2Proof.Safety

/-- Settles O1: each opcode's body is computed on the state its session took the request in, its result is the reply, and the queueing of the
reply moves no register but the counters of a full queue. -/
theorem registerOpcodesReadAndWrite : Obligations.RegisterOpcodesReadAndWrite := by
  unfold Obligations.RegisterOpcodesReadAndWrite
  intro s a t r x v ha hx
  refine ⟨fun hd hs => ?read, fun u hv hs he hu => ?write, fun d hv hs he hp => ?writePlain, fun e hv hs he => ?refused,
    fun d m w hm hv hw hs hp hb hlt he => ?modifyPlain, fun d m w u hm hv hs hd hb hw he hu => ?modify,
    fun d m hm hs hd hb => ?modifyNothing, fun n hn hb hs => ?blockRefused, fun n hn h1 h2 hd hs at_ h0 hat => ?block⟩
  case read => exact regRead_served ha hx hd hs fun _ hr => hr
  case write =>
    subst hu
    exact regWrite_served ha hx hv hs he fun _ hr hy => ⟨hr, hy⟩
  case writePlain =>
    refine regWrite_served ha hx hv hs he fun s' hr hy => ⟨hr, fun f _ hf => ?_⟩
    rw [get_of_plain_write hp hy f hf, taken_word]
  case refused =>
    refine regWrite_refused ha hx hv hs he fun s' hr hy => ⟨hr, fun f _ hf => ?_⟩
    unfold State.get
    rw [hy _ hf]
  case modifyPlain =>
    obtain ⟨hd, hc, ho, -⟩ := id hp
    refine regModify_served ha hx hm hv (modifyWord_plain hc hw hlt) hs hd (by simpa [hc, ho] using hb) he fun s' hr hy =>
      ⟨⟨_, hr⟩, fun f _ hf => ?_⟩
    rw [get_of_plain_write hp hy f hf, taken_word]
  case modify =>
    subst hu
    exact regModify_served ha hx hm hv hw hs hd hb he fun _ hr hy => ⟨hr, hy⟩
  case modifyNothing => exact regModify_refused ha hx hm hs hd hb fun _ hr hy => ⟨hr, hy⟩
  case blockRefused => exact regReadBlock_refused ha hn hb hs fun _ hr => hr
  case block => exact regReadBlock_served ha hx hn h1 h2 hd hs at_ h0 hat fun _ hr hy => ⟨hr, hy⟩

end Sys2Proof.Proofs
end

section
/-! The I²C port: the mailbox, transactions as target, calls, arbitration and bus errors (O42). -/

namespace Sys2Proof.Machine.Laws

open Sys2Proof.Safety

/-! ## Fields apart from others -/

/-- The field lies in its word and shares no bit with the fields of a list. -/
def clearOf (l : List Fld) (f : Fld) : Bool :=
  decide (f.lo + f.w ≤ 32) && l.all (fun g => decide (g.addr ≠ f.addr ∨ g.lo + g.w ≤ f.lo ∨ f.lo + f.w ≤ g.lo))

section
variable {l : List Fld} {f g : Fld}

theorem clearOf_fits (h : clearOf l f = true) : f.fits := by
  unfold clearOf at h
  rw [Bool.and_eq_true] at h
  exact (of_decide_eq_true h.1 : f.lo + f.w ≤ 32)

theorem clearOf_apart (h : clearOf l f = true) (hg : g ∈ l) : Fld.apart g f := by
  unfold clearOf at h
  rw [Bool.and_eq_true, List.all_eq_true] at h
  exact (of_decide_eq_true (h.2 g hg) : g.addr ≠ f.addr ∨ g.lo + g.w ≤ f.lo ∨ f.lo + f.w ≤ g.lo)

end

/-! ## Fields after a count, and fields a write in another register leaves -/

theorem get_set_elsewhere (s : State) (f g : Fld) (x : Nat) (h : f.addr ≠ g.addr) : (s.set f x).get g = s.get g := by
  unfold State.get; rw [word_set_other _ _ _ _ h]

/-- A count below its maximum goes up by one (R9). -/
theorem get_count_below (s : State) (f sat : Fld) (hf : f.fits) (h : s.get f + 1 < 2 ^ f.w) : (s.count f sat).get f = s.get f + 1 := by
  unfold State.count
  simp only [h, if_true]
  rw [get_set_same _ _ _ hf, Nat.mod_eq_of_lt h]

/-- A count at its maximum stays there and sets SAT (R9). -/
theorem get_count_full (s : State) (f sat : Fld) (hf : f.fits) (ha : Fld.apart sat f) (h : s.get f = 2 ^ f.w - 1) :
    (s.count f sat).get f = 2 ^ f.w - 1 := by
  have hp := Nat.two_pow_pos f.w
  unfold State.count State.setB
  simp only [show ¬ s.get f + 1 < 2 ^ f.w by omega, if_false]
  rw [get_set_other _ _ _ _ hf ha, get_set_same _ _ _ hf, Nat.mod_eq_of_lt (by omega)]

theorem flag_count_full (s : State) (f sat : Fld) (hs : sat.fits) (hw : sat.w = 1) (h : s.get f = 2 ^ f.w - 1) :
    (s.count f sat).flag sat = true := by
  have hp := Nat.two_pow_pos f.w
  unfold State.count State.setB State.flag
  simp only [show ¬ s.get f + 1 < 2 ^ f.w by omega, if_false]
  rw [get_set_same _ _ _ hs, hw]
  rfl

/-- A count changes its own field and its SAT field alone. -/
theorem get_count_other (s : State) (f sat g : Fld) (h : clearOf [f, sat] g = true) : (s.count f sat).get g = s.get g := by
  have hf := clearOf_apart h (List.mem_cons_self ..)
  have hs := clearOf_apart h (g := sat) (by simp)
  unfold State.count State.setB
  dsimp only
  split
  · exact get_set_other _ _ _ _ (clearOf_fits h) hf
  · rw [get_set_other _ _ _ _ (clearOf_fits h) hs, get_set_other _ _ _ _ (clearOf_fits h) hf]

/-! ## The status bytes of the I²C window do not depend on the I²C port -/

section
variable {s s' : State}

theorem get_of_words {b : Nat} (hw : ∀ a < b, s'.word a = s.word a) (f : Fld) (hf : f.addr < b) : s'.get f = s.get f := by
  unfold State.get; rw [hw _ hf]

/-- CONNBLK follows from the registers below the I²C block, the mode and the estimator. -/
theorem connBlk_congr (hw : ∀ a < 0xF0000, s'.word a = s.word a) (hr : s'.rst = s.rst) (he : s'.est = s.est) :
    s'.connBlk = s.connBlk := by
  have hg := get_of_words hw
  have hc : ∀ q, q < s.get F.RING_CTRL_LEN → s'.cells (q + 1) = s.cells (q + 1) := by
    intro q hq
    have hl : s.get F.RING_CTRL_LEN < 64 := get_lt s F.RING_CTRL_LEN
    exact hg _ (show 0x40100 + 4 * q < 0xF0000 by omega)
  have hq : (fun (c, i) => (Cell.qual c == 1 && decide (i / 16 < s.get F.RING_CTRL_LEN) && decide (i % 16 < s'.cells (i / 16 + 1))))
      = (fun ((c : Cell), i) => (c.qual == 1 && decide (i / 16 < s.get F.RING_CTRL_LEN) && decide (i % 16 < s.cells (i / 16 + 1)))) := by
    funext ⟨c, i⟩
    by_cases h : i / 16 < s.get F.RING_CTRL_LEN
    · simp only [hc _ h]
    · simp [h]
  unfold State.connBlk State.inRun State.tripped State.noProfile State.welded State.flag
  simp (disch := decide) only [hg, hw, hr, he]
  rw [hq]

theorem view_trip (s : State) : s.view 0x8002C = s.word 0x8002C := rfl
theorem view_connBlk (s : State) : s.view 0x80030 = BitVec.ofNat 32 s.connBlk := rfl
theorem view_estFlags (s : State) : s.view 0x60018 = F.EST_FLAGS_NOPROFILE.into (s.word 0x60018) (b2n s.noProfile) := rfl

/-- The status bytes 0x30 … 0x3D follow from the registers below the I²C block, the mode and the estimator. -/
theorem iicStatus_congr (hw : ∀ a < 0xF0000, s'.word a = s.word a) (hr : s'.rst = s.rst) (he : s'.est = s.est) :
    s'.iicStatus = s.iicStatus := by
  have hg := get_of_words hw
  have hv : s'.noProfile = s.noProfile := by unfold State.noProfile; rw [he]
  unfold State.iicStatus State.rd
  rw [view_trip, view_connBlk, view_estFlags, view_trip, view_connBlk, view_estFlags, connBlk_congr hw hr he, hv]
  simp (disch := decide) only [hg, hw]

/-- The window bytes of a call, 0x30 … 0x3F, follow from the status bytes and SEQ. -/
theorem winByte_status_congr (hs : s'.iicStatus = s.iicStatus) (hq : s'.iic.seq = s.iic.seq) {p : Nat} (h1 : 48 ≤ p) (h2 : p < 128) :
    s'.winByte p = s.winByte p := by
  unfold State.winByte
  simp only [show ¬ p < 48 by omega, if_false, hs, hq, h2, if_true]

theorem callBytes_congr (hw : ∀ a, a ≠ 0xF000C → s'.word a = s.word a) (hr : s'.rst = s.rst) (he : s'.est = s.est)
    (hq : s'.iic.seq = s.iic.seq) : s'.callBytes = s.callBytes := by
  have hs := iicStatus_congr (fun a ha => hw a (by omega)) hr he
  have hb : (List.range 16).map (fun i => s'.winByte (0x30 + i)) = (List.range 16).map (fun i => s.winByte (0x30 + i)) :=
    List.map_congr_left (fun i hi => winByte_status_congr hs hq (by omega) (by have := List.mem_range.1 hi; omega))
  unfold State.callBytes State.get
  rw [hb, hw F.IIC_ATTN_HADDR.addr (by decide)]

end

/-! ## The mailbox (R341) -/

theorem nth_leBytes (v i : Nat) (hi : i < 4) : nth 0 (leBytes 4 v) i = BitVec.ofNat 8 (v / 2 ^ (8 * i)) := by
  interval_cases i <;> simp [leBytes, nth, Nat.div_div_eq_div_mul]

/-- The byte of a word at place `i` is its field of eight bits there. -/
theorem nth_leBytes_word (a i : Nat) (w : Word) (hi : i < 4) :
    nth 0 (leBytes 4 w.toNat) i = BitVec.ofNat 8 ((⟨a, 8 * i, 8⟩ : Fld).of w) := by
  rw [nth_leBytes _ _ hi]
  apply BitVec.eq_of_toNat_eq
  simp [Fld.of, Nat.shiftRight_eq_div_pow]

/-- A mailbox byte reads as the mailbox word holds it. -/
theorem winByte_mbx (s : State) {p : Nat} (h : 128 ≤ p) :
    s.winByte p = nth 0 (leBytes 4 (s.word (0xF0080 + (p - 0x80) / 4 * 4)).toNat) (p % 4) := by
  unfold State.winByte
  simp only [show ¬ p < 48 by omega, show ¬ p < 0x3E by omega, show ¬ p = 0x3E by omega, show ¬ p < 0x80 by omega, if_false]

/-- A byte written to the mailbox is read back. -/
theorem winByte_mbxPut (s : State) {p : Nat} (b : Byte) (h : 128 ≤ p) : (s.mbxPut p b).winByte p = b := by
  have hi : p % 4 < 4 := Nat.mod_lt _ (by decide)
  have hf : (⟨0xF0080 + (p - 0x80) / 4 * 4, 8 * (p % 4), 8⟩ : Fld).fits := show 8 * (p % 4) + 8 ≤ 32 by omega
  unfold State.mbxPut
  rw [winByte_mbx _ h, if_neg (by omega)]
  unfold State.set
  rw [word_putWord_same, nth_leBytes_word (0xF0080 + (p - 0x80) / 4 * 4) _ _ hi, of_into_same _ _ _ hf]
  apply BitVec.eq_of_toNat_eq
  simpa using b.isLt

section
variable (s : State)

@[simp] theorem mbxPut_iic (p : Nat) (b : Byte) : (s.mbxPut p b).iic = s.iic := by unfold State.mbxPut; split <;> rfl

@[simp] theorem winWrite_iic (p : Nat) (l : List Byte) : (s.winWrite p l).iic = s.iic := by
  induction l generalizing s p with
  | nil => rfl
  | cons b t ih => rw [State.winWrite, ih, mbxPut_iic]

/-- The lower half of the window discards what is written. -/
theorem mbxPut_low {p : Nat} (b : Byte) (h : p < 128) : s.mbxPut p b = s := by unfold State.mbxPut; rw [if_pos h]

@[simp] theorem mbxPost_regs (i n : Nat) : (s.mbxPost i n).regs = s.regs := by unfold State.mbxPost; split <;> rfl
@[simp] theorem mbxPost_ptr (i n : Nat) : (s.mbxPost i n).iic.ptr = s.iic.ptr := by unfold State.mbxPost; split <;> rfl

/-- A posting finds room in Q45. -/
theorem mbxPost_q45 {i n : Nat} (hn : n ≠ 0) (h : s.iic.q45.length < 8) : (s.mbxPost i n).iic.q45 = s.iic.q45 ++ [(i, n)] := by
  unfold State.mbxPost
  simp [hn, h]

/-! ## The bus in use (R340) -/

@[simp] theorem busUsed_iic : s.busUsed.iic = { s.iic with busFree := false, usedAt := s.now, target := false } := by
  unfold State.busUsed; dsimp only; split <;> rfl

@[simp] theorem busUsed_out : s.busUsed.out = s.out := by unfold State.busUsed; dsimp only; split <;> rfl

@[simp] theorem busUsed_busy : s.busUsed.flag F.IIC_STAT_BUSY = true := by
  unfold State.busUsed
  simp (disch := decide) [flag_field, setB_field, field_same, b2n]

/-- A bus in use shows in BUSY, and in ROLE where the module was target, alone. -/
theorem busUsed_get (f : Fld) (h : clearOf [F.IIC_STAT_ROLE, F.IIC_STAT_BUSY] f = true) : s.busUsed.get f = s.get f := by
  have hf := clearOf_fits h
  unfold State.busUsed State.setB
  dsimp only
  rw [get_set_other _ _ _ _ hf (clearOf_apart h (by simp))]
  split
  · rw [get_set_other _ _ _ _ hf (clearOf_apart h (by simp))]; rfl
  · rfl

theorem busUsed_word {a : Nat} (h : a ≠ 0xF000C) : s.busUsed.word a = s.word a := by
  unfold State.busUsed State.setB
  dsimp only
  rw [word_set_other _ _ _ _ h.symm]
  split
  · rw [word_set_other _ _ _ _ h.symm]; rfl
  · rfl

/-! ## Transactions as target (R341, R342) -/

/-- A write of a pointer and bytes, all acknowledged. -/
theorem targetWrite_iic (p : Byte) (l : List Byte) : (s.targetWrite (p :: l) false).iic.ptr = (p.toNat + l.length) % 256 ∧
    (s.targetWrite (p :: l) false).iic.busFree = false ∧ (s.targetWrite (p :: l) false).flag F.IIC_STAT_BUSY = true := by
  unfold State.targetWrite
  simp

/-- A pointer and one byte for the mailbox. -/
theorem targetWrite_mbx {p : Byte} (b : Byte) (h : 128 ≤ p.toNat) (hq : s.iic.q45.length < 8) :
    (s.targetWrite [p, b] false).winByte p.toNat = b ∧ (s.targetWrite [p, b] false).iic.q45 = s.iic.q45 ++ [(p.toNat, 1)] := by
  have hp : p.toNat % 256 = p.toNat := Nat.mod_eq_of_lt p.isLt
  unfold State.targetWrite
  simp only [Bool.false_eq_true, if_false, State.winWrite, List.length_singleton, List.range_one, Nat.add_zero, hp, h, decide_true,
    List.filter_cons_of_pos, List.filter_nil, List.headD_cons]
  constructor
  · refine Eq.trans ?_ (winByte_mbxPut s b h)
    rw [winByte_mbx _ h, winByte_mbx _ h, busUsed_word _ (by omega), word_congr (mbxPost_regs _ _ _)]
    rfl
  · rw [busUsed_iic]
    exact (mbxPost_q45 _ Nat.one_ne_zero (by simpa using hq)).trans (by simp)

/-- A pointer alone, or with bytes for the lower half, posts nothing and stores nothing (R341). -/
theorem targetWrite_low {p : Byte} (b : Byte) (h : p.toNat < 128) :
    (s.targetWrite [p, b] false).iic.q45 = s.iic.q45 ∧ ∀ a, a ≠ 0xF000C → (s.targetWrite [p, b] false).word a = s.word a := by
  have hp : ¬ 128 ≤ p.toNat % 256 := by omega
  unfold State.targetWrite
  simp only [Bool.false_eq_true, if_false, State.winWrite, mbxPut_low _ b h, List.length_singleton, List.range_one, Nat.add_zero, hp,
    decide_false, List.filter_cons_of_neg, not_false_iff, List.filter_nil, List.length_nil, State.mbxPost, if_true]
  exact ⟨by rw [busUsed_iic], fun a ha => busUsed_word _ ha⟩

/-- A write cut short in the acknowledge slot of its second byte takes the pointer alone, and counts (R342). -/
theorem targetWrite_cut (p b : Byte) : s.targetWrite [p, b] true =
    ({ (s.count F.IIC_ERR_PROTO_ERR F.IIC_ERR_SAT).setB F.IIC_STAT_PROTO_SEEN true with
      iic := { s.iic with ptr := p.toNat % 256 } } : State).busUsed := by
  have h : ((s.count F.IIC_ERR_PROTO_ERR F.IIC_ERR_SAT).setB F.IIC_STAT_PROTO_SEEN true).iic = s.iic := by simp
  rw [← h]
  rfl

theorem targetWrite_cut_get (p b : Byte) (f : Fld) (h : clearOf [F.IIC_STAT_ROLE, F.IIC_STAT_BUSY] f = true) :
    (s.targetWrite [p, b] true).get f = ((s.count F.IIC_ERR_PROTO_ERR F.IIC_ERR_SAT).setB F.IIC_STAT_PROTO_SEEN true).get f := by
  rw [targetWrite_cut, busUsed_get _ _ h]
  rfl

theorem targetWrite_cut_shows (p b : Byte) : (s.targetWrite [p, b] true).flag F.IIC_STAT_PROTO_SEEN = true ∧
    (s.targetWrite [p, b] true).iic.q45 = s.iic.q45 ∧ (s.targetWrite [p, b] true).iic.ptr = p.toNat := by
  refine ⟨?_, ?_, ?_⟩
  · unfold State.flag
    rw [targetWrite_cut_get _ _ _ _ (by decide), get_field, setB_field, field_same _ _ _ (by decide)]
    rfl
  · rw [targetWrite_cut, busUsed_iic]
  · rw [targetWrite_cut, busUsed_iic]
    exact Nat.mod_eq_of_lt p.isLt

/-- PROTO_ERR at its maximum stays there and sets SAT (R9, R342). -/
theorem targetWrite_cut_full (p b : Byte) (h : s.get F.IIC_ERR_PROTO_ERR = 255) :
    (s.targetWrite [p, b] true).get F.IIC_ERR_PROTO_ERR = 255 ∧ (s.targetWrite [p, b] true).flag F.IIC_ERR_SAT = true := by
  unfold State.flag
  rw [targetWrite_cut_get _ _ _ _ (by decide), targetWrite_cut_get _ _ _ _ (by decide)]
  unfold State.setB
  rw [get_set_elsewhere _ _ _ _ (by decide), get_set_elsewhere _ _ _ _ (by decide)]
  exact ⟨get_count_full _ _ _ (show 0 + 8 ≤ 32 by decide) (.inr (.inr (show 0 + 8 ≤ 31 by decide))) h,
    flag_count_full _ _ _ (show 31 + 1 ≤ 32 by decide) rfl h⟩

theorem targetRead_iic (n : Nat) : (s.targetRead n).iic.ptr = (s.iic.ptr + n) % 256 := by
  unfold State.targetRead; simp

theorem targetRead_out (n : Nat) :
    (s.targetRead n).out = .iic ((List.range n).map (fun i => s.winByte ((s.iic.ptr + i) % 256))) :: s.out := by
  unfold State.targetRead; rw [busUsed_out]; rfl

theorem mbxDrain_takes {f c : Nat} {rest : List (Nat × Nat)} (h : s.iic.q45 = (f, c) :: rest) :
    s.mbxDrain.iic.q45 = rest ∧ 104 ∈ s.mbxDrain.evr.pend := by
  unfold State.mbxDrain
  rw [h]
  exact ⟨by simp, raise_mem _ _ _⟩

/-! ## Calls (R343, R344) -/

@[simp] theorem callShow_iic : s.callShow.iic = s.iic := rfl

/-- ROLE and CALLPEND follow the calls. -/
theorem callShow_role : s.callShow.get F.IIC_STAT_ROLE = if s.iic.onBus then 2 else if s.iic.target then 1 else 0 := by
  unfold State.callShow
  simp (disch := decide) only [get_field, set_field, field_same]
  split
  · rfl
  · split <;> rfl

theorem callShow_callpend : s.callShow.flag F.IIC_STAT_CALLPEND = (s.iic.call.isSome || s.iic.waiting) := by
  unfold State.callShow
  simp (disch := decide) only [flag_field, set_field, setB_field, field_same, field_other]
  rw [show 2 ^ F.IIC_STAT_CALLPEND.w = 2 from rfl, b2n_mod, b2n_beq]

theorem callShow_get (f : Fld) (h : clearOf [F.IIC_STAT_ROLE, F.IIC_STAT_CALLPEND] f = true) : s.callShow.get f = s.get f := by
  have hf := clearOf_fits h
  unfold State.callShow State.setB
  rw [get_set_other _ _ _ _ hf (clearOf_apart h (by simp)), get_set_other _ _ _ _ hf (clearOf_apart h (by simp))]

/-- A waiting call starts on a free bus after MINGAP, with the bytes as they stand then (R343). -/
theorem callStart_begins (hf : s.iic.busFree = true) (ho : s.iic.onBus = false) (hc : s.iic.call = none) (hw : s.iic.waiting = true)
    (hg : s.gapOver = true) : s.callStart.iic.call = some s.callBytes ∧ s.callStart.iic.onBus = true ∧ s.callStart.iic.waiting = false ∧
      s.callStart.flag F.IIC_STAT_BUSY = true ∧ s.callStart.get F.IIC_STAT_ROLE = 2 ∧ s.callStart.flag F.IIC_STAT_CALLPEND = true := by
  unfold State.callStart
  simp only [hf, ho, hc, hw, hg, Bool.not_true, Bool.or_self, Bool.false_eq_true, if_false]
  refine ⟨rfl, rfl, rfl, ?_, ?_, ?_⟩
  · unfold State.flag
    rw [callShow_get _ _ (by decide)]
    simp (disch := decide) [get_field, setB_field, field_same, b2n]
  · rw [callShow_role]; rfl
  · rw [callShow_callpend]; rfl

theorem callStart_idle (hc : s.iic.call = none) (hw : s.iic.waiting = false) : s.callStart = s.callShow := by
  unfold State.callStart
  simp only [hc, hw, Bool.not_false, Bool.true_or, if_true, ite_self]

/-- What a call that waits leaves: SEQ and the status compared stand, and it waits on, or is under way. -/
theorem callStart_keeps : s.callStart.iic.seq = s.iic.seq ∧ s.callStart.iic.status = s.iic.status ∧
    (s.iic.waiting = true → s.callStart.iic.waiting = true ∨ s.callStart.iic.call.isSome = true) := by
  unfold State.callStart
  split
  · exact ⟨rfl, rfl, .inl⟩
  · split
    next b hb =>
      split
      · exact ⟨rfl, rfl, .inl⟩
      · exact ⟨rfl, rfl, .inl⟩
    next =>
      split
      · exact ⟨rfl, rfl, .inl⟩
      · exact ⟨rfl, rfl, fun _ => .inr rfl⟩

/-- The bus is free again (R340). -/
def busFreed : State :=
  ({ s with iic := { s.iic with busFree := true, target := false } } : State).setB F.IIC_STAT_BUSY false

theorem exec_iicBusFree (x : BusIdle) : exec (.iicBusFree x) s =
    .next (s.commandIf x.t (fun s => s.iicOn && !s.iic.onBus && s.lineIdle x) (fun s => (busFreed s).callStart)) := rfl

@[simp] theorem busFreed_iic : (busFreed s).iic = { s.iic with busFree := true, target := false } := rfl

theorem busFreed_word {a : Nat} (h : a ≠ 0xF000C) : (busFreed s).word a = s.word a := word_set_other _ _ _ _ h.symm

theorem busFreed_gapOver : (busFreed s).gapOver = s.gapOver := by
  unfold State.gapOver State.get
  rw [busFreed_word _ (by decide)]
  rfl

theorem busFreed_callBytes : (busFreed s).callBytes = s.callBytes := callBytes_congr (fun _ h => busFreed_word s h) rfl rfl rfl

theorem busFreed_busy : (busFreed s).flag F.IIC_STAT_BUSY = false := by
  unfold busFreed
  simp (disch := decide) [flag_field, setB_field, field_same, b2n]

/-- A call ends, or an attempt fails, off the bus. -/
theorem callFail_iic (g : Bool) : (s.callFail g).iic =
    if s.get F.IIC_ARB_RETRIES < s.get F.IIC_CFG_RETRY then
      { s.iic with onBus := false, usedAt := s.now, lastAt := if g then some s.now else s.iic.lastAt, gap := g }
    else { s.iic with onBus := false, usedAt := s.now, call := none, gap := false, lastAt := some s.now } := by
  unfold State.callFail
  dsimp only
  split
  · rfl
  · simp

theorem callFail_role (g : Bool) : (s.callFail g).get F.IIC_STAT_ROLE = if s.iic.target then 1 else 0 := by
  unfold State.callFail
  dsimp only
  split
  · rw [callShow_role]; rfl
  · rw [callShow_role]; simp

/-- The fields in which the outcome of an attempt shows. -/
def outcomeFlds : List Fld :=
  [F.IIC_STAT_ROLE, F.IIC_STAT_CALLPEND, F.IIC_ARB_RETRIES, F.IIC_STAT_ATTNFAIL_SEEN, F.EVR_STAT_OVF_SEEN]

/-- An attempt that fails leaves every field but the ones of its outcome. -/
theorem callFail_get (g : Bool) (f : Fld) (h : clearOf outcomeFlds f = true) : (s.callFail g).get f = s.get f := by
  have hf := clearOf_fits h
  have hs : clearOf [F.IIC_STAT_ROLE, F.IIC_STAT_CALLPEND] f = true := by
    unfold clearOf outcomeFlds at h
    unfold clearOf
    simp only [List.all_cons, Bool.and_eq_true] at h ⊢
    tauto
  unfold State.callFail
  dsimp only
  split
  · rw [callShow_get _ _ hs, get_set_other _ _ _ _ hf (clearOf_apart h (by simp [outcomeFlds]))]; rfl
  · rw [callShow_get _ _ hs, get_field,
      field_raise _ _ _ _ hf (clearOf_apart h (g := F.EVR_STAT_OVF_SEEN) (by simp [outcomeFlds])), setB_field,
      field_other _ _ _ _ hf (clearOf_apart h (by simp [outcomeFlds]))]
    rfl

theorem callFail_flag (g : Bool) (f : Fld) (h : clearOf outcomeFlds f = true) : (s.callFail g).flag f = s.flag f := by
  unfold State.flag; rw [callFail_get _ _ _ h]

/-- A retry within the budget is counted. -/
theorem callFail_retries (g : Bool) (h : s.get F.IIC_ARB_RETRIES < s.get F.IIC_CFG_RETRY) :
    (s.callFail g).get F.IIC_ARB_RETRIES = s.get F.IIC_ARB_RETRIES + 1 := by
  have hm : s.get F.IIC_CFG_RETRY < 8 := get_lt s F.IIC_CFG_RETRY
  unfold State.callFail
  simp only [h, if_true]
  rw [callShow_get _ _ (by decide), get_field, set_field, field_same _ _ _ (by decide)]
  exact Nat.mod_eq_of_lt (show _ < 8 by omega)

/-- With the budget used up the call is dropped, and the failure shows and is raised. -/
theorem callFail_drops (g : Bool) (h : s.get F.IIC_CFG_RETRY ≤ s.get F.IIC_ARB_RETRIES) :
    (s.callFail g).flag F.IIC_STAT_ATTNFAIL_SEEN = true ∧ 105 ∈ (s.callFail g).evr.pend := by
  unfold State.callFail
  simp only [Nat.not_lt.2 h, if_false]
  refine ⟨?_, raise_mem _ _ _⟩
  unfold State.flag
  rw [callShow_get _ _ (by decide), get_field, field_raise _ _ _ _ (by decide) (by decide), setB_field,
    field_same _ _ _ (by decide)]
  rfl

/-- The call that holds the bus ends: complete, or with a NACK. -/
theorem callEnd_done {b : List Byte} (hc : s.iic.call = some b) (ho : s.iic.onBus = true) : s.callEnd 0 =
    (({ s with iic := { s.iic with call := none, onBus := false, lastAt := some s.now, usedAt := s.now } } : State).emit (.iic b)).callShow := by
  unfold State.callEnd
  simp [hc, ho]

theorem callEnd_nack {b : List Byte} (hc : s.iic.call = some b) (ho : s.iic.onBus = true) : s.callEnd 1 = s.callFail true := by
  unfold State.callEnd
  simp [hc, ho]

/-! ## Arbitration and bus errors (Table 16.5) -/

/-- The loss of arbitration as it shows, before the attempt is given up. -/
def arbShown (byte : Nat) (x : ArbLoss) : State :=
  ((({ s with iic := { s.iic with target := byte == 0 && s.addressed x.addr } } : State).set F.IIC_ARB_BYTE byte).set F.IIC_ARB_BIT
    x.bit).setB F.IIC_STAT_ARB_SEEN true

theorem arbLost_eq (byte : Nat) (x : ArbLoss) (ho : s.iic.onBus = true) :
    s.arbLost byte x = ((arbShown s byte x).count F.IIC_ERR_ARBCNT F.IIC_ERR_SAT).callFail false := by
  unfold State.arbLost
  rw [if_neg (by simp [ho])]
  rfl

/-- Where and in what the loss happened stays readable, and it is counted (Table 16.5). -/
theorem arbLost_shows {byte : Nat} {x : ArbLoss} (ho : s.iic.onBus = true) (hb : byte < 256) (hx : x.bit < 8) :
    (s.arbLost byte x).get F.IIC_ARB_BYTE = byte ∧ (s.arbLost byte x).get F.IIC_ARB_BIT = x.bit ∧
    (s.arbLost byte x).flag F.IIC_STAT_ARB_SEEN = true ∧
    (s.get F.IIC_ERR_ARBCNT < 255 → (s.arbLost byte x).get F.IIC_ERR_ARBCNT = s.get F.IIC_ERR_ARBCNT + 1) := by
  unfold State.flag
  rw [arbLost_eq _ _ _ ho]
  refine ⟨?_, ?_, ?_, fun hc => ?_⟩
  · rw [callFail_get _ _ _ (by decide), get_count_other _ _ _ _ (by decide)]
    unfold arbShown
    simp (disch := decide) only [get_field, set_field, setB_field, field_same, field_other]
    exact Nat.mod_eq_of_lt hb
  · rw [callFail_get _ _ _ (by decide), get_count_other _ _ _ _ (by decide)]
    unfold arbShown
    simp (disch := decide) only [get_field, set_field, setB_field, field_same, field_other]
    exact Nat.mod_eq_of_lt hx
  · rw [callFail_get _ _ _ (by decide), get_count_other _ _ _ _ (by decide)]
    unfold arbShown
    simp (disch := decide) only [get_field, set_field, setB_field, field_same]
    rfl
  · have he : (arbShown s byte x).get F.IIC_ERR_ARBCNT = s.get F.IIC_ERR_ARBCNT := by
      unfold arbShown
      simp (disch := decide) only [get_field, set_field, setB_field, field_other]
    rw [callFail_get _ _ _ (by decide), ← he]
    exact get_count_below _ _ _ (show 8 + 8 ≤ 32 by decide) (show _ + 1 < 256 by omega)

/-- A loss in the address byte to the own address makes the module the target; no other loss does (R344). -/
theorem arbLost_role {byte : Nat} {x : ArbLoss} (ho : s.iic.onBus = true) :
    (s.arbLost byte x).get F.IIC_STAT_ROLE = if byte = 0 ∧ x.addr = s.get F.IIC_CFG_TADDR then 1 else 0 := by
  rw [arbLost_eq _ _ _ ho, callFail_role, count_iic]
  simp [arbShown, State.addressed]

theorem callFail_onBus (g : Bool) : (s.callFail g).iic.onBus = false := by
  rw [callFail_iic]
  split <;> rfl

theorem stretch_off (x : BusHang) (ho : s.iic.onBus = true) :
    s.stretch x = (if x.sda && x.freed then s else s.busError).callFail false := by
  unfold State.stretch
  rw [if_pos ho]

theorem busError_seen : s.busError.flag F.IIC_STAT_BUSERR_SEEN = true := by
  unfold State.busError
  simp (disch := decide) [flag_field, setB_field, field_same, b2n]

theorem busError_count (h : s.get F.IIC_ERR_BUSERR < 255) : s.busError.get F.IIC_ERR_BUSERR = s.get F.IIC_ERR_BUSERR + 1 := by
  unfold State.busError State.setB
  rw [get_set_elsewhere _ _ _ _ (by decide)]
  exact get_count_below _ _ _ (show 16 + 8 ≤ 32 by decide) (show _ + 1 < 256 by omega)

/-! ## The attention scheduler (R343) -/

/-- A call is due: SEQ moves on, and the status bytes are compared with the present ones from now on. -/
def callDue : State :=
  { s with iic := { s.iic with status := s.iicStatus, seq := (s.iic.seq + 1) % 256, waiting := true } }

/-- A change in a selected group of status bytes asks for a call. -/
theorem attnSchedule_calls {k : Nat} (hk : k < 4) (he : s.flag F.IIC_ATTN_EN = true) (hm : (s.get F.IIC_ATTN_MASK).testBit k = true)
    (hd : nth [] (statusGroups s.iic.status) k ≠ nth [] (statusGroups s.iicStatus) k) : s.attnSchedule = (callDue s).callStart := by
  have hit : (((statusGroups s.iic.status).zip (statusGroups s.iicStatus)).zipIdx.any
      (fun x => (s.get F.IIC_ATTN_MASK).testBit x.2 && x.1.1 != x.1.2)) = true := by
    rw [List.any_eq_true]
    refine ⟨((nth [] (statusGroups s.iic.status) k, nth [] (statusGroups s.iicStatus) k), k), ?_, by simp [hm, hd]⟩
    unfold statusGroups nth
    interval_cases k <;> simp
  unfold State.attnSchedule
  simp only [he, hit, Bool.and_self, if_true]
  rfl

end

/-! ## The commands of the port -/

section
variable {s a : State} {t ad : Nat} {P : State → Prop} (ha : a = s.upto t) (hon : a.iicOn = true)
include ha hon

theorem iicTargetWrite_own {bs : List Byte} {cut : Bool} (hd : ad = a.get F.IIC_CFG_TADDR)
    (hp : P (s.command t fun _ => a.targetWrite bs cut)) : Answers (.iicTargetWrite t ⟨ad, bs⟩ cut) s P := by
  subst ha
  exact answers_of_guard rfl hon (if_pos (beq_iff_eq.2 hd)) hp

theorem iicTargetWrite_else {bs : List Byte} {cut : Bool} (hd : ad ≠ a.get F.IIC_CFG_TADDR)
    (hp : P (s.command t fun _ => a.busUsed)) : Answers (.iicTargetWrite t ⟨ad, bs⟩ cut) s P := by
  subst ha
  exact answers_of_guard rfl hon (if_neg (mt beq_iff_eq.1 hd)) hp

theorem iicTargetRead_own {n : Nat} (hd : ad = a.get F.IIC_CFG_TADDR) (hp : P (s.command t fun _ => a.targetRead n)) :
    Answers (.iicTargetRead t ⟨ad, n⟩) s P := by
  subst ha
  exact answers_of_guard rfl hon (if_pos (beq_iff_eq.2 hd)) hp

theorem iicTargetRead_else {n : Nat} (hd : ad ≠ a.get F.IIC_CFG_TADDR) (hp : P (s.command t fun _ => a.busUsed)) :
    Answers (.iicTargetRead t ⟨ad, n⟩) s P := by
  subst ha
  exact answers_of_guard rfl hon (if_neg (mt beq_iff_eq.1 hd)) hp

theorem iicAttnCallEnd_answers {how : Nat} (hp : P (s.command t fun _ => a.callEnd how)) : Answers (.iicAttnCallEnd t how) s P := by
  subst ha
  exact answers_of_guard rfl hon rfl hp

end

end Sys2Proof.Machine.Laws

namespace Sys2Proof.Proofs

open Sys2Proof.Machine Sys2Proof.Machine.Laws Sys2Proof.Safety

/-- Settles O42: a clause for each command of the port; what each does to a field is a lemma about the operation it is made of. -/
theorem theI2cPortServesAndCalls : Obligations.TheI2cPortServesAndCalls := by
  unfold Obligations.TheI2cPortServesAndCalls
  intro s a t n k ad p b bs ha
  refine ⟨fun hon hd => ⟨fun cut => ?writeElse, ?readElse⟩,
    fun hon hd => ⟨?writePtr, fun hp hq => ?writeMbx, fun hp => ?writeLow, fun hf => ?cutFull, ?cut, ?read⟩,
    fun f c rest hin hs hq => ?drain, fun x hx hi => ?notIdle, fun x hx hon ho hc hu hi => ⟨fun hw hg => ?free, fun hw => ?freeIdle,
      fun hw hg hb => ?gap⟩,
    fun hon hc ho => ⟨?done, fun hr => ?retry, fun hr => ?dropped, fun hn hk => ?arb, fun x hx => ?hang, fun x hs hx => ?noHang⟩,
    fun hon hk he hm hd => ?attn⟩
  case writeElse => exact iicTargetWrite_else ha hon hd (by simp)
  case readElse => exact iicTargetRead_else ha hon hd (by simp)
  case writePtr =>
    obtain ⟨hp, hf, hb⟩ := targetWrite_iic a p bs
    refine iicTargetWrite_own ha hon hd ?_
    rw [command_iic, command_flag]
    exact ⟨hp, hb, hf⟩
  case writeMbx =>
    obtain ⟨hw, hq⟩ := targetWrite_mbx a b hp hq
    refine iicTargetWrite_own ha hon hd ?_
    rw [winByte_mbx _ hp, command_word, command_iic, ← winByte_mbx _ hp]
    exact ⟨hw, hq⟩
  case writeLow =>
    obtain ⟨hq, hw⟩ := targetWrite_low a b hp
    refine iicTargetWrite_own ha hon hd ?_
    rw [command_iic]
    refine ⟨hq, fun f _ hf => ?_⟩
    unfold State.get
    rw [command_word, hw _ hf]
  case cutFull =>
    refine iicTargetWrite_own ha hon hd ?_
    rw [command_get, command_flag]
    exact targetWrite_cut_full a p b hf
  case cut =>
    refine iicTargetWrite_own ha hon hd ?_
    rw [command_flag, command_iic]
    exact targetWrite_cut_shows a p b
  case read =>
    refine iicTargetRead_own ha hon hd ?_
    rw [command_iic, command_out]
    exact ⟨targetRead_iic a n, targetRead_out a n⟩
  case drain =>
    subst ha
    refine answers_of_guard rfl (by simp [hin, hs]) rfl ?_
    rw [command_iic, command_evr_pend]
    exact mbxDrain_takes _ hq
  case notIdle =>
    subst ha hx
    have hg : (s.upto x.t).lineIdle x = false := by
      unfold State.lineIdle
      rw [Bool.and_eq_false_iff, decide_eq_false_iff_not, decide_eq_false_iff_not, Nat.not_le, Nat.not_le]
      exact hi
    refine answers_of_guard_fails (exec_iicBusFree s x) (by rw [hg, Bool.and_false]) ?_
    rw [command_iic]
  case free =>
    subst ha hx
    have hg' := (busFreed_gapOver _).trans hg
    have hl : (s.upto x.t).lineIdle x = true := by unfold State.lineIdle; simp [hu, hi]
    obtain ⟨hcall, hbus, hwait, hbusy, hrole, -⟩ := callStart_begins (busFreed (s.upto x.t)) rfl ho hc hw hg'
    refine answers_of_guard (exec_iicBusFree s x) (by simp [hon, ho, hl]) rfl ?_
    rw [command_iic, command_flag, command_get, ← busFreed_callBytes]
    exact ⟨hcall, hbus, hwait, hbusy, hrole⟩
  case freeIdle =>
    subst ha hx
    have hl : (s.upto x.t).lineIdle x = true := by unfold State.lineIdle; simp [hu, hi]
    refine answers_of_guard (exec_iicBusFree s x) (by simp [hon, ho, hl]) (callStart_idle _ hc hw) ?_
    rw [command_iic, command_flag]
    refine ⟨rfl, hc, ?_⟩
    rw [State.flag, callShow_get _ _ (by decide)]
    exact busFreed_busy _
  case gap =>
    subst ha
    obtain ⟨hcall, hbus, hwait, -, -, hpend⟩ := callStart_begins _ hb ho hc hw hg
    refine answers_of_guard rfl (by simp [hon, hg]) rfl ?_
    rw [command_iic, command_flag]
    exact ⟨hcall, hbus, hwait, hpend⟩
  case done =>
    refine iicAttnCallEnd_answers ha hon ?_
    rw [command_iic, command_out, callEnd_done a hc ho]
    exact ⟨rfl, rfl, rfl, rfl⟩
  case retry =>
    refine iicAttnCallEnd_answers ha hon ?_
    rw [command_iic, command_get, callEnd_nack a hc ho, callFail_iic, if_pos hr]
    exact ⟨hc, rfl, rfl, callFail_retries a true hr⟩
  case dropped =>
    refine iicAttnCallEnd_answers ha hon ?_
    rw [command_iic, command_flag, command_evr_pend, callEnd_nack a hc ho, callFail_iic, if_neg (Nat.not_lt.2 hr)]
    exact ⟨rfl, rfl, callFail_drops a true hr⟩
  case arb =>
    subst ha
    obtain ⟨hbyte, hbit, hseen, hcnt⟩ := arbLost_shows (s.upto t) (x := ⟨k, ad⟩) ho hn hk
    refine answers_of_guard rfl (by simp [hon, hn, hk]) rfl ?_
    simp only [command_get, command_flag, command_iic]
    refine ⟨arbLost_role _ ho, hbyte, hbit, hseen, ?_, hcnt⟩
    rw [arbLost_eq _ _ _ ho, callFail_onBus]
  case hang =>
    subst ha
    have hl : (s.upto t).hangDue x = true := by
      unfold State.hangDue
      cases x.sda <;> simp [ho, hx, hx.le]
    refine answers_of_guard rfl (by simp [hon, hl]) (stretch_off _ x ho) ?_
    rw [command_iic, command_flag, command_get, callFail_onBus, callFail_flag _ _ _ (by decide), callFail_get _ _ _ (by decide)]
    refine ⟨rfl, fun hc => ?_, fun h1 h2 => by simp [h1, h2]⟩
    have he : (x.sda && x.freed) = false := by rcases hc with hc | hc <;> simp [hc]
    simp only [he, Bool.false_eq_true, if_false]
    exact ⟨busError_seen _, busError_count _⟩
  case noHang =>
    subst ha
    have hl : (s.upto t).hangDue x = false := by unfold State.hangDue; simp [hs, hx]
    refine answers_of_guard_fails rfl (by simp [hl]) ?_
    rw [command_iic, command_get]
    exact ⟨rfl, rfl⟩
  case attn =>
    subst ha
    obtain ⟨hq, hst, hw⟩ := callStart_keeps (callDue (s.upto t))
    refine answers_of_guard rfl hon (attnSchedule_calls _ hk he hm hd) ?_
    rw [command_iic]
    exact ⟨hq, hst, hw rfl⟩

end Sys2Proof.Proofs
end


section
/-! What a latch, a stop of the string and a fence leave alone, as one relation; the latch and the coils. -/

namespace Sys2Proof.Machine.Laws

open Sys2Proof.Safety

/-- `b` stands as `a` in its mode, what is measured, the scan instant taken, the overcurrent comparators and the registers outside `T`:
what a latch, a stop of the string and a fence leave alone. -/
structure Stands (T : Nat → Bool) (a b : State) : Prop where
  mode : b.rst.mode = a.rst.mode
  cvi : b.cvi = a.cvi
  lastS : b.ring.lastS = a.ring.lastS
  scanNo : b.ring.scanNo = a.ring.scanNo
  ocDis : b.prt.ocDis = a.prt.ocDis
  ocChg : b.prt.ocChg = a.prt.ocChg
  word : ∀ y, T y = false → b.word y = a.word y

/-- The registers that the end of a job may change: the events', a full queue's, and those of learning and the sweep. -/
def jobReg (y : Nat) : Bool := replyReg y || [0x20004, 0x60018, 0x60034, 0x60044].contains y

/-- The limit stack's entries. -/
def entReg (y : Nat) : Bool := decide (0x80040 ≤ y) && decide (y ≤ 0x8008C)

/-- The registers that a latch may change besides PRT_TRIP: those of jobs, the loop, the coils, the count and the limit stack. -/
def tripReg (y : Nat) : Bool :=
  jobReg y || [0x70000, 0x70004, 0x80034, 0x80038].contains y || entReg y

theorem tripReg_of_jobReg {y : Nat} (h : jobReg y = true) : tripReg y = true := by simp [tripReg, h]
theorem tripReg_of_entReg {y : Nat} (h : entReg y = true) : tripReg y = true := by simp [tripReg, h]
theorem jobReg_of_replyReg {y : Nat} (h : replyReg y = true) : jobReg y = true := by simp [jobReg, h]

/-- TIL_QSTAT of each of the 48 queues is one of the registers of a reply. -/
theorem replyReg_qstat {n : Nat} (h : n < 48) : replyReg (0x100100 + 4 * n) = true := by
  simp only [replyReg, Bool.or_eq_true, Bool.and_eq_true, decide_eq_true_eq]
  omega

/-- Sessions that are open are among the eight. -/
theorem isOpen_lt {s : State} {n : Nat} (h : s.isOpen n = true) : n < 8 := by
  unfold State.isOpen at h
  simp only [Bool.and_eq_true, decide_eq_true_eq] at h
  exact h.1.1

namespace Stands

section
variable {T : Nat → Bool} {a b c : State}

theorem refl (T : Nat → Bool) (a : State) : Stands T a a := ⟨rfl, rfl, rfl, rfl, rfl, rfl, fun _ _ => rfl⟩

theorem trans (h : Stands T a b) (k : Stands T b c) : Stands T a c :=
  ⟨k.mode.trans h.mode, k.cvi.trans h.cvi, k.lastS.trans h.lastS, k.scanNo.trans h.scanNo, k.ocDis.trans h.ocDis,
   k.ocChg.trans h.ocChg, fun y hy => (k.word y hy).trans (h.word y hy)⟩

theorem get (h : Stands T a b) {f : Fld} (hf : T f.addr = false) : b.get f = a.get f := by unfold State.get; rw [h.word _ hf]

theorem flag (h : Stands T a b) {f : Fld} (hf : T f.addr = false) : b.flag f = a.flag f := by unfold State.flag; rw [h.get hf]

theorem mono {U : Nat → Bool} (h : Stands T a b) (hU : ∀ y, T y = true → U y = true) : Stands U a b :=
  { h with word := fun y hy => h.word y (by cases ht : T y with
    | false => rfl
    | true => rw [hU y ht] at hy; exact absurd hy (by decide)) }

/-- An update of other parts of the state. -/
theorem upd (h : Stands T a b) (hm : c.rst.mode = b.rst.mode := by rfl) (hc : c.cvi = b.cvi := by rfl)
    (hl : c.ring.lastS = b.ring.lastS := by rfl) (hn : c.ring.scanNo = b.ring.scanNo := by rfl) (hd : c.prt.ocDis = b.prt.ocDis := by rfl)
    (hg : c.prt.ocChg = b.prt.ocChg := by rfl) (hr : c.regs = b.regs := by rfl) : Stands T a c :=
  h.trans ⟨hm, hc, hl, hn, hd, hg, fun y _ => word_congr hr y⟩

theorem set (h : Stands T a b) (f : Fld) (x : Nat) (hf : T f.addr = true) : Stands T a (b.set f x) :=
  h.trans ⟨rfl, rfl, rfl, rfl, rfl, rfl, fun y hy => word_set_other _ _ _ _ (fun e => by rw [e, hy] at hf; exact absurd hf (by decide))⟩

theorem setB (h : Stands T a b) (f : Fld) (x : Bool) (hf : T f.addr = true) : Stands T a (b.setB f x) := h.set f _ hf

theorem setI (h : Stands T a b) (f : Fld) (x : Int) (hf : T f.addr = true) : Stands T a (b.setI f x) := h.set f _ hf

theorem count (h : Stands T a b) (f g : Fld) (hf : T f.addr = true) (hg : T g.addr = true) : Stands T a (b.count f g) := by
  unfold State.count
  dsimp only
  split
  · exact h.set _ _ hf
  · exact (h.set _ _ hf).setB _ _ hg

theorem raise (h : Stands T a b) (n : Nat) (d : List Byte) (he : T 0x20004 = true) : Stands T a (b.raise n d) := by
  unfold State.raise
  dsimp only
  split
  · exact h.upd.setB _ _ he
  · exact h.upd

theorem ite {p : Prop} [Decidable p] {x y : State} (hx : p → Stands T a x) (hy : ¬ p → Stands T a y) : Stands T a (if p then x else y) := by
  split
  next h => exact hx h
  next h => exact hy h

theorem foldl {α : Type} {f : State → α → State} (hf : ∀ s x, Stands T a s → Stands T a (f s x)) (l : List α) :
    ∀ s, Stands T a s → Stands T a (l.foldl f s) := by
  induction l with
  | nil => exact fun _ h => h
  | cons x t ih => exact fun s h => ih _ (hf s x h)

end

/-! ### Jobs -/

section
variable {T : Nat → Bool} {a b : State} (hT : ∀ y, replyReg y = true → T y = true)
include hT

theorem qLost (h : Stands T a b) {n : Nat} (hn : n < 48) : Stands T a (b.qLost n) :=
  h.count _ _ (hT _ (replyReg_qstat hn)) (hT _ (replyReg_qstat hn))

omit hT in
theorem toSpi (h : Stands T a b) (p : Pkt) : Stands T a (b.toSpi p) := h.upd

theorem queueReply (h : Stands T a b) {n : Nat} (hn : n < 8) (via : Via) (src : Nat) (p : Pkt) : Stands T a (b.queueReply n via src p) := by
  have hp : T 0x24 = true := hT _ (by decide)
  have hu : ∀ {c : State}, Stands T a c → Stands T a ((c.count F.GLB_PKTERR_QFULL F.GLB_PKTERR_SAT).qLost (8 + n)) :=
    fun hc => (hc.count _ _ hp hp).qLost hT (by omega)
  unfold State.queueReply
  dsimp only
  exact ite (fun _ => ite (fun _ => h.toSpi p) fun _ => hu (h.upd.toSpi p)) fun _ => ite (fun _ => h.upd) fun _ => hu h.upd

theorem sendEvent (h : Stands T a b) {n : Nat} (hn : n < 8) (num c ns st j : Nat) (d : List Byte) :
    Stands T a (b.sendEvent n num c ns st j d) := by
  have hr : Stands T a (b.eventRoom n) := by
    unfold State.eventRoom
    dsimp only
    exact ite (fun _ => ite (fun _ => h.upd.qLost hT (by omega)) fun _ => h) fun _ => ite (fun _ => h.upd.qLost hT (by omega)) fun _ => h
  unfold State.sendEvent State.queueEvent
  dsimp only
  split
  · exact hr.upd
  · exact hr.upd

theorem jobEnd (h : Stands T a b) (id : Nat) (st : JobSt) (fin : Nat) (d : List Byte) : Stands T a (b.jobEnd id st fin d) := by
  unfold State.jobEnd
  dsimp only
  split
  · exact h
  · refine ite (fun _ => h) fun _ => ite (fun _ => h.upd) fun ho => h.upd.sendEvent hT (isOpen_lt (by simpa using ho)) ..

end

section
variable {T : Nat → Bool} {a b : State} (hT : ∀ y, jobReg y = true → T y = true)
include hT

theorem restGrant (h : Stands T a b) (n : Nat) : Stands T a (b.restGrant n) := by
  have hf : T 0x60018 = true := hT _ (by decide)
  unfold State.restGrant
  split
  · exact (h.setB F.EST_FLAGS_RESTING false hf).upd
  · exact (h.setB F.EST_FLAGS_RESTING true hf).upd

theorem applyLater (h : Stands T a b) : Stands T a b.applyLater := by
  unfold State.applyLater
  refine foldl (fun s x hs => ?_) _ _ h.upd
  split
  · exact hs.upd
  · exact hs.restGrant hT _

theorem lrnFail (h : Stands T a b) (code : Nat) : Stands T a (b.lrnFail code) := by
  have hl : T 0x60034 = true := hT _ (by decide)
  unfold State.lrnFail State.lrnOver
  split
  · exact h
  · exact (((((h.upd.set _ _ hl).applyLater hT).set _ _ hl).setB _ _ hl).raise _ _ (hT _ (by decide))).jobEnd
      (fun y hy => hT y (jobReg_of_replyReg hy)) ..

theorem impEnd (h : Stands T a b) (st : JobSt) (fin : Nat) : Stands T a (b.impEnd st fin) := by
  have hi : T 0x60044 = true := hT _ (by decide)
  unfold State.impEnd
  split
  · exact (h.upd.set _ _ hi).set _ _ hi
  · exact ((h.upd.set _ _ hi).set _ _ hi).jobEnd (fun y hy => hT y (jobReg_of_replyReg hy)) ..

/-- The jobs that need the converter end with registers of jobs changed alone. -/
theorem endCurrentJobs (h : Stands T a b) : Stands T a b.endCurrentJobs := by
  unfold State.endCurrentJobs
  dsimp only
  split
  · exact (h.lrnFail hT 0).impEnd hT _ _
  · exact h.lrnFail hT 0

end

/-! ### The loop, the coils and the latch -/

theorem entry {T : Nat → Bool} {a b : State} (hT : ∀ y, entReg y = true → T y = true) (h : Stands T a b) {i : Nat} (hi : i < 10)
    (dis chg : Int) : Stands T a (b.entry i dis chg) := by
  have hd : T (F.PRT_ENT_DIS.ix8 i).addr = true := hT _ (by simp [entReg, Fld.ix8, show 0x80040 + 8 * i ≤ 0x8008C by omega])
  have hc : T (F.PRT_ENT_CHG.ix8 i).addr = true :=
    hT _ (by simp [entReg, Fld.ix8, show 0x80040 ≤ 0x80044 + 8 * i by omega, show 0x80044 + 8 * i ≤ 0x8008C by omega])
  unfold State.entry State.entryPut
  dsimp only
  split_ifs
  · exact h
  · exact ((h.setI _ _ hd).setI _ _ hc).upd
  · exact ((h.setI _ _ hd).setI _ _ hc).upd
  · exact (h.setI _ _ hd).setI _ _ hc


section
variable {T : Nat → Bool} {a b : State}

theorem seqJob (hT : ∀ y, jobReg y = true → T y = true) (h : Stands T a b) (q : Seq) (ok : Bool) : Stands T a (b.seqJob q ok) := by
  unfold State.seqJob
  dsimp only
  split
  · exact h.upd
  · exact h.upd.jobEnd (fun y hy => hT y (jobReg_of_replyReg hy)) ..

theorem seqPut (h : Stands T a b) (q : Seq) : Stands T a (b.seqPut q) := by
  unfold State.seqPut
  dsimp only
  split
  · exact h.upd
  · exact h.upd

end

section
variable {T : Nat → Bool} {a b : State} (hT : ∀ y, tripReg y = true → T y = true)
include hT

theorem loopStop (h : Stands T a b) : Stands T a b.loopStop := by
  unfold State.loopStop
  exact (h.upd.set _ _ (hT _ (by decide))).set _ _ (hT _ (by decide))

theorem setConn (h : Stands T a b) (n : Nat) : Stands T a (b.setConn n) := by
  have hs : Stands T a (b.set F.PRT_CONTSTAT_CONN n) := h.set _ _ (hT _ (by decide))
  unfold State.setConn
  dsimp only
  split
  · exact hs.entry (fun y hy => hT y (tripReg_of_entReg hy)) (by decide) _ _
  · exact hs.entry (fun y hy => hT y (tripReg_of_entReg hy)) (by decide) _ _

theorem coilOff (h : Stands T a b) (k : Nat) : Stands T a (b.coilOff k) := by
  unfold State.coilOff
  split
  · exact h
  · exact (h.set F.PRT_CONTSTAT_COIL (setBit (b.get F.PRT_CONTSTAT_COIL) k false) (hT _ (by decide))).upd

theorem coilsOff (h : Stands T a b) : Stands T a b.coilsOff := ((h.coilOff hT 0).coilOff hT 1).coilOff hT 2

theorem closeFail (h : Stands T a b) (q : Seq) : Stands T a (b.closeFail q) :=
  (((h.coilsOff hT).setConn hT 0).set _ _ (hT _ (by decide))).seqJob (fun y hy => hT y (tripReg_of_jobReg hy)) q false

theorem endClose (h : Stands T a b) : Stands T a b.endClose := by
  unfold State.endClose
  split
  · split
    · exact h.closeFail hT _
    · exact h
  · exact h

theorem coilsTrip (h : Stands T a b) : Stands T a b.coilsTrip := by
  unfold State.coilsTrip
  split
  · split
    · exact h.closeFail hT _
    · exact (h.coilsOff hT).seqPut _
  · split
    · exact h
    · exact ((h.coilsOff hT).setConn hT 0).endCurrentJobs fun y hy => hT y (tripReg_of_jobReg hy)

theorem outputsOff (h : Stands T a b) : Stands T a b.outputsOff :=
  ((h.loopStop hT).coilsTrip hT).endCurrentJobs fun y hy => hT y (tripReg_of_jobReg hy)

end

end Stands

/-- A write of a field leaves a field that shares no bit with it; for named fields `decide` shows that. -/
theorem get_set_clear (s : State) (f g : Fld) (x : Nat) (h : clearOf [f] g = true) : (s.set f x).get g = s.get g :=
  get_set_other _ _ _ _ (clearOf_fits h) (clearOf_apart h (List.mem_cons_self ..))

/-! ## The latch (R185, R186) -/

/-- The field of cause `n` of PRT_TRIP. -/
abbrev causeF (n : Nat) : Fld := { F.PRT_TRIP_OC_DIS with lo := n }

/-- The state with the cause entered in PRT_TRIP, FIRST included, before anything follows from it. -/
def entered (s : State) (n : Nat) : State :=
  if s.flag (causeF n) then s
  else
    let s1 := s.set (causeF n) 1
    let first := s1.get F.PRT_TRIP_FIRST
    if first = 0 || (decide (s1.now / 2 = s1.prt.firstAt / 2) && decide (n + 1 < first)) then
      { s1.set F.PRT_TRIP_FIRST (n + 1) with prt := { s1.prt with firstAt := s1.now } } else s1

section
variable {s : State} {n : Nat}

/-- What follows from a cause leaves PRT_TRIP as it was entered. -/
theorem latch_stands_entered (s : State) (n : Nat) : Stands tripReg (entered s n) (s.latch n) := by
  have hT : ∀ y, tripReg y = true → tripReg y = true := fun _ h => h
  have hj : ∀ y, jobReg y = true → tripReg y = true := fun _ h => tripReg_of_jobReg h
  unfold State.latch entered
  dsimp only
  by_cases h : s.flag (causeF n)
  · rw [if_pos h, if_pos h]
    exact (Stands.refl _ _).loopStop hT
  · rw [if_neg h, if_neg h]
    exact (((((Stands.refl _ _).count _ _ (by decide) (by decide)).raise _ _ (by decide)).loopStop hT).endClose hT).endCurrentJobs hj

theorem entered_stands (s : State) (n : Nat) : Stands (fun y => y == 0x8002C) s (entered s n) := by
  have h1 : Stands (fun y => y == 0x8002C) s (s.set (causeF n) 1) := (Stands.refl _ _).set _ _ rfl
  unfold entered
  dsimp only
  exact .ite (fun _ => .refl _ _) fun _ => .ite (fun _ => (h1.set F.PRT_TRIP_FIRST (n + 1) rfl).upd) fun _ => h1

/-- Entering a cause sets its bit. -/
theorem entered_flag (hn : n < 9) : (entered s n).flag (causeF n) = true := by
  have hf : (causeF n).fits := show n + 1 ≤ 32 by omega
  have h1 : (s.set (causeF n) 1).get (causeF n) = 1 := get_set_same _ _ _ hf
  unfold entered
  dsimp only
  split_ifs with h
  · exact h
  · exact beq_iff_eq.2 ((get_set_other (s.set (causeF n) 1) F.PRT_TRIP_FIRST _ (n + 1) hf (.inr (.inr (show n + 1 ≤ 16 by omega)))).trans h1)
  · exact beq_iff_eq.2 h1

/-- Entering a cause leaves the fields that share no bit with it and with FIRST. -/
theorem entered_get {f : Fld} (hf : clearOf [causeF n, F.PRT_TRIP_FIRST] f = true) : (entered s n).get f = s.get f := by
  have hc : (s.set (causeF n) 1).get f = s.get f := get_set_other _ _ _ _ (clearOf_fits hf) (clearOf_apart hf (by simp))
  unfold entered
  dsimp only
  split_ifs
  · rfl
  · exact (get_set_other (s.set (causeF n) 1) F.PRT_TRIP_FIRST f (n + 1) (clearOf_fits hf) (clearOf_apart hf (by simp))).trans hc
  · exact hc

/-- A latch enters its cause (R185). -/
theorem latch_flag (hn : n < 9) : (s.latch n).flag (causeF n) = true := by
  rw [(latch_stands_entered s n).flag (show tripReg 0x8002C = false by decide), entered_flag hn]

end

/-- The registers of a latch, PRT_TRIP with them. -/
def latchReg (y : Nat) : Bool := tripReg y || y == 0x8002C

theorem Stands.latch {T : Nat → Bool} {a b : State} (hT : ∀ y, latchReg y = true → T y = true) (h : Stands T a b) (n : Nat) :
    Stands T a (b.latch n) :=
  (h.trans ((entered_stands b n).mono fun y hy => hT y (by simpa [latchReg] using .inr (beq_iff_eq.1 hy)))).trans
    ((latch_stands_entered b n).mono fun y hy => hT y (by simp [latchReg, hy]))

/-! ## Coils off -/

section
variable (s : State)

/-- Switching the three bits of a number below 8 off leaves 0. -/
theorem setBit_all_off {v : Nat} (hv : v < 8) : setBit (setBit (setBit v 0 false) 1 false) 2 false = 0 := by
  interval_cases v <;> rfl

theorem setBit_off_le (v k : Nat) : setBit v k false ≤ v := by
  unfold setBit
  rw [if_neg (by decide)]
  split
  · exact Nat.sub_le _ _
  · exact le_rfl

theorem coilOff_get (k : Nat) : (s.coilOff k).get F.PRT_CONTSTAT_COIL = setBit (s.get F.PRT_CONTSTAT_COIL) k false := by
  have hv : setBit (s.get F.PRT_CONTSTAT_COIL) k false < 8 := (setBit_off_le _ _).trans_lt (get_lt s F.PRT_CONTSTAT_COIL)
  unfold State.coilOff
  split_ifs with h
  · unfold setBit
    rw [if_neg (by decide), if_neg (by simpa [State.coil] using h)]
  · exact (get_set_same s F.PRT_CONTSTAT_COIL _ (show 0 + 3 ≤ 32 by decide)).trans (Nat.mod_eq_of_lt hv)

theorem coilsOff_get : s.coilsOff.get F.PRT_CONTSTAT_COIL = 0 := by
  unfold State.coilsOff
  rw [coilOff_get, coilOff_get, coilOff_get]
  exact setBit_all_off (get_lt s F.PRT_CONTSTAT_COIL)

theorem setConn_coil (n : Nat) : (s.setConn n).get F.PRT_CONTSTAT_COIL = s.get F.PRT_CONTSTAT_COIL := by
  have hs : (s.set F.PRT_CONTSTAT_CONN n).get F.PRT_CONTSTAT_COIL = s.get F.PRT_CONTSTAT_COIL :=
    get_set_clear _ _ _ _ (by decide)
  have he : ∀ d c, ((s.set F.PRT_CONTSTAT_CONN n).entry 9 d c).get F.PRT_CONTSTAT_COIL = s.get F.PRT_CONTSTAT_COIL := fun d c =>
    (((Stands.refl entReg _).entry (fun _ h => h) (by decide) d c).get (by decide)).trans hs
  unfold State.setConn
  dsimp only
  split_ifs
  · exact he _ _
  · exact he _ _

/-- A close sequence fails with every coil off (R196). -/
theorem closeFail_coil (q : Seq) : (s.closeFail q).get F.PRT_CONTSTAT_COIL = 0 := by
  unfold State.closeFail
  rw [((Stands.refl jobReg _).seqJob (fun _ h => h) q false).get (by decide), get_set_clear _ _ _ _ (by decide), setConn_coil,
    coilsOff_get]

/-- However the coils are tripped, every coil is off (Table 8.6). -/
theorem coilsTrip_coil : s.coilsTrip.get F.PRT_CONTSTAT_COIL = 0 := by
  unfold State.coilsTrip
  split
  · split
    · exact closeFail_coil s _
    · rw [((Stands.refl jobReg _).seqPut _).get (by decide), coilsOff_get]
  · split_ifs with h
    · exact h
    · rw [((Stands.refl jobReg _).endCurrentJobs (fun _ h => h)).get (by decide), setConn_coil, coilsOff_get]

theorem outputsOff_coil : s.outputsOff.get F.PRT_CONTSTAT_COIL = 0 := by
  unfold State.outputsOff
  rw [((Stands.refl jobReg _).endCurrentJobs (fun _ h => h)).get (by decide), coilsTrip_coil]

end

end Sys2Proof.Machine.Laws
end


section
/-! What leaves the ring's ports, and what a scan strobe takes: the witness checks at a strobe leave the scan as it is (O3). -/

namespace Sys2Proof.Machine.Laws

open Sys2Proof.Safety

/-- `b` has taken the grid instant that `s` passed last as S: the charge snapshot and the windowed values are tagged to it (R35, R37). -/
structure ScanTaken (s b : State) : Prop where
  lastS : b.ring.lastS = s.gridAt (s.periodMs * msec)
  tagS : b.cvi.tagS = some (s.gridAt (s.periodMs * msec))
  winS : b.cvi.winS = some (s.gridAt (s.periodMs * msec))
  qPrev : b.cvi.qPrev = s.cvi.qS
  scanNo : b.ring.scanNo = some (s.gridCount (s.periodMs * msec) * s.periodMs)

/-! ## Fences and witness checks (R242 to R249) -/

/-- Every register may change. -/
def anyReg (_ : Nat) : Bool := true

namespace Stands

section
variable {a b : State} (h : Stands anyReg a b)
include h

theorem setLane (l c : Nat) : Stands anyReg a (b.setLane l c) := h.upd

theorem testJobEnd : Stands anyReg a b.testJobEnd := by
  unfold State.testJobEnd
  split
  · exact h.upd.jobEnd (fun _ _ => rfl) ..
  · exact h

theorem impAgain : Stands anyReg a b.impAgain := (h.set F.EST_IMP_STAT_STATE 0 rfl).upd

theorem impNext : Stands anyReg a b.impNext := by
  have hn : ∀ {s2 : State}, Stands anyReg a s2 →
      Stands anyReg a (((s2.impEnd .done stOk).setB F.EST_IMP_STAT_DONE_SEEN true).raise 37 []) := fun hs =>
    ((hs.impEnd (fun _ _ => rfl) _ _).setB _ _ rfl).raise _ _ rfl
  unfold State.impNext
  refine .ite (fun _ => (h.upd.set _ _ rfl).set _ _ rfl) fun _ => hn ?_
  split
  · exact h.upd
  · exact h.upd

theorem impAbandon : Stands anyReg a b.impAbandon := by
  have hs : Stands anyReg a (b.setB F.EST_IMP_STAT_ABORT_SEEN true) := h.setB _ _ rfl
  unfold State.impAbandon
  exact .ite (fun _ => h) fun _ => .ite (fun _ => hs.impAgain.upd) fun _ => hs.impNext

theorem switchStart (q m : Nat) : Stands anyReg a (b.switchStart q m) := (h.upd.set F.LAN_STAT_SW 1 rfl).impAbandon

theorem catchUp (q : Nat) : Stands anyReg a (b.catchUp q) := by
  unfold State.catchUp
  cases (nth [] b.est.ckpt q).head? with
  | none => exact h.upd
  | some k =>
    cases b.prof? with
    | none => exact h.upd
    | some p => exact h.upd

theorem adopt (q : Nat) : Stands anyReg a (b.adopt q) := by
  unfold State.adopt
  dsimp only
  split
  · exact h.upd.catchUp q
  · exact h.upd

theorem adopts (qs : List Nat) : Stands anyReg a (qs.foldl State.adopt b) := foldl (fun _ q hs => hs.adopt q) _ _ h

theorem orphaned (q : Nat) : Stands anyReg a (b.orphaned q) := by
  have ho : ∀ {s0 : State}, Stands anyReg a s0 → Stands anyReg a (match s0.lan.sw, s0.mule? with
      | none, some m => s0.switchStart q m
      | _, _ =>
        let s1 := { s0 with lan := { s0.lan with waitTok := s0.lan.waitTok ++ [q] } }
        if (nth none s1.lan.est q).isNone then s1.adopt q else s1) := by
    intro s0 hs
    split
    · exact hs.switchStart _ _
    · exact .ite (fun _ => hs.upd.adopt q) fun _ => hs.upd
  unfold State.orphaned
  refine ho ?_
  split
  · exact h.upd.testJobEnd
  · exact h

theorem twoLanes : Stands anyReg a b.twoLanes :=
  .ite (fun _ => h.latch (fun _ _ => rfl) 6) fun _ => h

theorem laneStore : Stands anyReg a b.laneStore := (h.setB F.LAN_STAT_NOSPARE _ rfl).upd

theorem testFenced : Stands anyReg a b.testFenced := by
  unfold State.testFenced
  exact .ite (fun _ => h) fun _ => .ite (fun _ => h) fun _ => (foldl (fun _ l hs => (hs.setLane l 3).upd) _ _ h).laneStore

theorem cause (n : Nat) : Stands anyReg a (b.cause n) := by
  have hs : Stands anyReg a (b.set ⟨0x10000, n, 1⟩ 1) := h.set _ _ rfl
  unfold State.cause
  exact .ite (fun _ => (hs.set F.RST_CAUSE_FIRST (n + 1) rfl).upd) fun _ => hs

theorem fenceLane (l c : Nat) : Stands anyReg a (b.fenceLane l c) := by
  have h1 : Stands anyReg a ((((b.setLane l 4).set F.LAN_STAT_CAUSE c).set F.LAN_STAT_FLANE l).setB F.LAN_STAT_FENCE_SEEN true) :=
    (((h.setLane l 4).set _ _ rfl).set _ _ rfl).setB _ _ rfl
  have hend : ∀ {s4 : State}, Stands anyReg a s4 → Stands anyReg a s4.twoLanes.laneStore.testFenced := fun hs =>
    hs.twoLanes.laneStore.testFenced
  unfold State.fenceLane
  refine .ite (fun _ => h) fun _ => hend ?_
  have h3 : ∀ {s1 : State} (n : LanSt) (m : TilSt) (f : Flash), Stands anyReg a s1 →
      Stands anyReg a (({ s1.cause 6 with lan := n, til := m, flash := f } : State).setMiss l 0) := fun _ _ _ hs =>
    (hs.cause 6).upd.set _ _ rfl
  have h4 : ∀ {s3 : State} (k : CtlSt) (q : Nat) (qs : List Nat), Stands anyReg a s3 →
      Stands anyReg a (qs.foldl State.adopt (({ s3 with ctl := k } : State).orphaned q)) := fun k q qs hs =>
    (hs.upd.orphaned q).adopts qs
  split
  · exact h4 _ _ _ (h3 _ _ _ h1)
  · exact (h3 _ _ _ h1).adopts _

theorem muleNext : Stands anyReg a b.muleNext := by
  unfold State.muleNext
  split
  · exact h.upd.switchStart _ _
  · exact h

theorem switchEnd : Stands anyReg a b.switchEnd := ((h.upd.set F.LAN_STAT_SW 0 rfl).raise 72 [] rfl).testFenced.muleNext

theorem abandon (x : Switch) (c : Nat) : Stands anyReg a (b.abandon x c) := by
  have hend : ∀ {s4 : State}, Stands anyReg a s4 → Stands anyReg a (s4.fenceLane x.mule c).switchEnd := fun hs => (hs.fenceLane _ _).switchEnd
  have h3 := ((h.upd (c := { b with lan := { b.lan with sw := none } })).set F.LAN_STAT_SW 0 rfl).set F.LAN_GAP_LAST 0xFFF rfl
    |>.setB F.LAN_STAT_SWFAIL_SEEN true rfl
  unfold State.abandon
  exact hend (.ite (fun _ => h3.upd.adopt _) fun _ => h3.upd)

theorem fence (l c : Nat) : Stands anyReg a (b.fence l c) := by
  unfold State.fence
  split
  · exact .ite (fun _ => h.abandon _ c) fun _ => h.fenceLane l c
  · exact h.fenceLane l c

theorem witnessAgain (v : Witness) (k : Nat) : Stands anyReg a (b.witnessAgain v k) := by
  have ht : Stands anyReg a (b.setB F.LAN_STAT_WITTRANS_SEEN true) := h.setB _ _ rfl
  unfold State.witnessAgain
  refine .ite (fun _ => h) fun _ => .ite (fun _ => ht) fun _ => .ite (fun _ => ht.raise _ _ rfl) fun _ => ?_
  split
  · exact h.fence _ 5
  · exact h

/-- The witness checks, with a fence that follows, leave the scan. -/
theorem witness (bad : List Nat) (again : List (Nat × Witness)) : Stands anyReg a (b.witness bad again) :=
  (foldl (fun _ k hs => hs.witnessAgain _ k) _ _ h).upd

end

end Stands

/-! ## What a scan strobe takes (R35, R37) -/

section
variable {a b : State} (h : Stands anyReg a b)
include h

theorem Stands.latchTables : Stands anyReg a b.latchTables := .ite (fun _ => h) fun _ => h.upd

theorem Stands.applyResets : Stands anyReg a b.applyResets := by
  unfold State.applyResets
  exact .ite (fun _ => h) fun _ => h.upd

end

section
variable {s : State} (bad : List Nat) (again : List (Nat × Witness))

theorem parked_of_inService (h : s.inService = true) : s.parked = false := by
  unfold State.inService at h
  unfold State.parked
  cases hm : s.rst.mode <;> simp_all

/-- Out of PARK a scan strobe takes its instant, whatever the witness checks do. -/
theorem scanStrobe_takes (h : s.parked = false) : ScanTaken s (s.scanStrobe bad again) := by
  have hm : s.scanAt = s.gridAt (s.periodMs * msec) := by unfold State.scanAt; rw [h]; rfl
  have hc : s.scanCount = s.gridCount (s.periodMs * msec) * s.periodMs := by unfold State.scanCount; rw [h]; rfl
  have hs : ∀ (s2 : State) (p : Prop) [Decidable p], Stands anyReg s2
      (if p then s2.latchTables.applyResets.witness bad again else s2.latchTables.applyResets) := fun s2 p _ =>
    have h4 := (Stands.refl anyReg s2).latchTables.applyResets
    .ite (fun _ => h4.witness bad again) fun _ => h4
  unfold State.scanStrobe
  dsimp only
  rw [if_neg (by simp [h])]
  constructor
  · rw [(hs _ _).lastS, ← hm]
  · rw [(hs _ _).cvi, ← hm]
  · rw [(hs _ _).cvi, ← hm]
  · rw [(hs _ _).cvi]
    rfl
  · rw [(hs _ _).scanNo, ← hc]

/-- In PARK it takes the second of the AO count, and the ring alone acts (R38). -/
theorem scanStrobe_parked (h : s.parked = true) :
    (s.scanStrobe bad again).ring.lastS = s.time.aoAt + (s.now - s.time.aoAt) / sec * sec ∧ (s.scanStrobe bad again).cvi = s.cvi := by
  have hm : s.scanAt = s.time.aoAt + (s.now - s.time.aoAt) / sec * sec := by unfold State.scanAt; rw [h]; rfl
  unfold State.scanStrobe
  dsimp only
  rw [if_pos h, ← hm]
  exact ⟨rfl, rfl⟩

theorem scanDue_not_again {n : Nat} (hn : s.ring.scanNo = some n) (h : s.scanCount ≤ n) : s.scanDue = false := by
  unfold State.scanDue
  rw [hn]
  simp [Nat.not_lt.2 h]

end

/-! ## What leaves the ports (R44, R47, R54, R58, R61, R64) -/

section
variable (s : State)

theorem strobeOne_emits (west : Bool) {n : Nat} (h : n ≠ 0) : s.strobeOne west n =
    s.emit (.ring west (4 * s.nextS - n * s.get F.RING_THOP_THOP)
      (polarity (s.portInv west) (symbolLine (strobeBytes s.ring.sseq n s.parked)))) := if_neg h

theorem collectOne_emits (west : Bool) {n : Nat} (h : n ≠ 0) : s.collectOne west n =
    s.emit (.ring west (4 * (s.ring.lastS + s.window * 2500 + 10 * usec))
      (polarity (s.portInv west) (frameLine (collectBytes s.ring.sseq n s.parked)))) := if_neg h

/-- An intact ring: the strobe leaves the east port. -/
theorem strobe_intact (h : s.ring.split = false) (hn : s.served ≠ 0) :
    let q := (s.ring.sseq + 1) % 256
    s.strobe.ring.sseq = q ∧ s.strobe.ring.sentS = some s.nextS ∧
      s.strobe.out = .ring false (4 * s.nextS - s.served * s.get F.RING_THOP_THOP)
        (polarity (s.portInv false) (symbolLine (strobeBytes q s.served s.parked))) :: s.out := by
  unfold State.strobe
  dsimp only
  rw [if_neg (by simp [h]), strobeOne_emits _ _ hn]
  exact ⟨rfl, rfl, rfl⟩

/-- Split operation: a strobe leaves both ports, each with the count of nodes it serves. -/
theorem strobe_split (h : s.ring.split = true) (he : s.eReach ≠ 0) (hw : s.wReach ≠ 0) :
    let q := (s.ring.sseq + 1) % 256
    s.strobe.ring.sseq = q ∧
      s.strobe.out = .ring true (4 * s.nextS - s.wReach * s.get F.RING_THOP_THOP)
          (polarity (s.portInv true) (symbolLine (strobeBytes q s.wReach s.parked))) ::
        .ring false (4 * s.nextS - s.eReach * s.get F.RING_THOP_THOP)
          (polarity (s.portInv false) (symbolLine (strobeBytes q s.eReach s.parked))) :: s.out := by
  unfold State.strobe
  dsimp only
  rw [if_pos h, strobeOne_emits _ false he, strobeOne_emits _ true hw]
  exact ⟨rfl, rfl⟩

theorem collect_intact (h : s.ring.split = false) (hn : s.served ≠ 0) :
    s.collect.ring.colS = some s.ring.lastS ∧
      s.collect.out = .ring false (4 * (s.ring.lastS + s.window * 2500 + 10 * usec))
        (polarity (s.portInv false) (frameLine (collectBytes s.ring.sseq s.served s.parked))) :: s.out := by
  unfold State.collect
  dsimp only
  rw [if_neg (by simp [h]), collectOne_emits _ _ hn]
  exact ⟨rfl, rfl⟩

theorem collect_split (h : s.ring.split = true) (he : s.eReach ≠ 0) (hw : s.wReach ≠ 0) :
    s.collect.out = .ring true (4 * (s.ring.lastS + s.window * 2500 + 10 * usec))
        (polarity (s.portInv true) (frameLine (collectBytes s.ring.sseq s.wReach s.parked))) ::
      .ring false (4 * (s.ring.lastS + s.window * 2500 + 10 * usec))
        (polarity (s.portInv false) (frameLine (collectBytes s.ring.sseq s.eReach s.parked))) :: s.out := by
  unfold State.collect
  dsimp only
  rw [if_pos h, collectOne_emits _ false he, collectOne_emits _ true hw]
  rfl

/-- An intact ring: the heartbeat leaves the west port and is under way (R64). -/
theorem heartbeat_intact (h : s.ring.split = false) (hp : s.ring.probing = false) :
    let q := (s.ring.hseq + 1) % 256
    s.heartbeat.ring.hseq = q ∧ s.heartbeat.ring.hbLast = some s.now ∧ s.heartbeat.ring.hbOut = s.ring.hbOut ++ [(q, s.now)] ∧
      s.heartbeat.out = .ring true (4 * s.ringNs) (polarity (s.portInv true) (symbolLine (heartbeatBytes q s.parked))) :: s.out := by
  unfold State.heartbeat
  simp only [h, hp, Bool.false_eq_true, if_false]
  exact ⟨rfl, rfl, rfl, rfl⟩

/-- Split operation and probing: it leaves both ports; a probe is under way (R66). -/
theorem heartbeat_both (h : s.ring.split = true ∨ s.ring.probing = true) :
    let q := (s.ring.hseq + 1) % 256
    let l := symbolLine (heartbeatBytes q s.parked)
    s.heartbeat.ring.hseq = q ∧ (s.ring.probing = false → s.heartbeat.ring.hbOut = []) ∧
      (s.ring.probing = true → s.heartbeat.ring.hbOut = s.ring.hbOut ++ [(q, s.now)]) ∧
      s.heartbeat.out = .ring true (4 * s.ringNs) (polarity (s.portInv true) l) ::
        .ring false (4 * s.ringNs) (polarity (s.portInv false) l) :: s.out := by
  unfold State.heartbeat
  by_cases hp : s.ring.probing = true
  · simp only [hp, if_true]
    exact ⟨rfl, fun e => absurd e (by decide), fun _ => rfl, rfl⟩
  · simp only [h.resolve_right hp, hp, if_true]
    exact ⟨rfl, fun _ => rfl, fun e => absurd e (by decide), rfl⟩

end

end Sys2Proof.Machine.Laws

namespace Sys2Proof.Proofs

open Sys2Proof.Machine Sys2Proof.Machine.Laws Sys2Proof.Safety

/-- Settles O3: what a scan strobe takes stands through the witness checks that may follow it; a strobe, a collect frame and a heartbeat are
the emissions they are made of. -/
theorem ringSymbolsLeaveTheActivePorts : Obligations.RingSymbolsLeaveTheActivePorts := by
  unfold Obligations.RingSymbolsLeaveTheActivePorts
  rintro s _ t rfl
  refine ⟨?run, fun bad again hp hd => ?park, fun n bad again hn hc => ?notDue, ?strobe, ?collect, ?heartbeat⟩
  case run =>
    rintro m bad again rfl hs hd
    refine answers_of_guard rfl hd rfl ?_
    obtain ⟨hlast, htag, hwin, hprev, hno⟩ := scanStrobe_takes bad again (parked_of_inService hs)
    rw [command_ring, command_cvi]
    exact ⟨hlast, htag, hwin, hprev, hno⟩
  case park =>
    obtain ⟨hl, hc⟩ := scanStrobe_parked (s := s.upto t) bad again (beq_iff_eq.2 hp)
    refine answers_of_guard rfl hd rfl ?_
    rw [command_ring, command_cvi, hc]
    exact ⟨hl, rfl⟩
  case notDue =>
    refine answers_of_guard_fails rfl (scanDue_not_again hn hc) ?_
    rw [command_ring, command_cvi]
    exact ⟨rfl, rfl⟩
  case strobe =>
    rintro q rfl hd
    refine ⟨fun hs hn => answers_of_guard rfl hd rfl ?_, fun hs he hw => answers_of_guard rfl hd rfl ?_⟩
    · rw [command_ring, command_out]
      exact strobe_intact _ hs hn
    · rw [command_ring, command_out]
      exact strobe_split _ hs he hw
  case collect =>
    rintro c rfl hd
    refine ⟨fun hs hn => answers_of_guard rfl hd rfl ?_, fun hs he hw => answers_of_guard rfl hd rfl ?_⟩
    · rw [command_ring, command_out]
      exact collect_intact _ hs hn
    · rw [command_out]
      exact collect_split _ hs he hw
  case heartbeat =>
    rintro q l rfl rfl hd
    refine ⟨fun hs hp => answers_of_guard rfl hd rfl ?_, fun hb => answers_of_guard rfl hd rfl ?_⟩
    · rw [command_ring, command_out]
      exact heartbeat_intact _ hs hp
    · rw [command_ring, command_out]
      exact heartbeat_both _ hb

end Sys2Proof.Proofs
end


section
/-! Flint: what latches each cause, the gates, HALT and TRIP (O19). -/

namespace Sys2Proof.Machine.Laws

open Sys2Proof.Safety

/-! ## The gates -/

/-- A cause in PRT_TRIP shows in its nine low bits. -/
theorem tripped_of_cause {s : State} {n : Nat} (hn : n < 9) (h : s.flag (causeF n) = true) : (s.word 0x8002C).toNat % 512 ≠ 0 := by
  have hb : (s.word 0x8002C).toNat.testBit n = true := by
    rw [Nat.testBit_eq_decide_div_mod_eq, ← Nat.shiftRight_eq_div_pow]
    exact decide_eq_true (beq_iff_eq.1 h)
  intro h0
  have hm : ((s.word 0x8002C).toNat % 2 ^ 9).testBit n = true := by rw [Nat.testBit_mod_two_pow, hb, decide_eq_true hn]; rfl
  rw [show (s.word 0x8002C).toNat % 2 ^ 9 = 0 from h0, Nat.zero_testBit] at hm
  exact absurd hm (by decide)

section
variable {s : State} {t : Nat} {f : State → State}

/-- While a cause is latched no gate may switch (R185). -/
theorem gates_low_of_cause {n : Nat} (hn : n < 9) (h : (f (s.upto t)).flag (causeF n) = true) : (s.command t f).pads.gates = false := by
  rw [command_pads]
  show State.gatesOn _ = false
  have hw : ((f (s.upto t)).word 0x8002C).toNat % 512 ≠ 0 := tripped_of_cause hn h
  unfold State.gatesOn
  rw [command_word]
  simp [hw]

/-- Outside RUN no gate may switch. -/
theorem gates_low_of_mode (h : (f (s.upto t)).rst.mode ≠ .run) : (s.command t f).pads.gates = false := by
  rw [command_pads]
  show State.gatesOn _ = false
  unfold State.gatesOn State.inRun
  rw [command_rst]
  simp [h]

end

/-! ## HALT from RUN (R372) -/

/-- A module in HALT for the cause that HALTC names. -/
structure Halted (c : Nat) (s : State) : Prop where
  mode : s.rst.mode = .halt
  haltc : s.get F.RST_STAT_HALTC = c

section
variable {s : State} {c : Nat} (h : s.rst.mode = .run)
include h

theorem haltEntry_run : s.haltEntry c = (s.outputsOff.setMode .halt).set F.RST_STAT_HALTC c := by
  unfold State.haltEntry
  rw [h]

theorem haltEntry_halted (hc : c < 8) : Halted c (s.haltEntry c) := by
  rw [haltEntry_run h]
  refine ⟨rfl, ?_⟩
  rw [get_set_same _ F.RST_STAT_HALTC c (show 4 + 3 ≤ 32 by decide)]
  exact Nat.mod_eq_of_lt hc

/-- HALT sets RST_STAT beside what switches the outputs off. -/
theorem haltEntry_get {f : Fld} (hf : f.addr ≠ 0x10004) : (s.haltEntry c).get f = s.outputsOff.get f := by
  rw [haltEntry_run h, get_set_elsewhere _ _ _ _ (Ne.symm hf)]
  exact get_set_elsewhere _ F.RST_STAT_MSTATE _ _ (Ne.symm hf)

theorem haltEntry_coil : (s.haltEntry c).get F.PRT_CONTSTAT_COIL = 0 := by
  rw [haltEntry_get h (by decide), outputsOff_coil]

/-- HALT leaves the causes that are latched. -/
theorem haltEntry_cause {n : Nat} : (s.haltEntry c).flag (causeF n) = s.flag (causeF n) := by
  unfold State.flag
  rw [haltEntry_get h (show 0x8002C ≠ 0x10004 by decide)]
  exact congrArg (· == 1) (((Stands.refl tripReg s).outputsOff (fun _ h => h)).get (show tripReg 0x8002C = false by decide))

end

/-! ## Barrier loss (R22, R188) -/

theorem Stands.integrity {T : Nat → Bool} {a b : State} (hT : ∀ y, entReg y = true → T y = true) (h : Stands T a b) :
    Stands T a b.integrity := by
  have he : ∀ d c, Stands T a (b.entry 5 d c) := fun d c => h.entry hT (by decide) d c
  unfold State.integrity
  exact .ite (fun _ => he _ _) fun _ => .ite (fun _ => he _ _) fun _ => he _ _

/-- A barrier loss of crossing `x` shows: its cause is latched, and the crossing is silent. -/
structure BarrierLost (x : Crossing) (s : State) : Prop where
  latched : s.flag F.PRT_TRIP_BARRIER = true
  silent : s.silent x = true

/-- The registers that the failure of a shunt converter may change. -/
def shuntReg (y : Nat) : Bool := [0x20004, 0x50008, 0x50010].contains y || entReg y

/-- A shunt converter that fails leaves which crossings are silent, and the causes latched. -/
theorem shuntFail_keeps (s : State) (b : Bool) (n : Nat) :
    (s.shuntFail b).cvi.lost = s.cvi.lost ∧ (s.shuntFail b).flag (causeF n) = s.flag (causeF n) := by
  have hp : shuntReg 0x50008 = true := rfl
  have ht : ∀ s2 : State, Stands shuntReg s s2 →
      let r := (({ s2 with cvi := { s2.cvi with shorted := 0 } } : State).setB F.CVI_SH_STAT_SWERR false).integrity
      r.cvi.lost = s.cvi.lost ∧ r.flag (causeF n) = s.flag (causeF n) := by
    intro s2 h2
    have h3 := ((Stands.refl shuntReg { s2 with cvi := { s2.cvi with shorted := 0 } }).setB F.CVI_SH_STAT_SWERR false hp).integrity
      fun y hy => by simp [shuntReg, hy]
    refine ⟨by rw [h3.cvi, ← h2.cvi], ?_⟩
    rw [h3.flag (show shuntReg 0x8002C = false by decide)]
    exact h2.flag (show shuntReg 0x8002C = false by decide)
  have hf : ∀ f : Fld, f.addr = 0x50008 →
      Stands shuntReg s (((s.setB f true).setB F.CVI_SH_STAT_FAIL_SEEN true).raise 24 []) := fun f hf =>
    (((Stands.refl _ s).setB f true (by rw [hf]; exact hp)).setB _ _ hp).raise _ _ rfl
  have h1 := hf (if b then F.CVI_SH_STAT_BFAIL else F.CVI_SH_STAT_AFAIL) (by cases b <;> rfl)
  unfold State.shuntFail
  split
  · exact ⟨rfl, rfl⟩
  · exact ht _ (.ite (fun _ => (h1.setB _ _ hp).set _ _ rfl) fun _ => (h1.set _ _ hp).setB _ _ hp)

theorem barrierLoss_lost (s : State) (x : Crossing) : BarrierLost x (s.barrierLoss x) := by
  have hl : ∀ s1 : State, BarrierLost x (({ s1 with cvi := { s1.cvi with
        lost := if s1.silent x then s1.cvi.lost else (x, s1.now) :: s1.cvi.lost,
        back := s1.cvi.back.filter (fun p => p.1 != x) } } : State).latch 4) := by
    intro s1
    refine ⟨latch_flag (n := 4) (by decide), ?_⟩
    unfold State.silent
    rw [((Stands.refl (fun _ => true) _).latch (fun _ _ => rfl) 4).cvi]
    show (if s1.silent x then s1.cvi.lost else (x, s1.now) :: s1.cvi.lost).any _ = true
    split
    next h => exact h
    next => simp
  have hs : ∀ (s3 : State) b, BarrierLost x s3 → BarrierLost x (s3.shuntFail b) := by
    rintro s3 b ⟨hc, hx⟩
    obtain ⟨hk, hf⟩ := shuntFail_keeps s3 b 4
    exact ⟨hf.trans hc, by unfold State.silent; rw [hk]; exact hx⟩
  cases x
  case shuntA => exact hs _ false (hl _)
  case shuntB => exact hs _ true (hl _)
  all_goals exact hl _

/-! ## TRIP (R199) -/

theorem Stands.sendFree {T : Nat → Bool} {a b : State} (h : Stands T a b) (via : Via) (src : Nat) (p : Pkt) :
    Stands T a (b.sendFree via src p) := by
  cases via
  case spi => exact h.toSpi p
  case eth1 => exact h.upd
  case eth2 => exact h.upd

/-- An answer that belongs to no session leaves the registers. -/
theorem answerFree_stands (s : State) (r : Req) (op : Nat) (res : HRes) : Stands replyReg s (s.answerFree r op res) := by
  cases res with
  | later => exact .refl _ _
  | reply st j p => exact Stands.foldl (fun _ q h => h.sendFree r.via r.src q) _ _ (.refl _ s)

/-- A reply that enters no cache counts at most in a full queue. -/
theorem giveRes_bcast_stands (s : State) (r : Req) (op : Nat) (res : HRes) (ha : r.auth = true) (hn : r.session < 8) :
    Stands replyReg s (s.giveRes { reqId r op false with bcast := true } res) := by
  cases res with
  | later => exact .refl _ _
  | reply st j p =>
    unfold State.giveRes State.answer
    simp only [reqId, ha, Bool.not_false, Bool.and_self, Bool.false_eq_true, if_false, if_true]
    exact Stands.foldl (fun _ q h => h.queueReply (fun _ h => h) hn r.via r.src q) _ _ (.refl _ s)

theorem lineAll_stands (s : State) (via : Via) (raw : List Byte) : Stands replyReg s (s.lineAll via raw) := by
  unfold State.lineAll
  refine Stands.foldl (fun b p h => ?_) _ _ (.refl _ s)
  exact .ite (fun _ => h.qLost (fun _ h => h) (by split_ifs <;> decide)) fun _ => h.upd

theorem lineAll_host (s : State) (via : Via) (raw : List Byte) : (s.lineAll via raw).host = s.host := by
  unfold State.lineAll
  refine foldl_host _ (fun b p => ?_) _ s
  dsimp only
  split_ifs <;> simp

theorem lineForward_stands (s : State) (target : Nat) (raw : List Byte) : Stands replyReg s (s.lineForward target raw) := by
  unfold State.lineForward
  exact .ite (fun _ => .refl _ s) fun _ => .ite (fun _ => (Stands.refl _ s).qLost (fun _ h => h) (by split_ifs <;> decide)) fun _ => (Stands.refl _ s).upd

/-- An accepted TRIP latches its cause, and with MODE 1 every coil is off. -/
theorem trip_latches {s : State} {r : Req} {m : Byte} (ha : r.auth = true) (hn : r.session < 8) (hr : s.rst.mode ≠ .recovery)
    (hc : r.cls = 10) (hp : r.payload = [m]) (hm : m = 0 ∨ m = 1) :
    (s.trip r).flag F.PRT_TRIP_TRIP_CMD = true ∧ (m = 1 → (s.trip r).get F.PRT_CONTSTAT_COIL = 0) := by
  have hg : ∀ b : State, Stands replyReg b (b.giveRes { reqId r 0x0409 false with bcast := true } (.ok [])) := fun b =>
    giveRes_bcast_stands b r _ _ ha hn
  have hl : ((s.tripHeld r).latch 5).flag (causeF 5) = true := latch_flag (by decide)
  unfold State.trip
  dsimp only
  rw [if_neg hr, if_neg (by simp [hc]), if_neg (by simp [hp]), hp]
  rcases hm with rfl | rfl
  · refine ⟨?_, fun h => absurd h (by decide)⟩
    exact ((hg _).flag (by decide)).trans hl
  · refine ⟨?_, fun _ => ((hg _).get (by decide)).trans (coilsTrip_coil _)⟩
    exact ((hg _).flag (by decide)).trans ((((Stands.refl tripReg _).coilsTrip (fun _ h => h)).flag (by decide)).trans hl)

/-- A TRIP for this module, or for all, that its session has tagged is carried out, whatever goes on along the line. -/
theorem tripTake_meant {s : State} {r : Req} (ha : r.auth = true) (hp : s.provClosed r = false) (ho : s.isOpen r.session = true)
    (hr : s.rst.mode ≠ .recovery) (hc : r.cls = 10) (ht : 0xFE ≤ r.target ∨
      (r.target < 64 ∧ s.flag F.BAY_POS_VALID = true ∧ s.role ≠ 3 ∧ r.target = s.get F.BAY_POS_POS)) :
    ∃ s1 : State, s1.rst.mode ≠ .recovery ∧ s.tripTake r = s1.trip r := by
  have hgo : ∀ s1 : State, Stands replyReg s s1 → s1.host = s.host →
      (if r.cls < 10 ∨ 12 < r.cls then s1.answerFree r 0x0409 (.no stBadParam 0)
        else if s1.provisional r then s1.tripProv r
        else if s1.provClosed r || !s1.isOpen r.session || !r.auth then s1.authFail r 0x0409 else s1.trip r) = s1.trip r := by
    intro s1 h hh
    have hp1 : s1.provClosed r = false := by unfold State.provClosed at hp ⊢; rw [h.flag (by decide)]; exact hp
    have ho1 : s1.isOpen r.session = true := by unfold State.isOpen State.session at ho ⊢; rw [hh]; exact ho
    rw [if_neg (by omega), if_neg (by simp [State.provisional, ha]), if_neg (by simp [hp1, ho1, ha])]
  have ht1 : ¬ (64 ≤ r.target ∧ r.target < 0xFE) := by omega
  have ht2 : ¬ (r.target < 64 ∧ ((!s.flag F.BAY_POS_VALID) = true ∨ s.role = 3)) := by
    rintro ⟨hl, h⟩
    obtain ⟨-, hv, h3, -⟩ := ht.resolve_left (by omega)
    rcases h with h | h
    · simp [hv] at h
    · exact h3 h
  have ht3 : ¬ (r.target < 64 ∧ r.target ≠ s.get F.BAY_POS_POS) := by
    rintro ⟨hl, h⟩
    exact h (ht.resolve_left (by omega)).2.2.2
  unfold State.tripTake
  dsimp only
  rw [if_neg ht1, if_neg ht2, if_neg ht3]
  by_cases he : r.target = 0xFE
  · rw [if_pos he]
    have hs : Stands replyReg s (s.drew.lineAll r.via (s.tripRaw r)) := ((Stands.refl _ s).upd (c := s.drew)).trans (lineAll_stands _ _ _)
    exact ⟨_, by rw [hs.mode]; exact hr, hgo _ hs (lineAll_host _ _ _)⟩
  · rw [if_neg he]
    exact ⟨s, hr, hgo s (.refl _ s) rfl⟩

/-- A TRIP for another position, or for none, leaves the causes and the coils. -/
theorem tripTake_other {s : State} {r : Req} (ht : r.target < 0xFE)
    (hm : ¬ (r.target < 64 ∧ s.flag F.BAY_POS_VALID = true ∧ s.role ≠ 3 ∧ r.target = s.get F.BAY_POS_POS)) :
    Stands replyReg s (s.tripTake r) := by
  unfold State.tripTake
  refine .ite (fun _ => answerFree_stands ..) fun h1 => .ite (fun _ => answerFree_stands ..) fun h2 => ?_
  have hl : r.target < 64 := by omega
  have hv : s.flag F.BAY_POS_VALID = true := by
    by_contra hv
    exact h2 ⟨hl, .inl (by simp [hv])⟩
  have hp : r.target ≠ s.get F.BAY_POS_POS := fun h => hm ⟨hl, hv, fun h3 => h2 ⟨hl, .inr h3⟩, h⟩
  rw [if_pos ⟨hl, hp⟩]
  exact ((Stands.refl _ s).upd (c := s.drew)).trans (lineForward_stands _ _ _)

/-! ## What each cause does -/

/-- An overcurrent comparator latches its own cause and is marked; with OCOPEN every coil is off. -/
theorem overcurrent_latches (s : State) (chg : Bool) :
    (s.overcurrent chg).flag (causeF (b2n chg)) = true ∧
    (if chg then (s.overcurrent chg).prt.ocChg else (s.overcurrent chg).prt.ocDis) = true ∧
    (s.flag F.PRT_CFG_OCOPEN = true → (s.overcurrent chg).get F.PRT_CONTSTAT_COIL = 0) := by
  have hn : b2n chg < 9 := by cases chg <;> decide
  have hl : ∀ s1 : State, s1.regs = s.regs → (if chg then s1.prt.ocChg else s1.prt.ocDis) = true →
      let r := if (s1.latch (b2n chg)).flag F.PRT_CFG_OCOPEN then (s1.latch (b2n chg)).coilsTrip else s1.latch (b2n chg)
      r.flag (causeF (b2n chg)) = true ∧ (if chg then r.prt.ocChg else r.prt.ocDis) = true ∧
      (s.flag F.PRT_CFG_OCOPEN = true → r.get F.PRT_CONTSTAT_COIL = 0) := by
    intro s1 hr hp
    have h1 : Stands latchReg s1 (s1.latch (b2n chg)) := (Stands.refl _ _).latch (fun _ h => h) _
    have hflag : (s1.latch (b2n chg)).flag (causeF (b2n chg)) = true := latch_flag hn
    have hopen : (s1.latch (b2n chg)).flag F.PRT_CFG_OCOPEN = s.flag F.PRT_CFG_OCOPEN := by
      rw [h1.flag (by decide)]
      unfold State.flag
      rw [get_congr hr]
    have h2 : Stands tripReg (s1.latch (b2n chg)) (s1.latch (b2n chg)).coilsTrip := (Stands.refl _ _).coilsTrip fun _ h => h
    dsimp only
    rw [hopen]
    split
    next =>
      refine ⟨(h2.flag (show tripReg 0x8002C = false by decide)).trans hflag, ?_, fun _ => coilsTrip_coil _⟩
      rw [h2.ocChg, h2.ocDis, h1.ocChg, h1.ocDis]
      exact hp
    next h =>
      refine ⟨hflag, ?_, fun ho => absurd ho h⟩
      rw [h1.ocChg, h1.ocDis]
      exact hp
  cases chg
  · exact hl _ rfl rfl
  · exact hl _ rfl rfl

/-- An overcurrent that is held latches its cause and switches every coil off. -/
theorem ocHold_latches (s : State) (chg : Bool) :
    let r := (({ s with prt := if chg then { s.prt with ocChgAt := none } else { s.prt with ocDisAt := none } } : State).latch 8).coilsTrip
    r.flag F.PRT_TRIP_OC_HOLD = true ∧ r.get F.PRT_CONTSTAT_COIL = 0 :=
  ⟨(((Stands.refl tripReg _).coilsTrip (fun _ h => h)).flag (by decide)).trans (latch_flag (n := 8) (by decide)), coilsTrip_coil _⟩

/-- The state in which a gate fault is latched: the phase is kept of the first fault, and its desaturation stands. -/
def gateFaulted (s : State) (ph : Nat) : State :=
  let s1 := if s.flag F.PRT_TRIP_DESAT then s else s.set F.PRT_TRIP_DESATPH ph
  { s1 with prt := { s1.prt with desat := modNth s1.prt.desat ph (fun _ => true) } }

theorem gateFault_latches (s : State) {ph : Nat} (h : ph < 4) :
    ((gateFaulted s ph).latch 2).flag F.PRT_TRIP_DESAT = true ∧
    (s.flag F.PRT_TRIP_DESAT = false → ((gateFaulted s ph).latch 2).get F.PRT_TRIP_DESATPH = ph) := by
  refine ⟨latch_flag (n := 2) (by decide), fun hd => ?_⟩
  rw [(latch_stands_entered _ 2).get (by decide), entered_get (by decide)]
  unfold gateFaulted
  rw [hd]
  exact (get_set_same s F.PRT_TRIP_DESATPH ph (show 20 + 2 ≤ 32 by decide)).trans (Nat.mod_eq_of_lt h)

/-- The loss of CTRL in RUN latches its cause and halts (R31). -/
theorem ctrlLost_halts {s : State} (h : s.rst.mode = .run) :
    s.ctrlLost.flag F.PRT_TRIP_CTRL_CLK = true ∧ Halted 3 s.ctrlLost := by
  have hm : ((s.setGood 4 false).latch 7).rst.mode = .run :=
    ((Stands.refl latchReg _).latch (fun _ h => h) 7).mode.trans h
  refine ⟨?_, haltEntry_halted hm (by decide)⟩
  exact (haltEntry_cause hm (n := 7)).trans (latch_flag (by decide))

/-- The loss of SAFE in RUN switches the coils off and halts (R30). -/
theorem safeLost_halts {s : State} (h : s.rst.mode = .run) :
    s.safeLost.get F.PRT_CONTSTAT_COIL = 0 ∧ Halted 4 s.safeLost := by
  have hm : (s.setGood 1 false).outputsOff.rst.mode = .run :=
    ((Stands.refl tripReg _).outputsOff (fun _ h => h)).mode.trans h
  exact ⟨haltEntry_coil hm, haltEntry_halted hm (by decide)⟩

end Sys2Proof.Machine.Laws

namespace Sys2Proof.Proofs

open Sys2Proof.Machine Sys2Proof.Machine.Laws Sys2Proof.Safety

/-- Settles O19: every cause goes through the latch, which enters it in PRT_TRIP; what follows it leaves PRT_TRIP, and a latched cause
holds the gates low. -/
theorem flintLatchesItsCauses : Obligations.FlintLatchesItsCauses := by
  unfold Obligations.FlintLatchesItsCauses
  rintro s _ t ph chg x r rfl
  refine ⟨fun ha => ?comparator, fun ha ho hd => ?hold, fun ha hph => ?gate, fun hs => ?barrier, fun hl hA hB => ?coils,
    fun hc hr => ?ctrl, fun hc hr => ?safe, fun hp hh hc ho ha hr hcl ht m hpl hm => ?trip, fun ht hm => ?other⟩
  case comparator =>
    have hn : b2n chg < 9 := by cases chg <;> decide
    obtain ⟨hflag, hcmp, hcoil⟩ := overcurrent_latches (s.upto t) chg
    refine answers_of_guard rfl ha rfl ?_
    rw [command_flag, command_prt, command_get]
    exact ⟨hflag, gates_low_of_cause hn hflag, hcmp, hcoil⟩
  case hold =>
    obtain ⟨hflag, hcoil⟩ := ocHold_latches (s.upto t) chg
    refine answers_of_guard rfl (by simp [ha, ho, hd]) rfl ?_
    rw [command_flag, command_get]
    exact ⟨hflag, gates_low_of_cause (n := 8) (by decide) hflag, hcoil⟩
  case gate =>
    obtain ⟨hflag, hkept⟩ := gateFault_latches (s.upto t) hph
    refine answers_of_guard rfl (by simp [ha, hph]) rfl ?_
    rw [command_flag, command_get]
    exact ⟨hflag, gates_low_of_cause (n := 2) (by decide) hflag, hkept⟩
  case barrier =>
    obtain ⟨hflag, hx⟩ := barrierLoss_lost (s.upto t) x
    refine answers_of_guard rfl hs rfl ?_
    rw [command_flag]
    refine ⟨hflag, gates_low_of_cause (n := 4) (by decide) hflag, ?_⟩
    unfold State.silent at hx ⊢
    rw [command_cvi]
    exact hx
  case coils =>
    refine answers_of_guard rfl ?_ rfl ?_
    · cases x <;> simp_all
    · rw [command_get]
      exact coilsTrip_coil _
  case ctrl =>
    obtain ⟨hflag, ⟨hmode, hcause⟩⟩ := ctrlLost_halts hr
    refine answers_of_guard rfl hc rfl ?_
    rw [command_flag, command_rst, command_get]
    exact ⟨hflag, gates_low_of_cause (n := 7) (by decide) hflag, hmode, hcause⟩
  case safe =>
    obtain ⟨hcoil, ⟨hmode, hcause⟩⟩ := safeLost_halts hr
    refine answers_of_guard rfl hc rfl ?_
    rw [command_rst, command_get, command_get]
    exact ⟨gates_low_of_mode (by rw [hmode]; decide), hcoil, hmode, hcause⟩
  case trip =>
    obtain ⟨s1, hr1, he⟩ := tripTake_meant ha hc ho hr hcl ht
    obtain ⟨hflag, hcoil⟩ := trip_latches ha (isOpen_lt ho) hr1 hcl hpl hm
    refine ⟨_, rfl, ?_⟩
    rw [← he] at hflag hcoil
    have hb : (if !(s.upto t).portOpen r.via || (s.upto t).coresHeld then s.upto t else (s.upto t).tripTake r) = (s.upto t).tripTake r := by
      simp [hp, hh]
    rw [command_flag, command_get, hb]
    exact ⟨hflag, gates_low_of_cause (n := 5) (by decide) (by rw [hb]; exact hflag), hcoil⟩
  case other =>
    refine ⟨_, rfl, ?_⟩
    simp only [command_flag, command_get]
    have hs : Stands replyReg (s.upto t) (if !(s.upto t).portOpen r.via || (s.upto t).coresHeld then s.upto t else (s.upto t).tripTake r) :=
      .ite (fun _ => .refl _ _) fun _ => tripTake_other ht hm
    exact ⟨hs.flag (by decide), hs.get (by decide)⟩

end Sys2Proof.Proofs
end


section
/-! Bay frames on the line: discovery, cycles, reports and allocations (O27). -/

namespace Sys2Proof.Machine.Laws

open Sys2Proof.Safety

/-! ## Frames that leave line ports (R24, R259) -/

/-- A list of frames that leave one after the other: the frames of the ports that run, the last one newest. -/
theorem foldl_emit_out (f : Nat → OutMsg) (l : List Nat) (s : State) :
    (l.foldl (fun a p => a.emit (f p)) s).out = (l.map f).reverse ++ s.out := by
  induction l generalizing s with
  | nil => rfl
  | cons p t ih => rw [List.foldl_cons, ih]; simp [State.emit]

/-- What leaves changes nothing but the record of it. -/
theorem bayOut_eq (s : State) (ports : List Nat) (bytes : List Byte) :
    s.bayOut ports bytes = { s with out := (s.bayOut ports bytes).out } := by
  unfold State.bayOut
  generalize ports.filter s.ethOn = l
  induction l generalizing s with
  | nil => rfl
  | cons p t ih => rw [List.foldl_cons, ih]; rfl

section
variable (s : State) (ports : List Nat) (bytes : List Byte)

theorem bayOut_out : (s.bayOut ports bytes).out = ((ports.filter s.ethOn).map (fun p => bayMsg p bytes)).reverse ++ s.out :=
  foldl_emit_out (fun p => bayMsg p bytes) _ s

/-- Through one port: the frame leaves where the port runs. -/
theorem bayOut_one (p : Nat) : (s.bayOut [p] bytes).out = (if s.ethOn p then [bayMsg p bytes] else []) ++ s.out := by
  rw [bayOut_out]
  cases h : s.ethOn p <;> simp [h]

theorem bayOut_mem {p : Nat} (hp : p ∈ ports) (h : s.ethOn p = true) : bayMsg p bytes ∈ (s.bayOut ports bytes).out := by
  rw [bayOut_out]
  simp only [List.mem_append, List.mem_reverse, List.mem_map, List.mem_filter]
  exact .inl ⟨p, ⟨hp, h⟩, rfl⟩

@[simp] theorem bayOut_regs : (s.bayOut ports bytes).regs = s.regs := by rw [bayOut_eq]
@[simp] theorem bayOut_bay : (s.bayOut ports bytes).bay = s.bay := by rw [bayOut_eq]
@[simp] theorem bayOut_time : (s.bayOut ports bytes).time = s.time := by rw [bayOut_eq]

theorem bayOut_get (f : Fld) : (s.bayOut ports bytes).get f = s.get f := get_congr (bayOut_regs s ports bytes) f

end

/-- Whether a port runs follows from the module's state, the port's reset, its clock and time alone (R24). -/
theorem ethOn_congr {s s' : State} (hr : s'.rst = s.rst) (he : s'.eth = s.eth) (hn : s'.now = s.now) (p : Nat) : s'.ethOn p = s.ethOn p := by
  unfold State.ethOn
  by_cases h : p = 1 ∨ p = 2
  · rcases h with rfl | rfl <;>
      simp [State.domainGood, State.clockGood, State.domainOn, State.inService, hr, he, hn]
  · have hp : (p == 1 || p == 2) = false := by simpa using h
    simp [hp]

/-- Only the two ports of the line run. -/
theorem port_of_ethOn {s : State} {p : Nat} (h : s.ethOn p = true) : p = 1 ∨ p = 2 := by
  unfold State.ethOn at h
  simp only [Bool.and_eq_true, Bool.or_eq_true, beq_iff_eq] at h
  exact h.1.2

/-- A member passes a frame on by the other line port (R258). -/
theorem onward_member {s : State} {port : Nat} (hr : s.role = 0) (hp : port = 1 ∨ port = 2) : s.onward port = [3 - port] := by
  unfold State.onward linePorts
  rw [hr]
  rcases hp with rfl | rfl <;> rfl

theorem onLine_member {s : State} {port : Nat} (hr : s.role = 0) (h : s.ethOn port = true) : s.onLine port = true := by
  unfold State.onLine linePorts
  rw [h, hr]
  rcases port_of_ethOn h with rfl | rfl <;> rfl

theorem ethOn_of_onLine {s : State} {port : Nat} (h : s.onLine port = true) : s.ethOn port = true := by
  unfold State.onLine at h
  exact (Bool.and_eq_true _ _ ▸ h).1

/-! ## Discovery (R257) -/

/-- The bellwether's position is 0, and its discovery frame leaves its line port. -/
theorem discover_sends {s : State} (hr : s.role = 1) :
    s.discover.get F.BAY_POS_POS = 0 ∧ s.discover.flag F.BAY_POS_VALID = true ∧ s.discover.bay.discAt = some s.now ∧
    s.discover.out = (if s.ethOn 2 then
      [bayMsg 2 (bayFrame 3 0 (s.get F.BAY_CYCLE_CYCLE) ([0] ++ leBytes 1 (s.get F.BAY_CFG_BAYID) ++ [0, 0]))] else []) ++ s.out := by
  let s2 := (({ s with bay := { s.bay with discAt := some s.now } } : State).set F.BAY_POS_POS 0).setB F.BAY_POS_VALID true
  have hpos : s2.get F.BAY_POS_POS = 0 := by
    simp (disch := decide) only [s2, get_field, setB_field, set_field, field_other, field_same]
    rfl
  have hval : s2.flag F.BAY_POS_VALID = true := by
    simp (disch := decide) only [s2, flag_field, setB_field, set_field, field_same]
    rfl
  have hrole : s2.role = 1 := by
    rw [← hr]
    simp (disch := decide) only [s2, State.role, get_field, setB_field, set_field, field_other]
  have hcyc : s2.get F.BAY_CYCLE_CYCLE = s.get F.BAY_CYCLE_CYCLE := by
    simp (disch := decide) only [s2, get_field, setB_field, set_field, field_other]
  have hp : s2.position = 0 := by
    unfold State.role at hrole
    unfold State.position
    simp [hval, hrole, hpos]
  have he : s.discover = s2.bayOut [2] (bayFrame 3 0 (s.get F.BAY_CYCLE_CYCLE) ([0] ++ leBytes 1 (s.get F.BAY_CFG_BAYID) ++ [0, 0])) := by
    show s2.baySend 3 (s2.get F.BAY_CYCLE_CYCLE) _ = _
    unfold State.baySend
    rw [hrole, hp, hcyc]
    rfl
  rw [he]
  refine ⟨(bayOut_get ..).trans hpos, ?_, by rw [bayOut_bay]; rfl, ?_⟩
  · unfold State.flag at hval ⊢
    rw [bayOut_get]
    exact hval
  · rw [bayOut_one, ethOn_congr (s := s) rfl rfl rfl]
    rfl

/-- The first discovery frame gives a member its position. -/
theorem discovered_first {s : State} {port hop : Nat} (hv : s.flag F.BAY_POS_VALID = false) (hh : hop < 63) (hp : port = 1 ∨ port = 2) :
    let b := s.discovered port hop
    b.get F.BAY_POS_POS = hop + 1 ∧ b.flag F.BAY_POS_VALID = true ∧ b.get F.BAY_POS_UPPORT = port - 1 ∧ b.out = s.out ∧
      b.rst = s.rst ∧ b.eth = s.eth ∧ b.now = s.now := by
  have he : s.discovered port hop = (((({ s with bay := { s.bay with hop := some (hop + 1) } } : State).set F.BAY_POS_UPPORT
      (port - 1)).set F.BAY_POS_POS (hop + 1)).setB F.BAY_POS_VALID true).altPos := by
    unfold State.discovered
    dsimp only
    rw [if_pos (by simp [hv])]
  dsimp only
  rw [he]
  unfold State.altPos
  simp (disch := decide) only [get_field, flag_field, setB_field, set_field, field_other, field_same, setB_out, set_out, setB_rst, set_rst,
    setB_eth, set_eth, setB_now, set_now]
  exact ⟨Nat.mod_eq_of_lt (show _ < 64 by omega), rfl, Nat.mod_eq_of_lt (show _ < 2 by omega), trivial, trivial, trivial, trivial⟩

/-- ... and goes on with its new HOP. -/
theorem discovery_first {s : State} {port src cyc : Nat} {raw body : List Byte} (hr : s.role = 0) (hp : port = 1 ∨ port = 2)
    (hb : bayParse raw = some (3, src, cyc, body)) (hl : body.length = 4) (hh : uAt body 0 1 < 63) (hv : s.flag F.BAY_POS_VALID = false) :
    let b := s.discovery port raw
    b.get F.BAY_POS_POS = uAt body 0 1 + 1 ∧ b.flag F.BAY_POS_VALID = true ∧ b.get F.BAY_POS_UPPORT = port - 1 ∧
    b.out = (if s.ethOn (3 - port) then [bayMsg (3 - port) (bayFrame 3 src cyc (leBytes 1 (uAt body 0 1 + 1) ++ body.drop 1))] else []) ++ s.out := by
  obtain ⟨hpos, hval, hup, hout, hrst, heth, hnow⟩ := discovered_first hv hh hp
  have he : s.discovery port raw =
      (s.discovered port (uAt body 0 1)).bayOut [3 - port] (bayFrame 3 src cyc (leBytes 1 (uAt body 0 1 + 1) ++ body.drop 1)) := by
    unfold State.discovery
    rw [hb, ← onward_member hr hp]
    exact if_neg (by omega)
  dsimp only
  rw [he]
  refine ⟨(bayOut_get ..).trans hpos, ?_, (bayOut_get ..).trans hup, ?_⟩
  · unfold State.flag at hval ⊢
    rw [bayOut_get]
    exact hval
  · rw [bayOut_one, ethOn_congr hrst heth hnow, hout]

/-! ## Cycles and reports (R260, R261) -/

theorem leBytes_length (n v : Nat) : (leBytes n v).length = n := by
  induction n generalizing v with
  | zero => rfl
  | succ n ih => rw [leBytes, List.length_cons, ih]

/-- A report body has 40 bytes (Table 12.2). -/
theorem reportBody_length (s : State) : s.reportBody.length = 40 := by
  unfold State.reportBody leBytesI
  simp only [List.length_append, leBytes_length, List.length_cons, List.length_nil]

theorem cycleStart_begins (s : State) :
    let i := (s.quartzNs + 5 * msec) / (10 * msec)
    let b := s.cycleStart
    b.get F.BAY_CYCLE_CYCLE = i % 65536 ∧ b.bay.cycle = some i ∧ b.bay.sent = false ∧ b.bay.computed = false ∧ b.bay.body.length = 40 ∧
      b.bay.src = s.position ∧ (s.bay.takeNext = true → b.flag F.BAY_POS_DISP = true ∧ b.flag F.BAY_POS_STANDBY = false) := by
  unfold State.cycleStart
  dsimp only
  generalize (s.quartzNs + 5 * msec) / (10 * msec) = i
  have hp : (s.set F.BAY_CYCLE_CYCLE (i % 65536)).position = s.position := by
    unfold State.position
    simp (disch := decide) only [flag_field, get_field, set_field, field_other]
    rfl
  have hc : (s.set F.BAY_CYCLE_CYCLE (i % 65536)).get F.BAY_CYCLE_CYCLE = i % 65536 := by
    rw [get_set_same _ F.BAY_CYCLE_CYCLE _ (show 0 + 16 ≤ 32 by decide)]
    exact Nat.mod_mod _ _
  have ht : (s.set F.BAY_CYCLE_CYCLE (i % 65536)).bay.takeNext = s.bay.takeNext := rfl
  generalize s.set F.BAY_CYCLE_CYCLE (i % 65536) = s1 at hp hc ht
  have hb : s1.reportBody.length = 40 := reportBody_length s1
  generalize s1.reportBody = body at hb
  rw [ht]
  split
  next h =>
    refine ⟨Eq.trans ?_ hc, rfl, rfl, rfl, hb, hp, fun _ => ?_⟩
    · unfold State.dispatchStart
      simp (disch := decide) only [get_field, setB_field, field_other]
    · unfold State.dispatchStart
      simp (disch := decide) only [flag_field, setB_field, field_same, field_other]
      exact ⟨rfl, rfl⟩
  next h => exact ⟨hc, rfl, rfl, rfl, hb, hp, fun e => absurd e h⟩

/-- A report leaves every line port that runs. -/
theorem report_sends {s : State} {i : Nat} (hc : s.bay.cycle = some i) :
    s.report.bay.sent = true ∧ ∀ p ∈ linePorts s.role, s.ethOn p = true → bayMsg p (bayFrame 1 s.bay.src (i % 65536) s.bay.body) ∈ s.report.out := by
  have hk : ∀ (b : State) q r, (b.keepReport q r).bay.sent = b.bay.sent ∧ (b.keepReport q r).out = b.out := fun _ _ _ => ⟨rfl, rfl⟩
  have hb : (({ s with bay := { s.bay with sent := true } } : State).bayOut (linePorts s.role)
      (bayFrame 1 s.bay.src (i % 65536) s.bay.body)).bay.sent = true := by rw [bayOut_bay]
  have hm : ∀ p ∈ linePorts s.role, s.ethOn p = true → bayMsg p (bayFrame 1 s.bay.src (i % 65536) s.bay.body) ∈
      (({ s with bay := { s.bay with sent := true } } : State).bayOut (linePorts s.role) (bayFrame 1 s.bay.src (i % 65536) s.bay.body)).out :=
    fun p hp he => bayOut_mem _ _ _ hp ((ethOn_congr (s := s) rfl rfl rfl p).trans he)
  unfold State.report
  rw [hc]
  dsimp only [Option.getD_some]
  split
  · rw [(hk _ _ _).1, (hk _ _ _).2]
    exact ⟨hb, hm⟩
  · exact ⟨hb, hm⟩

/-- A member passes a report on and keeps none. -/
theorem reportIn_member {s : State} {port src cyc serial : Nat} {raw body : List Byte} (hr : s.role = 0) (hp : port = 1 ∨ port = 2)
    (hb : bayParse raw = some (1, src, cyc, body)) :
    (s.reportIn port raw serial).out = (if s.ethOn (3 - port) then [bayMsg (3 - port) raw] else []) ++ s.out ∧
    (s.reportIn port raw serial).bay.reports = s.bay.reports := by
  have he : s.bayEnd = false := by unfold State.bayEnd; rw [hr]; rfl
  have hi : s.reportIn port raw serial = s.bayOut [3 - port] raw := by
    unfold State.reportIn
    rw [hb, onward_member hr hp]
    dsimp only
    cases s.bay.cycle with
    | none => rfl
    | some i => simp [he]
  rw [hi, bayOut_bay]
  exact ⟨bayOut_one .., rfl⟩

/-- An end of the line keeps a report of this cycle that comes in time. -/
theorem reportIn_end {s : State} {port src i serial : Nat} {raw body : List Byte} (hb : bayParse raw = some (1, src, i % 65536, body))
    (he : s.bayEnd = true) (hc : s.bay.cycle = some i) (hl : body.length = 40) (hs : src < 64) (ht : s.inCycle 6 = false) :
    assoc? src (s.reportIn port raw serial).bay.reports = some { idx := i, body := body, serial := serial } := by
  have hi : s.reportIn port raw serial = (s.bayOut (s.onward port) raw).keepReport src { idx := i, body := body, serial := serial } := by
    unfold State.reportIn
    rw [hb]
    dsimp only
    rw [hc]
    simp [he, hl, hs, ht]
  rw [hi]
  exact assoc_put_same ..

/-! ## Allocations (R267, R268) -/

/-- A member passes an allocation on and holds it for its instant (Table 12.4). -/
theorem allocationIn_member {s : State} {port src cyc : Nat} {raw body : List Byte} (hr : s.role = 0) (hp : port = 1 ∨ port = 2)
    (hb : bayParse raw = some (2, src, cyc, body)) (hl : 16 ≤ body.length) (hh : s.bay.held = none) :
    (s.allocationIn port raw).out = (if s.ethOn (3 - port) then [bayMsg (3 - port) raw] else []) ++ s.out ∧
    ∃ h, (s.allocationIn port raw).bay.held = some h ∧ h.cycle = cyc ∧ h.body = body ∧
      h.due = if s.get F.TIM_STAT_STATE = 2 then (s.quartzNs / (10 * msec) + 1) * (10 * msec) else s.quartzNs + 3 * msec := by
  let s1 := s.bayOut [3 - port] raw
  have hrole : s1.role = 0 := (bayOut_get ..).trans hr
  have hear : s1.hear body = s1 := by
    unfold State.hear
    rw [hrole]
    rfl
  have hi : s.allocationIn port raw = s1.hold cyc body := by
    unfold State.allocationIn
    rw [hb, onward_member hr hp]
    exact (if_neg (Nat.not_lt.2 hl)).trans (by rw [hear])
  have hq : s1.quartzNs = s.quartzNs := by unfold State.quartzNs; rw [bayOut_time]
  have hd : s1.get F.TIM_STAT_STATE = s.get F.TIM_STAT_STATE := bayOut_get ..
  have hn : s1.bay.held = none := by rw [bayOut_bay]; exact hh
  rw [hi]
  unfold State.hold
  simp only [hn, hq, hd, Bool.false_eq_true, if_false]
  exact ⟨bayOut_one .., _, rfl, rfl, rfl, rfl⟩

/-! ### Signed fields -/

/-- The value of a two's complement code is in its format's range. -/
theorem clipS_ofCode {n : Nat} (hn : 0 < n) (u : Nat) : clipS n (ofCode n u) = ofCode n u := by
  obtain ⟨m, rfl⟩ : ∃ m, n = m + 1 := ⟨n - 1, by omega⟩
  have hp : 2 ^ (m + 1) = 2 * 2 ^ m := by rw [Nat.pow_succ, Nat.mul_comm]
  have hu : u % 2 ^ (m + 1) < 2 ^ (m + 1) := Nat.mod_lt _ (Nat.two_pow_pos _)
  unfold clipS clip ofCode
  dsimp only
  rw [Nat.add_sub_cancel]
  generalize 2 ^ (m + 1) = q at *
  generalize 2 ^ m = h at *
  generalize u % q = v at *
  split_ifs <;> omega

theorem toCode_ofCode (n u : Nat) : toCode n (ofCode n u) = u % 2 ^ n := by
  have hu : u % 2 ^ n < 2 ^ n := Nat.mod_lt _ (Nat.two_pow_pos _)
  unfold toCode ofCode
  dsimp only
  generalize 2 ^ n = q at *
  generalize u % q = v at *
  split_ifs
  · rw [Int.emod_eq_of_lt (by omega) (by omega), Int.toNat_natCast]
  · rw [Int.sub_emod_right, Int.emod_eq_of_lt (by omega) (by omega), Int.toNat_natCast]

/-- A signed field reads the value of a code of its own width that was written to it. -/
theorem getI_setI_ofCode (s : State) (f : Fld) (u : Nat) (hf : f.fits) (hw : 0 < f.w) : (s.setI f (ofCode f.w u)).getI f = ofCode f.w u := by
  have hm : ofCode f.w (u % 2 ^ f.w) = ofCode f.w u := by unfold ofCode; simp only [Nat.mod_mod]
  unfold State.getI State.setI
  rw [clipS_ofCode hw, toCode_ofCode, get_set_same s f _ hf, Nat.mod_mod, hm]

/-! ### What follows from an allocation -/

/-- `b` keeps what an allocation wrote to `a`: the bay, the NET value and BAY_ALLOC. -/
structure KeepsAlloc (a b : State) : Prop where
  bay : b.bay = a.bay
  net : b.ctl.net = a.ctl.net
  alloc : b.word 0xC0024 = a.word 0xC0024

namespace KeepsAlloc

section
variable {a b c : State}

theorem refl (a : State) : KeepsAlloc a a := ⟨rfl, rfl, rfl⟩

theorem trans (h : KeepsAlloc a b) (k : KeepsAlloc b c) : KeepsAlloc a c :=
  ⟨k.bay.trans h.bay, k.net.trans h.net, k.alloc.trans h.alloc⟩

/-- An update of other parts of the state. -/
theorem upd (h : KeepsAlloc a b) (hb : c.bay = b.bay := by rfl) (hn : c.ctl.net = b.ctl.net := by rfl) (hr : c.regs = b.regs := by rfl) :
    KeepsAlloc a c := h.trans ⟨hb, hn, word_congr hr _⟩

theorem getI_alloc (h : KeepsAlloc a b) : b.getI F.BAY_ALLOC = a.getI F.BAY_ALLOC := by
  unfold State.getI State.get
  rw [h.alloc]

theorem set (h : KeepsAlloc a b) (f : Fld) (x : Nat) (hf : f.addr ≠ 0xC0024) : KeepsAlloc a (b.set f x) :=
  h.trans ⟨rfl, rfl, word_set_other _ _ _ _ hf⟩

theorem setB (h : KeepsAlloc a b) (f : Fld) (x : Bool) (hf : f.addr ≠ 0xC0024) : KeepsAlloc a (b.setB f x) := h.set f _ hf

theorem setI (h : KeepsAlloc a b) (f : Fld) (x : Int) (hf : f.addr ≠ 0xC0024) : KeepsAlloc a (b.setI f x) := h.set f _ hf

theorem entry (h : KeepsAlloc a b) {i : Nat} (hi : i < 10) (dis chg : Int) : KeepsAlloc a (b.entry i dis chg) := by
  have hs : KeepsAlloc a ((b.setI (F.PRT_ENT_DIS.ix8 i) dis).setI (F.PRT_ENT_CHG.ix8 i) chg) :=
    (h.setI _ _ (show 0x80040 + 8 * i ≠ 0xC0024 by omega)).setI _ _ (show 0x80044 + 8 * i ≠ 0xC0024 by omega)
  unfold State.entry State.entryPut
  dsimp only
  split_ifs
  · exact h
  · exact hs.upd
  · exact hs.upd
  · exact hs

theorem entry8 (h : KeepsAlloc a b) : KeepsAlloc a b.entry8 := by
  unfold State.entry8
  split
  · exact h.entry (by decide) ..
  · exact h.entry (by decide) ..

theorem restGrant (h : KeepsAlloc a b) (n : Nat) : KeepsAlloc a (b.restGrant n) := by
  unfold State.restGrant
  split
  · exact (h.setB F.EST_FLAGS_RESTING false (by decide)).upd
  · exact (h.setB F.EST_FLAGS_RESTING true (by decide)).upd

theorem restEntry (h : KeepsAlloc a b) (r : Nat) : KeepsAlloc a (b.restEntry r) := by
  unfold State.restEntry
  split_ifs
  · exact h
  · exact h.upd
  · exact h.restGrant r

theorem ite {p : Prop} [Decidable p] {x y : State} (hx : KeepsAlloc a x) (hy : KeepsAlloc a y) : KeepsAlloc a (if p then x else y) := by
  split
  · exact hx
  · exact hy

theorem throttle (h : KeepsAlloc a b) : KeepsAlloc a b.throttle := by
  have hu : ∀ x, KeepsAlloc a (b.setI F.THM_DIE_TUSE x) := fun x => h.setI _ x (by decide)
  have hd : ∀ {c : State} n, KeepsAlloc a c → KeepsAlloc a (c.set F.THM_STAT_DSTEP n) := fun n hc => hc.set _ n (by decide)
  unfold State.throttle
  extract_lets broken s1 t n s2
  have h2 : KeepsAlloc a s2 := hd n (.ite (hu _) (.ite (hu _) h))
  exact .ite (h2.entry (by decide) ..) (h2.entry (by decide) ..)

theorem neighbours (h : KeepsAlloc a b) (e : Held) : KeepsAlloc a (b.neighbours e) := by
  unfold State.neighbours
  extract_lets n own others vals _ s0 _ s1
  have h0 : KeepsAlloc a s0 := .ite h h.upd
  have h1 : KeepsAlloc a s1 := h0.upd
  have hb : ∀ {c : State}, KeepsAlloc a c → KeepsAlloc a (c.setB F.THM_STAT_NONEIGH false) := fun hc => hc.setB _ false (by decide)
  exact .ite (.ite (hb h1) h1) (hb h1.upd).throttle

end

end KeepsAlloc

/-- The state once the module has taken the entry `e` of an allocation `h`, before anything follows from it. -/
def entryTaken (s : State) (h : Held) (e : List Byte) : State :=
  (({ s with bay := { s.bay with
      held := none, applied := some s.now, appliedNo := some (s.gridNo h.due 5000), acycle := h.cycle,
      cap := ((uAt e 4 2 * 100 : Nat), (uAt e 6 2 * 100 : Nat)) } } : State).setI F.BAY_ALLOC (iAt e 0 4)).netTake (iAt e 0 4)

theorem entryTaken_alloc (s : State) (h : Held) (e : List Byte) : (entryTaken s h e).getI F.BAY_ALLOC = iAt e 0 4 := by
  unfold entryTaken State.netTake
  generalize ({ s with bay := _ } : State) = s1
  have hk := get_set_clear (s1.setI F.BAY_ALLOC (iAt e 0 4)) F.CTL_SPSTAT_NETTMO F.BAY_ALLOC 0 (by decide)
  exact (congrArg (ofCode 32) hk).trans (getI_setI_ofCode s1 F.BAY_ALLOC (uAt e 0 4) (show 0 + 32 ≤ 32 by decide) (by decide))

/-- The own entry of an allocation is taken. -/
theorem applyEntry_own {s : State} {h : Held} (hp : s.position < uAt h.body 12 1) (hl : 16 + 16 * uAt h.body 12 1 ≤ h.body.length) :
    KeepsAlloc (entryTaken s h (slice h.body (16 + 16 * s.position) 16)) (s.applyEntry h) := by
  have hg : ¬ (decide (uAt h.body 12 1 ≤ s.position) || decide (h.body.length < 16 + 16 * uAt h.body 12 1)) = true := by
    simp only [Bool.or_eq_true, decide_eq_true_eq]
    omega
  unfold State.applyEntry
  extract_lets _ s0 p e target _ s1
  rw [if_neg hg]
  exact (((KeepsAlloc.refl (entryTaken s h e)).entry8).restEntry _).neighbours _

/-- Entry 8 of a module on the line, with a cap of 0 and SRC NET. -/
theorem entry8_zero {s : State} (hs : s.get F.CTL_SPCFG_SRC = 0) (hj : s.lrn.job = none) (hr : s.role ≠ 3) (hd : s.lan.supDown = false)
    (hc : s.bay.cap = (0, 0)) : s.entry8.getI (F.PRT_ENT_DIS.ix8 8) = 0 ∧ s.entry8.getI (F.PRT_ENT_CHG.ix8 8) = 0 := by
  have he : s.entry8 = (s.setI (F.PRT_ENT_DIS.ix8 8) 0).setI (F.PRT_ENT_CHG.ix8 8) 0 := by
    unfold State.role at hr
    unfold State.entry8 State.entry State.entryPut
    simp [hs, hj, hr, hd, hc]
  rw [he]
  refine ⟨?_, getI_setI_ofCode _ (F.PRT_ENT_CHG.ix8 8) 0 (show 0 + 32 ≤ 32 by decide) (by decide)⟩
  refine Eq.trans ?_ (getI_setI_ofCode s (F.PRT_ENT_DIS.ix8 8) 0 (show 0 + 32 ≤ 32 by decide) (by decide))
  unfold State.getI
  exact congrArg (ofCode 32) (get_set_clear _ _ _ _ (by decide))

theorem entry8_bay (s : State) : s.entry8.bay = s.bay := ((KeepsAlloc.refl s).entry8).bay

end Sys2Proof.Machine.Laws

namespace Sys2Proof.Proofs

open Sys2Proof.Machine Sys2Proof.Machine.Laws Sys2Proof.Safety

/-- Settles O27: each command of the bay is its body where its guard holds, and each body is one of the rules above. -/
theorem bayFramesTravelTheLine : Obligations.BayFramesTravelTheLine := by
  unfold Obligations.BayFramesTravelTheLine
  rintro s _ t port raw rfl
  refine ⟨?discovery, ?position, ?cycle, ?send, ?receive, ?hold, ?apply, ?timeout⟩
  case discovery =>
    intro hs hr hd
    refine answers_of_guard rfl ?_ rfl ?_
    · cases h : (s.upto t).bay.discAt with
      | none => simp [hs, hr]
      | some d => simp [hs, hr, hd d h]
    · rw [command_get, command_flag, command_bay, command_out]
      exact discover_sends hr
  case position =>
    intro src cyc body he hr hb hl hh hv
    refine answers_of_guard rfl ?_ rfl ?_
    · simp [onLine_member hr he, hr]
    · rw [command_get, command_flag, command_get, command_out]
      exact discovery_first hr (port_of_ethOn he) hb hl hh hv
  case cycle =>
    rintro i rfl hd
    refine answers_of_guard rfl hd rfl ?_
    rw [command_get, command_flag, command_flag, command_bay]
    exact cycleStart_begins _
  case send =>
    intro i hs hr hn hc hi
    refine answers_of_guard rfl ?_ rfl ?_
    · simp [hs, hr, hn, hi]
    · rw [command_bay, command_out]
      exact report_sends hc
  case receive =>
    intro src cyc body i serial hb hp
    refine ⟨fun hr => answers_of_guard rfl hp rfl ?_, fun he hc hl hs hi ht => answers_of_guard rfl hp rfl ?_⟩
    · rw [command_out, command_bay]
      exact reportIn_member hr (port_of_ethOn (ethOn_of_onLine hp)) hb
    · rw [command_bay]
      exact reportIn_end (hi ▸ hb) he hc hl hs ht
  case hold =>
    intro src cyc body hb he hr hl hh
    refine answers_of_guard rfl (onLine_member hr he) rfl ?_
    rw [command_out, command_bay]
    exact allocationIn_member hr (port_of_ethOn he) hb hl hh
  case apply =>
    rintro h e hs hh hd hp hl rfl
    have hk := applyEntry_own hp hl
    have hb : (s.upto t).allocApply = (s.upto t).applyEntry h := by
      unfold State.allocApply
      rw [hh]
      exact if_pos hd
    refine answers_of_guard rfl hs hb ?_
    rw [command_bay, command_getI, command_ctl, hk.bay, hk.net, hk.getI_alloc]
    exact ⟨rfl, rfl, entryTaken_alloc .., rfl, rfl⟩
  case timeout =>
    intro hs hr ht
    refine answers_of_guard rfl ?_ rfl ?_
    · simp [hs, hr, ht]
    · rw [command_bay, command_getI, command_getI, entry8_bay]
      exact ⟨rfl, fun hsrc hj hd => entry8_zero hsrc hj hr hd rfl⟩

end Sys2Proof.Proofs
end


section
/-! Two statements that compare what an ineffective command answers with the state it found, pads included (O44, O45). -/

namespace Sys2Proof.Machine.Laws

open Sys2Proof.Safety

/-- The state that the guard of a command sends away, with time moved on: as it was found, but that the pads follow it. -/
theorem not_answers_found {c : Instr} {s : State} {t : Nat} {ok : State → Bool} {body : State → State}
    (hc : exec c s = .next (s.commandIf t ok body)) (h : ok (s.upto t) = false) (hp : (s.upto t).pads ≠ (s.command t fun _ => s.upto t).pads) :
    ¬ Answers c s (fun s' => s' = s.upto t) := by
  rintro ⟨s', he, rfl⟩
  obtain ⟨s1, he1, rfl⟩ := answers_of_guard_fails (P := fun s' => s' = s.command t fun _ => s.upto t) hc h rfl
  exact hp (congrArg State.pads (Host.Outcome.next.inj (he.symm.trans he1)))

/-- A parked module with its SPI port in a listen window and under a port reset of 1 ms (Table 18.1), its pads settled. -/
def spiHeld : State :=
  ({ State.reset with rst := { State.reset.rst with mode := .park, listen := [(3, 0, 0)], portAt := [(0, msec)] } } : State).settle

/-- The port reset ends at 1 ms; the pads that time alone has brought there still show the port held. -/
theorem spiHeld_pads : (spiHeld.upto msec).pads ≠ (spiHeld.command msec fun _ => spiHeld.upto msec).pads := by
  decide +kernel

end Sys2Proof.Machine.Laws

namespace Sys2Proof.Proofs

open Sys2Proof.Machine Sys2Proof.Machine.Laws Sys2Proof.Safety

/-- Refutes O44: a clause on a lane whose clock is stopped says that CLOCK_LOSS answers exactly the state found at its instant. The command does
nothing, yet its pads follow the state (R353, R366): with the SPI port's reset over since the command before, they show the port open, and
those of the state found do not. -/
theorem not_clockDomainsComeAndGo : ¬ Obligations.ClockDomainsComeAndGo := by
  unfold Obligations.ClockDomainsComeAndGo
  intro h
  obtain ⟨-, -, -, -, -, -, hstopped, -⟩ := h spiHeld _ msec 0 0 rfl
  exact not_answers_found rfl (by decide +kernel) spiHeld_pads (hstopped (by decide +kernel)).1

/-- Refutes O45: the clause on an I²C address that is not the module's says that WAKE_IIC_ADDRESS answers exactly the state found at its instant.
The module does not wake, yet its pads follow the state: with the SPI port's reset over since the command before, they show the port open,
and those of the state found do not. -/
theorem not_supplyAndWakeEventsAct : ¬ Obligations.SupplyAndWakeEventsAct := by
  unfold Obligations.SupplyAndWakeEventsAct
  intro h
  obtain ⟨-, -, -, -, -, hother, -⟩ := h spiHeld _ msec 0 0 rfl
  exact not_answers_found rfl (by decide +kernel) spiHeld_pads (hother (by decide +kernel) (by decide +kernel))

end Sys2Proof.Proofs
end

section
/-! What the ring master keeps while other parts of the module act, and heartbeats, breaks and split operation (O5). -/

namespace Sys2Proof.Machine.Laws

open Sys2Proof.Safety

/-! ## The limit stack's entry 5 and the unreachable count (R67) -/

section
variable (s : State)

@[simp] theorem entry_ring (i : Nat) (d c : Int) : (s.entry i d c).ring = s.ring := by
  unfold State.entry State.entryPut
  dsimp only
  split_ifs <;> rfl

@[simp] theorem entry_evr (i : Nat) (d c : Int) : (s.entry i d c).evr = s.evr := by
  unfold State.entry State.entryPut
  dsimp only
  split_ifs <;> rfl

@[simp] theorem integrity_ring : s.integrity.ring = s.ring := by
  unfold State.integrity
  split_ifs <;> exact entry_ring ..

@[simp] theorem integrity_evr : s.integrity.evr = s.evr := by
  unfold State.integrity
  split_ifs <;> exact entry_evr ..

@[simp] theorem reach_evr : s.reach.evr = s.evr := integrity_evr _

/-- The unreachable count moves the grace timer of the ring master alone. -/
theorem reach_ring : s.reach.ring = { s.ring with graceAt := s.reach.ring.graceAt } := by
  unfold State.reach
  dsimp only
  simp only [integrity_ring]
  rfl

/-- Of the registers it changes RING_STAT and the limit stack. -/
theorem reach_stands : Stands (fun y => y == 0x30004 || entReg y) s s.reach := by
  unfold State.reach
  dsimp only
  exact ((Stands.refl _ s).set F.RING_STAT_UNREACH _ rfl).upd.integrity fun y hy => by simp [hy]

/-- It leaves every field but UNREACH and the limit stack. -/
theorem reach_get {f : Fld} (hc : clearOf [F.RING_STAT_UNREACH] f = true) (he : entReg f.addr = false) : s.reach.get f = s.get f := by
  unfold State.reach
  dsimp only
  rw [((Stands.refl entReg _).integrity fun _ h => h).get he]
  exact get_set_clear s F.RING_STAT_UNREACH f _ hc

/-! ## Commands of the ring -/

/-- A broadcast queues commands. -/
theorem ringBroadcast_queues (cmd : Nat) (p : List Byte) (r : Nat) :
    ∃ l, s.ringBroadcast cmd p r = { s with ring := { s.ring with cmds := s.ring.cmds ++ l } } := by
  unfold State.ringBroadcast
  dsimp only
  split
  · exact ⟨[_, _], congrArg (fun l => { s with ring := { s.ring with cmds := l } }) (List.append_assoc ..)⟩
  · exact ⟨[_], rfl⟩

end

/-! ## A break (R64, R66) -/

/-- The break is declared: BROKEN is set and its event is pending. -/
def BreakShown (s : State) : Prop := s.flag F.RING_STAT_BROKEN = true ∧ 8 ∈ s.evr.pend

/-- Split operation as it stands once both ports' reaches are known. -/
structure SplitShown (k m : Nat) (s : State) : Prop where
  split : s.ring.split = true
  state : s.get F.RING_STAT_STATE = 4
  east : s.get F.RING_BREAK_EREACH = k
  west : s.get F.RING_BREAK_WREACH = m

section
variable {s : State}

theorem BreakShown.upd {r : State} (h : BreakShown s) (hg : r.get F.RING_STAT_BROKEN = s.get F.RING_STAT_BROKEN := by rfl)
    (he : r.evr.pend = s.evr.pend := by rfl) : BreakShown r := by
  obtain ⟨hb, hp⟩ := h
  unfold State.flag at hb
  exact ⟨by unfold State.flag; rw [hg, hb], by rw [he]; exact hp⟩

theorem BreakShown.probeStart (h : BreakShown s) : BreakShown s.probeStart := by
  unfold State.probeStart
  dsimp only
  split
  · exact h.upd
  · exact h.upd

theorem probeStart_parked (s : State) : s.probeStart.parked = s.parked := by
  unfold State.probeStart
  dsimp only
  split <;> rfl

/-- Split operation begins: the reaches and the state of the ring are set, and of the rest the ring master alone moves. -/
theorem splitStart_eq {k m : Nat} (hk : s.ring.probeE = some k) (hm : s.ring.probeW = some m) : ∃ r : RingSt, r.split = true ∧
    s.splitStart = State.reach { (((s.set F.RING_BREAK_EREACH (min k s.len)).set F.RING_BREAK_WREACH (min m s.len)).set
      F.RING_STAT_STATE 4) with ring := r } := by
  unfold State.splitStart
  rw [hk, hm]
  dsimp only
  generalize hs : State.set _ F.RING_STAT_STATE 4 = s3
  obtain ⟨l, hl⟩ := ringBroadcast_queues s3 9 [] 1
  rw [hl]
  subst hs
  exact ⟨_, rfl, rfl⟩

theorem get_ring_upd (s : State) (r : RingSt) (f : Fld) : ({ s with ring := r } : State).get f = s.get f := rfl

theorem splitStart_split {k m : Nat} (hk : s.ring.probeE = some k) (hm : s.ring.probeW = some m) (hl : s.len ≤ 40) :
    SplitShown (min k s.len) (min m s.len) s.splitStart := by
  obtain ⟨r, hr, he⟩ := splitStart_eq hk hm
  have hk64 : min k s.len % 2 ^ 6 = min k s.len := Nat.mod_eq_of_lt (by omega)
  have hm64 : min m s.len % 2 ^ 6 = min m s.len := Nat.mod_eq_of_lt (by omega)
  rw [he]
  constructor
  · rw [reach_ring]
    exact hr
  · rw [reach_get _ (by decide) (by decide), get_ring_upd]
    exact get_set_same _ _ _ (show 0 + 3 ≤ 32 by decide)
  · rw [reach_get _ (by decide) (by decide), get_ring_upd, get_set_clear _ _ _ _ (by decide), get_set_clear _ _ _ _ (by decide),
      get_set_same _ F.RING_BREAK_EREACH _ (show 0 + 6 ≤ 32 by decide)]
    exact hk64
  · rw [reach_get _ (by decide) (by decide), get_ring_upd, get_set_clear _ _ _ _ (by decide),
      get_set_same _ F.RING_BREAK_WREACH _ (show 8 + 6 ≤ 32 by decide)]
    exact hm64

theorem splitStart_known_or_same (s : State) :
    (∃ k m, s.ring.probeE = some k ∧ s.ring.probeW = some m) ∨ s.splitStart = s := by
  unfold State.splitStart
  cases s.ring.probeE with
  | none => exact .inr rfl
  | some k =>
    cases s.ring.probeW with
    | none => exact .inr rfl
    | some m => exact .inl ⟨k, m, rfl, rfl⟩

theorem BreakShown.splitStart (h : BreakShown s) : BreakShown s.splitStart := by
  obtain ⟨k, m, hk, hm⟩ | he := splitStart_known_or_same s
  · obtain ⟨r, -, he⟩ := splitStart_eq hk hm
    rw [he]
    refine h.upd ?_ (congrArg EvrSt.pend (reach_evr _))
    rw [reach_get _ (by decide) (by decide), get_ring_upd, get_set_clear _ _ _ _ (by decide), get_set_clear _ _ _ _ (by decide),
      get_set_clear _ _ _ _ (by decide)]
  · rw [he]
    exact h

theorem splitStart_parked (s : State) : s.splitStart.parked = s.parked := by
  obtain ⟨k, m, hk, hm⟩ | he := splitStart_known_or_same s
  · obtain ⟨r, -, he⟩ := splitStart_eq hk hm
    rw [he]
    unfold State.parked
    rw [(reach_stands _).mode]
    rfl
  · rw [he]

/-- In service a declared break is shown (R64, R66). -/
theorem declareBreak_shows (hp : s.parked = false) : BreakShown s.declareBreak := by
  have h1 : BreakShown (((s.setB F.RING_STAT_BROKEN true).raise 8 []).count F.RING_BREAK_BRKCNT F.RING_BREAK_SAT) := by
    refine ⟨?_, by rw [count_evr]; exact raise_mem _ _ _⟩
    unfold State.flag
    rw [get_count_other _ _ _ _ (by decide), ((Stands.refl (· == 0x20004) _).raise 8 [] rfl).get (by decide)]
    exact beq_iff_eq.2 (get_set_same s F.RING_STAT_BROKEN 1 (show 22 + 1 ≤ 32 by decide))
  have hq : (((s.setB F.RING_STAT_BROKEN true).raise 8 []).count F.RING_BREAK_BRKCNT F.RING_BREAK_SAT).parked = false := by
    unfold State.parked at hp ⊢
    rw [count_rst, raise_rst, setB_rst, hp]
  unfold State.declareBreak State.ringWake
  dsimp only
  rw [splitStart_parked, probeStart_parked, hq, if_neg (by simp)]
  exact h1.probeStart.splitStart

/-- The third missed return in a row declares the break (R64). -/
theorem missedReturn_third (hp : s.parked = false) (hm : s.ring.missed = 2) : BreakShown s.missedReturn := by
  unfold State.missedReturn
  simp only [hm]
  exact declareBreak_shows hp

theorem missedReturn_earlier (hm : s.ring.missed < 2) :
    s.missedReturn = { s with ring := { s.ring with missed := s.ring.missed + 1 } } := by
  unfold State.missedReturn
  dsimp only
  rw [if_neg (by omega), Nat.min_eq_right (by omega)]

/-- A heartbeat that is late is a missed return, and no longer under way. -/
theorem hbMissed_earlier (hm : s.ring.missed < 2) :
    s.hbMissed.ring = { s.ring with missed := s.ring.missed + 1, hbOut := s.ring.hbOut.drop 1 } :=
  congrArg State.ring (missedReturn_earlier (s := { s with ring := { s.ring with hbOut := s.ring.hbOut.drop 1 } }) hm)

theorem hbMissed_third (hp : s.parked = false) (hm : s.ring.missed = 2) : BreakShown s.hbMissed := missedReturn_third hp hm

end

/-! ## Heartbeats (R64) -/

section
variable {s : State} {rx : List Bool} {h : Nat × Nat}

theorem hbLimit_service (hp : s.parked = false) : s.hbLimit = 100 * usec := by
  unfold State.hbLimit
  rw [hp]
  rfl

/-- A heartbeat that returns as an intact ring returns it ends the run of missed returns. -/
theorem hbReturn_good (hp : s.parked = false) (hv : hbValid (s.hbRead false rx) = true)
    (hf : s.ring.hbOut.find? (fun x => x.1 == uAt (s.hbRead false rx) 1 1) = some h) (hn : uAt (s.hbRead false rx) 2 1 = s.served)
    (hl : (uAt (s.hbRead false rx) 3 1).testBit 1 = false) (ht : s.now ≤ h.2 + 100 * usec) :
    (s.hbReturn false rx).ring = { s.ring with hbOut := s.ring.hbOut.erase h, missed := 0 } := by
  unfold State.hbReturn
  simp only [hv, if_true, hf, hn, hl, hbLimit_service hp, ht, decide_true, beq_self_eq_true, Bool.not_false, Bool.and_self]

/-- A looped heartbeat is a missed return. -/
theorem hbReturn_looped {west : Bool} (hv : hbValid (s.hbRead west rx) = true)
    (hf : s.ring.hbOut.find? (fun x => x.1 == uAt (s.hbRead west rx) 1 1) = some h)
    (hl : (uAt (s.hbRead west rx) 3 1).testBit 1 = true) :
    s.hbReturn west rx = { s with ring := { s.ring with hbOut := s.ring.hbOut.erase h } }.missedReturn := by
  unfold State.hbReturn
  simp only [hv, if_true, hf, hl, Bool.not_true, Bool.and_false, Bool.false_and, Bool.false_eq_true, if_false]

/-- The third missed return is a looped heartbeat. -/
theorem hbReturn_looped_third {west : Bool} (hp : s.parked = false) (hm : s.ring.missed = 2) (hv : hbValid (s.hbRead west rx) = true)
    (hf : s.ring.hbOut.find? (fun x => x.1 == uAt (s.hbRead west rx) 1 1) = some h)
    (hl : (uAt (s.hbRead west rx) 3 1).testBit 1 = true) : BreakShown (s.hbReturn west rx) := by
  rw [hbReturn_looped hv hf hl]
  exact missedReturn_third hp hm

/-- A looped probe gives its port's reach; with the other one known, split operation begins. -/
theorem probeReturn_splits {m : Nat} (hv : hbValid (s.hbRead false rx) = true)
    (hf : s.ring.hbOut.find? (fun x => x.1 == uAt (s.hbRead false rx) 1 1) = some h)
    (hl : (uAt (s.hbRead false rx) 3 1).testBit 1 = true) (hw : s.ring.probeW = some m) (hn : s.len ≤ 40) :
    SplitShown (min (uAt (s.hbRead false rx) 2 1) s.len) (min m s.len) (s.probeReturn false rx) := by
  have ha : s.ring.hbOut.any (fun x => x.1 == uAt (s.hbRead false rx) 1 1) = true :=
    List.any_eq_true.2 ⟨h, List.mem_of_find?_eq_some hf, List.find?_some (p := fun x : Nat × Nat => x.1 == uAt (s.hbRead false rx) 1 1) hf⟩
  unfold State.probeReturn
  simp only [hv, ha, hl, Bool.and_self, if_true, Bool.false_eq_true, if_false]
  exact splitStart_split (s := { s with ring := { s.ring with probeE := some (uAt (s.hbRead false rx) 2 1) } }) rfl hw hn

end

end Sys2Proof.Machine.Laws

namespace Sys2Proof.Proofs

open Sys2Proof.Machine Sys2Proof.Machine.Laws Sys2Proof.Safety

/-- Settles O5: in service a heartbeat is judged by what it shows, the third missed return goes through the declaration of the break, and the
second reach known begins split operation. -/
theorem heartbeatsFindBreaks : Obligations.HeartbeatsFindBreaks := by
  unfold Obligations.HeartbeatsFindBreaks
  rintro s _ t k m west rx _ h rfl hs rfl
  have hp : (s.upto t).parked = false := parked_of_inService hs
  refine ⟨fun hscan hsplit hprobe => ?judged, ?probe, ?loss, ?restored⟩
  case judged =>
    have hg : ((s.upto t).scanning && !(s.upto t).ring.split && !(s.upto t).ring.probing) = true := by simp [hscan, hsplit, hprobe]
    refine ⟨?good, fun hv hf hb hm => ?third, fun hh ht hm => ?missed, fun hh ht hm => ?missedThird⟩
    case good =>
      rintro rfl hv hf hn hb ht
      refine answers_of_guard rfl hg rfl ?_
      rw [command_ring, hbReturn_good hp hv hf hn hb ht]
      exact ⟨rfl, rfl⟩
    case third =>
      refine answers_of_guard rfl hg rfl ?_
      rw [command_flag, command_evr_pend]
      exact hbReturn_looped_third hp hm hv hf hb
    case missed =>
      obtain ⟨l, hl⟩ := List.head?_eq_some_iff.1 hh
      refine answers_of_guard rfl (by simp [hg, hl, hbLimit_service hp, ht]) rfl ?_
      rw [command_ring, hbMissed_earlier hm]
      exact ⟨rfl, rfl⟩
    case missedThird =>
      obtain ⟨l, hl⟩ := List.head?_eq_some_iff.1 hh
      refine answers_of_guard rfl (by simp [hg, hl, hbLimit_service hp, ht]) rfl ?_
      rw [command_flag, command_evr_pend]
      exact hbMissed_third hp hm
  case probe =>
    rintro hprobe rfl hv hf hb rfl hw hl
    refine answers_of_guard rfl hprobe rfl ?_
    rw [command_ring, command_get, command_get, command_get]
    obtain ⟨hsp, hst, he, hwr⟩ := probeReturn_splits hv hf hb hw hl
    exact ⟨hsp, hst, he, hwr⟩
  case loss =>
    intro hon hprobe
    have hl : ((s.upto t).los west true).ring.probing = false := hprobe
    refine answers_of_guard rfl hon (if_neg (by rw [hl]; decide)) ?_
    rw [command_ring]
    cases west <;> rfl
  case restored =>
    intro hon
    refine answers_of_guard rfl hon rfl ?_
    rw [command_ring]
    cases west <;> rfl

end Sys2Proof.Proofs
end

section
/-! The records of the nodes: tiles, stale marks and what follows a record and the end of a scan; the end of the grace (O4). -/

namespace Sys2Proof.Machine.Laws

open Sys2Proof.Safety

/-- The ring master without its queued commands and its grace timer. -/
def ringCore (s : State) : RingSt := { s.ring with cmds := [], graceAt := none }

theorem ringCore_of_ring {a b : State} (h : b.ring = a.ring) : ringCore b = ringCore a := by unfold ringCore; rw [h]

theorem tiles_of_core {a b : State} (h : ringCore b = ringCore a) : b.ring.tiles = a.ring.tiles :=
  (congrArg RingSt.tiles h : (ringCore b).tiles = (ringCore a).tiles)

/-- What every step of a fold leaves, the fold leaves. -/
theorem foldl_leaves {α β : Type} (g : State → β) (f : State → α → State) (hf : ∀ s x, g (f s x) = g s) (l : List α) (s : State) :
    g (l.foldl f s) = g s := by
  induction l generalizing s with
  | nil => rfl
  | cons x t ih => rw [List.foldl_cons, ih, hf]

/-! ## What a latch and the end of a job leave of the ring master -/

section
variable (s : State)

@[simp] theorem qLost_ring (n : Nat) : (s.qLost n).ring = s.ring := count_ring _ _ _

@[simp] theorem sendEvent_ring (n num c ns st j : Nat) (d : List Byte) : (s.sendEvent n num c ns st j d).ring = s.ring := by
  have hr : (s.eventRoom n).ring = s.ring := by
    unfold State.eventRoom
    dsimp only
    split_ifs <;> simp
  unfold State.sendEvent State.queueEvent
  dsimp only
  split <;> exact hr

@[simp] theorem sendEvent_pend (n num c ns st j : Nat) (d : List Byte) :
    (s.sendEvent n num c ns st j d).evr.pend = s.evr.pend := by
  have hr : (s.eventRoom n).evr.pend = s.evr.pend := by
    unfold State.eventRoom State.qLost
    dsimp only
    split_ifs <;> simp
  unfold State.sendEvent State.queueEvent
  dsimp only
  split <;> exact hr

@[simp] theorem jobEnd_ring (id : Nat) (st : JobSt) (fin : Nat) (d : List Byte) : (s.jobEnd id st fin d).ring = s.ring := by
  unfold State.jobEnd
  dsimp only
  split
  · rfl
  · split_ifs <;> simp

@[simp] theorem jobEnd_pend (id : Nat) (st : JobSt) (fin : Nat) (d : List Byte) :
    (s.jobEnd id st fin d).evr.pend = s.evr.pend := by
  unfold State.jobEnd
  dsimp only
  split
  · rfl
  · split_ifs <;> simp

@[simp] theorem applyLater_ring : s.applyLater.ring = s.ring := by
  unfold State.applyLater State.restGrant
  refine foldl_leaves State.ring _ (fun a x => ?_) _ _
  split_ifs <;> rfl

@[simp] theorem lrnFail_ring (code : Nat) : (s.lrnFail code).ring = s.ring := by
  unfold State.lrnFail State.lrnOver
  split <;> simp

@[simp] theorem impEnd_core (st : JobSt) (fin : Nat) : ringCore (s.impEnd st fin) = ringCore s := by
  unfold State.impEnd
  dsimp only
  split
  · rfl
  · rw [ringCore_of_ring (jobEnd_ring _ _ _ _ _)]
    rfl

@[simp] theorem impEnd_pend (st : JobSt) (fin : Nat) : (s.impEnd st fin).evr.pend = s.evr.pend := by
  unfold State.impEnd
  dsimp only
  split <;> simp

@[simp] theorem endCurrentJobs_core : ringCore s.endCurrentJobs = ringCore s := by
  have hl : ringCore (s.lrnFail 0) = ringCore s := ringCore_of_ring (lrnFail_ring s 0)
  unfold State.endCurrentJobs
  dsimp only
  split
  · rw [impEnd_core, hl]
  · exact hl

@[simp] theorem loopStop_ring : s.loopStop.ring = s.ring := rfl

@[simp] theorem coilOff_ring (k : Nat) : (s.coilOff k).ring = s.ring := by
  unfold State.coilOff
  split <;> rfl

@[simp] theorem coilsOff_ring : s.coilsOff.ring = s.ring := by simp [State.coilsOff]

@[simp] theorem setConn_ring (n : Nat) : (s.setConn n).ring = s.ring := by
  unfold State.setConn
  dsimp only
  split <;> simp

@[simp] theorem seqJob_ring (q : Seq) (ok : Bool) : (s.seqJob q ok).ring = s.ring := by
  unfold State.seqJob
  dsimp only
  split <;> simp

@[simp] theorem closeFail_ring (q : Seq) : (s.closeFail q).ring = s.ring := by simp [State.closeFail]

@[simp] theorem endClose_ring : s.endClose.ring = s.ring := by
  unfold State.endClose
  split
  · split <;> simp
  · rfl

@[simp] theorem coilsTrip_core : ringCore s.coilsTrip = ringCore s := by
  unfold State.coilsTrip State.seqPut
  dsimp only
  split
  · split
    · exact ringCore_of_ring (closeFail_ring s _)
    · refine ringCore_of_ring ?_
      split <;> exact coilsOff_ring s
  · split
    · rfl
    · rw [endCurrentJobs_core]
      exact ringCore_of_ring ((setConn_ring _ 0).trans (coilsOff_ring s))

@[simp] theorem latch_core (n : Nat) : ringCore (s.latch n) = ringCore s := by
  unfold State.latch
  dsimp only
  split
  · rfl
  · rw [endCurrentJobs_core]
    refine ringCore_of_ring ?_
    rw [endClose_ring, loopStop_ring, raise_ring, count_ring]
    split <;> rfl

theorem reach_core : ringCore s.reach = ringCore s := by
  unfold ringCore
  rw [reach_ring]

end

/-! ## What the rest of a scan leaves of the records -/

/-- Every register but the stale marks. -/
def notStale (y : Nat) : Bool := y != 0x30010 && y != 0x30014

theorem notStale_of {U : Nat → Bool} (h0 : U 0x30010 = false) (h1 : U 0x30014 = false) (y : Nat) (h : U y = true) : notStale y = true := by
  unfold notStale
  rw [Bool.and_eq_true, bne_iff_ne, bne_iff_ne]
  exact ⟨fun e => by simp [e, h0] at h, fun e => by simp [e, h1] at h⟩

theorem notStale_above {y : Nat} (h : 0x30014 < y) : notStale y = true := by
  unfold notStale
  rw [Bool.and_eq_true, bne_iff_ne, bne_iff_ne]
  omega

/-- `b` keeps the tiles, the stale marks and the rest of the ring master of `a`, but for queued commands and the grace timer. -/
structure KeepsRecords (a b : State) : Prop extends Stands notStale a b where
  core : ringCore b = ringCore a

namespace KeepsRecords

section
variable {a b c : State}

theorem refl (a : State) : KeepsRecords a a := ⟨.refl _ a, rfl⟩

theorem trans (h : KeepsRecords a b) (k : KeepsRecords b c) : KeepsRecords a c := ⟨h.toStands.trans k.toStands, k.core.trans h.core⟩

/-- An update of other parts of the state, queued commands and the grace timer among them. -/
theorem upd (h : KeepsRecords a b) (hs : Stands notStale b c := by exact (Stands.refl _ _).upd) (hc : ringCore c = ringCore b := by rfl) :
    KeepsRecords a c := h.trans ⟨hs, hc⟩

theorem set (h : KeepsRecords a b) (f : Fld) (x : Nat) (hf : notStale f.addr = true) : KeepsRecords a (b.set f x) :=
  h.upd ((Stands.refl _ b).set f x hf)

theorem setB (h : KeepsRecords a b) (f : Fld) (x : Bool) (hf : notStale f.addr = true) : KeepsRecords a (b.setB f x) := h.set f _ hf

theorem setI (h : KeepsRecords a b) (f : Fld) (x : Int) (hf : notStale f.addr = true) : KeepsRecords a (b.setI f x) := h.set f _ hf

theorem putWord (h : KeepsRecords a b) (x : Nat) (v : Word) (hx : notStale x = true) : KeepsRecords a (b.putWord x v) :=
  h.upd ⟨rfl, rfl, rfl, rfl, rfl, rfl, fun y hy => word_putWord_other b x y v fun e => by rw [e, hy] at hx; exact absurd hx (by decide)⟩

theorem count (h : KeepsRecords a b) (f g : Fld) (hf : notStale f.addr = true) (hg : notStale g.addr = true) :
    KeepsRecords a (b.count f g) := h.upd ((Stands.refl _ b).count f g hf hg) (ringCore_of_ring (count_ring b f g))

theorem raise (h : KeepsRecords a b) (n : Nat) (d : List Byte) : KeepsRecords a (b.raise n d) :=
  h.upd ((Stands.refl _ b).raise n d rfl) (ringCore_of_ring (raise_ring b n d))

theorem setRaise (h : KeepsRecords a b) (f : Fld) (n : Nat) (d : List Byte) (hf : notStale f.addr = true) :
    KeepsRecords a (b.setRaise f n d) := by
  unfold State.setRaise
  split
  · exact h
  · exact (h.setB f true hf).raise n d

theorem ite {p : Prop} [Decidable p] {x y : State} (hx : KeepsRecords a x) (hy : KeepsRecords a y) : KeepsRecords a (if p then x else y) := by
  split
  · exact hx
  · exact hy

theorem foldl {α : Type} {f : State → α → State} (hf : ∀ s x, KeepsRecords a s → KeepsRecords a (f s x)) (l : List α) :
    ∀ s, KeepsRecords a s → KeepsRecords a (l.foldl f s) := by
  induction l with
  | nil => exact fun _ h => h
  | cons x t ih => exact fun s h => ih _ (hf s x h)

end

section
variable {a b : State} (h : KeepsRecords a b)
include h

theorem entry {i : Nat} (hi : i < 10) (dis chg : Int) : KeepsRecords a (b.entry i dis chg) :=
  h.upd ((Stands.refl _ b).entry (notStale_of rfl rfl) hi dis chg) (ringCore_of_ring (entry_ring b i dis chg))

theorem integrity : KeepsRecords a b.integrity :=
  h.upd ((Stands.refl _ b).integrity (notStale_of rfl rfl)) (ringCore_of_ring (integrity_ring b))

theorem reach : KeepsRecords a b.reach := h.upd ((reach_stands b).mono (notStale_of rfl rfl)) (reach_core b)

theorem latchTrip (n : Nat) : KeepsRecords a (b.latch n).coilsTrip :=
  h.upd (((Stands.refl _ b).latch (notStale_of rfl rfl) n).coilsTrip (notStale_of rfl rfl)) (by rw [coilsTrip_core, latch_core])

/-- The cell limits (R189, R190). -/
theorem cellLimits (p : Nat) (cs : List Chk) : KeepsRecords a (b.cellLimits p cs) := by
  unfold State.cellLimits
  extract_lets past under hard _ s1 s2 s3
  have h1 : KeepsRecords a s1 := h.upd
  have h2 : KeepsRecords a s2 := .ite ((h1.setRaise F.PRT_LIMIT_BLK_CHG 49 [] rfl).setB F.PRT_LIMIT_BLKCHG_SEEN true rfl) h1
  have h3 : KeepsRecords a s3 := .ite ((h2.setRaise F.PRT_LIMIT_BLK_DIS 49 [] rfl).setB F.PRT_LIMIT_BLKDIS_SEEN true rfl) h2
  exact .ite (h3.latchTrip 3) h3

/-! ### A record (R79, R91) -/

theorem setSegMis (p : Nat) (x : Bool) : KeepsRecords a (b.setSegMis p x) :=
  ((h.putWord _ _ (notStale_above (by omega))).setB F.ACQ_STAT_SEGMIS _ rfl).integrity

theorem segCheck (p : Nat) (r : List Byte) : KeepsRecords a (b.segCheck p r) := by
  have h1 : ∀ x, KeepsRecords a { b with acq := x } := fun x => h.upd
  unfold State.segCheck
  dsimp only
  exact .ite ((((h1 _).setSegMis p true).setB F.ACQ_STAT_SEGMIS_SEEN true rfl).raise 16 _) (.ite ((h1 _).setSegMis p false) (h1 _))

theorem owRecord (p : Nat) (r : List Byte) : KeepsRecords a (b.owRecord p r) := by
  unfold State.owRecord
  dsimp only
  refine .ite h (.ite h.upd ?_)
  split
  · exact h.upd
  · exact h.upd

theorem recRecord (p : Nat) (r : List Byte) : KeepsRecords a (b.recRecord p r) := h.upd

/-! ### The end of a scan (R39, R68, R80, R189, R194, R209 to R211) -/

theorem ringCmd (pos cmd : Nat) (p : List Byte) (r use : Nat) (high : Bool) : KeepsRecords a (b.ringCmd pos cmd p r use high) := h.upd

theorem safeExit (fresh : List (Nat × List Byte)) : KeepsRecords a (b.safeExit fresh) :=
  foldl (fun _ _ hs => hs.ringCmd ..) _ _ h

theorem blockScan (x : Bool) : KeepsRecords a (b.blockScan x) := by
  unfold State.blockScan
  extract_lets c d _ s1 s2
  have h1 : KeepsRecords a s1 := h.upd
  have h2 : KeepsRecords a s2 := .ite (h1.setB F.PRT_LIMIT_BLK_CHG false rfl) h1
  exact .ite (h2.setB F.PRT_LIMIT_BLK_DIS false rfl) h2

theorem headroom (cs : List Chk) : KeepsRecords a (b.headroom cs) := by
  unfold State.headroom
  dsimp only
  split
  · exact h.entry (by decide) _ _
  · exact h

theorem stringCheck : KeepsRecords a b.stringCheck := by
  have h1 : ∀ x, KeepsRecords a { b with acq := x } := fun x => h.upd
  unfold State.stringCheck
  dsimp only
  exact .ite h (.ite ((((h1 _).setB F.ACQ_STAT_STRMIS true rfl).setB F.ACQ_STAT_STRMIS_SEEN true rfl).raise 17 _)
    (.ite ((h1 _).setB F.ACQ_STAT_STRMIS false rfl) (h1 _)))

theorem resend : KeepsRecords a b.resend := foldl (fun _ _ hs => hs.upd) _ _ h.upd

theorem impScan : KeepsRecords a b.impScan := by
  unfold State.impScan
  split
  · exact h
  · refine .ite (.ite ?_ h) (.ite h.upd h)
    exact (foldl (fun _ _ hs => hs.ringCmd ..) _ _ h).upd

/-! ### Temperatures (R209 to R213) -/

theorem canDrop : KeepsRecords a b.canDrop := (h.count _ _ rfl rfl).setB _ _ rfl

theorem canEvict (q : Nat) : KeepsRecords a (b.canEvict q) := by
  unfold State.canEvict
  exact .ite h (canDrop h.upd)

theorem canPut (q : Nat) (f : CanFrame) : KeepsRecords a (b.canPut q f) := by
  have h1 : KeepsRecords a (if (nth [] b.can.txq q).length < 8 then b else (b.canEvict q).qLost (34 + q)) :=
    .ite h ((h.canEvict q).count _ _ (notStale_above (show 0x30014 < 0x100100 + 4 * (34 + q) by omega))
      (notStale_above (show 0x30014 < 0x100100 + 4 * (34 + q) by omega)))
  unfold State.canPut
  exact .ite h.canDrop h1.upd

theorem chillerReq : KeepsRecords a b.chillerReq := by
  have h1 : ∀ x, KeepsRecords a { b with thm := x } := fun x => h.upd
  unfold State.chillerReq
  dsimp only
  exact .ite (h1 _) (.ite ((((h1 _).set F.THM_CHIL_REQ _ rfl).canPut ..).upd) ((h1 _).set F.THM_CHIL_REQ _ rfl))

theorem unwell (p t : Nat) : KeepsRecords a (b.unwell p t) := by
  unfold State.unwell
  split
  · exact h
  · exact h.upd

theorem markBroken (p t : Nat) : KeepsRecords a (b.markBroken p t) :=
  ((h.set _ _ (notStale_above (show 0x30014 < 0x90100 + 4 * (p - 1) by omega))).set _ _
    (notStale_above (show 0x30014 < 0x90100 + 4 * (p - 1) by omega))).setB _ _ rfl

theorem thmScan : KeepsRecords a b.thmScan := by
  have h1 : ∀ l : List (Nat × Nat), KeepsRecords a (l.foldl
      (fun (a : State) c => let b := a.unwell c.1 c.2; if b.brk c.1 c.2 then b else b.markBroken c.1 c.2) b) := fun l =>
    foldl (fun _ c hs => .ite (hs.unwell c.1 c.2) ((hs.unwell c.1 c.2).markBroken c.1 c.2)) l b h
  have h3 : ∀ {c : State} (x : ThmSt) (i j : Int), KeepsRecords a c →
      KeepsRecords a (((({ c with thm := x } : State).setB F.THM_STAT_NOCELLT false).setI F.THM_CEXT_TMAX i).setI F.THM_CEXT_TMIN j) :=
    fun x i j hc => (((hc.upd).setB _ _ rfl).setI _ _ rfl).setI _ _ rfl
  have h4 : ∀ {c : State} (x : ThmSt) (m n : Nat), KeepsRecords a c →
      KeepsRecords a ((({ c with thm := x } : State).set F.THM_STAT_CSTEP_DIS m).set F.THM_STAT_CSTEP_CHG n) :=
    fun x m n hc => ((hc.upd).set _ _ rfl).set _ _ rfl
  unfold State.thmScan
  exact .ite (((h1 _).setB _ _ rfl).entry (by decide) _ _) (((h4 _ _ _ (h3 _ _ _ (h1 _))).entry (by decide) _ _).chillerReq)

end

end KeepsRecords

/-! ## Stale marks (Table 2.16) -/

/-- A bit that is set reads 1, and the others stay. -/
theorem setBit_true_testBit (v i j : Nat) : (setBit v i true).testBit j = (decide (i = j) || v.testBit j) := by
  rw [setBit, if_pos rfl, Nat.testBit_or, Nat.one_shiftLeft, Nat.testBit_two_pow, Bool.or_comm]

section
variable (s : State) (p q : Nat)

theorem stale_congr {s s' : State} (h : s.regs = s'.regs) (p : Nat) : s.stale p = s'.stale p := by
  unfold State.stale
  rw [word_congr h]

theorem command_stale (t : Nat) (f : State → State) : (s.command t f).stale p = (f (s.upto t)).stale p := stale_congr (command_regs s t f) p

theorem getI_congr {s s' : State} (h : s.regs = s'.regs) (f : Fld) : s.getI f = s'.getI f := by
  unfold State.getI
  rw [get_congr h]

theorem stale_setStale_same : (s.setStale p true).stale p = true := by
  unfold State.setStale State.stale
  rw [word_putWord_same, BitVec.toNat_ofNat, Nat.testBit_mod_two_pow, setBit_true_testBit,
    decide_eq_true (Nat.mod_lt _ (by decide)), decide_eq_true rfl, Bool.true_or, Bool.true_and]

theorem stale_setStale_other (hp : 1 ≤ p) (hq : 1 ≤ q) (h : q ≠ p) : (s.setStale q true).stale p = s.stale p := by
  unfold State.setStale State.stale
  by_cases ha : (q - 1) / 32 = (p - 1) / 32
  · rw [ha, word_putWord_same, BitVec.toNat_ofNat, Nat.testBit_mod_two_pow, setBit_true_testBit,
      decide_eq_true (Nat.mod_lt _ (by decide)), decide_eq_false (by omega), Bool.false_or, Bool.true_and]
  · rw [word_putWord_other _ _ _ _ (by omega)]

end

/-- The marks of the 40 positions stand where the rest of a scan leaves them. -/
theorem KeepsRecords.stale {a b : State} (h : KeepsRecords a b) {p : Nat} (hp : p ≤ 40) : b.stale p = a.stale p := by
  unfold State.stale
  have hw : notStale (0x30010 + 4 * ((p - 1) / 32)) = false := by
    obtain e | e : (p - 1) / 32 = 0 ∨ (p - 1) / 32 = 1 := by omega
    all_goals rw [e]; rfl
  rw [h.word _ hw]

/-! ## Records (R55, R56) -/

section
variable {s : State} {west : Bool} {p slot : Nat} {rx : List Bool}

/-- An accepted record becomes its position's tile. -/
theorem takeRecord_tile (hs : s.parked = false) (raw : List Byte) :
    assoc? p (s.takeRecord p raw).ring.tiles = some { bytes := raw, scans := 0, ever := true, fresh := true } := by
  unfold State.takeRecord
  extract_lets rec_ _ s1 cs bad s2
  have h2 : KeepsRecords s1 s2 := (KeepsRecords.refl s1).cellLimits p cs
  rw [if_neg (by simp [hs]), tiles_of_core (((h2.segCheck p raw).owRecord p raw).recRecord p raw).core]
  exact assoc_put_same ..

/-- What becomes of a record of a position that is not excluded, by its checks and its marks. -/
theorem nodeRecord_eq {raw : List Byte} (hr : raw = (recordRead (s.rxLine west rx)).getD []) (hp : s.slotPos west slot = some p)
    (hx : s.ring.excluded.contains p = false) : s.nodeRecord west slot rx =
      if recordSound s slot raw = false then (s.count F.RING_ERRCNT_CRCERR F.RING_ERRCNT_SAT).setStale p true
      else if ((uAt raw 2 2).testBit 9 || (uAt raw 2 2).testBit 7) = true then s.setStale p true else s.takeRecord p raw := by
  subst hr
  unfold State.nodeRecord recordSound
  simp only [hp, hx, Bool.false_eq_true, if_false, Bool.not_eq_true']

/-- A record that fails a check counts in CRCERR. -/
theorem discarded_counts (hp : p ≤ 40) (hn : s.get F.RING_ERRCNT_CRCERR < 65535) :
    ((s.count F.RING_ERRCNT_CRCERR F.RING_ERRCNT_SAT).setStale p true).get F.RING_ERRCNT_CRCERR = s.get F.RING_ERRCNT_CRCERR + 1 := by
  rw [← get_count_below s F.RING_ERRCNT_CRCERR F.RING_ERRCNT_SAT (show 0 + 16 ≤ 32 by decide)
    (show s.get F.RING_ERRCNT_CRCERR + 1 < 2 ^ 16 by omega)]
  unfold State.get State.setStale
  rw [word_putWord_other _ _ _ _ (show 0x30010 + 4 * ((p - 1) / 32) ≠ 0x30018 by omega)]

end

/-! ## Positions without a record (R39) -/

/-- A position without a fresh record at the end of a scan: its tile grows older and it goes stale. -/
def markOne (a : State) (p : Nat) : State :=
  let old := (assoc? p a.ring.tiles).getD { bytes := [], scans := 0, ever := false, fresh := false }
  if old.fresh then a
  else
    let a1 := { a with
      ring := { a.ring with tiles := assocPut p { old with scans := min 255 (old.scans + 1) } a.ring.tiles },
      acq := { a.acq with owNodes := a.acq.owNodes.filter (· != p) } }
    a1.setStale p true

theorem markMissing_eq (s : State) : s.markMissing = s.positions.foldl markOne s := rfl

/-- A position that has delivered nothing since the last start-up: its tile, where it has one, says so. -/
def Silent (p : Nat) (s : State) : Prop := ∀ r, assoc? p s.ring.tiles = some r → r.ever = false ∧ r.fresh = false

/-- A position that is marked stale, with a tile that has delivered nothing. -/
structure MarkedSilent (p : Nat) (s : State) : Prop where
  stale : s.stale p = true
  tile : ∃ r, assoc? p s.ring.tiles = some r ∧ r.ever = false ∧ r.fresh = false

section
variable {s : State} {p q : Nat}

theorem MarkedSilent.silent (h : MarkedSilent p s) : Silent p s := by
  obtain ⟨-, r, hr, he, hf⟩ := h
  intro x hx
  obtain rfl : r = x := Option.some.inj (hr.symm.trans hx)
  exact ⟨he, hf⟩

theorem markOne_silent (h : Silent p s) : MarkedSilent p (markOne s p) := by
  have ho : ((assoc? p s.ring.tiles).getD { bytes := [], scans := 0, ever := false, fresh := false }).fresh = false ∧
      ((assoc? p s.ring.tiles).getD { bytes := [], scans := 0, ever := false, fresh := false }).ever = false := by
    cases hr : assoc? p s.ring.tiles with
    | none => exact ⟨rfl, rfl⟩
    | some r => exact (h r hr).symm
  obtain ⟨hf, he⟩ := ho
  unfold markOne
  rw [if_neg (by rw [hf]; decide)]
  exact ⟨stale_setStale_same _ p, _, assoc_put_same .., he, hf⟩

theorem markOne_other (hp : 1 ≤ p) (hq : 1 ≤ q) (h : q ≠ p) (hm : MarkedSilent p s) : MarkedSilent p (markOne s q) := by
  obtain ⟨hs, r, hr, he, hf⟩ := hm
  unfold markOne
  extract_lets old _ _ a1
  split
  · exact ⟨hs, r, hr, he, hf⟩
  · exact ⟨(stale_setStale_other a1 p q hp hq h).trans hs, r, (assoc_put_other _ _ _ _ h).trans hr, he, hf⟩

theorem markOne_silent_other (h : q ≠ p) (hm : Silent p s) : Silent p (markOne s q) := by
  unfold markOne
  extract_lets old _ _ a1
  split
  · exact hm
  · exact fun r hr => hm r ((assoc_put_other q p _ s.ring.tiles h).symm.trans hr)

/-- Every position of a list that has delivered nothing is marked, whatever comes after it. -/
theorem foldl_markOne (hp : 1 ≤ p) (l : List Nat) (hl : ∀ q ∈ l, 1 ≤ q) :
    ∀ s, (Silent p s ∧ p ∈ l) ∨ MarkedSilent p s → MarkedSilent p (l.foldl markOne s) := by
  induction l with
  | nil => exact fun s h => h.resolve_left fun e => by simp at e
  | cons q t ih =>
    intro s h
    have hq := hl q (List.mem_cons_self ..)
    refine ih (fun x hx => hl x (List.mem_cons_of_mem _ hx)) _ ?_
    by_cases e : q = p
    · subst e
      exact .inr (markOne_silent (h.elim And.left MarkedSilent.silent))
    · refine h.imp (fun ⟨hs, hm⟩ => ⟨markOne_silent_other e hs, ?_⟩) (markOne_other hp hq e)
      exact (List.mem_cons.1 hm).resolve_left (Ne.symm e)

theorem markMissing_marks (hp : 1 ≤ p) (hn : p ≤ s.len) (h : assoc? p s.ring.tiles = none) : MarkedSilent p s.markMissing := by
  rw [markMissing_eq]
  refine foldl_markOne hp _ (fun q hq => ?_) s (.inl ⟨fun r hr => by rw [h] at hr; exact absurd hr (by simp), ?_⟩)
  · obtain ⟨i, -, rfl⟩ := List.mem_map.1 hq
    omega
  · exact List.mem_map.2 ⟨p - 1, List.mem_range.2 (by omega), by omega⟩

end

/-! ## The end of a scan and of the grace -/

section
variable {s : State}

theorem markMissing_parked (s : State) : s.markMissing.parked = s.parked := by
  rw [markMissing_eq]
  refine foldl_leaves State.parked markOne (fun a p => ?_) _ s
  unfold markOne
  extract_lets
  split <;> rfl

/-- In service what follows the marks of a scan leaves them. -/
theorem scanEnd_keeps (hp : s.parked = false) : ∃ b, b.ring = { s.markMissing.reach.ring with ended := true } ∧
    b.regs = s.markMissing.reach.regs ∧ KeepsRecords b s.scanEnd := by
  unfold State.scanEnd
  extract_lets _ s0 _ s1 fresh cs d s2 s2' s3 s4 waits _
  refine ⟨s1, rfl, rfl, ?_⟩
  clear_value d
  have h2 : KeepsRecords s1 s2 := by
    unfold s2
    cases d with
    | none => exact .refl s1
    | some c => simpa only [hp, Bool.false_eq_true, if_false] using (KeepsRecords.refl s1).cellLimits 0 [c]
  have h3 : KeepsRecords s1 s3 := (h2.safeExit fresh).blockScan _
  have hq : s3.parked = false := by
    unfold State.parked
    rw [h3.mode]
    unfold s1 s0
    rw [(reach_stands _).mode]
    exact (markMissing_parked s).trans hp
  rw [if_neg (by simp [hq])]
  have h4 : KeepsRecords s1 s4 := ((((h3.headroom cs).stringCheck.integrity).thmScan).resend).impScan
  clear_value s4
  exact .ite h4.upd h4

/-- A position that has delivered nothing is stale after the scan, and its tile says so. -/
theorem scanEnd_marks {p : Nat} (hs : s.parked = false) (hp : 1 ≤ p) (hn : p ≤ 40) (hl : p ≤ s.len) (h : assoc? p s.ring.tiles = none) :
    s.scanEnd.stale p = true ∧ ∃ r, assoc? p s.scanEnd.ring.tiles = some r ∧ r.ever = false := by
  obtain ⟨hst, r, hr, he, -⟩ := markMissing_marks hp hl h
  obtain ⟨b, hb, hregs, hk⟩ := scanEnd_keeps hs
  have hm := (KeepsRecords.refl s.markMissing).reach
  refine ⟨?_, r, ?_, he⟩
  · rw [hk.stale hn, stale_congr hregs, hm.stale hn, hst]
  · rw [tiles_of_core hk.core, hb]
    exact (congrArg (assoc? p) (tiles_of_core hm.core)).trans hr

/-- While the grace has expired, entry 5 demands zero current (Table 8.3). -/
theorem integrity_demands (h : s.flag F.RING_STAT_GRACE_EXP = true) (hd : s.lan.supDown = false) :
    s.integrity.flag F.RING_STAT_GRACE_EXP = true ∧ s.integrity.getI (F.PRT_ENT_DIS.ix8 5) = 0 ∧ s.integrity.getI (F.PRT_ENT_CHG.ix8 5) = 0 := by
  refine ⟨(((Stands.refl entReg s).integrity fun _ h => h).flag (by decide)).trans h, ?_⟩
  have he : s.integrity.regs = ((s.setI (F.PRT_ENT_DIS.ix8 5) 0).setI (F.PRT_ENT_CHG.ix8 5) 0).regs := by
    unfold State.integrity State.entry State.entryPut
    simp [h, hd]
  refine ⟨(getI_congr he _).trans ?_, (getI_congr he _).trans ?_⟩
  · refine Eq.trans ?_ (getI_setI_ofCode s (F.PRT_ENT_DIS.ix8 5) 0 (show 0 + 32 ≤ 32 by decide) (by decide))
    exact congrArg (ofCode 32) (get_set_clear _ _ _ _ (by decide))
  · exact getI_setI_ofCode (s.setI (F.PRT_ENT_DIS.ix8 5) 0) (F.PRT_ENT_CHG.ix8 5) 0 (show 0 + 32 ≤ 32 by decide) (by decide)

/-- The end of the grace shows, and entry 5 demands zero current (R67). -/
theorem graceExpired_demands (hd : s.lan.supDown = false) :
    s.graceExpired.flag F.RING_STAT_GRACE_EXP = true ∧ 9 ∈ s.graceExpired.evr.pend ∧
      s.graceExpired.getI (F.PRT_ENT_DIS.ix8 5) = 0 ∧ s.graceExpired.getI (F.PRT_ENT_CHG.ix8 5) = 0 := by
  have hg : ((s.setB F.RING_STAT_GRACE_EXP true).raise 9 []).flag F.RING_STAT_GRACE_EXP = true := by
    rw [((Stands.refl (· == 0x20004) _).raise 9 [] rfl).flag (by decide)]
    exact beq_iff_eq.2 (get_set_same s F.RING_STAT_GRACE_EXP 1 (show 23 + 1 ≤ 32 by decide))
  obtain ⟨hf, hdis, hchg⟩ := integrity_demands hg (by rw [raise_lan]; exact hd)
  unfold State.graceExpired
  extract_lets s1
  have hm : 9 ∈ s1.evr.pend := by
    unfold s1
    rw [integrity_evr]
    exact raise_mem _ 9 []
  have hj : Stands jobReg s1 (if s1.sweeping then s1.impEnd .failed stRefused else s1) :=
    .ite (fun _ => (Stands.refl _ s1).impEnd (fun _ h => h) _ _) fun _ => .refl _ s1
  refine ⟨(hj.flag (by decide)).trans hf, ?_, ?_, ?_⟩
  · split
    · rw [impEnd_pend]
      exact hm
    · exact hm
  · unfold State.getI at hdis ⊢
    rw [hj.get (by decide)]
    exact hdis
  · unfold State.getI at hchg ⊢
    rw [hj.get (by decide)]
    exact hchg

end

end Sys2Proof.Machine.Laws

namespace Sys2Proof.Proofs

open Sys2Proof.Machine Sys2Proof.Machine.Laws Sys2Proof.Safety

/-- Settles O4: a record goes one of three ways by its checks and its marks; what follows a record or the marks of a scan leaves tiles and
marks; the end of the grace is written before the sweep ends. -/
theorem nodeRecordsUpdateTilesAndStaleMarks : Obligations.NodeRecordsUpdateTilesAndStaleMarks := by
  unfold Obligations.NodeRecordsUpdateTilesAndStaleMarks
  rintro s _ t p slot west rx raw rfl hscan hs hraw
  have hpark : (s.upto t).parked = false := parked_of_inService hs
  refine ⟨fun hslot hx => ⟨fun hr h9 h7 => ?accepted, fun hp hn hr hm => ?marked, fun hp hn hr hc => ?discarded⟩,
    fun hp hn hl ht => ?missing, fun g hg he hd hsup => ?grace⟩
  case accepted =>
    refine answers_of_guard rfl hscan (nodeRecord_eq hraw hslot hx) ?_
    rw [command_ring, if_neg (by simp [hr]), if_neg (by simp [h9, h7])]
    exact takeRecord_tile hpark raw
  case marked =>
    refine answers_of_guard rfl hscan (nodeRecord_eq hraw hslot hx) ?_
    rw [command_ring, command_stale, if_neg (by simp [hr]), if_pos hm]
    exact ⟨rfl, stale_setStale_same _ p⟩
  case discarded =>
    refine answers_of_guard rfl hscan (nodeRecord_eq hraw hslot hx) ?_
    rw [command_ring, command_stale, command_get, if_pos hr]
    exact ⟨congrArg RingSt.tiles (count_ring ..), stale_setStale_same _ p, discarded_counts hn hc⟩
  case missing =>
    refine answers_of_guard rfl hscan rfl ?_
    rw [command_ring, command_stale]
    exact scanEnd_marks hpark hp hn hl ht
  case grace =>
    refine answers_of_guard rfl (by simp [hscan, he, hg, hd]) rfl ?_
    rw [command_flag, command_evr_pend, command_getI, command_getI]
    exact graceExpired_demands hsup

end Sys2Proof.Proofs
end

section
/-! Ring commands: how one leaves, and what follows its return or its third failure (O6). -/

namespace Sys2Proof.Machine.Laws

open Sys2Proof.Safety

/-! ## A command leaves (R60, R61) -/

section
variable {s : State} {c : RingCmd}

/-- The command served next leaves where it fits before the strobe. -/
theorem cmdSend_sends (hn : s.nextCmd = some c) (hf : s.fits (s.cmdBytes c).length = true) :
    s.cmdSend.ring.inflight = some { c with tries := c.tries + 1 } ∧ s.cmdSend.ring.cseq = (s.ring.cseq + 1) % 256 ∧
      s.cmdSend.ring.cmds = s.ring.cmds.erase c ∧
      s.cmdSend.out = .ring c.west (4 * s.ringNs) (polarity (s.portInv c.west) (frameLine (s.cmdBytes c))) :: s.out := by
  unfold State.cmdSend
  rw [hn]
  simp only [hf, Bool.not_true, Bool.false_eq_true, if_false]
  exact ⟨rfl, rfl, rfl, rfl⟩

end

/-! ## The frame is over (R51) -/

/-- The frame of a command is over: its reply waits in Q28 … Q31, none where it went unanswered. -/
def frameOver (s : State) (c : RingCmd) (b : Option (List Byte)) : State :=
  { s with ring := { s.ring with inflight := none, replies := [(c, b)] } }

section
variable {s : State} {c : RingCmd}

/-- The end of step 5 of start-up moves its mark and the first strobe alone. -/
theorem step5End_eq (s : State) : ∃ x y, s.step5End = { s with ring := { s.ring with step5 := x, firstS := y } } := by
  unfold State.step5End
  split
  · exact ⟨_, _, rfl⟩
  · exact ⟨_, _, rfl⟩

theorem step5End_lan (s : State) : s.step5End.lan = s.lan := by
  obtain ⟨x, y, h⟩ := step5End_eq s
  rw [h]

/-- A frame that does not return is sent again up to twice. -/
theorem cmdReturn_again (hi : s.ring.inflight = some c) (ht : c.tries < 3) :
    (s.cmdReturn none).ring = { s.ring with inflight := none, cmds := c :: s.ring.cmds } := by
  unfold State.cmdReturn
  simp [hi, ht, uAt]

/-- After the third failure the command goes unanswered. -/
theorem cmdReturn_unanswered (hi : s.ring.inflight = some c) (ht : 3 ≤ c.tries) (hr : s.ring.replies = []) (hd : s.lan.supDown = false) :
    s.cmdReturn none = (frameOver s c none).step5End.takeReplies := by
  have hl : (frameOver s c none).step5End.lan.supDown = false := (congrArg LanSt.supDown (step5End_lan _)).trans hd
  unfold State.cmdReturn
  rw [hi]
  unfold frameOver at hl ⊢
  simp [hr, ht, hl, uAt]

/-- A sound frame that returns executed, or as a broadcast, is taken. -/
theorem cmdReturn_executed {rx : List Bool} {b : List Byte} (hi : s.ring.inflight = some c) (hq : c.queue < 4) (hr : s.ring.replies = [])
    (hd : s.lan.supDown = false) (hb : frameRead (s.rxLine (s.backPort c.west) rx) = some b) (hn : 12 ≤ b.length)
    (h8 : uAt b 7 1 = crc8 (b.take 7)) (h32 : uAt b (b.length - 4) 4 = crc32c (b.take (b.length - 4)))
    (hx : (uAt b 3 1).testBit 1 = true ∨ c.pos = 0) :
    s.cmdReturn (some rx) = (frameOver s c (some b)).step5End.takeReplies := by
  have hl : (frameOver s c (some b)).step5End.lan.supDown = false := (congrArg LanSt.supDown (step5End_lan _)).trans hd
  have hf : s.fill (28 + c.queue) = 0 := by
    unfold State.fill
    dsimp only
    rw [if_neg (by omega), if_neg (by omega), if_neg (by omega), if_neg (by omega), if_pos (by omega), hr]
    rfl
  have hx' : (c.pos == 0 || (uAt b 3 1).testBit 1) = true := by
    rw [Bool.or_eq_true, beq_iff_eq]
    exact hx.symm
  unfold State.cmdReturn
  rw [hi]
  unfold frameOver at hl ⊢
  simp [hr, hl, hb, hn, h8, h32, hx', hf]

/-- A reply that waits alone is taken: the command is done with its result code, none where it went unanswered. -/
theorem frameOver_taken (b : Option (List Byte)) : ∃ r : RingSt, r.inflight = none ∧ r.cmds = s.ring.cmds ∧ ∃ code : Option Nat,
    (b = none → code = none) ∧ (frameOver s c b).step5End.takeReplies = State.cmdDone { s with ring := r } c code (b.getD []) := by
  obtain ⟨x, y, hs⟩ := step5End_eq (frameOver s c b)
  rw [hs]
  cases b with
  | none => exact ⟨{ s.ring with inflight := none, replies := [], step5 := x, firstS := y }, rfl, rfl, none, fun _ => rfl, rfl⟩
  | some b => exact ⟨{ s.ring with inflight := none, replies := [], step5 := x, firstS := y }, rfl, rfl, some _, (fun h => nomatch h), rfl⟩

end

/-! ## The outcome of a command (R51, R305) -/

/-- An answer leaves the ring. -/
theorem answer_ring (s : State) (id : ReqId) (st j : Nat) (p : List Byte) : (s.answer id st j p).ring = s.ring := by
  have hf : ∀ (f : State → Pkt → State), (∀ s x, (f s x).ring = s.ring) → ((s.replyPkts id st j p).foldl f s).ring = s.ring :=
    fun f h => foldl_leaves State.ring f h _ s
  unfold State.answer
  dsimp only
  split
  · exact hf _ fun _ _ => rfl
  · split
    · have hq := hf _ fun s x => queueReply_ring s id.session id.via id.src x
      split
      · exact hq
      · exact hq
    · refine hf _ fun s x => ?_
      cases id.via <;> rfl

/-- The reply to a balancing plan leaves every part of the ring but its results. -/
theorem balanceReply_ring (s : State) : ∃ l, s.balanceReply.ring = { s.ring with results := l } := by
  unfold State.balanceReply
  dsimp only
  split
  · exact ⟨_, rfl⟩
  · split
    · exact ⟨_, answer_ring ..⟩
    · exact ⟨_, rfl⟩

section
variable {s : State} {c : RingCmd}

/-- A command that no one waits for leaves the ring. -/
theorem cmdDone_ring (hu : c.use = 0) (res : Option Nat) (raw : List Byte) : (s.cmdDone c res raw).ring = s.ring := by
  unfold State.cmdDone
  rw [hu]
  show State.ring (if _ then _ else s) = s.ring
  split <;> rfl

/-- A host plan's command went unanswered: its result is 0xFF. -/
def planMissed (s : State) (c : RingCmd) : State := { s with ring := { s.ring with results := assocPut c.pos 0xFF s.ring.results } }

/-- A host plan's command that went unanswered may complete the plan's reply. -/
theorem cmdDone_balance (hu : c.use = 1) : s.cmdDone c none [] = (planMissed s c).balanceReply := by
  unfold State.cmdDone
  rw [hu]
  rfl

/-- An open-wire run goes on without a position that went unanswered. -/
theorem cmdDone_openWire (hu : c.use = 3) : s.cmdDone c none [] =
    { s with acq := { s.acq with owNodes := s.acq.owNodes.filter (· != c.pos) } } := by
  unfold State.cmdDone
  rw [hu]
  rfl

/-- A burst leaves out a group that went unanswered. -/
theorem cmdDone_burst (hu : c.use = 4) : s.cmdDone c none [] =
    { s with imp := { s.imp with stale := (16 * (c.pos - 1) + uAt c.payload 0 1 + 1) :: s.imp.stale } } := by
  unfold State.cmdDone
  rw [hu]
  rfl

/-- A command that went unanswered moves no other part of the ring than the results of a plan. -/
theorem cmdDone_unanswered (s : State) (c : RingCmd) : ∃ l, (s.cmdDone c none []).ring = { s.ring with results := l } := by
  unfold State.cmdDone
  dsimp only
  split
  · exact balanceReply_ring _
  · exact ⟨s.ring.results, rfl⟩
  · exact ⟨s.ring.results, rfl⟩
  · exact ⟨s.ring.results, rfl⟩

/-- The request of a waiting reply, as its session took it. -/
def askedBy (id : ReqId) : Req :=
  { via := id.via, src := id.src, auth := true, session := id.session, cls := id.cls, seq := id.seq, target := 0, payload := [] }

/-- An answer in a session enters the place that the request has in the cache. -/
theorem answer_replied {id : ReqId} {st j : Nat} {p : List Byte} (hp : id.prov = false) (ht : id.tagged = true) (hb : id.bcast = false)
    (hn : id.session < s.host.sess.length) (hc : ∃ c l, (s.session id.session).cache = (id.seq, c) :: l) :
    Replied (s.answer id st j p) (askedBy id) id.op st j p := by
  have h := giveRes_replied s (askedBy id) id.op st j p rfl rfl hn hc
  have he : reqId (askedBy id) id.op false = id := by
    obtain ⟨_, _, _, _, _, _, _, _, _⟩ := id
    cases hp
    cases ht
    cases hb
    rfl
  rw [he] at h
  exact h

/-- A plan of one node is answered by its result. -/
theorem balanceReply_single {w : Waiting} {v : Nat} (hw : (s.host.waiting.find? fun w => w.why == WaitFor.balance) = some w)
    (hn : uAt w.req.payload 0 1 = 1) (hr : assoc? (uAt w.req.payload 2 1) s.ring.results = some v) :
    s.balanceReply = State.answer { s with
      host := { s.host with waiting := s.host.waiting.filter (fun x => x.why != WaitFor.balance) }
      ring := { s.ring with results := [] } } w.id stOk 0 [BitVec.ofNat 8 v] := by
  unfold State.balanceReply
  rw [hw]
  simp [hn, hr]

/-- The third failure of a command is its outcome. -/
theorem cmdReturn_failed (hi : s.ring.inflight = some c) (ht : 3 ≤ c.tries) (hr : s.ring.replies = []) (hd : s.lan.supDown = false) :
    ∃ r : RingSt, r.inflight = none ∧ r.cmds = s.ring.cmds ∧ s.cmdReturn none = State.cmdDone { s with ring := r } c none [] := by
  obtain ⟨r, hri, hrc, code, hcode, he⟩ := frameOver_taken (s := s) (c := c) none
  rw [hcode rfl] at he
  exact ⟨r, hri, hrc, (cmdReturn_unanswered hi ht hr hd).trans he⟩

/-- The requester of a plan of one node receives 0xFF where the node went unanswered. -/
theorem cmdDone_plan_replied {w : Waiting} {old : List Pkt} {rest : List (Nat × List Pkt)} (hu : c.use = 1)
    (hw : (s.host.waiting.find? fun w => w.why == WaitFor.balance) = some w) (hp : w.id.prov = false) (ht : w.id.tagged = true)
    (hb : w.id.bcast = false) (hn : w.id.session < s.host.sess.length) (hc : (s.session w.id.session).cache = (w.id.seq, old) :: rest)
    (h1 : uAt w.req.payload 0 1 = 1) (hpos : uAt w.req.payload 2 1 = c.pos) :
    Replied (s.cmdDone c none []) (askedBy w.id) w.id.op stOk 0 [0xFF] := by
  rw [cmdDone_balance hu, balanceReply_single (s := planMissed s c) (v := 0xFF) hw h1 (by rw [hpos]; exact assoc_put_same ..)]
  exact answer_replied hp ht hb hn ⟨old, rest, hc⟩

/-- Without a plan that waits the result stays. -/
theorem cmdDone_plan_kept (hu : c.use = 1) (hw : (s.host.waiting.find? fun w => w.why == WaitFor.balance) = none) :
    assoc? c.pos (s.cmdDone c none []).ring.results = some 0xFF := by
  rw [cmdDone_balance hu]
  unfold planMissed State.balanceReply
  rw [hw]
  exact assoc_put_same ..

end

/-! ## Start-up (R57, R62) -/

section
variable {s r : State} {f hop : Nat}

/-- An intact ring as start-up leaves it: every node found, calibrated, in operation. -/
def RingFound (f hop : Nat) (s : State) : Prop :=
  s.get F.RING_STAT_FOUND = f ∧ s.flag F.RING_STAT_LENMIS = false ∧ s.get F.RING_STAT_STATE = 3 ∧ s.get F.RING_THOP_THOP = hop ∧
    s.ring.startDue = false

/-- The fields that show it. -/
def foundFields : List Fld := [F.RING_STAT_FOUND, F.RING_STAT_LENMIS, F.RING_STAT_STATE, F.RING_THOP_THOP]

theorem RingFound.upd (h : RingFound f hop s) (hg : ∀ g ∈ foundFields, r.get g = s.get g) (hd : r.ring.startDue = s.ring.startDue) :
    RingFound f hop r := by
  obtain ⟨hf, hl, hs, ht, hn⟩ := h
  unfold State.flag at hl
  exact ⟨(hg _ (by decide)).trans hf, by unfold State.flag; rw [hg F.RING_STAT_LENMIS (by decide), hl], (hg _ (by decide)).trans hs,
    (hg _ (by decide)).trans ht, hd.trans hn⟩

theorem RingFound.ringCmd (h : RingFound f hop s) (pos cmd : Nat) (p : List Byte) (rl use : Nat) (high : Bool) :
    RingFound f hop (s.ringCmd pos cmd p rl use high) := h.upd (fun _ _ => rfl) rfl

theorem RingFound.foldl {α : Type} {g : State → α → State} (hg : ∀ s x, RingFound f hop s → RingFound f hop (g s x)) (l : List α) :
    ∀ s, RingFound f hop s → RingFound f hop (l.foldl g s) := by
  induction l with
  | nil => exact fun _ h => h
  | cons x t ih => exact fun s h => ih _ (hg s x h)

theorem RingFound.ite {p : Prop} [Decidable p] (h : RingFound f hop s) (h' : RingFound f hop r) : RingFound f hop (if p then s else r) := by
  split
  · exact h
  · exact h'

theorem RingFound.ringBroadcast (h : RingFound f hop s) (cmd : Nat) (p : List Byte) (rl : Nat) : RingFound f hop (s.ringBroadcast cmd p rl) := by
  obtain ⟨l, he⟩ := ringBroadcast_queues s cmd p rl
  rw [he]
  exact h.upd (fun _ _ => rfl) rfl

theorem RingFound.acqCells (h : RingFound f hop s) : RingFound f hop s.acqCells := foldl (fun _ _ hs => hs.ringCmd ..) _ _ h

theorem RingFound.reach (h : RingFound f hop s) : RingFound f hop s.reach := by
  have hc : ∀ g ∈ foundFields, clearOf [F.RING_STAT_UNREACH] g = true ∧ entReg g.addr = false := by decide
  exact h.upd (fun g hg => reach_get s (hc g hg).1 (hc g hg).2) (by rw [reach_ring])

theorem RingFound.acq (h : RingFound f hop s) (a : AcqSt) : RingFound f hop { s with acq := a } := h.upd (fun _ _ => rfl) rfl

theorem RingFound.owRun (h : RingFound f hop s) (b : Bool) : RingFound f hop (s.setB F.ACQ_STAT_OWRUN b) := by
  have ha : ∀ g ∈ foundFields, F.ACQ_STAT_OWRUN.addr ≠ g.addr := by decide
  exact h.upd (fun g hg => get_set_elsewhere _ _ _ _ (ha g hg)) rfl

theorem RingFound.owStart (h : RingFound f hop s) (kind node : Nat) : RingFound f hop (s.owStart kind node) := by
  unfold State.owStart
  split
  · split
    · exact h.acq _
    · exact h
  · exact ((foldl (fun _ _ hs => hs.ringCmd ..) _ _ h).owRun true).acq _

theorem RingFound.owNext (h : RingFound f hop s) : RingFound f hop s.owNext := by
  unfold State.owNext
  split
  next n rest _ =>
    split
    · exact h
    · exact (h.acq { s.acq with owHeld := rest }).owStart 2 n
  · exact h

/-- The registers and the module state. -/
def regsRst (s : State) : List (Nat × Word) × RstSt := (s.regs, s.rst)

theorem los_regsRst (s : State) (west b : Bool) : regsRst (s.los west b) = regsRst s := rfl

theorem sendNow_regsRst (s : State) (west : Bool) (hop cmd : Nat) (p : List Byte) (n : Nat) :
    regsRst (s.sendNow west hop cmd p n) = regsRst s := rfl

/-- Probes leave the registers and the module state. -/
theorem probesNow_regsRst (west : Bool) (n : Nat) : ∀ s : State, regsRst (s.probesNow west n) = regsRst s := by
  induction n with
  | zero => exact fun _ => rfl
  | succ n ih => exact fun s => ih _

/-- Steps 1 to 3 of start-up leave the registers and the module state. -/
theorem findNodes_regsRst (s : State) (x : StartupIn) : regsRst (s.findNodes x).1 = regsRst s := by
  unfold State.findNodes
  dsimp only
  rw [foldl_leaves regsRst]
  case hf => exact fun a i => foldl_leaves regsRst (fun b h => b.sendNow _ h 1 [] 13) (fun _ _ => rfl) _ a
  split_ifs <;> simp only [probesNow_regsRst, sendNow_regsRst, los_regsRst]

theorem findNodes_found {x : StartupIn} (he : x.east = true) (hc : x.hcnt = some f) (hf : f ≤ 40) : (s.findNodes x).2 = f := by
  unfold State.findNodes
  simp only [he, hc, Bool.true_or, if_true, Option.getD_some]
  omega

/-- A good calibration of the ring in operation gives at most 130 ns a hop. -/
theorem calibrate_hop {n spread : Nat} {rounds : List (List Nat)} (h : calibrate false n rounds = (spread, hop, true)) : hop ≤ 520 := by
  unfold calibrate at h
  simp only [Bool.false_eq_true, if_false, Prod.mk.injEq, Bool.and_eq_true, decide_eq_true_eq] at h
  obtain ⟨-, hh, -, hle⟩ := h
  rwa [hh] at hle

/-- A good calibration sets the ring's state and hop time. -/
theorem calibration_good {n spread : Nat} {rounds : List (List Nat)} (hp : s.parked = false)
    (h : calibrate false n rounds = (spread, hop, true)) :
    (s.calibration n rounds).get F.RING_STAT_STATE = 3 ∧ (s.calibration n rounds).get F.RING_THOP_THOP = hop ∧
      ∀ g, clearOf [F.RING_THOP_SPREAD] g = true → clearOf [F.RING_THOP_THOP] g = true → clearOf [F.RING_STAT_CALFAIL] g = true →
        clearOf [F.RING_STAT_STATE] g = true → (s.calibration n rounds).get g = s.get g := by
  have hh : hop % 2 ^ 14 = hop := Nat.mod_eq_of_lt (by have := calibrate_hop h; omega)
  unfold State.calibration State.setB
  rw [hp, h]
  simp only [get_ring_upd, Bool.not_true, Bool.false_eq_true, if_false, if_true]
  refine ⟨get_set_same _ _ _ (show 0 + 3 ≤ 32 by decide), ?_, fun g h1 h2 h3 h4 => ?_⟩
  · rw [get_set_clear _ _ _ _ (by decide), get_set_clear _ _ _ _ (by decide), get_set_same _ F.RING_THOP_THOP _ (show 0 + 14 ≤ 32 by decide)]
    exact hh
  · rw [get_set_clear _ _ _ _ h4, get_set_clear _ _ _ _ h3, get_set_clear _ _ _ _ h2, get_set_clear _ _ _ _ h1]
    exact get_congr (congrArg Prod.fst (probesNow_regsRst false _ s)) g

/-- A start-up that finds every node and calibrates runs the ring intact. -/
theorem startup_good {x : StartupIn} {spread : Nat} (hp : s.parked = false) (he : x.east = true) (hw : x.west = true) (hc : x.hcnt = some f)
    (hl : f = s.len) (hf : f ≤ 40) (hi : ((List.range f).all fun i => identOk (nth none x.idents i)) = true)
    (hcal : calibrate false f x.loops = (spread, hop, true)) : RingFound f hop (s.startup x) := by
  have hfound := findNodes_found (s := s) he hc hf
  have hkeep := findNodes_regsRst s x
  have hbad : (List.range (min f s.len)).filter (fun i => !identOk (nth none x.idents i)) = [] := by
    rw [← hl, Nat.min_self, List.filter_eq_nil_iff]
    exact fun i hm => by simp [List.all_eq_true.1 hi i hm]
  unfold State.startup
  generalize hs2 : s.findNodes x = r at *
  obtain ⟨s2, found⟩ := r
  change found = f at hfound
  subst hfound
  have hp2 : s2.parked = false := by
    have h : s2.rst = s.rst := congrArg Prod.snd hkeep
    unfold State.parked at hp ⊢
    rw [h, hp]
  dsimp -zeta only
  extract_lets bad place mis s3 s4 s5 r5 a5 s6 s7 s8 s9
  have hs4 : s4 = s3.setB F.RING_STAT_LENMIS false := if_neg (by simp [mis, show bad = [] from hbad, hl])
  have hs5 : s5 = s4.calibration found x.loops := by simp only [s5, he, hw, Bool.and_true, if_true]
  have hp4 : s4.parked = false := by
    rw [hs4]
    exact hp2
  obtain ⟨hstate, hhop, hrest⟩ := calibration_good (s := s4) hp4 hcal
  rw [← hs5] at hstate hhop hrest
  have h6 : RingFound found hop s6 := by
    refine ⟨?_, ?_, hstate, hhop, rfl⟩
    · refine (hrest F.RING_STAT_FOUND (by decide) (by decide) (by decide) (by decide)).trans ?_
      rw [hs4]
      refine (get_set_clear _ _ _ _ (by decide)).trans ((get_set_same _ F.RING_STAT_FOUND _ (show 4 + 6 ≤ 32 by decide)).trans ?_)
      exact Nat.mod_eq_of_lt (show found < 2 ^ 6 by omega)
    · unfold State.flag
      refine (congrArg (· == 1) (hrest F.RING_STAT_LENMIS (by decide) (by decide) (by decide) (by decide))).trans ?_
      rw [hs4]
      exact congrArg (· == 1) (get_set_same _ F.RING_STAT_LENMIS _ (show 20 + 1 ≤ 32 by decide))
  have h8 : RingFound found hop s8 := ((h6.ringBroadcast ..).ringBroadcast ..).ringBroadcast .. |>.acqCells.reach
  exact (RingFound.ite (h8.owStart 0 0) h8).owNext

end

/-! ## What leaves a register below the counters of the queues (R63) -/

/-- Every register but one. -/
def allBut (x y : Nat) : Bool := y != x

section
variable {s : State} {x : Nat}

theorem queueReply_word (s : State) (n : Nat) (via : Via) (src : Nat) (p : Pkt) (h24 : allBut x 0x24 = true) (hx : x < 0x100100) :
    (s.queueReply n via src p).word x = s.word x := by
  have hq : allBut x (0x100100 + 4 * (8 + n)) = true := bne_iff_ne.2 (by omega)
  have hu : ∀ {c : State}, Stands (allBut x) s c → Stands (allBut x) s ((c.count F.GLB_PKTERR_QFULL F.GLB_PKTERR_SAT).qLost (8 + n)) :=
    fun hc => (hc.count _ _ h24 h24).count _ _ hq hq
  have hs : Stands (allBut x) s (s.queueReply n via src p) := by
    unfold State.queueReply
    have h := Stands.refl (allBut x) s
    exact .ite (fun _ => .ite (fun _ => h.toSpi p) fun _ => hu (h.upd.toSpi p)) fun _ => .ite (fun _ => h.upd) fun _ => hu h.upd
  exact hs.word x (by simp [allBut])

/-- An answer leaves every register but those that count what a queue loses. -/
theorem answer_word (s : State) (id : ReqId) (st j : Nat) (p : List Byte) (h24 : allBut x 0x24 = true) (hx : x < 0x100100) :
    (s.answer id st j p).word x = s.word x := by
  have hf : ∀ (f : State → Pkt → State), (∀ s y, (f s y).word x = s.word x) → ((s.replyPkts id st j p).foldl f s).word x = s.word x :=
    fun f h => foldl_leaves (fun s => s.word x) f h _ s
  unfold State.answer
  dsimp only
  split
  · exact hf _ fun _ _ => rfl
  · split
    · have hq := hf _ fun s y => queueReply_word s id.session id.via id.src y h24 hx
      split
      · exact hq
      · exact hq
    · refine hf _ fun s y => ?_
      cases id.via <;> rfl

theorem balanceReply_word (s : State) (h24 : allBut x 0x24 = true) (hx : x < 0x100100) : s.balanceReply.word x = s.word x := by
  unfold State.balanceReply
  dsimp only
  split
  · rfl
  · split
    · exact answer_word _ _ _ _ _ h24 hx
    · rfl

theorem cmdsLost_word (s : State) (h24 : allBut x 0x24 = true) (hx : x < 0x100100) : s.cmdsLost.word x = s.word x := by
  unfold State.cmdsLost
  dsimp only
  split
  · rfl
  · exact balanceReply_word _ h24 hx

/-! ## A write of RING_CTRL (R62, R63, R81) -/

theorem cmdsLost_len (s : State) : s.cmdsLost.len = s.len :=
  congrArg F.RING_CTRL_LEN.of (cmdsLost_word s (x := 0x30000) rfl (by decide))

/-- The ring begins its start-up where it has positions, and stays idle where it has none. -/
theorem ringStart_shows (s : State) (reset : Bool) : (s.ringStart reset).ring.startDue = (s.len != 0) ∧
    (s.ringStart reset).get F.RING_STAT_STATE = (if s.len = 0 then 0 else 1) ∧ (s.ringStart reset).len = s.len := by
  unfold State.ringStart
  dsimp only
  rw [cmdsLost_len]
  refine ⟨rfl, ?_, ?_⟩
  · refine (get_set_same _ F.RING_STAT_STATE _ (show 0 + 3 ≤ 32 by decide)).trans ?_
    split_ifs <;> rfl
  · refine (get_set_elsewhere _ _ _ _ (by decide)).trans ((get_set_elsewhere _ _ _ _ (by decide)).trans
      ((get_set_elsewhere _ _ _ _ (by decide)).trans (cmdsLost_len s)))

theorem setSegMis_len (s : State) (p : Nat) (b : Bool) : (s.setSegMis p b).len = s.len := by
  unfold State.setSegMis
  exact (((Stands.refl entReg _).integrity fun _ h => h).get rfl).trans ((get_set_elsewhere _ _ _ _ (by decide)).trans
    (congrArg F.RING_CTRL_LEN.of (word_putWord_other _ _ _ _ (show 0x40018 + 4 * ((p - 1) / 32) ≠ 0x30000 by omega))))

/-- The new value of LEN stands while its consequences follow. -/
theorem lenHook_len (s : State) (old : Nat) : (s.lenHook old).len = s.len := by
  have hf := foldl_leaves State.len (fun (a : State) i => a.setSegMis (i + 1) false) (fun a i => setSegMis_len a (i + 1) false)
    ((List.range 40).filter (fun i => decide (s.len < i + 1) && s.segMis (i + 1))) s
  unfold State.lenHook
  dsimp only
  split
  · rfl
  · split
    · refine (reach_get _ (by decide) (by decide)).trans ((get_set_elsewhere _ _ _ _ (by decide)).trans ((cmdsLost_len _).trans hf))
    · exact (reach_get _ (by decide) (by decide)).trans hf

/-- With LEN 0 the ring idles. -/
theorem lenHook_idle {old : Nat} (h0 : s.len = 0) (ho : old ≠ 0) : (s.lenHook old).get F.RING_STAT_STATE = 0 := by
  unfold State.lenHook
  dsimp only
  rw [if_neg (by rw [h0]; exact ho.symm), if_pos h0]
  exact (reach_get _ (by decide) (by decide)).trans (get_set_same _ F.RING_STAT_STATE _ (show 0 + 3 ≤ 32 by decide))

/-- The word a write leaves: the writable bits of the value in the old word. -/
def merged (rw : Nat) (old : Word) (v : Nat) : Word := BitVec.ofNat 32 ((old.toNat &&& (4294967295 - rw)) ||| (v &&& rw))

/-- A field of writable bits takes its part of the value. -/
theorem of_merged {f : Fld} {rw : Nat} (hf : f.fits)
    (hm : ∀ i < f.w, rw.testBit (f.lo + i) = true ∧ (4294967295 - rw).testBit (f.lo + i) = false) (old w : Word) :
    f.of (merged rw old w.toNat) = f.of w := by
  apply Nat.eq_of_testBit_eq
  intro i
  rw [of_testBit, of_testBit]
  by_cases hi : i < f.w
  · obtain ⟨h1, h2⟩ := hm i hi
    have hlt : f.lo + i < 32 := by have : f.lo + f.w ≤ 32 := hf; omega
    unfold merged
    rw [BitVec.getLsbD_ofNat, Nat.testBit_or, Nat.testBit_and, Nat.testBit_and, h1, h2, Bool.and_true, Bool.and_false, Bool.false_or,
      decide_eq_true hlt, Bool.true_and]
    rfl
  · simp [hi]

/-- RING_CTRL with a new word stored. -/
def ctrlPut (s : State) (v : Nat) : State := s.putWord 0x30000 (merged 0xff73f (s.word 0x30000) v)

theorem ctrlPut_get {f : Fld} (ha : f.addr = 0x30000) (hf : f.fits)
    (hm : ∀ i < f.w, Nat.testBit 0xff73f (f.lo + i) = true ∧ Nat.testBit (4294967295 - 0xff73f) (f.lo + i) = false) (w : Word) :
    (ctrlPut s w.toNat).get f = f.of w := by
  unfold State.get ctrlPut
  rw [ha, word_putWord_same]
  exact of_merged hf hm _ _

theorem ctrlPut_len (w : Word) : (ctrlPut s w.toNat).len = F.RING_CTRL_LEN.of w :=
  ctrlPut_get (f := F.RING_CTRL_LEN) rfl (show 0 + 6 ≤ 32 by decide) (by decide) w

theorem ctrlPut_rate (w : Word) : (ctrlPut s w.toNat).get F.RING_CTRL_RATE = F.RING_CTRL_RATE.of w :=
  ctrlPut_get (f := F.RING_CTRL_RATE) rfl (show 8 + 3 ≤ 32 by decide) (by decide) w

theorem ctrlPut_convOff (v : Nat) : (ctrlPut s v).convOff = s.convOff := by
  have h : ∀ y, y ≠ 0x30000 → (ctrlPut s v).word y = s.word y := fun y hy => word_putWord_other _ _ _ _ hy.symm
  unfold State.convOff State.loopStopped State.convLevel State.get
  rw [h _ (by decide), h 0x8002C (by decide)]
  rfl

/-- A write of RING_CTRL stores its writable bits, and then come what LEN and RATE bring and CAL. -/
theorem writeDo_ctrl (v : Nat) : s.writeDo 0x30000 v = ((ctrlPut s v).writeHook 0x30000 (s.word 0x30000)).strobeBits 0x30000 v := by
  have hw : writable 0x30000 =
      some ⟨0x30000, 4, 1, 0x14000, 0xff73f, 0, 0, 0x1000000, 0, [⟨0, 6, 0, 40⟩, ⟨8, 3, 0, 3⟩, ⟨12, 8, 1, 255⟩]⟩ := by decide
  unfold State.writeDo
  rw [hw]
  rfl

/-- What a write of RING_CTRL with the same RATE brings. -/
theorem writeHook_ctrl {old : Word} (hr : s.get F.RING_CTRL_RATE = F.RING_CTRL_RATE.of old) :
    s.writeHook 0x30000 old = if s.len = F.RING_CTRL_LEN.of old then s else s.lenHook (F.RING_CTRL_LEN.of old) := by
  have hl : F.RING_CTRL_LEN.of (s.word 0x30000) = s.len := rfl
  have hr' : F.RING_CTRL_RATE.of (s.word 0x30000) = F.RING_CTRL_RATE.of old := hr
  unfold State.writeHook
  dsimp only
  simp only [if_true, hl, hr', bne_self_eq_false, Bool.false_eq_true, if_false, bne_iff_ne, ne_eq, eq_comm (a := s.len), ite_not]

/-- An accepted write as an access of its own. -/
theorem accessWrite_ok {a v : Nat} (h : s.writeErr a v = none) : s.accessWrite a v = (s.writeDo a v).emit (.access a stOk 0 v) := by
  unfold State.accessWrite
  rw [writeReg_ok s h]

/-- The write-only bits of RING_CTRL are those of CAL. -/
theorem strobeBits_ctrl (v : Nat) : s.strobeBits 0x30000 v = if (v.testBit 24 && s.convOff) = true then s.ringStart false else s := rfl

/-- A write of CAL starts the ring, whose length stands. -/
theorem writeDo_cal (hc : s.convOff = true) : ∃ r : State, r.len = s.len ∧
    s.writeDo 0x30000 (s.withField F.RING_CTRL_CAL 1) = r.ringStart false := by
  have hlen : (ctrlPut s (s.withField F.RING_CTRL_CAL 1)).len = F.RING_CTRL_LEN.of (s.word 0x30000) :=
    (ctrlPut_len _).trans (of_into_other _ _ _ _ (show 0 + 6 ≤ 32 by decide) (by decide))
  have hrate : (ctrlPut s (s.withField F.RING_CTRL_CAL 1)).get F.RING_CTRL_RATE = s.get F.RING_CTRL_RATE :=
    (ctrlPut_rate _).trans (of_into_other _ _ _ _ (show 8 + 3 ≤ 32 by decide) (by decide))
  have hcal : (s.withField F.RING_CTRL_CAL 1).testBit 24 = true :=
    (into_getLsbD F.RING_CTRL_CAL (s.word 0x30000) 1 24 (by decide)).trans rfl
  refine ⟨_, hlen, ?_⟩
  rw [writeDo_ctrl, writeHook_ctrl (old := s.word 0x30000) hrate, if_pos hlen, strobeBits_ctrl, hcal, ctrlPut_convOff, hc]
  rfl

/-- A write of LEN gives the ring its length. -/
theorem writeDo_len {n : Nat} (hn : n ≤ 40) : (s.writeDo 0x30000 (s.withField F.RING_CTRL_LEN n)).len = n ∧
    (n = 0 → s.len ≠ 0 → (s.writeDo 0x30000 (s.withField F.RING_CTRL_LEN n)).get F.RING_STAT_STATE = 0) := by
  have hlen : (ctrlPut s (s.withField F.RING_CTRL_LEN n)).len = n :=
    (ctrlPut_len _).trans ((of_into_same F.RING_CTRL_LEN _ _ (show 0 + 6 ≤ 32 by decide)).trans (Nat.mod_eq_of_lt (show n < 2 ^ 6 by omega)))
  have hrate : (ctrlPut s (s.withField F.RING_CTRL_LEN n)).get F.RING_CTRL_RATE = s.get F.RING_CTRL_RATE :=
    (ctrlPut_rate _).trans (of_into_other _ _ _ _ (show 8 + 3 ≤ 32 by decide) (by decide))
  rw [writeDo_ctrl, writeHook_ctrl (old := s.word 0x30000) hrate, hlen, strobeBits_ctrl]
  generalize hr : (if n = F.RING_CTRL_LEN.of (s.word 0x30000) then _ else _) = r
  have hrl : r.len = n := by
    rw [← hr]
    split
    · exact hlen
    · exact (lenHook_len _ _).trans hlen
  obtain ⟨-, hstate, hkeep⟩ := ringStart_shows r false
  split
  · refine ⟨hkeep.trans hrl, fun h0 _ => ?_⟩
    rw [hstate, hrl, if_pos h0]
  · refine ⟨hrl, fun h0 ho => ?_⟩
    rw [← hr, if_neg (by rw [h0]; exact ho.symm)]
    exact lenHook_idle (hlen.trans h0) ho

end

end Sys2Proof.Machine.Laws

namespace Sys2Proof.Proofs

open Sys2Proof.Machine Sys2Proof.Machine.Laws Sys2Proof.Safety

/-- Settles O6: a frame that is over leaves its command as its outcome, start-up carries what calibration set to its end, and a write of
RING_CTRL stores LEN before CAL and LEN act. -/
theorem ringCommandsAndStartupComplete : Obligations.RingCommandsAndStartupComplete := by
  unfold Obligations.RingCommandsAndStartupComplete
  rintro s _ t n c rx raw x rfl hs
  have hp : (s.upto t).parked = false := parked_of_inService hs
  refine ⟨fun hon hi hn hf => ?sent, fun hon hi hu hq hr hd hb h12 h8 h32 hx => ?executed, fun hon hi ht => ?again,
    fun hon hi ht hr hd => ?failed, fun f spread hop hdue he hw hc hl h1 hf hid hcal => ?startup, fun herr hoff => ?cal,
    fun hn herr => ?len⟩
  case sent =>
    refine answers_of_guard rfl (by simp [hon, hi]) rfl ?_
    rw [command_ring, command_out]
    exact cmdSend_sends hn hf
  case executed =>
    refine answers_of_guard rfl hon (cmdReturn_executed hi hq hr hd hb h12 h8 h32 hx) ?_
    obtain ⟨r, hri, hrc, code, -, hdone⟩ := frameOver_taken (s := s.upto t) (c := c) (some raw)
    rw [command_ring, hdone, cmdDone_ring hu]
    exact ⟨hri, hrc⟩
  case again =>
    refine answers_of_guard rfl hon rfl ?_
    rw [command_ring, cmdReturn_again hi ht]
    exact ⟨rfl, rfl⟩
  case failed =>
    obtain ⟨r, hri, hrc, hdone⟩ := cmdReturn_failed hi ht hr hd
    refine answers_of_guard rfl hon hdone ?_
    obtain ⟨l, hl⟩ := cmdDone_unanswered { s.upto t with ring := r } c
    unfold State.session
    rw [command_ring, command_host, command_acq, command_imp]
    refine ⟨?_, ?_, fun hu hw => ?kept, fun w old rest hu hw hprov htag hbc ho hca h1 hpos => ?replied, fun hu => ?openWire, fun hu => ?burst⟩
    · rw [hl, hri]
    · rw [hl, hrc]
    case kept => exact cmdDone_plan_kept (s := { s.upto t with ring := r }) hu hw
    case replied =>
      obtain ⟨ps, rest1, hput, hpay, hall⟩ :=
        cmdDone_plan_replied (s := { s.upto t with ring := r }) hu hw hprov htag hbc (open_lt _ _ ho) hca h1 hpos
      exact ⟨ps, rest1, hput, hpay, fun p hm => by
        obtain ⟨hop, -, -, hst, -⟩ := hall p hm
        exact ⟨hop, hst⟩⟩
    case openWire =>
      rw [cmdDone_openWire hu]
      simp
    case burst => rw [cmdDone_burst hu]
  case startup =>
    refine answers_of_guard rfl (by simp [State.started, hs, hdue]) (if_pos hdue) ?_
    rw [command_get, command_flag, command_get, command_get, command_ring]
    exact startup_good hp he hw hc hl hf hid hcal
  case cal =>
    obtain ⟨r, hlen, hstart⟩ := writeDo_cal hoff
    obtain ⟨hdue, hstate, -⟩ := ringStart_shows r false
    refine answers_of_guard rfl hs (accessWrite_ok herr) ?_
    rw [command_get, command_ring, hstart, ← hlen]
    exact ⟨hdue, hstate⟩
  case len =>
    refine answers_of_guard rfl (by simp [hs, show n < 64 by omega]) (accessWrite_ok herr) ?_
    rw [command_get, command_get]
    exact writeDo_len hn

end Sys2Proof.Proofs
end

section
/-! Balancing plans and open-wire runs: what each queues for the ring, and what begins and ends a run (O7). -/

namespace Sys2Proof.Machine.Laws

open Sys2Proof.Safety

/-! ## Frames that a plan or a run queues (R51, R87, R90) -/

/-- `s` with frames added behind those that wait. -/
def withCmds (s : State) (cs : List RingCmd) : State := { s with ring := { s.ring with cmds := s.ring.cmds ++ cs } }

/-- Steps that each queue one frame queue them in order. -/
theorem foldl_queues {α : Type} {f : State → α → State} {Q : α → RingCmd → Prop} (hf : ∀ s x, ∃ c, Q x c ∧ f s x = withCmds s [c])
    (l : List α) (s : State) : ∃ cs, List.Forall₂ Q l cs ∧ l.foldl f s = withCmds s cs := by
  induction l generalizing s with
  | nil => exact ⟨[], .nil, by simp [withCmds]⟩
  | cons x t ih =>
    obtain ⟨c, hc, he⟩ := hf s x
    obtain ⟨cs, hcs, ht⟩ := ih (withCmds s [c])
    refine ⟨c :: cs, .cons hc hcs, ?_⟩
    rw [List.foldl_cons, he, ht]
    simp [withCmds]

theorem forall_mem_of_forall₂ {α β : Type} {R : α → β → Prop} {P : β → Prop} (hP : ∀ x y, R x y → P y) {l : List α} {k : List β}
    (h : List.Forall₂ R l k) : ∀ y ∈ k, P y := by
  induction h with
  | nil => simp
  | cons hr _ ih => exact List.forall_mem_cons.2 ⟨hP _ _ hr, ih⟩

theorem map_eq_of_forall₂ {α β : Type} {R : α → β → Prop} {g : β → α} (hg : ∀ x y, R x y → g y = x) {l : List α} {k : List β}
    (h : List.Forall₂ R l k) : k.map g = l := by
  induction h with
  | nil => rfl
  | cons hr _ ih => rw [List.map_cons, hg _ _ hr, ih]

theorem ringCmd_queues (s : State) (pos cmd : Nat) (p : List Byte) (rl use : Nat) (high : Bool) :
    ∃ c, (c.pos = pos ∧ c.cmd = cmd ∧ c.payload = p ∧ c.use = use) ∧ s.ringCmd pos cmd p rl use high = withCmds s [c] :=
  ⟨_, ⟨rfl, rfl, rfl, rfl⟩, rfl⟩

/-- The payload of BALANCE (Table 3.6). -/
def balanceBytes (timers : List Nat) (phase : Nat) : List Byte := timers.flatMap (leBytes 2) ++ leBytes 1 phase ++ [0]

theorem balanceBytes_length (timers : List Nat) (phase : Nat) : (balanceBytes timers phase).length = 2 * timers.length + 2 := by
  have h : (timers.flatMap (leBytes 2)).length = 2 * timers.length := by
    induction timers with
    | nil => rfl
    | cons x t ih => rw [List.flatMap_cons, List.length_append, leBytes_length, ih, List.length_cons]; omega
  unfold balanceBytes
  rw [List.length_append, List.length_append, h, leBytes_length]
  rfl

/-- A BALANCE command with the payload of Table 3.6 to a position. -/
def IsBalance (timers : List Nat) (phase use p : Nat) (c : RingCmd) : Prop :=
  c.pos = p ∧ c.cmd = 4 ∧ c.payload = balanceBytes timers phase ∧ c.use = use

theorem balanceCmd_queues (s : State) (p : Nat) (timers : List Nat) (phase use : Nat) :
    ∃ c, IsBalance timers phase use p c ∧ s.balanceCmd p timers phase use = withCmds s [c] :=
  ringCmd_queues s p 4 (balanceBytes timers phase) 1 use false

/-- A plan queues a BALANCE command for each of its positions. -/
theorem foldl_balances {timers : Nat → List Nat} {phase use : Nat} {l : List Nat} {s r : State}
    (h : l.foldl (fun a p => a.balanceCmd p (timers p) phase use) s = r) :
    ∃ cs, List.Forall₂ (fun p c => IsBalance (timers p) phase use p c) l cs ∧ r = withCmds s cs := by
  obtain ⟨cs, hcs, he⟩ := foldl_queues (fun a p => balanceCmd_queues a p (timers p) phase use) l s
  exact ⟨cs, hcs, h.symm.trans he⟩

section
variable (s : State)

/-! ## The policy's plan (R87, R88) -/

/-- The policy's plan notes its instant; with a QUALIFIED group it queues one BALANCE command to every position. -/
theorem policyPlan_sends : s.policyPlan.acq.planAt = s.now ∧ ∃ l, s.policyPlan.ring.cmds = s.ring.cmds ++ l ∧
    (∀ c ∈ l, c.cmd = 4 ∧ c.payload.length = 34) ∧
    l.map (·.pos) = if s.groups.all (fun g => !(s.cell g).init || (s.cell g).qual != 0) then [] else s.positions := by
  unfold State.policyPlan
  dsimp only
  split
  · exact ⟨rfl, [], (List.append_nil _).symm, by simp, rfl⟩
  · generalize hr : List.foldl _ _ _ = r
    obtain ⟨cs, hcs, rfl⟩ := foldl_balances hr
    refine ⟨rfl, cs, rfl, forall_mem_of_forall₂ ?_ hcs, map_eq_of_forall₂ (fun _ _ h => h.1) hcs⟩
    rintro p c ⟨-, hcmd, hpay, -⟩
    rw [hpay, balanceBytes_length, List.length_map, List.length_range]
    exact ⟨hcmd, rfl⟩

/-! ## A change of the source (R87) -/

/-- BALANCE is not sent again where it is answered busy. -/
def sentOnce (c : RingCmd) : RingCmd := if c.cmd = 4 then { c with again := false } else c

/-- The end of a plan leaves the registers; nothing of it is sent again. -/
theorem balanceZero_ends : s.balanceZero.regs = s.regs ∧ s.balanceZero.acq.resend = [] ∧ (s.ringOn = true → ∃ l,
    s.balanceZero.ring.cmds = s.ring.cmds.map sentOnce ++ l ∧ l.map (·.pos) = s.positions ∧
      ∀ c ∈ l, c.cmd = 4 ∧ c.payload = List.replicate 34 0) := by
  unfold State.balanceZero
  dsimp only
  generalize hr : ({ s with ring := _, acq := _ } : State) = r
  have hon : r.ringOn = s.ringOn := by rw [← hr]; rfl
  obtain ⟨cs, hcs, he⟩ := foldl_balances (timers := fun _ => List.replicate 16 0) (phase := 0) (use := 0) (l := r.positions) (s := r) rfl
  rw [he, hon]
  split
  · refine ⟨?_, ?_, fun _ => ⟨cs, ?_, ?_, ?_⟩⟩
    · rw [← hr]; rfl
    · rw [← hr]; rfl
    · rw [← hr]; rfl
    · rw [map_eq_of_forall₂ (fun _ _ h => h.1) hcs, ← hr]; rfl
    · refine forall_mem_of_forall₂ ?_ hcs
      rintro p c ⟨-, hcmd, hpay, -⟩
      exact ⟨hcmd, hpay.trans (by decide)⟩
  next h =>
    rw [← hr]
    exact ⟨rfl, rfl, fun hon => absurd hon h⟩

/-! ## A write of ACQ_BAL_CFG or ACQ_OW_CFG (R87, R93) -/

/-- A register with the writable bits of a value stored. -/
def regPut (s : State) (x rw v : Nat) : State := s.putWord x (merged rw (s.word x) v)

theorem regPut_get {x rw : Nat} {f : Fld} (ha : f.addr = x) (hf : f.fits)
    (hm : ∀ i < f.w, rw.testBit (f.lo + i) = true ∧ (4294967295 - rw).testBit (f.lo + i) = false) (w : Word) :
    (regPut s x rw w.toNat).get f = f.of w := by
  unfold State.get regPut
  rw [ha, word_putWord_same]
  exact of_merged hf hm _ _

theorem regPut_word_other {x y : Nat} (rw v : Nat) (h : x ≠ y) : (regPut s x rw v).word y = s.word y := word_putWord_other _ _ _ _ h

theorem regPut_get_other {x : Nat} (rw v : Nat) {f : Fld} (h : x ≠ f.addr) : (regPut s x rw v).get f = s.get f := by
  unfold State.get
  rw [regPut_word_other _ _ _ h]

/-- Whether the ring runs hangs on the module and on RING_CTRL and RING_STAT. -/
theorem ringOn_congr {s r : State} (hr : r.rst = s.rst) (hc : r.word 0x30000 = s.word 0x30000) (hs : r.word 0x30004 = s.word 0x30004) :
    r.ringOn = s.ringOn := by
  unfold State.ringOn State.started State.inService State.get
  rw [hr, hs, hc]

theorem regPut_ringOn {x : Nat} (rw v : Nat) (hx : 0x30004 < x) : (regPut s x rw v).ringOn = s.ringOn :=
  ringOn_congr rfl (regPut_word_other s rw v (by omega)) (regPut_word_other s rw v (by omega))

/-- The word that a change of SRC and ENABLE writes. -/
def balWord (s : State) (src : Nat) (en : Bool) : Word := F.ACQ_BAL_CFG_ENABLE.into (F.ACQ_BAL_CFG_SRC.into (s.word 0x40020) src) (b2n en)

theorem writeDo_bal (v : Nat) : s.writeDo 0x40020 v = (regPut s 0x40020 0x1ffff03 v).writeHook 0x40020 (s.word 0x40020) := by
  have hw : writable 0x40020 = some ⟨0x40020, 4, 1, 0x10a3202, 0x1ffff03, 0, 0, 0, 0, [⟨16, 8, 1, 255⟩]⟩ := by decide
  unfold State.writeDo
  rw [hw]
  rfl

/-- A write of SRC and ENABLE shows them; where SRC is another than before, the plan under way ends. -/
theorem writeDo_source {src : Nat} (en : Bool) (h : src < 2) :
    (s.writeDo 0x40020 (balWord s src en).toNat).get F.ACQ_BAL_CFG_SRC = src ∧
    (s.writeDo 0x40020 (balWord s src en).toNat).flag F.ACQ_BAL_CFG_ENABLE = en ∧
    (s.get F.ACQ_BAL_CFG_SRC ≠ src → s.writeDo 0x40020 (balWord s src en).toNat = (regPut s 0x40020 0x1ffff03 (balWord s src en).toNat).balanceZero) := by
  have hsrc : (regPut s 0x40020 0x1ffff03 (balWord s src en).toNat).get F.ACQ_BAL_CFG_SRC = src := by
    refine (regPut_get s (f := F.ACQ_BAL_CFG_SRC) rfl (show 0 + 1 ≤ 32 by decide) (by decide) _).trans ?_
    refine (of_into_other F.ACQ_BAL_CFG_ENABLE F.ACQ_BAL_CFG_SRC _ _ (show 0 + 1 ≤ 32 by decide) (by decide)).trans ?_
    exact (of_into_same F.ACQ_BAL_CFG_SRC _ _ (show 0 + 1 ≤ 32 by decide)).trans (Nat.mod_eq_of_lt h)
  have hen : (regPut s 0x40020 0x1ffff03 (balWord s src en).toNat).get F.ACQ_BAL_CFG_ENABLE = b2n en := by
    refine (regPut_get s (f := F.ACQ_BAL_CFG_ENABLE) rfl (show 24 + 1 ≤ 32 by decide) (by decide) _).trans ?_
    exact (of_into_same F.ACQ_BAL_CFG_ENABLE _ _ (show 24 + 1 ≤ 32 by decide)).trans (b2n_mod en)
  rw [writeDo_bal]
  generalize regPut s 0x40020 0x1ffff03 (balWord s src en).toNat = r at hsrc hen
  have hregs : (r.writeHook 0x40020 (s.word 0x40020)).regs = r.regs := by
    unfold State.writeHook
    rw [if_neg (by decide), if_neg (by decide), if_pos rfl]
    split
    · exact (balanceZero_ends r).1
    · rfl
  refine ⟨(get_congr hregs _).trans hsrc, ?_, fun hne => ?_⟩
  · unfold State.flag
    rw [get_congr hregs, hen, b2n_beq]
  · have hc : (F.ACQ_BAL_CFG_SRC.of (s.word 0x40020) != F.ACQ_BAL_CFG_SRC.of (r.word 0x40020)) = true := by
      have hr : F.ACQ_BAL_CFG_SRC.of (r.word 0x40020) = src := hsrc
      rw [hr]
      exact bne_iff_ne.2 hne
    unfold State.writeHook
    rw [if_neg (by decide), if_neg (by decide), if_pos rfl, if_pos (by dsimp only; rw [hc, Bool.true_or])]

/-! ## Open-wire runs (R90 to R94) -/

/-- A START that finds a run in progress, a start-up or an idle ring is held, once for each node. -/
theorem owStart_holds {n : Nat} (h : s.flag F.ACQ_STAT_OWRUN = true ∨ s.ring.startDue = true ∨ s.ringOn = false) :
    (s.owStart 2 n).acq.owHeld = (if n ∈ s.acq.owHeld then s.acq.owHeld else s.acq.owHeld ++ [n]) ∧ (s.owStart 2 n).ring = s.ring := by
  have hb : (s.flag F.ACQ_STAT_OWRUN || s.ring.startDue || !s.ringOn) = true := by
    rw [Bool.or_eq_true, Bool.or_eq_true, Bool.not_eq_true']
    tauto
  unfold State.owStart
  rw [if_pos hb]
  by_cases hn : n ∈ s.acq.owHeld
  · rw [if_neg (by simp [hn]), if_pos hn]
    exact ⟨rfl, rfl⟩
  · rw [if_pos (by simp [hn]), if_neg hn]
    exact ⟨rfl, rfl⟩

/-- A run of kind `k` has begun in `b`, with a test frame to each of the nodes `ps`. -/
structure RunBegun (k : Nat) (ps : List Nat) (s b : State) : Prop where
  run : b.flag F.ACQ_STAT_OWRUN = true
  kind : b.acq.owKind = k
  nodes : b.acq.owNodes = ps
  held : b.acq.owHeld = s.acq.owHeld
  at_ : b.acq.owAt = s.now
  pend : b.evr.pend = s.evr.pend
  cmds : ∃ cs, List.Forall₂ (fun p c => c.pos = p ∧ c.cmd = 6) ps cs ∧ b.ring.cmds = s.ring.cmds ++ cs

/-- The positions that a run tests: all that are served, or the one named, where they have wires to test and are in reach (R90). -/
def runNodes (s : State) (node : Nat) : List Nat :=
  (if node = 0 then s.servedPos else [node]).filter
    (fun p => decide (p ≤ s.len) && decide (2 ≤ s.cells p) && !s.cutOff p && !s.ring.excluded.contains p)

theorem owStart_begins {k n : Nat} (hr : s.flag F.ACQ_STAT_OWRUN = false) (hd : s.ring.startDue = false) (ho : s.ringOn = true) :
    RunBegun k (runNodes s n) s (s.owStart k n) := by
  obtain ⟨cs, hcs, he⟩ := foldl_queues (Q := fun p c => c.pos = p ∧ c.cmd = 6)
    (fun a p => by
      obtain ⟨c, ⟨hpos, hcmd, -⟩, h⟩ := ringCmd_queues a p 6
        (leBytes 2 (innerMask (a.cells p)) ++ leBytes 1 (a.get F.ACQ_OW_CFG_DV) ++ leBytes 1 (a.get F.ACQ_OW_CFG_REPS)) 1 3 false
      exact ⟨c, ⟨hpos, hcmd⟩, h⟩) (runNodes s n) s
  unfold State.owStart
  rw [if_neg (by simp [hr, hd, ho])]
  exact {
    run := beq_iff_eq.2 (get_set_same _ F.ACQ_STAT_OWRUN _ (show 2 + 1 ≤ 32 by decide))
    kind := rfl
    nodes := rfl
    held := (congrArg (fun r : State => r.acq.owHeld) he).trans rfl
    at_ := rfl
    pend := (congrArg (fun r : State => r.evr.pend) he).trans rfl
    cmds := ⟨cs, hcs, (congrArg (fun r : State => r.ring.cmds) he).trans rfl⟩ }

theorem runNodes_one {n : Nat} (h1 : 1 ≤ n) (hn : n ≤ s.len) (hc : 2 ≤ s.cells n) (ho : s.cutOff n = false)
    (hx : s.ring.excluded.contains n = false) : runNodes s n = [n] := by
  unfold runNodes
  rw [if_neg (by omega)]
  simpa [hn, hc, ho] using hx

/-- The word that START for a node writes. -/
def owWord (s : State) (node : Nat) : Word := F.ACQ_OW_CFG_START.into (F.ACQ_OW_CFG_NODE.into (s.word 0x40028) node) 1

/-- A write of START stores NODE and starts a run of it. -/
theorem writeDo_start {n : Nat} (h : n < 64) :
    s.writeDo 0x40028 (owWord s n).toNat = (regPut s 0x40028 0x3f7ffff (owWord s n).toNat).owStart 2 n := by
  have hw : writable 0x40028 =
      some ⟨0x40028, 4, 1, 0x21418, 0x3f7ffff, 0, 0, 0x80000, 0, [⟨8, 8, 5, 100⟩, ⟨16, 3, 1, 4⟩, ⟨20, 6, 0, 40⟩]⟩ := by decide
  have hstart : (owWord s n).toNat.testBit 19 = true := (into_getLsbD F.ACQ_OW_CFG_START _ 1 19 (by decide)).trans rfl
  have hnode : (regPut s 0x40028 0x3f7ffff (owWord s n).toNat).get F.ACQ_OW_CFG_NODE = n := by
    refine (regPut_get s (f := F.ACQ_OW_CFG_NODE) rfl (show 20 + 6 ≤ 32 by decide) (by decide) _).trans ?_
    refine (of_into_other F.ACQ_OW_CFG_START F.ACQ_OW_CFG_NODE _ _ (show 20 + 6 ≤ 32 by decide) (by decide)).trans ?_
    exact (of_into_same F.ACQ_OW_CFG_NODE _ _ (show 20 + 6 ≤ 32 by decide)).trans (Nat.mod_eq_of_lt h)
  have hdo : s.writeDo 0x40028 (owWord s n).toNat =
      (regPut s 0x40028 0x3f7ffff (owWord s n).toNat).strobeBits 0x40028 (owWord s n).toNat := by
    unfold State.writeDo
    rw [hw]
    rfl
  rw [hdo]
  unfold State.strobeBits
  rw [if_neg (by decide), if_pos rfl, if_pos hstart, hnode]

/-! ### The end of a run (R93, R94) -/

/-- The registers that verdicts change: the wires' and the events'. -/
def wireReg (y : Nat) : Bool := y == 0x20004 || decide (0x40200 ≤ y)

section
variable (p : Nat) (r : List Byte)

theorem owVerdict_acq : (s.owVerdict p r).acq = s.acq := foldl_leaves State.acq _ (fun _ _ => raise_acq ..) _ _

theorem owVerdict_ring : (s.owVerdict p r).ring = s.ring := foldl_leaves State.ring _ (fun _ _ => raise_ring ..) _ _

theorem owVerdict_rst : (s.owVerdict p r).rst = s.rst := foldl_leaves State.rst _ (fun _ _ => raise_rst ..) _ _

theorem owVerdict_word_other {y : Nat} (hy : wireReg y = false) : (s.owVerdict p r).word y = s.word y := by
  have hw : wireReg (0x40200 + 4 * (p - 1)) = true := by simp [wireReg]
  have he : ∀ (a : State) (n : Nat) (d : List Byte), (a.raise n d).word y = a.word y := fun a n d =>
    ((Stands.refl wireReg a).raise n d rfl).word _ hy
  exact (foldl_leaves (fun s => s.word y) _ (fun a g => he a _ _) _ _).trans
    (word_putWord_other _ _ _ _ fun e => by rw [e, hy] at hw; exact absurd hw (by decide))

end

/-- Where the segment agrees, a periodic run adds the wires that the record tells. -/
theorem owVerdict_word {p : Nat} {r : List Byte} (hk : s.acq.owKind = 1) (h : s.segAgrees p r = true) :
    (s.owVerdict p r).word (0x40200 + 4 * (p - 1)) =
      BitVec.ofNat 32 ((s.word (0x40200 + 4 * (p - 1))).toNat ||| (uAt r 6 2 &&& innerMask (s.cells p))) := by
  have hne : 0x20004 ≠ 0x40200 + 4 * (p - 1) := by omega
  have hraise : ∀ (a : State) (n : Nat) (d : List Byte), (a.raise n d).word (0x40200 + 4 * (p - 1)) = a.word (0x40200 + 4 * (p - 1)) :=
    fun a n d => (((Stands.refl (fun y => y == 0x20004) a).raise n d rfl).word _ (beq_eq_false_iff_ne.2 hne.symm))
  unfold State.owVerdict
  dsimp only
  rw [foldl_leaves (fun s => s.word (0x40200 + 4 * (p - 1))) _ (fun a g => hraise a _ _), word_putWord_same, if_neg (by rw [hk]; decide), if_pos h]

/-- The nodes whose test has ended, with their result records. -/
def resultsIn (s : State) : List (Nat × List Byte) :=
  s.acq.owNodes.filterMap (fun p => (s.tile? p).bind (fun r =>
    if !(uAt r.bytes 2 2).testBit 4 && (assoc? p s.acq.owIdx).isSome && decide (p ≤ 40) then some (p, r.bytes) else none))

/-- `s` with the wires judged by the records of the run's nodes. -/
def judged (s : State) : State := (resultsIn s).foldl (fun (a : State) x => a.owVerdict x.1 x.2) s

theorem judged_acq : (judged s).acq = s.acq :=
  foldl_leaves State.acq (fun (a : State) (x : Nat × List Byte) => a.owVerdict x.1 x.2) (fun a _ => owVerdict_acq a _ _) _ _

theorem judged_ring : (judged s).ring = s.ring :=
  foldl_leaves State.ring (fun (a : State) (x : Nat × List Byte) => a.owVerdict x.1 x.2) (fun a _ => owVerdict_ring a _ _) _ _

theorem judged_rst : (judged s).rst = s.rst :=
  foldl_leaves State.rst (fun (a : State) (x : Nat × List Byte) => a.owVerdict x.1 x.2) (fun a _ => owVerdict_rst a _ _) _ _

theorem judged_word_other {y : Nat} (hy : wireReg y = false) : (judged s).word y = s.word y :=
  foldl_leaves (fun s => s.word y) (fun (a : State) (x : Nat × List Byte) => a.owVerdict x.1 x.2)
    (fun a _ => owVerdict_word_other a _ _ hy) _ _

/-- ACQ_STAT at the end of a run. -/
def runOff (b : State) (susp : Bool) : State :=
  ((b.setB F.ACQ_STAT_OWRUN false).setB F.ACQ_STAT_WSUSP susp).setB F.ACQ_STAT_OWDONE true

/-- The state between the end of a run and the start of the next. -/
def ended (s b : State) : State :=
  let c := runOff b (b.positions.any (fun p => (b.word (0x40200 + 4 * (p - 1))).toNat != 0))
  { c with acq := { c.acq with owNodes := [], owBase := [], owIdx := [], owDev := [], owScans := 0 } }.raise 19 [BitVec.ofNat 8 s.acq.owKind]

theorem owEnd_eq : s.owEnd = (ended s (judged s)).owNext := by
  rw [State.owEnd, ended, runOff, judged, resultsIn]

theorem raise_word_other (n : Nat) (d : List Byte) {y : Nat} (hy : y ≠ 0x20004) : (s.raise n d).word y = s.word y :=
  ((Stands.refl (fun y => y == 0x20004) s).raise n d rfl).word y (beq_eq_false_iff_ne.2 hy)

theorem runOff_word_other (b : State) (x : Bool) {y : Nat} (hy : y ≠ 0x40014) : (runOff b x).word y = b.word y := by
  have h : ∀ (a : State) (f : Fld) (v : Bool), f.addr = 0x40014 → (a.setB f v).word y = a.word y := fun a f v hf =>
    word_set_other a f (b2n v) y (hf ▸ hy.symm)
  unfold runOff
  rw [h _ _ _ rfl, h _ _ _ rfl, h _ _ _ rfl]

theorem ended_word (b : State) {y : Nat} (hy : y ≠ 0x20004) : (ended s b).word y =
    (runOff b (b.positions.any (fun p => (b.word (0x40200 + 4 * (p - 1))).toNat != 0))).word y := by
  unfold ended
  exact raise_word_other _ _ _ hy

theorem ended_word_other (b : State) {y : Nat} (h1 : y ≠ 0x20004) (h2 : y ≠ 0x40014) : (ended s b).word y = b.word y :=
  (ended_word s b h1).trans (runOff_word_other b _ h2)

theorem runOff_acq (b : State) (x : Bool) : (runOff b x).acq = b.acq := rfl

theorem runOff_shows (b : State) (x : Bool) : (runOff b x).flag F.ACQ_STAT_OWRUN = false ∧ (runOff b x).flag F.ACQ_STAT_OWDONE = true := by
  unfold runOff State.flag
  simp (disch := decide) only [get_field, setB_field, field_same, field_other]
  exact ⟨rfl, rfl⟩

/-- `b` is `s` with its run over and its wires judged, before a START that was held begins. -/
structure RunOver (s b : State) : Prop where
  acq : b.acq = { s.acq with owNodes := [], owBase := [], owIdx := [], owDev := [], owScans := 0 }
  ring : b.ring = s.ring
  on : b.ringOn = s.ringOn
  run : b.flag F.ACQ_STAT_OWRUN = false
  done : b.flag F.ACQ_STAT_OWDONE = true
  pend : 19 ∈ b.evr.pend
  wires : ∀ y, 0x40200 ≤ y → b.word y = (judged s).word y

theorem ended_over : RunOver s (ended s (judged s)) where
  acq := (raise_acq ..).trans (by
    dsimp only
    rw [runOff_acq, judged_acq])
  ring := (raise_ring ..).trans (judged_ring s)
  on := ringOn_congr ((raise_rst ..).trans (judged_rst s))
    ((ended_word_other s _ (by decide) (by decide)).trans (judged_word_other s (by decide)))
    ((ended_word_other s _ (by decide) (by decide)).trans (judged_word_other s (by decide)))
  run := by
    unfold State.flag State.get
    rw [ended_word _ _ (by decide)]
    exact (runOff_shows _ _).1
  done := by
    unfold State.flag State.get
    rw [ended_word _ _ (by decide)]
    exact (runOff_shows _ _).2
  pend := raise_mem _ _ _
  wires := fun y hy => ended_word_other s _ (by omega) (by omega)

section
variable {s}
variable {b : State} (h : RunOver s b)
include h

/-- Without a START that was held nothing follows the end of a run. -/
theorem RunOver.next_none (hh : s.acq.owHeld = []) : b.owNext = b := by
  have hb : b.acq.owHeld = [] := by rw [h.acq]; exact hh
  unfold State.owNext
  rw [hb]

/-- The oldest START that was held begins its run. -/
theorem RunOver.next_held {n : Nat} {more : List Nat} (hh : s.acq.owHeld = n :: more) (hd : s.ring.startDue = false) (ho : s.ringOn = true) :
    b.owNext.flag F.ACQ_STAT_OWRUN = true ∧ b.owNext.acq.owKind = 2 ∧ b.owNext.acq.owHeld = more ∧ 19 ∈ b.owNext.evr.pend := by
  have hb : b.acq.owHeld = n :: more := by rw [h.acq]; exact hh
  have hbegun := owStart_begins { b with acq := { b.acq with owHeld := more } } (k := 2) (n := n) h.run (by rw [← hd, ← h.ring])
    ((ringOn_congr rfl rfl rfl).trans (h.on.trans ho))
  unfold State.owNext
  rw [hb]
  simp only [h.run, Bool.false_eq_true, if_false]
  exact ⟨hbegun.run, hbegun.kind, hbegun.held, by rw [hbegun.pend]; exact h.pend⟩

end

/-- A node whose record shows its test holds the run. -/
theorem owOver_shows {p : Nat} {r : TileRec} (hi : (assoc? p s.acq.owIdx).isSome = true) (ht : s.tile? p = some r)
    (hb : (uAt r.bytes 2 2).testBit 4 = true) : s.owOver p = false := by
  unfold State.owOver
  rw [ht, Option.isNone_eq_false_iff.2 hi]
  simp [hb]

theorem owOver_result {p : Nat} {r : TileRec} (ht : s.tile? p = some r) (hb : (uAt r.bytes 2 2).testBit 4 = false) : s.owOver p = true := by
  unfold State.owOver
  rw [ht]
  simp [hb]

end

end Sys2Proof.Machine.Laws

namespace Sys2Proof.Proofs

open Sys2Proof.Machine Sys2Proof.Machine.Laws Sys2Proof.Safety

/-- Settles O7: plans and runs queue one frame for each position; a write of SRC ends the plan where SRC changes, one of START starts or
holds a run; the end of a run judges its wires before a held START begins. -/
theorem balancingPlansAndOpenWireRunsAct : Obligations.BalancingPlansAndOpenWireRunsAct := by
  unfold Obligations.BalancingPlansAndOpenWireRunsAct
  rintro s _ t rfl hs
  refine ⟨fun hscan hsrc hen hdue => ?plan, fun src en hsrc herr => ?source, fun node hn herr => ⟨fun hb => ?held,
      fun hr hd ho h1 hl hc hcut hx => ?start⟩, fun hscan hp hdue hr hd => ?periodic, fun hr hscans => ⟨fun p r hp hi ht hb => ?shows,
      fun hover hh => ?ends, fun n more hover hh hd ho => ?next, fun p r hh hp h1 h40 ht hb hi hk hseg => ?wires⟩⟩
  case plan =>
    refine answers_of_guard rfl (by simp [hs, hscan, hsrc, hen, hdue]) rfl ?_
    rw [command_acq, command_ring]
    exact policyPlan_sends _
  case source =>
    obtain ⟨hgs, hge, hz⟩ := writeDo_source (s.upto t) en hsrc
    refine answers_of_guard rfl (by simp [hs, hsrc]) (accessWrite_ok herr) ?_
    rw [command_get, command_flag, command_acq, command_ring]
    refine ⟨hgs, hge, fun hon hne => ?_⟩
    obtain ⟨-, hre, hsend⟩ := balanceZero_ends (regPut (s.upto t) 0x40020 0x1ffff03 (balWord (s.upto t) src en).toNat)
    have hon' := (regPut_ringOn (s.upto t) 0x1ffff03 (balWord (s.upto t) src en).toNat (x := 0x40020) (by decide)).trans hon
    obtain ⟨l, hcmds, hpos, hall⟩ := hsend hon'
    rw [emit_acq, emit_ring, show (s.upto t).writeDo _ (F.ACQ_BAL_CFG_ENABLE.into _ _).toNat = _ from hz hne]
    refine ⟨hre, l, hcmds, hpos.trans ?_, hall⟩
    unfold State.positions State.len
    rw [regPut_get_other _ _ _ (by decide)]
  case held =>
    have hb' : ∀ r, r = regPut (s.upto t) 0x40028 0x3f7ffff (owWord (s.upto t) node).toNat →
        r.flag F.ACQ_STAT_OWRUN = true ∨ r.ring.startDue = true ∨ r.ringOn = false := by
      rintro _ rfl
      unfold State.flag
      rw [regPut_get_other _ _ _ (by decide), regPut_ringOn _ _ _ (by decide)]
      exact hb
    refine answers_of_guard rfl (by simp [hs, hn]) (accessWrite_ok herr) ?_
    rw [command_acq, command_ring, emit_acq, emit_ring, show (s.upto t).writeDo _ (F.ACQ_OW_CFG_START.into _ _).toNat = _ from writeDo_start _ hn]
    exact owStart_holds _ (hb' _ rfl)
  case start =>
    generalize hq : regPut (s.upto t) 0x40028 0x3f7ffff (owWord (s.upto t) node).toNat = q
    have hget : ∀ f : Fld, 0x40028 ≠ f.addr → q.get f = (s.upto t).get f := by
      rw [← hq]
      exact fun f hf => regPut_get_other _ _ _ hf
    have hring : q.ring = (s.upto t).ring := by rw [← hq]; rfl
    have hlen : q.len = (s.upto t).len := hget _ (by decide)
    have hcells : q.cells node = (s.upto t).cells node := hget _ (by show 0x40028 ≠ 0x40100 + 4 * (node - 1); omega)
    have hreach : q.cutOff node = (s.upto t).cutOff node := by
      unfold State.cutOff State.eReach State.wReach
      rw [hlen, hring, hget _ (by decide), hget _ (by decide)]
    have hbegun := owStart_begins q (k := 2) (n := node) (by unfold State.flag; rw [hget _ (by decide)]; exact hr) (by rw [hring]; exact hd)
      (by rw [← hq]; exact (regPut_ringOn _ _ _ (by decide)).trans ho)
    rw [runNodes_one q h1 (by rw [hlen]; exact hl) (by rw [hcells]; exact hc) (by rw [hreach]; exact hcut) (by rw [hring]; exact hx)]
      at hbegun
    obtain ⟨_, hcs, hcmds⟩ := hbegun.cmds
    obtain ⟨c, _, ⟨hpos, hcmd⟩, hnil, rfl⟩ := List.forall₂_cons_left_iff.1 hcs
    obtain rfl := List.forall₂_nil_left_iff.1 hnil
    refine answers_of_guard rfl (by simp [hs, hn]) (accessWrite_ok herr) ?_
    rw [command_flag, command_acq, command_ring, emit_acq, emit_ring, flag_field, emit_regs,
      show (s.upto t).writeDo _ (F.ACQ_OW_CFG_START.into _ _).toNat = _ from writeDo_start _ hn, hq, ← hring]
    exact ⟨hbegun.run, hbegun.kind, hbegun.nodes, c, hcmds, hcmd, hpos⟩
  case periodic =>
    obtain ⟨hon, -⟩ : (s.upto t).ringOn = true ∧ _ := by unfold State.scanning at hscan; simpa using hscan
    have hb := owStart_begins (s.upto t) (k := 1) (n := 0) hr hd hon
    refine answers_of_guard rfl (by simp [hs, hscan, hp, hdue]) rfl ?_
    rw [command_flag, command_acq]
    exact ⟨hb.run, hb.kind, hb.at_⟩
  case shows =>
    have hno : (s.upto t).acq.owNodes.all (s.upto t).owOver = false :=
      List.all_eq_false.2 ⟨p, hp, by rw [owOver_shows _ hi ht hb]; decide⟩
    refine answers_of_guard_fails rfl (by simp [hno]) ?_
    rw [command_flag, command_acq]
    exact ⟨hr, rfl⟩
  case ends =>
    have hb := ended_over (s.upto t)
    refine answers_of_guard rfl (by simp [hs, hr, hscans, hover]) ((owEnd_eq _).trans (hb.next_none hh)) ?_
    rw [command_flag, command_flag, command_acq, command_evr_pend]
    exact ⟨hb.run, hb.done, by rw [hb.acq], hb.pend⟩
  case next =>
    have hb := ended_over (s.upto t)
    refine answers_of_guard rfl (by simp [hs, hr, hscans, hover]) (owEnd_eq _) ?_
    rw [command_flag, command_acq, command_evr_pend]
    exact hb.next_held hh hd ho
  case wires =>
    have hb' := ended_over (s.upto t)
    have hover : (s.upto t).acq.owNodes.all (s.upto t).owOver = true := by rw [hp]; simp [owOver_result _ ht hb]
    have hin : resultsIn (s.upto t) = [(p, r.bytes)] := by
      unfold resultsIn
      rw [hp]
      simp [ht, hb, hi, h40]
    refine answers_of_guard rfl (by simp [hs, hr, hscans, hover]) ((owEnd_eq _).trans (hb'.next_none hh)) ?_
    rw [command_word, hb'.wires _ (by omega), judged, hin]
    exact owVerdict_word _ hk hseg

end Sys2Proof.Proofs
end

section
/-! Configuration items: what a write stages, a read gives and a commit stores, and what its values set going (O10). -/

namespace Sys2Proof.Machine.Laws

open Sys2Proof.Safety

/-! ## The result of a served request, part by part -/

/-- `s'` is `b` with a reply given: of the registers the counters of a full queue alone move, and the parts named here stay. -/
structure Given (r : Req) (op st j : Nat) (p : List Byte) (b s' : State) : Prop where
  replied : Replied s' r op st j p
  word : ∀ y, replyReg y = false → s'.word y = b.word y
  cfg : s'.cfg = b.cfg
  flash : s'.flash = b.flash
  ctl : s'.ctl = b.ctl
  ring : s'.ring = b.ring
  acq : s'.acq = b.acq

theorem Given.get {r : Req} {op st j : Nat} {p : List Byte} {b s' : State} (h : Given r op st j p b s') {f : Fld}
    (hf : replyReg f.addr = false) : s'.get f = b.get f := by
  unfold State.get
  rw [h.word _ hf]

/-- A served request whose body answers at once. -/
theorem answers_given {c : Instr} {s s1 : State} {t op st j : Nat} {r : Req} {fmt : Fmt} {body : ReqId → State → State × HRes}
    {p : List Byte} {P : State → Prop} (hc : exec c s = .next (s.hostCommand t op r fmt body)) (h : serves (s.upto t) op r fmt = true)
    (hb : body (reqId r op false) (taken (s.upto t) r) = (s1, .reply st j p)) (hs : HasPlace r.session r.seq s1)
    (hP : ∀ s', Given r op st j p s1 s' → P s') : Answers c s P := by
  have ha := serves_auth h
  refine ⟨_, hc, ?_⟩
  rw [hostCommand_served _ _ _ _ _ _ h, hb]
  refine hP _ ⟨?_, fun y hy => ?_, ?_, ?_, ?_, ?_, ?_⟩
  · have hr := giveRes_replied s1 r op st j p ha (serves_target h) hs.1 hs.2
    unfold Replied State.session at hr ⊢
    rw [command_host]
    exact hr
  · rw [command_word]
    exact giveRes_word _ _ _ _ ha (serves_session h) hy
  · exact (command_cfg ..).trans (giveRes_cfg _ _ _ _ ha)
  · exact (command_flash ..).trans (giveRes_flash _ _ _ _ ha)
  · exact (command_ctl ..).trans (giveRes_ctl _ _ _ _ ha)
  · exact (command_ring ..).trans (giveRes_ring _ _ _ _ ha)
  · exact (command_acq ..).trans (giveRes_acq _ _ _ _ ha)

/-! ## CFG_WRITE (R301) -/

/-- The staged set with one item more. -/
def stagedCfg (c : CfgSt) (x : CfgItem) : CfgSt :=
  if x.isKey then { c with keys := assocPut (x.id - 0xFF000000) x.data c.keys }
  else { c with staged := assocPut x.id (BitVec.ofNat 32 (ofLe x.data &&& cfgMask x.id)) c.staged }

/-- What stages items changes the staged set alone. -/
theorem stage_eq (s : State) (l : List CfgItem) : s.stage l = { s with cfg := l.foldl stagedCfg s.cfg } := by
  unfold State.stage
  induction l generalizing s with
  | nil => rfl
  | cons x t ih =>
    rw [List.foldl_cons, List.foldl_cons, ih]
    unfold stagedCfg
    split <;> rfl

theorem isKey_id {x : CfgItem} (h : x.isKey = true) : 0xFF000000 ≤ x.id := by
  unfold CfgItem.isKey at h
  simp only [Bool.and_eq_true, decide_eq_true_eq] at h
  exact h.1

section
variable (c : CfgSt)

theorem foldl_staged_other {l : List CfgItem} {k : Nat} (h : ∀ x ∈ l, x.id ≠ k) : assoc? k (l.foldl stagedCfg c).staged = assoc? k c.staged := by
  induction l generalizing c with
  | nil => rfl
  | cons x t ih =>
    obtain ⟨hx, ht⟩ := List.forall_mem_cons.1 h
    rw [List.foldl_cons, ih _ ht]
    unfold stagedCfg
    split
    · rfl
    · exact assoc_put_other _ _ _ _ hx

theorem foldl_keys_other {l : List CfgItem} {k : Nat} (hk : 0xFF000000 ≤ k) (h : ∀ x ∈ l, x.id ≠ k) :
    assoc? (k - 0xFF000000) (l.foldl stagedCfg c).keys = assoc? (k - 0xFF000000) c.keys := by
  induction l generalizing c with
  | nil => rfl
  | cons x t ih =>
    obtain ⟨hx, ht⟩ := List.forall_mem_cons.1 h
    rw [List.foldl_cons, ih _ ht]
    unfold stagedCfg
    split
    next hkey =>
      have := isKey_id hkey
      exact assoc_put_other _ _ _ _ (by omega)
    · rfl

/-- Each item of a payload that names no item twice is staged with its value. -/
theorem foldl_stages {l : List CfgItem} (hn : (l.map (·.id)).Nodup) {x : CfgItem} (hx : x ∈ l) :
    (x.isKey = false → assoc? x.id (l.foldl stagedCfg c).staged = some (BitVec.ofNat 32 (ofLe x.data &&& cfgMask x.id))) ∧
    (x.isKey = true → assoc? (x.id - 0xFF000000) (l.foldl stagedCfg c).keys = some x.data) := by
  induction l generalizing c with
  | nil => cases hx
  | cons y t ih =>
    rw [List.map_cons, List.nodup_cons] at hn
    obtain ⟨hy, ht⟩ := hn
    rw [List.foldl_cons]
    rcases List.mem_cons.1 hx with rfl | hmem
    · have hother : ∀ z ∈ t, z.id ≠ x.id := fun z hz e => hy (e ▸ List.mem_map_of_mem hz)
      refine ⟨fun hk => ?_, fun hk => ?_⟩
      · rw [foldl_staged_other _ hother, stagedCfg, if_neg (by rw [hk]; decide)]
        exact assoc_put_same _ _ _
      · rw [foldl_keys_other _ (isKey_id hk) hother, stagedCfg, if_pos hk]
        exact assoc_put_same _ _ _
    · exact ih _ ht hmem

end

/-! ## CFG_READ (R302) -/

/-- The items that fit are the first of the list, and they take no more than the room. -/
theorem fitting_prefix (room : Nat) (l : List (List Byte)) : fitting room l <+: l ∧ (fitting room l).flatten.length ≤ room := by
  induction l generalizing room with
  | nil => simp [fitting]
  | cons x t ih =>
    unfold fitting
    split
    · simp
    next h =>
      obtain ⟨hp, hl⟩ := ih (room - x.length)
      refine ⟨List.cons_prefix_cons.2 ⟨rfl, hp⟩, ?_⟩
      rw [List.flatten_cons, List.length_append]
      omega

theorem taken_cfgOut (a : State) (r : Req) : (taken a r).cfgOut = a.cfgOut := by unfold State.cfgOut; rw [taken_til]

theorem taken_committedItems (a : State) (r : Req) : (taken a r).committedItems = a.committedItems := by
  unfold State.committedItems; rw [taken_flash]

theorem taken_stagedItems (a : State) (r : Req) : (taken a r).stagedItems = a.stagedItems := by
  unfold State.stagedItems; rw [taken_cfg]

theorem taken_mergedBad (a : State) (r : Req) : (taken a r).mergedBad = a.mergedBad := by
  rcases taken_split a r with h | ⟨l, h⟩ <;> rw [h] <;> rfl

theorem taken_mergedRefused (a : State) (r : Req) : (taken a r).mergedRefused = a.mergedRefused := by
  rcases taken_split a r with h | ⟨l, h⟩ <;> rw [h] <;> rfl

/-! ## What a write brings leaves what is stored and staged -/

/-- The flash and the staged set. -/
def stored (s : State) : Flash × CfgSt := (s.flash, s.cfg)

section
variable (s : State)

@[simp] theorem set_stored (f : Fld) (x : Nat) : stored (s.set f x) = stored s := rfl

@[simp] theorem setB_stored (f : Fld) (b : Bool) : stored (s.setB f b) = stored s := rfl

@[simp] theorem raise_stored (n : Nat) (d : List Byte) : stored (s.raise n d) = stored s :=
  Prod.ext (raise_flash s n d) (raise_cfg s n d)

@[simp] theorem qLost_stored (n : Nat) : stored (s.qLost n) = stored s := Prod.ext (count_flash ..) (count_cfg ..)

theorem queueReply_stored (n : Nat) (via : Via) (src : Nat) (p : Pkt) : stored (s.queueReply n via src p) = stored s :=
  Prod.ext (queueReply_flash ..) (queueReply_cfg ..)

theorem sendFree_stored (via : Via) (src : Nat) (p : Pkt) : stored (s.sendFree via src p) = stored s := by cases via <;> rfl

/-- A reply leaves what no queue of replies and no message that leaves touches. -/
theorem answer_leaves {β : Type} (g : State → β) (hq : ∀ s n via src p, g (State.queueReply s n via src p) = g s)
    (hf : ∀ s via src p, g (State.sendFree s via src p) = g s) (hh : ∀ (s : State) h, g { s with host := h } = g s)
    (id : ReqId) (st j : Nat) (p : List Byte) : g (s.answer id st j p) = g s := by
  unfold State.answer
  dsimp only
  split
  · exact (hh _ _).trans (foldl_leaves g State.toSpi (fun s p => hf s .spi 0 p) _ _)
  · split
    · have h := foldl_leaves g (fun (a : State) p => a.queueReply id.session id.via id.src p) (fun a p => hq a ..) (s.replyPkts id st j p) s
      split
      · exact h
      · exact (hh _ _).trans h
    · exact foldl_leaves g (fun (a : State) p => a.sendFree id.via id.src p) (fun a p => hf a ..) _ _

theorem answer_stored (id : ReqId) (st j : Nat) (p : List Byte) : stored (s.answer id st j p) = stored s :=
  answer_leaves s stored queueReply_stored sendFree_stored (fun _ _ => rfl) id st j p

@[simp] theorem balanceReply_stored : stored s.balanceReply = stored s := by
  unfold State.balanceReply
  split
  · rfl
  · dsimp only
    split
    · exact answer_stored ..
    · rfl

@[simp] theorem cmdsLost_stored : stored s.cmdsLost = stored s := by
  unfold State.cmdsLost
  dsimp only
  split
  · rfl
  · exact balanceReply_stored _

@[simp] theorem entry_stored (i : Nat) (d c : Int) : stored (s.entry i d c) = stored s := by
  unfold State.entry State.entryPut
  dsimp only
  split_ifs <;> rfl

@[simp] theorem integrity_stored : stored s.integrity = stored s := by
  unfold State.integrity
  split_ifs <;> exact entry_stored ..

@[simp] theorem reach_stored : stored s.reach = stored s := integrity_stored _

@[simp] theorem setSegMis_stored (p : Nat) (b : Bool) : stored (s.setSegMis p b) = stored s := integrity_stored _

@[simp] theorem lenHook_stored (old : Nat) : stored (s.lenHook old) = stored s := by
  have hf := foldl_leaves stored (fun (a : State) i => a.setSegMis (i + 1) false) (fun a i => setSegMis_stored a (i + 1) false)
    ((List.range 40).filter (fun i => decide (s.len < i + 1) && s.segMis (i + 1))) s
  unfold State.lenHook
  dsimp only
  generalize List.foldl _ s _ = s1 at hf ⊢
  split_ifs
  · rfl
  · rw [reach_stored, set_stored, cmdsLost_stored]
    exact hf
  · rw [reach_stored]
    exact hf

@[simp] theorem acqBroadcast_stored : stored s.acqBroadcast = stored s := by
  unfold State.acqBroadcast State.ringBroadcast
  dsimp only
  split_ifs <;> rfl

@[simp] theorem balanceZero_stored : stored s.balanceZero = stored s := by
  unfold State.balanceZero
  dsimp only
  split
  · exact foldl_leaves stored _ (fun _ _ => by rfl) _ _
  · rfl

@[simp] theorem forceHook_stored : stored s.forceHook = stored s := by
  unfold State.forceHook
  dsimp only
  split
  · rfl
  · exact integrity_stored _

@[simp] theorem insFollow_stored : stored s.insFollow = stored s := by
  unfold State.insFollow State.legSwitch State.insPause
  split_ifs <;> rfl

@[simp] theorem timState_stored (c : Nat) : stored (s.timState c) = stored s := by
  unfold State.timState
  split
  · rfl
  · rw [raise_stored]; rfl

@[simp] theorem selectMaster_stored : stored s.selectMaster = stored s := by
  unfold State.selectMaster
  split
  · rfl
  · simp only [apply_ite stored, timState_stored, ite_self]
    rfl

@[simp] theorem timCfgHook_stored (old : Word) : stored (s.timCfgHook old) = stored s := by
  unfold State.timCfgHook
  dsimp only
  split_ifs
  · exact timState_stored _ _
  · exact (timState_stored _ _).trans (selectMaster_stored _)
  · exact selectMaster_stored _
  · rfl

@[simp] theorem canLog_stored (c a : Nat) : stored (s.canLog c a) = stored s := by
  unfold State.canLog
  dsimp only
  split_ifs
  · rfl
  · exact qLost_stored s 39

theorem candApply_stored (i : Nat) : stored (s.candApply i) = stored s := rfl

@[simp] theorem canRestart_stored : stored s.canRestart = stored s := by
  unfold State.canRestart
  dsimp only
  split
  · rw [candApply_stored, set_stored, canLog_stored, set_stored, setB_stored, setB_stored, setB_stored, set_stored, set_stored]
    rfl
  · rw [set_stored, canLog_stored, set_stored, setB_stored, setB_stored, setB_stored, set_stored, set_stored]
    rfl

theorem writeHook_stored (a : Nat) (old : Word) : stored (s.writeHook a old) = stored s := by
  have hcan : ∀ c : CanSt, stored ({ s with can := c } : State).canRestart = stored s := fun c => canRestart_stored _
  have hiic : stored s.iicStop = stored s := rfl
  have hevr : ∀ e : EvrSt, stored { s with evr := e } = stored s := fun _ => rfl
  have hthm : ∀ e : ThmSt, stored { s with thm := e } = stored s := fun _ => rfl
  unfold State.writeHook State.hostLimHook
  simp only [apply_ite stored, acqBroadcast_stored, lenHook_stored, balanceZero_stored, forceHook_stored, insFollow_stored, entry_stored,
    timCfgHook_stored, hcan, hiic, hevr, hthm, ite_self]

end

/-! ## CFG_COMMIT (R302) -/

section
variable (s : State)

theorem cfgApply_stored (x : Nat × Word) : stored (s.cfgApply x) = stored s := by
  unfold State.cfgApply
  dsimp only
  split
  · rfl
  · exact writeHook_stored (s.putWord x.1 _) _ _

theorem mapPut_stored (m : List Nat) : stored (s.mapPut m) = stored s := rfl

theorem provFollow_stored : stored s.provFollow = stored s := by
  unfold State.provFollow
  split <;> rfl

/-- A write that an item brings to a plain register sets nothing going. -/
theorem writeHook_plain {x : Nat} {d : RegDef} (h : plainReg x d) (old : Word) : s.writeHook x old = s := by
  obtain ⟨-, -, -, -, hx, hev⟩ := h
  simp only [List.mem_cons, List.not_mem_nil, or_false, not_or] at hx
  obtain ⟨h0, h1, h2, -, h4, h5, -, h7, h8, h9, -, h11, h12, h13, h14, -, -, h17⟩ := hx
  unfold State.writeHook
  simp only [h0, h1, h2, h4, h5, h7, h8, h9, h11, h12, h13, h14, h17, hev, or_self, if_false]

theorem cfgApply_word {x : Nat} {v : Word} {d : RegDef} (h : plainReg x d) : (s.cfgApply (x, v)).word x = s.cfgWord x v := by
  unfold State.cfgApply
  dsimp only
  split
  next he => exact he.symm
  · rw [writeHook_plain _ h, word_putWord_same]

theorem provFollow_word {y : Nat} (h : F.GLB_SESS_PROV.addr ≠ y) : s.provFollow.word y = s.word y := by
  unfold State.provFollow
  split
  · exact word_set_other s F.GLB_SESS_PROV _ y h
  · exact word_set_other s F.GLB_SESS_PROV _ y h

section
variable {s} {n q : Nat} (h : HasPlace n q s)
include h

theorem HasPlace.cfgApply (x : Nat × Word) : HasPlace n q (s.cfgApply x) := by
  unfold State.cfgApply
  dsimp only
  split
  · exact h
  · exact HasPlace.writeHook (s := s.putWord x.1 _) (h.of_host rfl) _ _

theorem HasPlace.provFollow : HasPlace n q s.provFollow := by
  unfold State.provFollow
  split
  · obtain ⟨hl, hc⟩ := h
    refine ⟨by simpa using hl, ?_⟩
    unfold State.session nth at hc ⊢
    dsimp only
    rw [List.getElem?_map, List.getElem?_eq_getElem hl]
    rw [List.getElem?_eq_getElem hl] at hc
    exact hc
  · exact h.of_host rfl

end

/-- What a commit stores, before any value of it comes into use. -/
def committed (s : State) (id : ReqId) : State :=
  { s with
    flash := { s.flash with items := s.mergedItems, keys := s.mergedKeys, tables := s.mergedTables,
                            coefs := mergeItems s.flash.coefs s.cfg.coefs, bayMap := s.cfg.bayMap.getD s.flash.bayMap }.cfgWritten,
    host := { s.host with closing := s.host.closing ++ s.keySessions.map (fun n => (n, id)) },
    cfg := { asmT := s.cfg.asmT, asmC := s.cfg.asmC } }

/-- The values of a commit come into use. -/
def applied (s : State) (id : ReqId) : State := s.mergedItems.foldl State.cfgApply (committed s id)

theorem commit_eq (id : ReqId) : s.commit id =
    (match s.cfg.bayMap with | some m => (applied s id).mapPut m | none => applied s id).provFollow := rfl

theorem commit_stored (id : ReqId) : stored (s.commit id) = stored (committed s id) := by
  have ha : stored (applied s id) = stored (committed s id) := foldl_leaves stored State.cfgApply cfgApply_stored _ _
  rw [commit_eq, provFollow_stored]
  split
  · rw [mapPut_stored, ha]
  · exact ha

theorem HasPlace.commit {s : State} {n q : Nat} (h : HasPlace n q s) (id : ReqId) : HasPlace n q (s.commit id) := by
  have hc : HasPlace n q (committed s id) := h.of_sess rfl
  have ha : HasPlace n q (applied s id) := HasPlace.foldl _ (fun _ x h => h.cfgApply x) _ _ hc
  rw [commit_eq]
  refine HasPlace.provFollow ?_
  split
  · exact ha.of_host rfl
  · exact ha

/-- A value that a commit stores for a plain register comes into use. -/
theorem commit_word (id : ReqId) {x : Nat} {v : Word} {d : RegDef} (hm : s.mergedItems = [(x, v)]) (h : plainReg x d)
    (hx : x ≠ F.GLB_SESS_PROV.addr) (hb : s.cfg.bayMap = none) : (s.commit id).word x = s.cfgWord x v := by
  rw [commit_eq, hb, provFollow_word _ hx.symm, applied, hm, List.foldl_cons, List.foldl_nil, cfgApply_word _ h]
  rfl

/-! ### Blocks that fail meanwhile (R384) -/

/-- The sets that are stored are the same. -/
structure SameSets (f g : Flash) : Prop where
  items : g.items = f.items
  keys : g.keys = f.keys
  tables : g.tables = f.tables
  coefs : g.coefs = f.coefs
  bayMap : g.bayMap = f.bayMap

theorem retired_sameSets (f : Flash) (b : Nat) : SameSets f (f.retired b) := by
  unfold Flash.retired
  split <;> exact ⟨rfl, rfl, rfl, rfl, rfl⟩

theorem foldl_retired_sameSets (l : List Nat) (f : Flash) : SameSets f (l.foldl Flash.retired f) := by
  induction l generalizing f with
  | nil => exact ⟨rfl, rfl, rfl, rfl, rfl⟩
  | cons b t ih =>
    obtain ⟨h1, h2, h3, h4, h5⟩ := retired_sameSets f b
    obtain ⟨k1, k2, k3, k4, k5⟩ := ih (f.retired b)
    exact ⟨k1.trans h1, k2.trans h2, k3.trans h3, k4.trans h4, k5.trans h5⟩

section
variable (rg : FlashRegion) (bad : List Nat)

theorem blocksFail_stored : stored (s.blocksFail rg bad) = ((bad.filter rg.holds).foldl Flash.retired s.flash, s.cfg) := by
  unfold State.blocksFail
  dsimp only
  split
  · exact raise_stored _ 114 []
  · rfl

theorem blocksFail_flash : (s.blocksFail rg bad).flash = (bad.filter rg.holds).foldl Flash.retired s.flash :=
  congrArg Prod.fst (blocksFail_stored s rg bad)

theorem blocksFail_cfg : (s.blocksFail rg bad).cfg = s.cfg := congrArg Prod.snd (blocksFail_stored s rg bad)

theorem blocksFail_sameSets : SameSets s.flash (s.blocksFail rg bad).flash := by
  rw [blocksFail_flash]
  exact foldl_retired_sameSets _ _

theorem blocksFail_host : (s.blocksFail rg bad).host = s.host := by
  unfold State.blocksFail
  dsimp only
  split
  · exact raise_host _ 114 []
  · rfl

theorem blocksFail_word {y : Nat} (hy : y ≠ 0x20004) : (s.blocksFail rg bad).word y = s.word y := by
  unfold State.blocksFail
  dsimp only
  split
  · exact raise_word_other _ 114 [] hy
  · rfl

theorem blocksFail_mergedItems : (s.blocksFail rg bad).mergedItems = s.mergedItems := by
  unfold State.mergedItems
  rw [blocksFail_cfg, (blocksFail_sameSets s rg bad).items]

theorem blocksFail_mergedKeys : (s.blocksFail rg bad).mergedKeys = s.mergedKeys := by
  unfold State.mergedKeys
  rw [blocksFail_cfg, (blocksFail_sameSets s rg bad).keys]

theorem blocksFail_mergedTables : (s.blocksFail rg bad).mergedTables = s.mergedTables := by
  unfold State.mergedTables
  rw [blocksFail_cfg, (blocksFail_sameSets s rg bad).tables]

end

/-! ### A copy that does not read back -/

theorem traceFault_stored : stored s.traceFault = stored s := by
  unfold State.traceFault
  dsimp only
  split
  · exact qLost_stored _ 47
  · rfl

theorem traceFault_sess : s.traceFault.host.sess = s.host.sess := by
  unfold State.traceFault
  dsimp only
  split
  · rw [qLost_host]
  · rfl

theorem qLost_word {n y : Nat} (hy : F.TIL_QSTAT_LOST.addr + 4 * n ≠ y) : (s.qLost n).word y = s.word y := by
  unfold State.qLost State.count
  dsimp only
  split
  · exact word_set_other _ (F.TIL_QSTAT_LOST.ix n) _ _ hy
  · exact (word_set_other _ (F.TIL_QSTAT_SAT.ix n) _ _ hy).trans (word_set_other _ (F.TIL_QSTAT_LOST.ix n) _ _ hy)

theorem traceFault_word {y : Nat} (hy : replyReg y = false) : s.traceFault.word y = s.word y := by
  unfold State.traceFault
  dsimp only
  split
  · exact qLost_word _ (n := 47) fun e => absurd hy (by rw [← e]; decide)
  · rfl

end

/-! ### The checks of a commit -/

section
variable {a : State} {r : Req}

theorem taken_slot (n : Nat) : ((taken a r).session n).slot = (a.session n).slot := by
  have hs : ((a.accept r).session n).slot = (a.session n).slot := by
    unfold State.accept State.session
    dsimp only
    by_cases h : r.session = n
    · rw [h]
      exact nth_modNth_keep Session.slot _ _ _ _ fun x => by split <;> rfl
    · rw [nth_modNth_other _ _ _ _ _ h]
  rcases taken_split a r with h | ⟨l, h⟩ <;> rw [h] <;> exact hs

theorem taken_service (op : Nat) : (taken a r).service (reqId r op false) = ((a.session r.session).slot == 3) := by
  unfold State.service
  rw [taken_slot]
  rfl

/-- A commit that passes its checks takes the result of the copy. -/
theorem cfgCommit_passes {op : Nat} (w : FlashDone) (hout : a.cfgOut = false) (hph : a.get F.UPD_STATE_PHASE ≠ 2)
    (hkey : (a.session r.session).slot = 3 ∨ a.cfg.keys = []) (hbad : a.mergedBad = false) (href : a.mergedRefused = none) :
    (taken a r).cfgCommit (reqId r op false) w =
      if w.ok then (((taken a r).blocksFail .config w.bad).commit (reqId r op false), .ok [])
      else (((taken a r).blocksFail .config w.bad).traceFault, .no stInternal 0) := by
  have hk : (!(taken a r).service (reqId r op false) && !(taken a r).cfg.keys.isEmpty) = false := by
    rw [taken_service, taken_cfg]
    rcases hkey with h | h <;> simp [h]
  unfold State.cfgCommit
  rw [taken_cfgOut, hout, taken_get, if_neg (by decide), if_neg hph, hk, if_neg (by decide), taken_mergedBad, hbad, if_neg (by decide),
    taken_mergedRefused, href]

end

/-- A register without W1C bits is not EVR_STAT. -/
theorem plainReg_ne_evrStat {x : Nat} {d : RegDef} (h : plainReg x d) : x ≠ 0x20004 := by
  rintro rfl
  have hd : (writable 0x20004).any (fun d => d.w1c == 0) = false := by decide
  rw [h.1] at hd
  simp [h.2.1] at hd

theorem cfgWord_congr {s b : State} {x : Nat} (h : b.word x = s.word x) (v : Word) : b.cfgWord x v = s.cfgWord x v := by
  unfold State.cfgWord
  rw [h]

end Sys2Proof.Machine.Laws

namespace Sys2Proof.Proofs

open Sys2Proof.Machine Sys2Proof.Machine.Laws Sys2Proof.Safety

/-- Settles O10: items that pass enter the staged set alone; a read gives the items that fit; a commit that passes its checks stores the merged
set and applies it item by item, or leaves the sets where its copy does not read back. -/
theorem configurationIsStagedAndCommitted : Obligations.ConfigurationIsStagedAndCommitted := by
  unfold Obligations.ConfigurationIsStagedAndCommitted
  rintro s _ t r rfl
  refine ⟨fun hw => ⟨fun hbad hkey => ?write, fun x hfind hslot => ?keys⟩, fun hr hsel h1 h128 hout => ?read,
    fun hc => ⟨fun hact hout hph hkey hbad href w => ⟨fun hok => ?commit, fun hok => ?broken⟩, fun hact => ?discard⟩⟩
  case write =>
    have hpass : (if (taken (s.upto t) r).service (reqId r 0x0301 false) then none else (cfgItems r.payload).find? CfgItem.isKey) = none := by
      rw [taken_service]
      rcases hkey with h | h <;> simp [h]
    have hp := taken_hasPlace hw
    refine answers_given (s1 := (taken (s.upto t) r).stage (cfgItems r.payload)) rfl hw (by dsimp only; rw [hpass, hbad]; rfl)
      (by rw [stage_eq]; exact hp.of_host rfl) fun s' hs' => ?_
    rw [stage_eq] at hs'
    refine ⟨hs'.replied, hs'.flash.trans (taken_flash _ _), fun f _ hf => (hs'.get hf).trans (taken_get _ _ f), fun hn x hx => ?_⟩
    rw [hs'.cfg]
    exact foldl_stages _ hn hx
  case keys =>
    have hrole : (if (taken (s.upto t) r).service (reqId r 0x0301 false) then none else (cfgItems r.payload).find? CfgItem.isKey) = some x := by
      rw [taken_service, beq_false_of_ne hslot, if_neg (by decide), hfind]
    refine answers_given (s1 := taken (s.upto t) r) rfl hw (by dsimp only; rw [hrole]; rfl) (taken_hasPlace hw) fun s' hs' =>
      ⟨hs'.replied, hs'.cfg.trans (taken_cfg _ _)⟩
  case read =>
    generalize hl : (if uAt r.payload 0 1 = 0 then (s.upto t).committedItems else (s.upto t).stagedItems).drop (uAt r.payload 2 2) = l
    obtain ⟨hpre, hlen⟩ := fitting_prefix 1396 (l.take (uAt r.payload 4 2))
    refine answers_given (s1 := taken (s.upto t) r) rfl hr (p := leBytes 2 (fitting 1396 (l.take (uAt r.payload 4 2))).length ++ [0, 0] ++
        (fitting 1396 (l.take (uAt r.payload 4 2))).flatten) (st := stOk) (j := 0) ?_ (taken_hasPlace hr) fun s' hs' =>
      ⟨_, hs'.replied, hpre.length_le.trans (List.length_take_le _ _), hlen, hs'.cfg.trans (taken_cfg _ _),
        hpre.trans (List.take_prefix _ _)⟩
    dsimp only
    rw [if_neg (by omega), if_neg (by omega), if_neg (by rw [taken_cfgOut, hout]; simp), taken_committedItems, taken_stagedItems, hl]
    rfl
  case commit =>
    generalize hb : (taken (s.upto t) r).blocksFail .config w.bad = b
    have hp : HasPlace r.session r.seq b := by rw [← hb]; exact (taken_hasPlace hc).of_host (blocksFail_host _ _ _)
    have hitems : b.mergedItems = (s.upto t).mergedItems := by
      rw [← hb, blocksFail_mergedItems]; unfold State.mergedItems; rw [taken_flash, taken_cfg]
    have hkeys : b.mergedKeys = (s.upto t).mergedKeys := by
      rw [← hb, blocksFail_mergedKeys]; unfold State.mergedKeys; rw [taken_flash, taken_cfg]
    have htables : b.mergedTables = (s.upto t).mergedTables := by
      rw [← hb, blocksFail_mergedTables]; unfold State.mergedTables; rw [taken_flash, taken_cfg]
    have hstored := commit_stored b (reqId r 0x0303 false)
    have hflash := congrArg Prod.fst hstored
    have hcfg := congrArg Prod.snd hstored
    refine answers_given (s1 := b.commit (reqId r 0x0303 false)) (st := stOk) (j := 0) (p := []) rfl hc ?_ (hp.commit _) fun s' hs' => ?_
    · rw [if_pos hact, cfgCommit_passes w hout hph hkey hbad href, if_pos hok, hb]
      rfl
    · have hf : s'.flash = (committed b (reqId r 0x0303 false)).flash := hs'.flash.trans hflash
      have hg : s'.cfg = (committed b (reqId r 0x0303 false)).cfg := hs'.cfg.trans hcfg
      rw [hf, hg]
      refine ⟨hs'.replied, hitems, hkeys, htables, rfl, rfl, rfl, fun x v d hm hpl hnr hnp hmap => ?_⟩
      have hbm : b.cfg.bayMap = none := by rw [← hb, blocksFail_cfg, taken_cfg]; exact hmap
      rw [hs'.word _ hnr, commit_word b _ (hitems.trans hm) hpl hnp hbm]
      refine cfgWord_congr ?_ v
      rw [← hb, blocksFail_word _ _ _ (plainReg_ne_evrStat hpl), taken_word]
  case broken =>
    generalize hb : (taken (s.upto t) r).blocksFail .config w.bad = b
    have hp : HasPlace r.session r.seq b := by rw [← hb]; exact (taken_hasPlace hc).of_host (blocksFail_host _ _ _)
    have hstored := traceFault_stored b
    refine answers_given (s1 := b.traceFault) (st := stInternal) (j := 0) (p := leBytes 2 0 ++ leBytes 2 0xFFFF) rfl hc ?_
      (hp.of_sess (traceFault_sess b)) fun s' hs' => ?_
    · rw [if_pos hact, cfgCommit_passes w hout hph hkey hbad href, if_neg (by rw [hok]; decide), hb]
      rfl
    · have hf : s'.flash = b.flash := hs'.flash.trans (congrArg Prod.fst hstored)
      have hg : s'.cfg = b.cfg := hs'.cfg.trans (congrArg Prod.snd hstored)
      obtain ⟨hi, hk, ht, hco, hma⟩ := blocksFail_sameSets (taken (s.upto t) r) .config w.bad
      rw [hb, taken_flash] at hi hk ht hco hma
      refine ⟨hs'.replied, ?_, ?_, ?_, ?_, ?_, fun hno => ?_, ?_, fun f _ hfr hfe => ?_⟩
      · rw [hf, hi]
      · rw [hf, hk]
      · rw [hf, ht]
      · rw [hf, hco]
      · rw [hf, hma]
      · rw [hf, ← hb, blocksFail_flash, hno]
        exact taken_flash _ _
      · rw [hg, ← hb, blocksFail_cfg, taken_cfg]
      · rw [hs'.get hfr]
        unfold State.get
        rw [traceFault_word b hfr, ← hb, blocksFail_word _ _ _ hfe, taken_word]
  case discard =>
    have hp := taken_hasPlace hc
    refine answers_given (s1 := (taken (s.upto t) r).dropStaged) (st := stOk) (j := 0) (p := []) rfl hc (by rw [if_pos hact]; rfl)
      (hp.of_host rfl) fun s' hs' => ⟨hs'.replied, hs'.flash.trans (taken_flash _ _), hs'.cfg.trans ?_⟩
    unfold State.dropStaged
    dsimp only
    rw [taken_cfg]

end Sys2Proof.Proofs
end

section
/-! What a control sample leaves of the set-point, and the frames of a plan (O12). -/

namespace Sys2Proof.Machine.Laws

open Sys2Proof.Safety

/-! ## What a control sample leaves of the set-point once it has been taken (R173, R304) -/

/-- CTL_SPCFG and CTL_SPLOCAL. -/
def spReg (y : Nat) : Bool := y == 0x7001C || y == 0x70024

theorem spReg_above {y : Nat} (h : 0x70024 < y) : spReg y = false := by
  unfold spReg
  rw [Bool.or_eq_false_iff, beq_eq_false_iff_ne, beq_eq_false_iff_ne]
  omega

/-- The NET value, what waits for the next sample, and the registers. -/
def setpParts (s : State) : Option (Int × Nat) × List (Nat × List Byte) × List (Nat × Word) := (s.ctl.net, s.ctl.spNext, s.regs)

/-- `b` has the NET value, SRC, PMODE and LOCAL of `a`, and what waited in `a` for the next sample waits in `b`. -/
structure KeepsSetp (a b : State) : Prop where
  net : b.ctl.net = a.ctl.net
  next : ∀ x ∈ a.ctl.spNext, x ∈ b.ctl.spNext
  word : ∀ y, spReg y = true → b.word y = a.word y

namespace KeepsSetp

section
variable {a b c : State}

theorem refl (a : State) : KeepsSetp a a := ⟨rfl, fun _ h => h, fun _ _ => rfl⟩

theorem trans (h : KeepsSetp a b) (k : KeepsSetp b c) : KeepsSetp a c :=
  ⟨k.net.trans h.net, fun x hx => k.next x (h.next x hx), fun y hy => (k.word y hy).trans (h.word y hy)⟩

theorem get (h : KeepsSetp a b) {f : Fld} (hf : spReg f.addr = true) : b.get f = a.get f := by unfold State.get; rw [h.word _ hf]

/-- An update of other parts of the state. -/
theorem upd (h : KeepsSetp a b) (he : setpParts c = setpParts b) : KeepsSetp a c := by
  obtain ⟨hn, hs, hr⟩ : c.ctl.net = b.ctl.net ∧ c.ctl.spNext = b.ctl.spNext ∧ c.regs = b.regs := by simpa [setpParts] using he
  exact h.trans ⟨hn, fun x hx => by rw [hs]; exact hx, fun y _ => word_congr hr y⟩

theorem set (h : KeepsSetp a b) (f : Fld) (x : Nat) (hf : spReg f.addr = false) : KeepsSetp a (b.set f x) :=
  h.trans ⟨rfl, fun _ hx => hx, fun y hy => word_set_other _ _ _ _ fun e => by rw [e, hy] at hf; exact absurd hf (by decide)⟩

theorem setB (h : KeepsSetp a b) (f : Fld) (x : Bool) (hf : spReg f.addr = false) : KeepsSetp a (b.setB f x) := h.set f _ hf

theorem setI (h : KeepsSetp a b) (f : Fld) (x : Int) (hf : spReg f.addr = false) : KeepsSetp a (b.setI f x) := h.set f _ hf

theorem count (h : KeepsSetp a b) (f g : Fld) (hf : spReg f.addr = false) (hg : spReg g.addr = false) : KeepsSetp a (b.count f g) := by
  unfold State.count
  dsimp only
  split
  · exact h.set _ _ hf
  · exact (h.set _ _ hf).setB _ _ hg

theorem raise (h : KeepsSetp a b) (n : Nat) (d : List Byte) : KeepsSetp a (b.raise n d) := by
  unfold State.raise
  dsimp only
  split
  · exact (h.upd (by rfl)).setB _ _ rfl
  · exact (h.upd (by rfl))

theorem ite {p : Prop} [Decidable p] {x y : State} (hx : p → KeepsSetp a x) (hy : ¬ p → KeepsSetp a y) :
    KeepsSetp a (if p then x else y) := by
  split
  next h => exact hx h
  next h => exact hy h

theorem foldl {α : Type} {f : State → α → State} (hf : ∀ s x, KeepsSetp a s → KeepsSetp a (f s x)) (l : List α) :
    ∀ s, KeepsSetp a s → KeepsSetp a (l.foldl f s) := by
  induction l with
  | nil => exact fun _ h => h
  | cons x t ih => exact fun s h => ih _ (hf s x h)

end

section
variable {a b : State} (h : KeepsSetp a b)
include h

/-! ### Replies, events and jobs -/

theorem qLost (n : Nat) : KeepsSetp a (b.qLost n) :=
  h.count _ _ (spReg_above (show 0x70024 < 0x100100 + 4 * n by omega)) (spReg_above (show 0x70024 < 0x100100 + 4 * n by omega))

theorem toSpi (p : Pkt) : KeepsSetp a (b.toSpi p) := (h.upd (by rfl))

theorem queueReply (n : Nat) (via : Via) (src : Nat) (p : Pkt) : KeepsSetp a (b.queueReply n via src p) := by
  have hu : ∀ {c : State}, KeepsSetp a c → KeepsSetp a ((c.count F.GLB_PKTERR_QFULL F.GLB_PKTERR_SAT).qLost (8 + n)) :=
    fun hc => (hc.count _ _ rfl rfl).qLost _
  unfold State.queueReply
  dsimp only
  exact ite (fun _ => ite (fun _ => h.toSpi p) fun _ => hu ((h.upd (by rfl)).toSpi p)) fun _ => ite (fun _ => (h.upd (by rfl))) fun _ => hu (h.upd (by rfl))

theorem sendFree (via : Via) (src : Nat) (p : Pkt) : KeepsSetp a (b.sendFree via src p) := by
  cases via <;> exact (h.upd (by rfl))

theorem answer (id : ReqId) (st j : Nat) (p : List Byte) : KeepsSetp a (b.answer id st j p) := by
  unfold State.answer
  dsimp only
  refine ite (fun _ => ?_) fun _ => ite (fun _ => ?_) fun _ => foldl (fun _ p hs => hs.sendFree id.via id.src p) _ _ h
  · exact (foldl (fun _ p hs => hs.toSpi p) _ _ h).upd (by rfl)
  · have hf := foldl (fun _ p hs => hs.queueReply id.session id.via id.src p) (b.replyPkts id st j p) b h
    exact ite (fun _ => hf) fun _ => (hf.upd (by rfl))

theorem sendEvent (n num c ns st j : Nat) (d : List Byte) : KeepsSetp a (b.sendEvent n num c ns st j d) := by
  have hr : KeepsSetp a (b.eventRoom n) := by
    unfold State.eventRoom
    dsimp only
    exact ite (fun _ => ite (fun _ => (h.upd (by rfl)).qLost _) fun _ => h) fun _ => ite (fun _ => (h.upd (by rfl)).qLost _) fun _ => h
  unfold State.sendEvent State.queueEvent
  dsimp only
  split
  · exact (hr.upd (by rfl))
  · exact (hr.upd (by rfl))

theorem jobEnd (id : Nat) (st : JobSt) (fin : Nat) (d : List Byte) : KeepsSetp a (b.jobEnd id st fin d) := by
  unfold State.jobEnd
  dsimp only
  split
  · exact h
  · exact ite (fun _ => h) fun _ => ite (fun _ => (h.upd (by rfl))) fun _ => (h.upd (by rfl)).sendEvent ..

theorem setpointHold (op : Nat) (p : List Byte) : KeepsSetp a (b.setpointHold op p) :=
  h.trans ⟨rfl, fun _ hx => List.mem_append_left _ hx, fun _ _ => rfl⟩

theorem restGrant (n : Nat) : KeepsSetp a (b.restGrant n) := by
  unfold State.restGrant
  exact ite (fun _ => (h.setB F.EST_FLAGS_RESTING false rfl).upd (by rfl)) fun _ => (h.setB F.EST_FLAGS_RESTING true rfl).upd (by rfl)

theorem applyLater : KeepsSetp a b.applyLater := by
  unfold State.applyLater
  exact foldl (fun s x hs => ite (fun _ => hs.setpointHold _ _) fun _ => hs.restGrant _) _ _ (h.upd (by rfl))

theorem lrnFail (code : Nat) : KeepsSetp a (b.lrnFail code) := by
  unfold State.lrnFail State.lrnOver
  split
  · exact h
  · exact (((((h.upd (by rfl)).set _ _ rfl).applyLater.set _ _ rfl).setB _ _ rfl).raise _ _).jobEnd ..

theorem impEnd (st : JobSt) (fin : Nat) : KeepsSetp a (b.impEnd st fin) := by
  unfold State.impEnd
  split
  · exact ((h.upd (by rfl)).set _ _ rfl).set _ _ rfl
  · exact (((h.upd (by rfl)).set _ _ rfl).set _ _ rfl).jobEnd ..

theorem endCurrentJobs : KeepsSetp a b.endCurrentJobs := by
  unfold State.endCurrentJobs
  exact ite (fun _ => (h.lrnFail 0).impEnd _ _) fun _ => h.lrnFail 0

/-! ### The loop, the coils and the latch -/

theorem entry (i : Nat) (dis chg : Int) : KeepsSetp a (b.entry i dis chg) := by
  have hs := (h.setI (F.PRT_ENT_DIS.ix8 i) dis (spReg_above (show 0x70024 < 0x80040 + 8 * i by omega))).setI (F.PRT_ENT_CHG.ix8 i) chg
    (spReg_above (show 0x70024 < 0x80044 + 8 * i by omega))
  unfold State.entry State.entryPut
  exact ite (fun _ => h) fun _ => ite (fun _ => (hs.upd (by rfl))) fun _ => hs

theorem seqJob (q : Seq) (ok : Bool) : KeepsSetp a (b.seqJob q ok) := by
  unfold State.seqJob
  dsimp only
  split
  · exact (h.upd (by rfl))
  · exact (h.upd (by rfl)).jobEnd ..

theorem seqPut (q : Seq) : KeepsSetp a (b.seqPut q) := by
  unfold State.seqPut
  dsimp only
  split
  · exact (h.upd (by rfl))
  · exact (h.upd (by rfl))

theorem loopStop : KeepsSetp a b.loopStop := ((h.upd (by rfl)).set F.CTL_CTRL_RUN 0 rfl).set F.CTL_STAT_STATE 0 rfl

theorem setConn (n : Nat) : KeepsSetp a (b.setConn n) := by
  have hs : KeepsSetp a (b.set F.PRT_CONTSTAT_CONN n) := h.set _ _ rfl
  unfold State.setConn
  exact ite (fun _ => hs.entry ..) fun _ => hs.entry ..

theorem coilOff (k : Nat) : KeepsSetp a (b.coilOff k) := by
  unfold State.coilOff
  exact ite (fun _ => h) fun _ => (h.set F.PRT_CONTSTAT_COIL (setBit (b.get F.PRT_CONTSTAT_COIL) k false) rfl).upd (by rfl)

theorem coilOn (k : Nat) : KeepsSetp a (b.coilOn k) :=
  (h.set F.PRT_CONTSTAT_COIL (setBit (b.get F.PRT_CONTSTAT_COIL) k true) rfl).upd (by rfl)

theorem coilsOff : KeepsSetp a b.coilsOff := ((h.coilOff 0).coilOff 1).coilOff 2

theorem closeFail (q : Seq) : KeepsSetp a (b.closeFail q) := ((h.coilsOff.setConn 0).set _ _ rfl).seqJob q false

theorem endClose : KeepsSetp a b.endClose := by
  unfold State.endClose
  split
  · split
    · exact h.closeFail _
    · exact h
  · exact h

theorem latch (n : Nat) : KeepsSetp a (b.latch n) := by
  have h1 := h.set { F.PRT_TRIP_OC_DIS with lo := n } 1 rfl
  have h2 := h1.set F.PRT_TRIP_FIRST (n + 1) rfl
  unfold State.latch
  refine ite (fun _ => h.loopStop) fun _ => ?_
  exact ((((ite (fun _ => (h2.upd (by rfl))) fun _ => h1).count _ _ rfl rfl).raise _ _).loopStop.endClose).endCurrentJobs

theorem ganderTrip : KeepsSetp a b.ganderTrip := h.latch 6

theorem weld (k : Nat) : KeepsSetp a (b.weld k) := (h.set { F.PRT_CONTSTAT_WELD_P with lo := 16 + k } 1 rfl).raise 50 []

/-! ### Contactor sequences (R196, R197) -/

omit h in
/-- A step of a sequence, where one is due. -/
def Step (a : State) : Option State → Prop
  | none => True
  | some c => KeepsSetp a c

omit h in
theorem Step.ite {p : Prop} [Decidable p] {x y : Option State} (hx : Step a x) (hy : Step a y) : Step a (if p then x else y) := by
  split
  · exact hx
  · exact hy

theorem closeStep (q : Seq) : Step a (b.closeStep q) := by
  have hf : Step a (some (b.closeFail q)) := h.closeFail q
  have hw : ∀ k, Step a (some ((b.weld k).closeFail q)) := fun k => (h.weld k).closeFail q
  have hp : ∀ q1, Step a (some (b.seqPut q1)) := h.seqPut
  unfold State.closeStep
  dsimp only
  split
  case h_1 =>
    split
    · exact .ite hf trivial
    · exact .ite (hw 1) (.ite ((h.coilOn 1).seqPut _) trivial)
  case h_2 =>
    refine .ite (hw 0) ?_
    split
    · exact .ite hf trivial
    · exact .ite (hp _) (.ite hf trivial)
  case h_3 =>
    refine .ite (hw 0) ?_
    split
    · exact .ite (hp _) (.ite (((h.coilOn 0).setConn 3).seqPut _) (.ite hf trivial))
    · exact .ite (hp _) (.ite hf trivial)
  case h_4 =>
    split
    · exact .ite hf trivial
    · exact hp _
  case h_5 => exact .ite (.ite ((h.coilOff 2).seqPut _) trivial) (.ite ((h.setConn 4).seqJob q true) (.ite (hw 2) trivial))
  case h_6 => trivial

theorem openCoil (k : Nat) : KeepsSetp a (b.openCoil k) := (h.coilOff k).upd (by rfl)

theorem openStep (q : Seq) : Step a (b.openStep q) := by
  have hp : ∀ q1, Step a (some (b.seqPut q1)) := h.seqPut
  have hstop : ∀ {c : State} (q1 : Seq), KeepsSetp a c → Step a (some (c.loopStop.seqPut q1)) := fun q1 hc => hc.loopStop.seqPut q1
  have hu : KeepsSetp a (b.setB F.PRT_CONTSTAT_UNDERLOAD true) := h.setB _ _ rfl
  unfold State.openStep
  dsimp only
  split
  case h_1 =>
    split
    · exact .ite (hp _) (.ite (hstop _ h) (.ite (hstop _ hu) trivial))
    · exact .ite (hp _) (.ite (hstop _ hu) trivial)
  case h_2 => exact .ite (((h.openCoil 0).openCoil 2).seqPut _) trivial
  case h_3 => exact .ite ((h.openCoil 1).seqPut _) trivial
  case h_4 => exact .ite (((foldl (fun _ k hs => hs.weld k) _ _ h).setConn 0).seqJob _ _) trivial
  case h_5 => trivial

end

theorem seqPoll {a b : State} (h : KeepsSetp a b) (n : Nat) : KeepsSetp a (b.seqPoll n) := by
  induction n generalizing b with
  | zero => exact h
  | succ n ih =>
    unfold State.seqPoll
    split
    · exact h
    next q _ =>
      have hs : Step a (match q.kind with | .close => b.closeStep q | .open_ => b.openStep q) := by
        split
        · exact h.closeStep q
        · exact h.openStep q
      split
      · exact h
      next he => exact ih ((congrArg (Step a) he).mp hs)

section
variable {a b : State} (h : KeepsSetp a b)
include h

theorem openStart (j : Option Nat) : KeepsSetp a (b.openStart j) := (h.setConn 5).seqPut _

theorem stopCheck : KeepsSetp a b.stopCheck := by
  unfold State.stopCheck
  exact ite (fun _ => h.ganderTrip.set _ _ rfl) fun _ => h

theorem rampEnd : KeepsSetp a b.rampEnd := by
  unfold State.rampEnd
  exact ite (fun _ => (h.setB F.SAF_STAT_RAMP false rfl).openStart none) fun _ => h

/-! ### Fences (R242 to R249) -/

theorem testJobEnd : KeepsSetp a b.testJobEnd := by
  unfold State.testJobEnd
  split
  · exact (h.upd (by rfl)).jobEnd ..
  · exact h

theorem impAgain : KeepsSetp a b.impAgain := (h.set F.EST_IMP_STAT_STATE 0 rfl).upd (by rfl)

theorem impNext : KeepsSetp a b.impNext := by
  have hn : ∀ {s2 : State}, KeepsSetp a s2 →
      KeepsSetp a (((s2.impEnd .done stOk).setB F.EST_IMP_STAT_DONE_SEEN true).raise 37 []) := fun hs =>
    ((hs.impEnd _ _).setB _ _ rfl).raise _ _
  unfold State.impNext
  refine ite (fun _ => ((h.upd (by rfl)).set _ _ rfl).set _ _ rfl) fun _ => hn ?_
  split
  · exact (h.upd (by rfl))
  · exact (h.upd (by rfl))

theorem impAbandon : KeepsSetp a b.impAbandon := by
  have hs : KeepsSetp a (b.setB F.EST_IMP_STAT_ABORT_SEEN true) := h.setB _ _ rfl
  unfold State.impAbandon
  exact ite (fun _ => h) fun _ => ite (fun _ => hs.impAgain.upd (by rfl)) fun _ => hs.impNext

theorem switchStart (q m : Nat) : KeepsSetp a (b.switchStart q m) := ((h.upd (by rfl)).set F.LAN_STAT_SW 1 rfl).impAbandon

theorem catchUp (q : Nat) : KeepsSetp a (b.catchUp q) := by
  unfold State.catchUp
  dsimp only
  split
  · exact (h.upd (by rfl))
  · split
    · exact (h.upd (by rfl))
    · exact (h.upd (by rfl))

theorem adopt (q : Nat) : KeepsSetp a (b.adopt q) := by
  unfold State.adopt
  dsimp only
  split
  · exact (h.upd (by rfl)).catchUp q
  · exact (h.upd (by rfl))

theorem adopts (qs : List Nat) : KeepsSetp a (qs.foldl State.adopt b) := foldl (fun _ q hs => hs.adopt q) _ _ h

theorem orphaned (q : Nat) : KeepsSetp a (b.orphaned q) := by
  have ho : ∀ {s0 : State}, KeepsSetp a s0 → KeepsSetp a (match s0.lan.sw, s0.mule? with
      | none, some m => s0.switchStart q m
      | _, _ =>
        let s1 := { s0 with lan := { s0.lan with waitTok := s0.lan.waitTok ++ [q] } }
        if (nth none s1.lan.est q).isNone then s1.adopt q else s1) := by
    intro s0 hs
    split
    · exact hs.switchStart _ _
    · exact ite (fun _ => (hs.upd (by rfl)).adopt q) fun _ => (hs.upd (by rfl))
  unfold State.orphaned
  refine ho ?_
  split
  · exact (h.upd (by rfl)).testJobEnd
  · exact h

theorem twoLanes : KeepsSetp a b.twoLanes := ite (fun _ => h.ganderTrip) fun _ => h

theorem laneStore : KeepsSetp a b.laneStore := (h.setB F.LAN_STAT_NOSPARE _ rfl).upd (by rfl)

theorem testFenced : KeepsSetp a b.testFenced := by
  unfold State.testFenced
  exact ite (fun _ => h) fun _ => ite (fun _ => h) fun _ => (foldl (fun _ l hs => (hs.upd (by rfl))) _ _ h).laneStore

theorem cause (n : Nat) : KeepsSetp a (b.cause n) := by
  have hs : KeepsSetp a (b.set ⟨0x10000, n, 1⟩ 1) := h.set _ _ rfl
  unfold State.cause
  exact ite (fun _ => (hs.set F.RST_CAUSE_FIRST (n + 1) rfl).upd (by rfl)) fun _ => hs

theorem setMiss (l n : Nat) : KeepsSetp a (b.setMiss l n) := h.set _ _ rfl

theorem fenceLane (l c : Nat) : KeepsSetp a (b.fenceLane l c) := by
  have h1 : KeepsSetp a ((((b.setLane l 4).set F.LAN_STAT_CAUSE c).set F.LAN_STAT_FLANE l).setB F.LAN_STAT_FENCE_SEEN true) :=
    (((h.upd (by rfl)).set _ _ rfl).set _ _ rfl).setB _ _ rfl
  have hend : ∀ {s4 : State}, KeepsSetp a s4 → KeepsSetp a s4.twoLanes.laneStore.testFenced := fun hs => hs.twoLanes.laneStore.testFenced
  unfold State.fenceLane
  refine ite (fun _ => h) fun _ => hend ?_
  have h3 : ∀ {s1 : State} (n : LanSt) (m : TilSt) (f : Flash), KeepsSetp a s1 →
      KeepsSetp a (({ s1.cause 6 with lan := n, til := m, flash := f } : State).setMiss l 0) := fun _ _ _ hs =>
    ((hs.cause 6).upd (by rfl)).setMiss _ _
  have h4 : ∀ {s3 : State} (q : Nat) (qs : List Nat), KeepsSetp a s3 →
      KeepsSetp a (qs.foldl State.adopt (({ s3 with ctl := s3.ctl.unduty q s3.now } : State).orphaned q)) := fun q qs hs =>
    ((hs.upd (by rfl)).orphaned q).adopts qs
  split
  · exact h4 _ _ (h3 _ _ _ h1)
  · exact (h3 _ _ _ h1).adopts _

theorem muleNext : KeepsSetp a b.muleNext := by
  unfold State.muleNext
  split
  · exact (h.upd (by rfl)).switchStart _ _
  · exact h

theorem switchEnd : KeepsSetp a b.switchEnd := (((h.upd (by rfl)).set F.LAN_STAT_SW 0 rfl).raise 72 []).testFenced.muleNext

theorem abandon (x : Switch) (c : Nat) : KeepsSetp a (b.abandon x c) := by
  have hend : ∀ {s4 : State}, KeepsSetp a s4 → KeepsSetp a (s4.fenceLane x.mule c).switchEnd := fun hs => (hs.fenceLane _ _).switchEnd
  have h3 := ((h.upd (c := { b with lan := { b.lan with sw := none } }) rfl).set F.LAN_STAT_SW 0 rfl).set F.LAN_GAP_LAST 0xFFF rfl
    |>.setB F.LAN_STAT_SWFAIL_SEEN true rfl
  unfold State.abandon
  exact hend (ite (fun _ => (h3.upd (by rfl)).adopt _) fun _ => (h3.upd (by rfl)))

theorem fence (l c : Nat) : KeepsSetp a (b.fence l c) := by
  unfold State.fence
  split
  · exact ite (fun _ => h.abandon _ c) fun _ => h.fenceLane l c
  · exact h.fenceLane l c

/-! ### The stages of a control sample -/

theorem poll : KeepsSetp a b.poll := (h.seqPoll 8).stopCheck

theorem gainSwap : KeepsSetp a b.gainSwap := by
  have h2 := ((((h.upd (c := { b with ctl := { b.ctl with swapAt := none } }) rfl).set F.CTL_BANKSEL_ACTIVE (1 - b.get F.CTL_BANKSEL_ACTIVE) rfl).set
    F.CTL_BANKSEL_ACTVALID (b.get F.CTL_BANKSEL_SHVALID) rfl).set F.CTL_BANKSEL_SHVALID (b.get F.CTL_BANKSEL_ACTVALID) rfl).setB
    F.CTL_BANKSEL_SWAPPEND false rfl |>.count F.CTL_BANKSEL_SWAPS F.CTL_BANKSEL_SAT rfl rfl
  exact (foldl (fun _ x hs => hs.answer x.id stOk 0 []) _ _ (h2.upd (by rfl))).impAbandon

theorem cviSample (x : SampleIn) : KeepsSetp a (b.cviSample x) := by
  unfold State.cviSample
  extract_lets eff sh hv az useB none_ top code runs meas c0
  split
  split
  extract_lets i clipd step acc1 acc2
  split
  split
  split
  extract_lets sm c1 c2 s0 s1 s2 s3 s4 s5
  have h1 : KeepsSetp a s1 := ite (fun _ => (h.upd (by rfl))) fun _ => (h.upd (by rfl))
  have h2 : KeepsSetp a s2 := ite (fun _ => h1.setB F.CVI_SH_STAT_QSAT true rfl) fun _ => h1
  have h3 : KeepsSetp a s3 := ((h2.setB _ _ rfl).setB _ _ rfl).setB _ _ rfl
  have h4 : KeepsSetp a s4 := ite (fun _ => h3.setB _ _ rfl) fun _ => h3
  have h5 : KeepsSetp a s5 := ite (fun _ => h4.setB _ _ rfl) fun _ => h4
  exact ite (fun _ => h2) fun _ => ite (fun _ => h5.setB _ _ rfl) fun _ => h5

theorem impCurrent : KeepsSetp a b.impCurrent := by
  unfold State.impCurrent State.burstSample
  split
  · split
    · exact h
    · exact ite (fun _ => (h.upd (by rfl))) fun _ => h
  · exact h

theorem spInputs (x : SampleIn) : KeepsSetp a (b.spInputs x) := h.upd (by rfl)

theorem latchIn (x : SampleIn) : KeepsSetp a (b.latchIn x) := by
  have h1 := ((h.cviSample x).impCurrent).spInputs x
  unfold State.latchIn
  generalize ((b.cviSample x).impCurrent).spInputs x = c at h1 ⊢
  exact h1.upd (by rfl)

theorem gridSlew : KeepsSetp a b.gridSlew := by
  have hs : ∀ g, KeepsSetp a (b.setI F.GLB_GRID_PHASE_ERR g) := fun g => h.setI _ _ rfl
  unfold State.gridSlew
  exact ite (fun _ => h) fun _ => ite (fun _ => ((hs _).setB _ _ rfl).setB _ _ rfl) fun _ => hs _

theorem sineStop : KeepsSetp a b.sineStop := by
  have hi := h.impEnd .cancelled stRefused
  unfold State.sineStop
  refine ite (fun _ => h) fun _ => ?_
  split
  · exact hi
  · exact ite (fun _ => hi) fun _ => ite (fun _ => hi) fun _ => h

theorem entry8 : KeepsSetp a b.entry8 := by
  unfold State.entry8
  exact ite (fun _ => h.entry ..) fun _ => h.entry ..

theorem limits : KeepsSetp a b.limits.1 :=
  (((h.setI F.PRT_LDIS _ rfl).setI F.PRT_LCHG _ rfl).set F.PRT_LIMIT_BIND_DIS _ rfl).set F.PRT_LIMIT_BIND_CHG _ rfl

theorem lrnStep : KeepsSetp a b.lrnStep := by
  unfold State.lrnStep
  split
  · exact h
  · exact (h.upd (by rfl))

theorem target (v : Int) : KeepsSetp a (b.target v).1 := by
  unfold State.target
  split
  · exact h
  · split
    · exact h.lrnStep
    · exact h

theorem setPoint (v : Int) : KeepsSetp a (b.setPoint v) := by
  unfold State.setPoint
  generalize b.irated * b.driven.length / 4 = i
  have h1 := (h.entry8.entry 6 i i).limits
  generalize (b.entry8.entry 6 i i).limits = p at h1 ⊢
  obtain ⟨s1, ldis, lchg⟩ := p
  have h2 := h1.target v
  dsimp -zeta only at h2 ⊢
  generalize s1.target v = p at h2 ⊢
  obtain ⟨s2, target⟩ := p
  exact ((h2.upd (by rfl)).setI F.CTL_SPNOW _ rfl).setB F.CTL_SPSTAT_CLAMPED _ rfl

theorem warmEnd : KeepsSetp a b.warmEnd := by
  unfold State.warmEnd
  extract_lets _ s1
  have h1 : KeepsSetp a s1 := (h.upd (by rfl)).set _ _ rfl
  exact h1.upd (by rfl)

theorem satFlags (n : Nat) : KeepsSetp a (b.satFlags n) := by
  unfold State.satFlags
  exact ite (fun _ => h) fun _ => (h.set _ _ rfl).raise 40 []

theorem laneCounts (sel : Option (List Int)) (ps : List (Nat × List Int)) : KeepsSetp a (b.laneCounts sel ps) := by
  unfold State.laneCounts
  refine foldl (fun s p hs => ?_) _ _ h
  dsimp only
  split
  · exact (hs.upd (by rfl))
  · exact (hs.upd (by rfl)).setMiss _ _

theorem envCheck : KeepsSetp a b.envCheck := by
  unfold State.envCheck
  extract_lets _ oob _ s1
  have h1 : KeepsSetp a s1 := (h.upd (by rfl))
  exact ite (fun _ => ((h1.setB F.CTL_STAT_ENVTRIP_SEEN true rfl).raise 41 []).ganderTrip) fun _ => h1

theorem laneFences (env : Option Nat) : KeepsSetp a (b.laneFences env) := by
  unfold State.laneFences
  refine foldl (fun s p hs => ?_) _ _ h
  split
  · exact hs
  · exact fence (ite (fun _ => (hs.setB F.CTL_STAT_ENVFENCE_SEEN true rfl).raise 41 []) fun _ => hs) _ _

theorem shadow (sel : Option (Option (List Int))) (post : Nat → List Int) : KeepsSetp a (b.shadow sel post) := by
  unfold State.shadow
  split
  · exact h
  · split
    · exact h
    · dsimp only
      split
      · exact (h.upd (by rfl))
      · exact (h.upd (by rfl))
      · exact ite (fun _ => (h.upd (by rfl))) fun _ => ite (fun _ => (h.upd (by rfl))) fun _ => h.abandon _ 4

theorem slices (x : SampleIn) (t : CtlStruct) (g : Gain) : KeepsSetp a (b.slices x t g) := by
  unfold State.slices
  extract_lets o warm ps sel s1 s2 undec _ _ s3 s4 _ s5 s6 env
  have h1 : KeepsSetp a s1 := (((h.set _ _ rfl).set _ _ rfl).set _ _ rfl).set _ _ rfl
  have h2 : KeepsSetp a s2 := (h1.satFlags _).setB F.LAN_STAT_UNDECIDED _ rfl
  have h3 : KeepsSetp a s3 := by
    clear_value s2
    exact h2.upd (by rfl)
  have h4 : KeepsSetp a s4 := h3.laneCounts _ _
  have h5 : KeepsSetp a s5 := ite (fun _ => (h4.upd (by rfl)).ganderTrip) fun _ => h4
  have h6 : KeepsSetp a s6 := ite (fun _ => h5) fun _ => h5.envCheck
  exact (h6.shadow _ _).laneFences _

end

end KeepsSetp

/-- A control sample keeps what it takes of the set-point at its start. -/
theorem controlSample_keeps (s : State) (x : SampleIn) : KeepsSetp (s.setpointTake (s.gridCount 5000)) (s.controlSample x) := by
  unfold State.controlSample
  extract_lets s0 s1 s2 s3 s4 s5
  have h0 : KeepsSetp s0 s0 := .refl s0
  have h1 : KeepsSetp s0 s1 := ((KeepsSetp.ite (fun _ => h0.gainSwap) fun _ => h0).latchIn x).gridSlew
  have h2 : KeepsSetp s0 s2 := .ite (fun _ => h1.loopStop) fun _ => h1
  have h3 : KeepsSetp s0 s3 := (h2.setPoint _).sineStop
  have h4 : KeepsSetp s0 s4 := .ite (fun _ => h3.warmEnd) fun _ => h3
  have h5 : KeepsSetp s0 s5 := by
    clear_value s4
    unfold s5
    split
    · exact .ite (fun _ => h4.slices x _ _) fun _ => h4.shadow _ _
    · exact h4.shadow _ _
  exact h5.rampEnd.poll.upd (by rfl)

theorem ofLe_lt (l : List Byte) : ofLe l < 2 ^ (8 * l.length) := by
  induction l with
  | nil => exact Nat.one_pos
  | cons b t ih =>
    have hb : b.toNat < 256 := b.isLt
    have hp : 2 ^ (8 * (b :: t).length) = 256 * 2 ^ (8 * t.length) := by rw [List.length_cons, Nat.mul_succ, pow_add, mul_comm]; rfl
    rw [hp, ofLe]
    omega

theorem uAt_lt (l : List Byte) (o n : Nat) : uAt l o n < 2 ^ (8 * n) := by
  refine (ofLe_lt _).trans_le (Nat.pow_le_pow_right (by decide) (Nat.mul_le_mul_left 8 ?_))
  exact List.length_take_le _ _

section
variable {s : State} {p : List Byte} {n : Nat}

theorem setpointTake_net (h : s.ctl.spNext = [(0x0403, p)]) (ha : s.bay.appliedNo ≠ some n) :
    (s.setpointTake n).ctl.net = some (iAt p 0 4, s.now) := by
  unfold State.setpointTake State.allocAt
  rw [h]
  simp [ha, State.netTake]

theorem setpointTake_held (h : s.ctl.spNext = [(0x0403, p)]) (ha : s.bay.appliedNo = some n) :
    (s.setpointTake n).ctl.net = s.ctl.net ∧ (0x0403, p) ∈ (s.setpointTake n).ctl.spNext := by
  unfold State.setpointTake State.allocAt
  rw [h]
  simp [ha, State.setpointHold]

theorem setpointTake_source (h : s.ctl.spNext = [(0x0404, p)]) (hs : uAt p 0 1 ≤ 3) (hm : uAt p 1 1 ≤ 1) :
    (s.setpointTake n).get F.CTL_SPCFG_SRC = uAt p 0 1 ∧ (s.setpointTake n).get F.CTL_SPCFG_PMODE = uAt p 1 1 ∧
      (s.setpointTake n).get F.CTL_SPLOCAL = uAt p 4 4 := by
  have hl : uAt p 4 4 < 2 ^ 32 := uAt_lt p 4 4
  have he : s.setpointTake n = State.sourceTake { s with ctl := { s.ctl with spNext := [] } } p := by
    unfold State.setpointTake
    rw [h]
    rfl
  rw [he]
  unfold State.sourceTake
  refine ⟨?_, ?_, ?_⟩
  · rw [get_set_clear _ _ _ _ (by decide), get_set_clear _ _ _ _ (by decide), get_set_same _ F.CTL_SPCFG_SRC _ (show 0 + 2 ≤ 32 by decide)]
    exact Nat.mod_eq_of_lt (show uAt p 0 1 < 4 by omega)
  · rw [get_set_clear _ _ _ _ (by decide), get_set_same _ F.CTL_SPCFG_PMODE _ (show 2 + 1 ≤ 32 by decide)]
    exact Nat.mod_eq_of_lt (show uAt p 1 1 < 2 by omega)
  · rw [get_set_same _ F.CTL_SPLOCAL _ (show 0 + 32 ≤ 32 by decide)]
    exact Nat.mod_eq_of_lt hl

end

/-! ## A plan (R85, R87, R305) -/

/-- The state in which a plan's frames are queued: frames of an earlier plan serve none, and the plan waits. -/
def planBegun (s : State) (id : ReqId) (r : Req) : State :=
  { s with
    ring := { s.ring with results := [], cmds := s.ring.cmds.map (fun (c : RingCmd) => if c.use = 1 then { c with use := 0 } else c),
                          inflight := s.ring.inflight.map (fun (c : RingCmd) => if c.use = 1 then { c with use := 0 } else c) },
    host := { s.host with waiting := s.host.waiting ++ [({ why := .balance, id := id, req := r, since := s.now } : Waiting)] } }

/-- The command that entry `i` of a plan sends. -/
def IsEntry (p : List Byte) (i : Nat) (c : RingCmd) : Prop :=
  c.pos = planPos p i ∧ c.cmd = 4 ∧ c.use = 1 ∧
    c.payload = ((List.range 16).flatMap (fun k => leBytes 2 (uAt p (4 + 34 * i + 2 * k) 2))) ++ leBytes 1 (uAt p (3 + 34 * i) 1) ++ [0]

/-- A plan queues the frame of each entry. -/
theorem planSend_queues (s : State) (id : ReqId) (r : Req) :
    ∃ cs, List.Forall₂ (IsEntry r.payload) (List.range (uAt r.payload 0 1)) cs ∧ s.planSend id r = withCmds (planBegun s id r) cs := by
  refine foldl_queues (fun a i => ?_) _ _
  obtain ⟨c, ⟨hpos, hcmd, hpay, huse⟩, he⟩ := balanceCmd_queues a (planPos r.payload i)
    ((List.range 16).map (fun c => uAt r.payload (4 + 34 * i + 2 * c) 2)) (uAt r.payload (3 + 34 * i) 1) 1
  refine ⟨c, ⟨hpos, hcmd, huse, hpay.trans ?_⟩, he⟩
  unfold balanceBytes
  rw [List.flatMap_map]

end Sys2Proof.Machine.Laws
end

section
/-! Operation opcodes: set-points, plans, PARK and WAKE (O12). -/

namespace Sys2Proof.Machine.Laws

open Sys2Proof.Safety

/-! ## Set-points and plans as requests (R304, R305) -/

section
variable {a : State} {r : Req}

theorem taken_loopStopped : (taken a r).loopStopped = a.loopStopped := by unfold State.loopStopped; rw [taken_get]

/-- A set-point of current within its range is not refused, nor one read as power (R175). -/
theorem setpoint_within {p : List Byte} (h : a.flag F.CTL_SPCFG_PMODE = true ∨ (iAt p 0 4).natAbs ≤ 1250000) :
    (!(taken a r).flag F.CTL_SPCFG_PMODE && decide (1250000 < (iAt p 0 4).natAbs)) = false := by
  rw [taken_flag]
  rcases h with h | h
  · rw [h]
    rfl
  · rw [decide_eq_false (by omega), Bool.and_false]

theorem taken_planBad (p : List Byte) (i : Nat) : (taken a r).planBad p i = a.planBad p i := by
  unfold State.planBad State.len State.cells
  simp only [taken_get]

theorem taken_planFull (p : List Byte) : (taken a r).planFull p = a.planFull p := by
  have hw : ∀ q, (taken a r).fromWest q = a.fromWest q := fun q => by
    unfold State.fromWest State.eReach
    rw [taken_ring, taken_get]
  have hf : ∀ n, n = 27 ∨ n = 25 → (taken a r).fill n = a.fill n := by
    rintro n (rfl | rfl) <;> exact congrArg (fun x : RingSt => min 8 (x.cmds.filter _).length) (taken_ring a r)
  unfold State.planFull
  simp only [hw]
  congr 1
  funext i
  rw [hf]
  split <;> simp

theorem taken_waiting : (taken a r).host.waiting = a.host.waiting := by
  rcases taken_split a r with h | ⟨l, h⟩ <;> rw [h] <;> rfl

/-- No entry of a plan is bad. -/
theorem plan_sound {p : List Byte} {n : Nat} (h : ∀ i < n, a.planBad p i = none) :
    ((List.range n).filterMap ((taken a r).planBad p)).head? = none := by
  rw [List.head?_eq_none_iff, List.filterMap_eq_nil_iff]
  intro i hi
  rw [taken_planBad]
  exact h i (List.mem_range.1 hi)

end

theorem exists_of_forall₂ {α β : Type} {R : α → β → Prop} {l : List α} {k : List β} (h : List.Forall₂ R l k) : ∀ x ∈ l, ∃ y ∈ k, R x y := by
  induction h with
  | nil => simp
  | cons hr _ ih =>
    rw [List.forall_mem_cons]
    refine ⟨⟨_, List.mem_cons_self .., hr⟩, fun x hx => ?_⟩
    obtain ⟨y, hy, h⟩ := ih x hx
    exact ⟨y, List.mem_cons_of_mem _ hy, h⟩

/-- A served request that is answered later leaves what its body makes. -/
theorem answers_later {c : Instr} {s s1 : State} {t op : Nat} {r : Req} {fmt : Fmt} {body : ReqId → State → State × HRes}
    {P : State → Prop} (hc : exec c s = .next (s.hostCommand t op r fmt body)) (h : serves (s.upto t) op r fmt = true)
    (hb : body (reqId r op false) (taken (s.upto t) r) = (s1, .later)) (hP : P (s.command t fun _ => s1)) : Answers c s P := by
  refine ⟨_, hc, ?_⟩
  rw [hostCommand_served _ _ _ _ _ _ h, hb]
  exact hP

/-- The reply that a command's body gives stands after the command. -/
theorem command_replied {s s1 : State} {t op st j : Nat} {r : Req} {p : List Byte} (h : Replied s1 r op st j p) :
    Replied (s.command t fun _ => s1) r op st j p := by
  unfold Replied State.session at h ⊢
  rw [command_host]
  exact h

/-- A served request whose body answers at once keeps what its body makes of the module's mode. -/
theorem answers_mode {c : Instr} {s s1 : State} {t op st j : Nat} {r : Req} {fmt : Fmt} {body : ReqId → State → State × HRes}
    {p : List Byte} {P : State → Prop} (hc : exec c s = .next (s.hostCommand t op r fmt body)) (h : serves (s.upto t) op r fmt = true)
    (hb : body (reqId r op false) (taken (s.upto t) r) = (s1, .reply st j p)) (hs : HasPlace r.session r.seq s1)
    (hP : ∀ s', Replied s' r op st j p → s'.rst = s1.rst → P s') : Answers c s P := by
  have ha := serves_auth h
  refine ⟨_, hc, ?_⟩
  rw [hostCommand_served _ _ _ _ _ _ h, hb]
  exact hP _ (command_replied (giveRes_replied s1 r op st j p ha (serves_target h) hs.1 hs.2)) ((command_rst ..).trans (giveRes_rst _ _ _ _ ha))

/-! ## A plan's last frame returns (R305) -/

section
variable {s : State} {c : RingCmd}

/-- The reply to a BALANCE command that waits alone is taken with its result code. -/
theorem frameOver_balanced (b : List Byte) (hp : c.pos ≠ 0) (hc : c.cmd = 4) : ∃ r : RingSt, r.results = s.ring.results ∧
    (frameOver s c (some b)).step5End.takeReplies = State.cmdDone { s with ring := r } c (some (uAt b (8 + c.payload.length) 1)) b := by
  obtain ⟨x, y, hs⟩ := step5End_eq (frameOver s c (some b))
  have h0 : ¬ (c.pos = 0 || decide (c.cmd = 0x30)) = true := by simp [hp, hc]
  have hcode : (if c.pos = 0 || c.cmd = 0x30 then 0 else uAt b (8 + c.payload.length) 1) = uAt b (8 + c.payload.length) 1 := if_neg (by simp [hp, hc])
  rw [hs, ← hcode]
  exact ⟨{ s.ring with inflight := none, replies := [], step5 := x, firstS := y }, rfl, rfl⟩

/-- The result of a plan's command: busy counts as sent again. -/
def planCode (k : Nat) : Nat := if k = 3 then 0 else k

/-- A plan's command that returned enters its result, and may complete the plan's reply. -/
theorem cmdDone_plan {k : Nat} (hu : c.use = 1) (hc : c.cmd = 4) (b : List Byte) : ∃ s1 : State, s1.host = s.host ∧
    s1.ring = { s.ring with results := assocPut c.pos (planCode k) s.ring.results } ∧ s.cmdDone c (some k) b = s1.balanceReply := by
  have hcode : (if (some k == some 3 && c.cmd == 4) = true then 0 else (some k).getD 0xFF) = planCode k := by
    unfold planCode
    simp [hc]
  unfold State.cmdDone
  extract_lets _ busy _ s1
  obtain ⟨hh, hr⟩ : s1.host = s.host ∧ s1.ring = s.ring := by
    unfold s1
    split <;> exact ⟨rfl, rfl⟩
  clear_value s1
  rw [hu]
  refine ⟨{ s1 with ring := { s1.ring with results := assocPut c.pos (planCode k) s1.ring.results } }, hh, by rw [hr], ?_⟩
  rw [← hcode]
  rfl

/-- The positions of a plan. -/
def planNodes (p : List Byte) : List Nat := (List.range (uAt p 0 1)).map (planPos p)

/-- A plan whose every node has a result is answered by them. -/
theorem balanceReply_complete {w : Waiting} (hw : (s.host.waiting.find? fun w => w.why == WaitFor.balance) = some w)
    (hr : ∀ p ∈ planNodes w.req.payload, (assoc? p s.ring.results).isSome = true) :
    s.balanceReply = State.answer { s with
      host := { s.host with waiting := s.host.waiting.filter (fun x => x.why != WaitFor.balance) }
      ring := { s.ring with results := [] } } w.id stOk 0
      ((planNodes w.req.payload).map fun p => BitVec.ofNat 8 ((assoc? p s.ring.results).getD 0xFF)) := by
  have hall : (planNodes w.req.payload).all (fun p => (assoc? p s.ring.results).isSome) = true := List.all_eq_true.2 hr
  unfold State.balanceReply
  rw [hw]
  exact if_pos hall

/-- The last result of a plan brings its reply. -/
theorem cmdDone_plan_complete {w : Waiting} {k : Nat} {old : List Pkt} {rest : List (Nat × List Pkt)} (hu : c.use = 1) (h4 : c.cmd = 4)
    (b : List Byte) (hw : (s.host.waiting.find? fun w => w.why == WaitFor.balance) = some w) (hp : w.id.prov = false)
    (ht : w.id.tagged = true) (hb : w.id.bcast = false) (hn : w.id.session < s.host.sess.length)
    (hc : (s.session w.id.session).cache = (w.id.seq, old) :: rest)
    (hr : ∀ p ∈ planNodes w.req.payload, p ≠ c.pos → (assoc? p s.ring.results).isSome = true) :
    Replied (s.cmdDone c (some k) b) (askedBy w.id) w.id.op stOk 0
      ((planNodes w.req.payload).map fun p => BitVec.ofNat 8 (if p = c.pos then planCode k else (assoc? p s.ring.results).getD 0xFF)) := by
  obtain ⟨s1, hhost, hring, he⟩ := cmdDone_plan (s := s) (k := k) hu h4 b
  have hres : ∀ p, assoc? p s1.ring.results = if p = c.pos then some (planCode k) else assoc? p s.ring.results := fun p => by
    rw [hring]
    split
    next h => rw [h]; exact assoc_put_same ..
    next h => exact assoc_put_other _ _ _ _ (Ne.symm h)
  have hbody : ((planNodes w.req.payload).map fun p => BitVec.ofNat 8 ((assoc? p s1.ring.results).getD 0xFF)) =
      (planNodes w.req.payload).map fun p => BitVec.ofNat 8 (if p = c.pos then planCode k else (assoc? p s.ring.results).getD 0xFF) := by
    refine List.map_congr_left fun p _ => ?_
    rw [hres]
    split <;> rfl
  rw [he, balanceReply_complete (by rw [hhost]; exact hw) (fun p hm => by
    rw [hres]
    split
    · rfl
    next h => exact hr p hm h), hbody]
  refine answer_replied hp ht hb (by rw [hhost]; exact hn) ⟨old, rest, ?_⟩
  unfold State.session at hc ⊢
  dsimp only
  rw [hhost]
  exact hc

end

/-! ## PARK (R306, R373) -/

/-- `b` has the cached replies of session `n` of `a` and the coils; where nothing waits in `a`, nothing waits in `b`. -/
structure KeepsReplies (n : Nat) (a b : State) : Prop where
  cache : (b.session n).cache = (a.session n).cache
  waiting : a.host.waiting = [] → b.host.waiting = []
  coil : b.get F.PRT_CONTSTAT_COIL = a.get F.PRT_CONTSTAT_COIL

theorem KeepsReplies.trans {n : Nat} {a b c : State} (h : KeepsReplies n a b) (k : KeepsReplies n b c) : KeepsReplies n a c :=
  ⟨k.cache.trans h.cache, fun hw => k.waiting (h.waiting hw), k.coil.trans h.coil⟩

theorem KeepsReplies.replied {n : Nat} {a b : State} (h : KeepsReplies n a b) {r : Req} (hr : r.session = n) {op st j : Nat} {p : List Byte}
    (ha : Replied a r op st j p) : Replied b r op st j p := by
  unfold Replied at ha ⊢
  rw [hr, h.cache, ← hr]
  exact ha

/-- A change of every element that keeps a projection keeps it at every place. -/
theorem nth_map_keep {α β : Type} (g : α → β) (d : α) (l : List α) (i : Nat) (f : α → α) (h : ∀ x, g (f x) = g x) :
    g (nth d (l.map f) i) = g (nth d l i) := by
  unfold nth
  rw [List.getElem?_map]
  cases l[i]? with
  | none => rfl
  | some x => exact h x

section
variable (s : State) (n : Nat)

theorem updDiscard_keeps : KeepsReplies n s s.updDiscard := by
  unfold State.updDiscard
  split
  · refine ⟨rfl, id, ?_⟩
    exact (get_set_clear _ F.UPD_RECV_BYTES F.PRT_CONTSTAT_COIL _ (by decide)).trans
      (get_set_clear _ F.UPD_STATE_PHASE F.PRT_CONTSTAT_COIL _ (by decide))
  · exact ⟨rfl, id, rfl⟩

/-- A session that closes leaves the replies of the others. -/
theorem closeSession_keeps {m : Nat} (h : m ≠ n) : KeepsReplies n s (s.closeSession m) := by
  unfold State.closeSession
  extract_lets _ _ s1
  have h1 : KeepsReplies n s s1 := by
    refine ⟨congrArg Session.cache (nth_modNth_other _ _ _ _ _ h), fun hw => ?_, rfl⟩
    show s.host.waiting.filter _ = []
    rw [hw]
    rfl
  split
  · exact h1.trans (updDiscard_keeps s1 n)
  · exact h1

theorem foldl_closeSession_keeps {l : List (Nat × ReqId)} (h : ∀ c ∈ l, c.1 ≠ n) :
    KeepsReplies n s (l.foldl (fun a c => a.closeSession c.1) s) := by
  induction l generalizing s with
  | nil => exact ⟨rfl, id, rfl⟩
  | cons c t ih =>
    obtain ⟨hc, ht⟩ := List.forall_mem_cons.1 h
    exact (closeSession_keeps s n hc).trans (ih _ ht)

/-- What leaves the queues at once leaves the cached replies of a session that does not close. -/
theorem drain_keeps (h : ∀ c ∈ s.host.closing, c.1 ≠ n) : KeepsReplies n s s.drain := by
  unfold State.drain
  extract_lets left _ _ _ _ _ s1 waits
  have h1 : KeepsReplies n s s1 := ⟨nth_map_keep Session.cache _ _ _ _ fun _ => rfl, id, rfl⟩
  exact h1.trans (foldl_closeSession_keeps s1 n fun c hc => h c (List.mem_of_mem_filter hc))

theorem rotate_keeps : KeepsReplies n s s.rotate := by
  unfold State.rotate
  extract_lets due most
  clear_value most
  split
  · exact ⟨rfl, id, rfl⟩
  · split
    · exact ⟨rfl, id, rfl⟩
    · split
      · exact ⟨rfl, id, rfl⟩
      · refine ⟨rfl, id, ?_⟩
        exact (get_set_clear _ F.LAN_STAT_NOSPARE F.PRT_CONTSTAT_COIL _ (by decide)).trans
          (get_set_clear _ F.LAN_CFG_ROTPEND F.PRT_CONTSTAT_COIL _ (by decide))

theorem rotate_rst : s.rotate.rst = s.rst := by
  unfold State.rotate
  extract_lets due most
  clear_value most
  split
  · rfl
  · split
    · rfl
    · split <;> rfl

theorem acqBroadcast_eq : ∃ r : RingSt, s.acqBroadcast = { s with ring := r } := by
  unfold State.acqBroadcast State.ringBroadcast
  dsimp only
  split
  · split
    · exact ⟨_, rfl⟩
    · exact ⟨_, rfl⟩
  · exact ⟨s.ring, rfl⟩

/-- With no plan that waits, lost commands move the ring alone. -/
theorem cmdsLost_free (h : (s.host.waiting.find? fun w => w.why == WaitFor.balance) = none) : ∃ x : RingSt, s.cmdsLost = { s with ring := x } := by
  unfold State.cmdsLost State.balanceReply
  dsimp only
  rw [h]
  split <;> exact ⟨_, rfl⟩

theorem answer_rst (id : ReqId) (st j : Nat) (p : List Byte) : (s.answer id st j p).rst = s.rst :=
  answer_leaves s State.rst queueReply_rst (fun _ via _ _ => by cases via <;> rfl) (fun _ _ => rfl) id st j p

theorem cmdsLost_rst : s.cmdsLost.rst = s.rst := by
  unfold State.cmdsLost State.balanceReply
  dsimp only
  split
  · rfl
  · split
    · rfl
    · split
      · exact answer_rst ..
      · rfl

/-- The checkpoints move the estimator alone. -/
theorem checkpoint_eq : ∃ e : EstSt, s.checkpoint = { s with est := e } := by
  have hone : ∀ (a : State) q, ∃ e : EstSt, a.checkpointOf q = { a with est := e } := fun a q => by
    unfold State.checkpointOf
    dsimp only
    split
    · exact ⟨_, rfl⟩
    · exact ⟨a.est, rfl⟩
  unfold State.checkpoint
  induction List.range 4 generalizing s with
  | nil => exact ⟨s.est, rfl⟩
  | cons q t ih =>
    obtain ⟨e, he⟩ := hone s q
    obtain ⟨e', he'⟩ := ih { s with est := e }
    exact ⟨e', by rw [List.foldl_cons, he, he']⟩

/-- The registers as PARK leaves them, the ring's state apart. -/
def parkRegs (r : List (Nat × Word)) : List (Nat × Word) :=
  [(F.RST_STAT_MSTATE, 1), (F.EVR_GDIS_INT, 1), (F.IIC_STAT_ROLE, 0), (⟨0xF000C, 2, 2⟩, 0), (F.CAN_STAT_STATE, 0), (F.CAN_STAT_ABD, 0),
    (F.THM_VALVE_DUTY, 0), (F.EST_FLAGS_RESTING, 0), (F.TIM_ETH_LINK, 0), (F.TIM_ETH_LINK.ix 1, 0)].foldl (fun r x => setField r x.1 x.2) r

/-- `e` is PARK entered from `c`, which has lost its ring commands. -/
structure ParkEntered (c e : State) : Prop where
  mode : e.rst.mode = .park
  req : e.rst.parkReq = c.rst.parkReq
  run : e.time.run = false
  host : e.host = c.host
  regs : e.regs = parkRegs c.regs ∨ e.regs = setField (parkRegs c.regs) F.RING_STAT_STATE 6

theorem parkEnter_entered : ParkEntered s.cmdsLost s.parkEnter := by
  unfold State.parkEnter
  extract_lets c s1 s2 s3 off s4 _ _ _ _ _ _ _ s5 _ s6 s7 s8
  have hc : s.cmdsLost = c := rfl
  obtain ⟨hr1, hh1, hg1⟩ : s1.rst = c.rst ∧ s1.host = c.host ∧ s1.regs = c.regs := by
    obtain ⟨e, he⟩ := checkpoint_eq c
    rw [show s1 = { c with est := e } from he]
    exact ⟨rfl, rfl, rfl⟩
  rw [hc]
  clear_value s1 c
  have h5 : s5.rst.mode = .park ∧ s5.rst.parkReq = s1.rst.parkReq ∧ s5.time.run = false ∧ s5.host = s1.host ∧ s5.regs = setField (setField
    (setField (setField s1.regs F.RST_STAT_MSTATE 1) F.EVR_GDIS_INT 1) F.IIC_STAT_ROLE 0) ⟨0xF000C, 2, 2⟩ 0 := ⟨rfl, rfl, rfl, rfl, rfl⟩
  clear_value s5
  obtain ⟨hm, hq, hr, hh, hg⟩ := h5
  rw [hr1] at hq
  rw [hh1] at hh
  rw [hg1] at hg
  have h8 : s8.rst = s5.rst ∧ s8.time = s5.time ∧ s8.host = s5.host ∧ s8.regs = parkRegs c.regs := by
    refine ⟨rfl, rfl, rfl, ?_⟩
    unfold parkRegs
    simp only [List.foldl_cons, List.foldl_nil]
    rw [← hg]
    rfl
  clear_value s8
  obtain ⟨hr8, ht8, hh8, hg8⟩ := h8
  split
  · exact ⟨by rw [hr8, hm], by rw [hr8, hq], by rw [ht8, hr], hh8.trans hh, .inl hg8⟩
  · exact ⟨(congrArg RstSt.mode hr8).trans hm, (congrArg RstSt.parkReq hr8).trans hq, (congrArg TimeSt.run ht8).trans hr, hh8.trans hh,
      .inr (congrArg (setField · F.RING_STAT_STATE 6) hg8)⟩

section
variable {c e : State} (h : ParkEntered c e)
include h

theorem ParkEntered.get {f : Fld} {v : Nat} (hp : ∀ r, fieldOf (parkRegs r) f = v)
    (hs : ∀ r, fieldOf (setField (parkRegs r) F.RING_STAT_STATE 6) f = v) : e.get f = v := by
  rw [get_field]
  rcases h.regs with hr | hr
  · rw [hr, hp]
  · rw [hr, hs]

theorem ParkEntered.shows : e.get F.RST_STAT_MSTATE = 1 ∧ e.get F.TIM_ETH_LINK = 0 ∧ e.get F.CAN_STAT_STATE = 0 ∧
    e.get F.THM_VALVE_DUTY = 0 := by
  refine ⟨h.get (fun r => ?_) fun r => ?_, h.get (fun r => ?_) fun r => ?_, h.get (fun r => ?_) fun r => ?_, h.get (fun r => ?_) fun r => ?_⟩
  all_goals
    unfold parkRegs
    simp (disch := decide) only [List.foldl_cons, List.foldl_nil, field_same, field_other]
    rfl

theorem ParkEntered.coil : e.get F.PRT_CONTSTAT_COIL = c.get F.PRT_CONTSTAT_COIL := by
  rw [get_field, get_field]
  rcases h.regs with hr | hr
  all_goals
    rw [hr]
    unfold parkRegs
    simp (disch := decide) only [List.foldl_cons, List.foldl_nil, field_other]

end

theorem parkEnter_keeps (hw : s.host.waiting = []) : KeepsReplies n s s.parkEnter := by
  have h := parkEnter_entered s
  have hh : s.parkEnter.host = s.host := by
    obtain ⟨x, hx⟩ := cmdsLost_free s (by rw [hw]; rfl)
    rw [h.host, hx]
  exact ⟨by unfold State.session; rw [hh], fun _ => by rw [hh]; exact hw,
    h.coil.trans (congrArg F.PRT_CONTSTAT_COIL.of (cmdsLost_word s (x := 0x80038) rfl (by decide)))⟩

/-- What an accepted PARK makes of the module, its reply sent (R306). -/
def parkSent (s : State) : State := s.rotate.parkEnter.acqBroadcast

/-- `s'` is PARK as it shows. -/
structure ParkShown (s s' : State) : Prop where
  mode : s'.rst.mode = .park
  req : s'.rst.parkReq = s.rst.parkReq
  run : s'.time.run = false
  mstate : s'.get F.RST_STAT_MSTATE = 1
  link : s'.get F.TIM_ETH_LINK = 0
  can : s'.get F.CAN_STAT_STATE = 0
  valve : s'.get F.THM_VALVE_DUTY = 0

theorem parkSent_shown : ParkShown s (parkSent s) := by
  have he := parkEnter_entered s.rotate
  obtain ⟨r, hr⟩ := acqBroadcast_eq s.rotate.parkEnter
  obtain ⟨hm, hl, hc, hv⟩ := he.shows
  unfold parkSent
  rw [hr]
  exact ⟨he.mode, he.req.trans (congrArg RstSt.parkReq ((cmdsLost_rst _).trans (rotate_rst s))), he.run, hm, hl, hc, hv⟩

theorem parkSent_keeps (hw : s.host.waiting = []) : KeepsReplies n s (parkSent s) := by
  have hrot := rotate_keeps s n
  obtain ⟨r, hr⟩ := acqBroadcast_eq s.rotate.parkEnter
  obtain ⟨hcache, hwait, hcoil⟩ := hrot.trans (parkEnter_keeps s.rotate n (hrot.waiting hw))
  unfold parkSent
  rw [hr]
  exact ⟨hcache, hwait, hcoil⟩

/-- What waits for its reply, and the sessions that close. -/
def asks (s : State) : List Waiting × List (Nat × ReqId) := (s.host.waiting, s.host.closing)

theorem queueReply_asks (m : Nat) (via : Via) (src : Nat) (p : Pkt) : asks (s.queueReply m via src p) = asks s := by
  have hq : ∀ a : State, asks ((a.count F.GLB_PKTERR_QFULL F.GLB_PKTERR_SAT).qLost (8 + m)) = asks a := fun a => by
    unfold asks
    rw [qLost_host, count_host]
  unfold State.queueReply
  dsimp only
  split
  · split
    · rfl
    · exact hq _
  · split
    · rfl
    · exact hq _

/-- A reply leaves what waits and which sessions close. -/
theorem giveRes_asks (r : Req) (op st j : Nat) (p : List Byte) (ha : r.auth = true) :
    asks (s.giveRes (reqId r op false) (.reply st j p)) = asks s := by
  have hq : ∀ l : List Pkt, asks (l.foldl (fun (a : State) q => a.queueReply r.session r.via r.src q) s) = asks s := fun l =>
    foldl_leaves asks _ (fun a q => queueReply_asks a ..) l s
  unfold State.giveRes State.answer
  simp only [reqId, ha, Bool.not_false, Bool.and_true, Bool.false_eq_true, if_false, if_true]
  split
  · exact hq _
  · exact hq _

end

/-! ## What decides a PARK -/

section
variable (a : State) (r : Req)

theorem taken_parkBusy : (taken a r).parkBusy = a.parkBusy := by
  rcases taken_split a r with h | ⟨l, h⟩ <;> rw [h] <;> rfl

theorem taken_parkRefused : (taken a r).parkRefused = a.parkRefused := by
  rcases taken_split a r with h | ⟨l, h⟩ <;> rw [h] <;> rfl

theorem taken_closing : (taken a r).host.closing = a.host.closing := by
  rcases taken_split a r with h | ⟨l, h⟩ <;> rw [h] <;> rfl

theorem taken_parked : (taken a r).parked = a.parked := by
  unfold State.parked
  rw [taken_mode]

/-- A PARK whose reply has left the SPI stream is entered where it may be. -/
theorem parkNow_enters {s : State} {id : ReqId} (hreq : s.rst.parkReq = some id) (hout : s.host.spiOut.any (·.answers id) = false)
    (hs : s.inService = true) (hbusy : s.parkBusy = false) (href : s.parkRefused = none) :
    s.parkNow.rst.mode = .park ∧ s.parkNow.rst.parkReq = none ∧ s.parkNow.time.run = false := by
  have hgo : ∀ b : State, b.inService = s.inService → b.parkBusy = s.parkBusy → b.parkRefused = s.parkRefused →
      (if (!b.inService || b.parkBusy || b.parkRefused.isSome) = true then b else b.rotate.parkEnter.acqBroadcast) = parkSent b :=
    fun b h1 h2 h3 => if_neg (by rw [h1, h2, h3, hs, hbusy, href]; decide)
  have he : s.parkNow = parkSent { s with rst := { s.rst with parkReq := none } } := by
    unfold State.parkNow
    rw [hreq]
    exact (if_neg (by rw [hout]; decide)).trans (hgo _ rfl rfl rfl)
  obtain ⟨hmode, hnone, hrun, -, -, -, -⟩ := parkSent_shown { s with rst := { s.rst with parkReq := none } }
  rw [he]
  exact ⟨hmode, hnone, hrun⟩

/-- A read that takes a whole packet takes it out of the SPI stream. -/
theorem spiRead_whole {s : State} {p : Pkt} {more : List Pkt} {n : Nat} (hout : s.host.spiOut = p :: more) (hlen : p.bytes.length ≤ n) :
    ∃ o, s.spiRead n = { s with out := o, host := { s.host with spiOut := more } } := by
  unfold State.spiRead
  rw [hout]
  exact ⟨_, if_pos hlen⟩

end

/-- A parked module's pads: no gate switches, the valve is shut, and coils that are off stay off. -/
theorem parked_pads {s : State} {t : Nat} {f : State → State} (hm : (f (s.upto t)).rst.mode = .park)
    (hv : (f (s.upto t)).get F.THM_VALVE_DUTY = 0) : (s.command t f).pads.gates = false ∧ (s.command t f).pads.valve = false ∧
      ((f (s.upto t)).get F.PRT_CONTSTAT_COIL = 0 → (s.command t f).pads.coils = [false, false, false]) := by
  refine ⟨gates_low_of_mode (by rw [hm]; decide), ?_, fun hc => ?_⟩
  · rw [command_pads]
    show ((s.command t f).get F.THM_VALVE_DUTY != 0) = false
    rw [command_get, hv]
    rfl
  · rw [command_pads]
    show [((s.command t f).get F.PRT_CONTSTAT_COIL).testBit 0, ((s.command t f).get F.PRT_CONTSTAT_COIL).testBit 1,
      ((s.command t f).get F.PRT_CONTSTAT_COIL).testBit 2] = _
    rw [command_get, hc]
    rfl

/-! ## A full wake (R306, R375) -/

/-- The module is in RUN by source `k`, and `r` alone waits for its reply to the wake. -/
structure Woken (r : Req) (k : Nat) (s : State) : Prop where
  place : HasPlace r.session r.seq s
  waits : ∃ n, s.host.waiting = [{ why := .wake, id := reqId r 0x0408 false, req := r, since := n }]
  mode : s.rst.mode = .run
  run : s.time.run = true
  src : s.get F.RST_WAKESRC_SRC = k

namespace Woken

section
variable {r : Req} {k : Nat} {a b : State} (h : Woken r k a)
include h

/-- An update of other parts of the state. -/
theorem upd (hh : b.host = a.host) (hm : b.rst.mode = a.rst.mode) (hr : b.time.run = a.time.run) (hg : b.regs = a.regs) : Woken r k b :=
  ⟨h.place.of_host hh, by rw [hh]; exact h.waits, hm.trans h.mode, hr.trans h.run, (get_congr hg _).trans h.src⟩

theorem set (f : Fld) (x : Nat) (hf : (f.addr == 0x1001C) = false) : Woken r k (a.set f x) :=
  ⟨h.place.of_host rfl, h.waits, h.mode, h.run, (congrArg F.RST_WAKESRC_SRC.of (word_set_other _ _ _ _ (beq_eq_false_iff_ne.1 hf))).trans h.src⟩

theorem setB (f : Fld) (x : Bool) (hf : (f.addr == 0x1001C) = false) : Woken r k (a.setB f x) := h.set f _ hf

theorem raise (n : Nat) (d : List Byte) : Woken r k (a.raise n d) := by
  unfold State.raise
  extract_lets _ _ _ s1
  have h1 : Woken r k s1 := h.upd rfl rfl rfl rfl
  clear_value s1
  split
  · exact h1.setB F.EVR_STAT_OVF_SEEN true rfl
  · exact h1

theorem timState (c : Nat) : Woken r k (a.timState c) := by
  unfold State.timState
  split
  · exact h
  · exact (h.set _ _ rfl).raise _ _

theorem feedForward : Woken r k a.feedForward := by
  unfold State.feedForward
  dsimp only
  split
  · exact h.set _ _ rfl
  · exact h

theorem bayRestart : Woken r k a.bayRestart := h.upd rfl rfl rfl rfl

theorem cmdsLost : Woken r k a.cmdsLost := by
  obtain ⟨n, hn⟩ := h.waits
  obtain ⟨x, hx⟩ := cmdsLost_free a (by rw [hn]; rfl)
  rw [hx]
  exact h.upd rfl rfl rfl rfl

theorem ringStart (b : Bool) : Woken r k (a.ringStart b) := by
  have hl := h.cmdsLost
  unfold State.ringStart
  extract_lets c _ _ s1
  have h1 : Woken r k s1 := Woken.upd (a := c) hl rfl rfl rfl rfl
  clear_value s1
  exact ((h1.setB F.ACQ_STAT_OWRUN false rfl).set F.RING_STAT_UNREACH 0 rfl).set F.RING_STAT_STATE _ rfl

theorem azStart : Woken r k a.azStart := by
  have hp : ∀ c, Woken r k c → Woken r k c.insPause := fun c hc => by
    unfold State.insPause
    exact (hc.setB F.CVI_INS_STAT_PAUSED true rfl).upd rfl rfl rfl rfl
  unfold State.azStart
  extract_lets one s0 c _ s1
  have hc : Woken r k c := ((h.setB F.CVI_SH_STAT_AZINIT true rfl).set F.CVI_SH_STAT_MEAS one rfl).setB F.CVI_SH_STAT_DRIFT _ rfl
  clear_value c
  have h1 : Woken r k s1 := hc.upd rfl rfl rfl rfl
  clear_value s1
  split
  · exact h1.setB F.CVI_INS_STAT_PAUSED false rfl
  · exact hp _ h1

theorem parkTerms (n : Nat) : Woken r k (a.parkTerms n) := h.upd rfl rfl rfl rfl

theorem parkShift : Woken r k a.parkShift := by
  refine ⟨h.place.of_cache (List.length_map _) ?_, h.waits, h.mode, h.run, h.src⟩
  unfold State.session State.parkShift
  refine nth_map_keep Session.cache _ _ _ _ fun x => ?_
  dsimp only
  split <;> rfl

theorem qLost39 : Woken r k (a.qLost 39) := by
  unfold State.qLost State.count
  dsimp only
  split
  · exact h.set _ _ rfl
  · exact (h.set _ _ rfl).setB _ _ rfl

theorem canLog (c x : Nat) : Woken r k (a.canLog c x) := by
  unfold State.canLog
  extract_lets s1
  have h1 : Woken r k s1 := by
    unfold s1
    split
    · exact h
    · exact h.qLost39
  clear_value s1
  exact h1.upd rfl rfl rfl rfl

theorem candApply (i : Nat) : Woken r k (a.candApply i) := by
  have h1 := h.set F.CAN_STAT_CAND i rfl
  unfold State.candApply
  generalize a.set F.CAN_STAT_CAND i = c at h1
  exact h1.upd rfl rfl rfl rfl

theorem canRestart : Woken r k a.canRestart := by
  unfold State.canRestart
  extract_lets m _ s1 s2 s3
  have h1 : Woken r k s1 := h.upd rfl rfl rfl rfl
  clear_value s1
  have h2 : Woken r k s2 := ((((h1.set F.CAN_ERRCNT_TEC 0 rfl).set F.CAN_ERRCNT_REC 0 rfl).setB F.CAN_STAT_RECOV _ rfl).setB F.CAN_STAT_HELD _ rfl).setB _ _ rfl
  clear_value s2
  have h3 : Woken r k s3 := (h2.set F.CAN_STAT_STATE _ rfl).canLog 7 0
  clear_value s3
  split
  · exact (h3.set F.CAN_STAT_ABD 1 rfl).candApply _
  · exact h3.set _ _ rfl

theorem recWake : Woken r k a.recWake := by
  have hc : ∀ c, Woken r k c → Woken r k c.recClose := fun c hc => by
    unfold State.recClose
    extract_lets _ _ _ _ _ _ _ s1 c
    have h1 : Woken r k s1 := by
      unfold s1
      split
      · exact hc.upd rfl rfl rfl rfl
      · exact hc.upd rfl rfl rfl rfl
    clear_value s1
    have h2 : Woken r k c := h1.set F.REC_STATE_PENDING _ rfl
    clear_value c
    exact h2.upd rfl rfl rfl rfl
  unfold State.recWake
  extract_lets _ _ _ _ s1
  have h1 : Woken r k s1 := h.upd rfl rfl rfl rfl
  clear_value s1
  split
  · exact hc _ h1
  · exact h1

end

/-- Quartz runs again from its start. -/
theorem quartzStart {r : Req} {k : Nat} {a : State} (h : Woken r k { a with time := { a.time with run := true } }) : Woken r k a.quartzStart := by
  unfold State.quartzStart
  extract_lets _ _ _ s1
  have h1 : Woken r k s1 := h.upd rfl rfl rfl rfl
  clear_value s1
  exact (((((((h1.setB F.TIM_STAT_STEPPED false rfl).setB F.TIM_STAT_VALID false rfl).set F.TIM_STAT_PORT 0 rfl).timState 0).setB
    F.GLB_GRID_SLEWING false rfl).set F.GLB_GRID_PHASE_ERR 0 rfl).feedForward)

/-- The reply to the wake is given, and the module stays as it woke. -/
theorem wakeReply {r : Req} {k : Nat} {a : State} (h : Woken r k a) (ha : r.auth = true) (ht : (r.target == 0xFE) = false) (hs : r.session < 8) :
    Replied a.wakeReply r 0x0408 stOk 0 [] ∧ a.wakeReply.rst.mode = .run ∧ a.wakeReply.time.run = true ∧ a.wakeReply.get F.RST_WAKESRC_SRC = k := by
  obtain ⟨hp, ⟨n, hn⟩, hm, hr, hk⟩ := h
  have he : a.wakeReply = State.giveRes { a with host := { a.host with waiting := [] } } (reqId r 0x0408 false) (.reply stOk 0 []) := by
    unfold State.wakeReply
    rw [hn]
    rfl
  rw [he, giveRes_rst _ _ _ _ ha, giveRes_time _ _ _ _ ha, giveRes_get _ _ _ _ F.RST_WAKESRC_SRC ha (show 0 + 4 ≤ 32 by decide) rfl hs]
  exact ⟨giveRes_replied _ r _ _ _ _ ha ht hp.1 hp.2, hm, hr, hk⟩

end Woken

/-- A full wake with no cause to halt goes to RUN. -/
theorem fullWake_woken {s : State} {r : Req} {k n : Nat} (hc : s.haltCause = 0) (hh : s.rst.halted = false) (hp : HasPlace r.session r.seq s)
    (hw : s.host.waiting = [{ why := .wake, id := reqId r 0x0408 false, req := r, since := n }]) (hk : k < 16) :
    ∃ b, Woken r k b ∧ s.fullWake k = b.wakeReply := by
  unfold State.fullWake
  extract_lets c s1 sys _ _ _ s2 s3 s4
  have hc0 : c = 0 := by
    unfold c
    rw [hc, hh]
    rfl
  have hk1 : s1.get F.RST_WAKESRC_SRC = k :=
    (get_set_clear _ F.RST_WAKESRC_SEEN F.RST_WAKESRC_SRC _ (by decide)).trans
      ((get_set_same _ F.RST_WAKESRC_SRC _ (show 0 + 4 ≤ 32 by decide)).trans (Nat.mod_eq_of_lt hk))
  obtain ⟨hh2, hg2⟩ : s2.host = s.host ∧ s2.regs = s1.regs := ⟨rfl, rfl⟩
  clear_value s2
  have h2 : Woken r k { s2 with rst := { s2.rst with mode := .run }, time := { s2.time with run := true } } :=
    ⟨hp.of_host hh2, ⟨n, (congrArg HostSt.waiting hh2).trans hw⟩, rfl, rfl, (get_congr hg2 _).trans hk1⟩
  have h3 : Woken r k s3 := by
    unfold s3
    rw [hc0, if_pos rfl]
    refine (Woken.quartzStart (Woken.upd ?_ rfl rfl rfl rfl)).setB F.GLB_GRID_ALIGNED false rfl
    exact ((((h2.set F.RST_STAT_MSTATE 0 rfl).set F.RST_STAT_HALTC 0 rfl).setB F.EVR_GDIS_INT false rfl).set ⟨0x10018, 0, 32⟩ _ rfl)
  clear_value s3
  have h4 : Woken r k s4 := ((h3.bayRestart.ringStart false).azStart).parkTerms _
  clear_value s4
  exact ⟨_, h4.parkShift.canRestart.recWake, rfl⟩

end Sys2Proof.Machine.Laws

namespace Sys2Proof.Proofs

open Sys2Proof.Machine Sys2Proof.Machine.Laws Sys2Proof.Safety

/-- Settles O12: each request's body is evaluated in the state that its session took it in; of a control sample, what it leaves of the
set-point (`controlSample_keeps`) and what the instant takes; of PARK, what the entry leaves of the replies and the coils
(`parkSent_keeps`) and shows (`parkSent_shown`); of a wake, what every part of it keeps until the reply (`Woken`). -/
theorem operationOpcodesAct : Obligations.OperationOpcodesAct := by
  unfold Obligations.OperationOpcodesAct
  rintro s _ t r x rfl
  refine ⟨fun hs hv => ⟨fun hj => ?hold, fun hj => ?later⟩, fun p hdue hj hnext => ⟨fun ha => ?net, fun ha => ?kept⟩,
    fun p hdue hj hnext hsrc hmode => ?taken, fun hs hm hv => ?bad,
    fun hs hsrc hmode => ⟨fun hok hj => ?srcHold, fun hok hj => ?srcLater, fun hne hrun => ?srcRefused⟩,
    fun hs => ⟨fun hsrc hen h1 h40 hgood hroom hwait => ?plan, fun hsrc => ?planRefused⟩,
    fun c w rx raw code ps old more h1 h2 h3 h4 h5 h6 h7 h8 h9 h10 h11 h12 h13 h14 h15 h16 h17 h18 h19 h20 h21 h22 h23 => ?lastFrame,
    fun hs => ⟨fun href hbusy hvia hw hcl => ?park, fun href hbusy hvia => ?parkSpi, fun hbusy => ?parkBusy, fun c hbusy href => ?parkRefused⟩,
    fun id p more n hs hport hearly hreq hout hmore hlen hbusy href => ?spiRead,
    fun hs => ⟨fun hp => ?awake, fun hp hc hh hw => ?wake⟩⟩
  case hold =>
    refine answers_given (s1 := (taken (s.upto t) r).setpointHold 0x0403 r.payload) rfl hs ?_ ((taken_hasPlace hs).of_host rfl)
      fun s' hs' => ⟨hs'.replied, hs'.ctl.trans (by unfold State.setpointHold; dsimp only; rw [taken_ctl])⟩
    dsimp only
    rw [setpoint_within hv, taken_lrn, hj]
    rfl
  case later =>
    refine answers_given (s1 := (taken (s.upto t) r).keepLater 0x0403 r.payload) rfl hs ?_ ((taken_hasPlace hs).of_host rfl)
      fun s' hs' => ⟨hs'.replied, hs'.ctl.trans (by unfold State.keepLater; dsimp only; rw [taken_ctl])⟩
    dsimp only
    rw [setpoint_within hv, taken_lrn, hj]
    rfl
  case net =>
    refine answers_of_guard rfl hdue rfl ?_
    rw [command_ctl, (controlSample_keeps _ _).net]
    exact setpointTake_net hnext ha
  case kept =>
    have hk := controlSample_keeps (s.upto t) x
    obtain ⟨hnet, hheld⟩ := setpointTake_held hnext ha
    refine answers_of_guard rfl hdue rfl ?_
    rw [command_ctl]
    exact ⟨hk.net.trans hnet, hk.next _ hheld⟩
  case taken =>
    have hk := controlSample_keeps (s.upto t) x
    refine answers_of_guard rfl hdue rfl ?_
    rw [command_get, command_get, command_get, hk.get (by decide), hk.get (by decide), hk.get (by decide)]
    exact setpointTake_source hnext hsrc hmode
  case bad =>
    refine answers_given (s1 := taken (s.upto t) r) rfl hs ?_ (taken_hasPlace hs)
      fun s' hs' => ⟨hs'.replied, hs'.ctl.trans (taken_ctl _ _)⟩
    dsimp only
    rw [taken_flag, hm, decide_eq_true hv]
    rfl
  case srcHold =>
    refine answers_given (s1 := (taken (s.upto t) r).setpointHold 0x0404 r.payload) rfl hs ?_ ((taken_hasPlace hs).of_host rfl)
      fun s' hs' => ⟨hs'.replied, hs'.ctl.trans (by unfold State.setpointHold; dsimp only; rw [taken_ctl])⟩
    rw [if_neg (by omega), if_neg (by omega), taken_get, taken_loopStopped, if_neg (by rcases hok with h | h <;> simp [h]), taken_lrn, hj]
    rfl
  case srcLater =>
    refine answers_given (s1 := (taken (s.upto t) r).keepLater 0x0404 r.payload) rfl hs ?_ ((taken_hasPlace hs).of_host rfl)
      fun s' hs' => ⟨hs'.replied, hs'.ctl.trans (by unfold State.keepLater; dsimp only; rw [taken_ctl])⟩
    rw [if_neg (by omega), if_neg (by omega), taken_get, taken_loopStopped, if_neg (by rcases hok with h | h <;> simp [h]), taken_lrn, hj]
    rfl
  case srcRefused =>
    refine answers_given (s1 := taken (s.upto t) r) rfl hs ?_ (taken_hasPlace hs)
      fun s' hs' => ⟨hs'.replied, (hs'.get (by decide)).trans (taken_get _ _ _)⟩
    rw [if_neg (by omega), if_neg (by omega), taken_get, taken_loopStopped, if_pos ⟨hne, by rw [hrun]; rfl⟩]
    rfl
  case plan =>
    obtain ⟨cs, hcs, he⟩ := planSend_queues (taken (s.upto t) r) (reqId r 0x0405 false) r
    have hnw : ((taken (s.upto t) r).planFull r.payload || (taken (s.upto t) r).host.waiting.any (fun w => w.why == WaitFor.balance)) = false := by
      rw [taken_planFull, hroom, taken_waiting, Bool.false_or, List.any_eq_false]
      exact fun w hw => by simpa using hwait w hw
    refine answers_later (s1 := (taken (s.upto t) r).planSend (reqId r 0x0405 false) r) rfl hs ?_ ?_
    · dsimp only
      rw [if_neg (by rw [taken_get, taken_flag, hsrc, hen]; decide), if_neg (by omega), plan_sound hgood]
      dsimp only
      rw [hnw, if_neg (by decide)]
    · rw [command_ring, command_host, he]
      refine ⟨rfl, ⟨_, List.mem_append_right _ (List.mem_singleton_self _), rfl, rfl⟩, fun i hi => ?_⟩
      obtain ⟨c, hc, hentry⟩ := exists_of_forall₂ hcs i (List.mem_range.2 hi)
      exact ⟨c, List.mem_append_right _ hc, hentry⟩
  case planRefused =>
    refine answers_given (s1 := taken (s.upto t) r) rfl hs ?_ (taken_hasPlace hs)
      fun s' hs' => ⟨hs'.replied, hs'.ring.trans (taken_ring _ _)⟩
    dsimp only
    rw [if_pos (.inl (by rw [taken_get]; exact hsrc))]
    rfl
  case lastFrame =>
    obtain ⟨r1, hres, he⟩ := frameOver_balanced (s := s.upto t) (c := c) raw h7 h5
    refine answers_of_guard rfl h2 ((cmdReturn_executed h3 h6 h8 h9 h10 h11 h12 h13 (.inl h14)).trans he) ?_
    obtain ⟨qs, more1, hput, hpay, hall⟩ := cmdDone_plan_complete (s := { s.upto t with ring := r1 }) (k := uAt raw (8 + c.payload.length) 1)
      h4 h5 raw h15 h16 h17 h18 (open_lt _ _ h19) h20 (fun p hm hne => by rw [hres]; exact h22 p (by rw [h21]; exact hm) hne)
    unfold State.session
    rw [command_host]
    refine ⟨qs, more1, hput, hpay.trans ?_, fun q hq => ?_⟩
    · rw [h21, h23]
      dsimp only
      rw [hres]
      rfl
    · obtain ⟨hop, -, hseq, hst, -⟩ := hall q hq
      exact ⟨hop, hseq, hst⟩
  case park =>
    have ha := serves_auth hs
    have hask := giveRes_asks (taken (s.upto t) r) r 0x0407 stOk 0 [] ha
    have hrep := giveRes_replied (taken (s.upto t) r) r 0x0407 stOk 0 [] ha (serves_target hs) (taken_hasPlace hs).1 (taken_hasPlace hs).2
    have hcoil := giveRes_get (taken (s.upto t) r) r 0x0407 (.reply stOk 0 []) F.PRT_CONTSTAT_COIL ha (by unfold Fld.fits; decide) rfl (serves_session hs)
    obtain ⟨hw1, hcl1⟩ := Prod.mk.inj hask
    refine answers_later (s1 := parkSent ((taken (s.upto t) r).giveRes (reqId r 0x0407 false) (.reply stOk 0 [])).drain) rfl hs ?_ ?_
    · rw [taken_parkBusy, hbusy, taken_parkRefused, href, if_neg hvia]
      rfl
    · generalize (taken (s.upto t) r).giveRes (reqId r 0x0407 false) (.reply stOk 0 []) = b at hrep hcoil hw1 hcl1
      have hd := drain_keeps b r.session (by rw [hcl1, taken_closing]; exact hcl)
      have hk := hd.trans (parkSent_keeps b.drain r.session (hd.waiting (by rw [hw1, taken_waiting, hw])))
      have hp := parkSent_shown b.drain
      have hpads := parked_pads (s := s) (t := t) (f := fun _ => parkSent b.drain) hp.mode hp.valve
      obtain ⟨hgates, hvalve, hcoils⟩ := hpads
      rw [command_rst, command_time, command_get, command_get, command_get, command_flag]
      exact ⟨command_replied (hk.replied rfl hrep), hp.mode, hp.run, hgates, hp.mstate, by unfold State.flag; rw [hp.link]; rfl, hp.can, hp.valve, hvalve,
        fun h0 => hcoils (by rw [hk.coil, hcoil, taken_get, h0])⟩
  case parkSpi =>
    refine answers_mode rfl hs (s1 := { taken (s.upto t) r with rst := { (taken (s.upto t) r).rst with parkReq := some (reqId r 0x0407 false) } })
      ?_ ((taken_hasPlace hs).of_host rfl) fun s' hr hrst => ⟨hr, by rw [hrst]; exact taken_mode _ _, by rw [hrst]⟩
    rw [taken_parkBusy, hbusy, taken_parkRefused, href, if_pos hvia]
    rfl
  case parkBusy =>
    refine answers_mode rfl hs (s1 := taken (s.upto t) r) ?_ (taken_hasPlace hs) fun s' hr hrst => ⟨hr, by rw [hrst, taken_mode]⟩
    rw [taken_parkBusy, hbusy]
    rfl
  case parkRefused =>
    refine answers_mode rfl hs (s1 := taken (s.upto t) r) ?_ (taken_hasPlace hs) fun s' hr hrst => ⟨hr, by rw [hrst, taken_mode]⟩
    rw [taken_parkBusy, hbusy, taken_parkRefused, href]
    rfl
  case spiRead =>
    obtain ⟨o, hread⟩ := spiRead_whole hout hlen
    refine answers_of_guard rfl (by rw [hport, hearly]; rfl) rfl ?_
    rw [command_rst, command_time, hread]
    exact parkNow_enters hreq hmore hs hbusy href
  case awake =>
    refine answers_mode rfl hs (s1 := taken (s.upto t) r) ?_ (taken_hasPlace hs) fun s' hr hrst => ⟨hr, by rw [hrst, taken_mode]⟩
    rw [taken_parked, hp]
    rfl
  case wake =>
    have hk : (if r.via = Via.spi then 2 else 1) < 16 := by
      split <;> decide
    have hcause : (taken (s.upto t) r).haltCause = 0 := by
      rcases taken_split (s.upto t) r with h | ⟨l, h⟩ <;> rw [h] <;> exact hc
    have hhalted : (taken (s.upto t) r).rst.halted = false := by
      rcases taken_split (s.upto t) r with h | ⟨l, h⟩ <;> rw [h] <;> exact hh
    obtain ⟨b, hb, he⟩ := fullWake_woken (r := r) (n := (taken (s.upto t) r).now) (s := { taken (s.upto t) r with
      host := { (taken (s.upto t) r).host with waiting := { why := .wake, id := reqId r 0x0408 false, req := r, since := (taken (s.upto t) r).now } ::
        (taken (s.upto t) r).host.waiting } }) hcause hhalted ((taken_hasPlace hs).of_sess rfl) (by dsimp only; rw [taken_waiting, hw]) hk
    obtain ⟨hrep, hmode, hrun, hsrc⟩ := hb.wakeReply (serves_auth hs) (serves_target hs) (serves_session hs)
    refine answers_later (s1 := b.wakeReply) rfl hs ?_ ?_
    · rw [taken_parked, hp]
      exact congrArg (·, HRes.later) he
    · rw [command_rst, command_time, command_get]
      exact ⟨command_replied hrep, hmode, hrun, hsrc⟩

end Sys2Proof.Proofs
end

section
/-! Windowed values, the initial auto-zero and the swap cycle of the shunt converters (O8). -/

namespace Sys2Proof.Machine.Laws

open Sys2Proof.Safety

/-! ## Signed fields -/

/-- A value within a signed format is the value of its code. -/
theorem ofCode_toCode {n : Nat} {y : Int} (hlo : -(2 ^ n : Nat) ≤ y) (hhi : y < (2 ^ n : Nat)) : ofCode (n + 1) (toCode (n + 1) y) = y := by
  have hp : 2 ^ (n + 1) = 2 * 2 ^ n := by rw [Nat.pow_succ, Nat.mul_comm]
  unfold ofCode toCode
  dsimp only
  rw [Nat.add_sub_cancel]
  generalize 2 ^ (n + 1) = q at *
  generalize 2 ^ n = h at *
  rcases lt_or_ge y 0 with hy | hy
  · rw [show y % q = y + q by rw [← Int.add_emod_right, Int.emod_eq_of_lt (by omega) (by omega)], Nat.mod_eq_of_lt (by omega)]
    split_ifs <;> omega
  · rw [Int.emod_eq_of_lt hy (by omega), Nat.mod_eq_of_lt (by omega)]
    split_ifs <;> omega

theorem clipS_range (n : Nat) (x : Int) : -(2 ^ n : Nat) ≤ clipS (n + 1) x ∧ clipS (n + 1) x < (2 ^ n : Nat) := by
  have h0 := Nat.two_pow_pos n
  unfold clipS clip
  rw [Nat.add_sub_cancel]
  generalize 2 ^ n = h at *
  split_ifs <;> omega

/-- A signed field reads the value written to it, clipped to its format (R8). -/
theorem getI_setI (s : State) (f : Fld) (x : Int) (hf : f.fits) (hw : 0 < f.w) : (s.setI f x).getI f = clipS f.w x := by
  obtain ⟨n, hn⟩ : ∃ n, f.w = n + 1 := ⟨f.w - 1, by omega⟩
  obtain ⟨hlo, hhi⟩ := clipS_range n x
  have hm : ofCode f.w (toCode f.w (clipS f.w x) % 2 ^ f.w) = ofCode f.w (toCode f.w (clipS f.w x)) := by unfold ofCode; simp only [Nat.mod_mod]
  unfold State.getI State.setI
  rw [get_set_same s f _ hf, hm, hn]
  exact ofCode_toCode hlo hhi

theorem getI_set_clear (s : State) (f g : Fld) (x : Nat) (h : clearOf [f] g = true) : (s.set f x).getI g = s.getI g :=
  congrArg (ofCode g.w) (get_set_clear s f g x h)

theorem toCode_lt (n : Nat) (x : Int) : toCode n x < 2 ^ n := by
  have := Int.emod_lt_of_pos x (show (0 : Int) < (2 ^ n : Nat) by exact_mod_cast Nat.two_pow_pos n)
  have := Int.emod_nonneg x (show ((2 ^ n : Nat) : Int) ≠ 0 by exact_mod_cast (Nat.two_pow_pos n).ne')
  unfold toCode
  omega

/-! ## A bit that a write sets -/

theorem flag_setB_same (s : State) (f : Fld) (b : Bool) (hf : f.fits) (hw : f.w = 1) : (s.setB f b).flag f = b := by
  unfold State.flag State.setB
  rw [get_set_same s f _ hf, hw]
  cases b <;> rfl

theorem flag_set_clear (s : State) (f g : Fld) (x : Nat) (h : clearOf [f] g = true) : (s.set f x).flag g = s.flag g :=
  congrArg (· == 1) (get_set_clear s f g x h)

/-! ## Windowed values (R98, R99) -/

section
variable {s : State}

/-- The weights of a window do not depend on the value that is averaged. -/
theorem winSum_weight (s : State) (m : Nat) (on : Samp → Bool) (f : Samp → Int) :
    (s.winSum m on f).2 = (s.cvi.hist.filter on).foldl (fun w x => w + winWeight s.win (gridIdx m x.eff)) 0 :=
  (List.foldl_hom Prod.snd fun _ _ => rfl).symm

/-- A windowed value with a sample in its window is written. -/
theorem putWin_eq (s : State) (f : Fld) {a : Int × Nat} (h : a.2 ≠ 0) : s.putWin f a = s.setI f (winRound a) := if_neg h

/-- The state with the windowed values of a strobe in their registers, its charge apart. -/
def valuesPut (s : State) (m : Nat) : State :=
  (((if s.flag F.CVI_SH_STAT_NONE || s.cvi.winAz then s.setI F.CVI_I 0 else s.putWin F.CVI_I (s.winSum m (·.sh) (·.i))).putWin F.CVI_VSTR
    (s.winSum m (·.hv) (·.vs))).putWin F.CVI_VBUS (s.winSum m (·.hv) (·.vb))).putWin F.CVI_VINS (s.winSum m (·.hv) (·.vi))

theorem valuesPut_shows {m : Nat} (hi : (s.winSum m (·.sh) (·.i)).2 ≠ 0) (hv : (s.winSum m (·.hv) (·.vs)).2 ≠ 0) :
    (valuesPut s m).getI F.CVI_I = (if s.flag F.CVI_SH_STAT_NONE || s.cvi.winAz then 0 else clipS 32 (winRound (s.winSum m (·.sh) (·.i)))) ∧
    (valuesPut s m).getI F.CVI_VSTR = clipS 32 (winRound (s.winSum m (·.hv) (·.vs))) ∧
    (valuesPut s m).getI F.CVI_VBUS = clipS 32 (winRound (s.winSum m (·.hv) (·.vb))) := by
  have hsame : ∀ (c : State) (f : Fld) (x : Int), f.lo = 0 → f.w = 32 → (c.setI f x).getI f = clipS 32 x := fun c f x h0 hw => by
    have h := getI_setI c f x (show f.lo + f.w ≤ 32 by omega) (by omega)
    rwa [hw] at h
  have hw : ∀ g, (s.winSum m (·.hv) g).2 ≠ 0 := fun g => by rwa [winSum_weight] at hv ⊢
  have hother : ∀ (c : State) (f g : Fld) (x : Int), clearOf [f] g = true → (c.setI f x).getI g = c.getI g := fun c f g x h =>
    getI_set_clear c f g _ h
  unfold valuesPut
  rw [putWin_eq _ _ hi, putWin_eq _ _ (hw _), putWin_eq _ _ (hw _), putWin_eq _ _ (hw _)]
  refine ⟨?_, ?_, ?_⟩
  · rw [hother _ _ _ _ (by decide), hother _ _ _ _ (by decide), hother _ _ _ _ (by decide)]
    split
    · exact hsame _ _ _ rfl rfl
    · exact hsame _ _ _ rfl rfl
  · rw [hother _ _ _ _ (by decide), hother _ _ _ _ (by decide), hsame _ _ _ rfl rfl]
  · rw [hother _ _ _ _ (by decide), hsame _ _ _ rfl rfl]

/-- When the window is over, the values of the strobe are written with its charge, and the strobe waits no longer. -/
theorem windowed_writes {m : Nat} (hm : s.cvi.winS = some m) (ht : m + (s.win * 2500 + 5000) ≤ s.quartzNs) :
    s.windowed.cvi.winS = none ∧ s.windowed.regs = (((valuesPut s m).set F.CVI_Q0 (toCode 64 s.cvi.qS % 4294967296)).set F.CVI_Q1
      (toCode 64 s.cvi.qS / 4294967296)).regs := by
  unfold State.windowed
  rw [hm]
  dsimp only
  rw [if_neg (by omega)]
  exact ⟨rfl, rfl⟩

theorem windowed_values {m : Nat} (hm : s.cvi.winS = some m) (ht : m + (s.win * 2500 + 5000) ≤ s.quartzNs) {f : Fld}
    (hf : clearOf [F.CVI_Q0, F.CVI_Q1] f = true) : s.windowed.getI f = (valuesPut s m).getI f :=
  congrArg (ofCode f.w) ((get_congr (windowed_writes hm ht).2 f).trans
    ((get_set_other _ _ _ _ (clearOf_fits hf) (clearOf_apart hf (by simp))).trans
      (get_set_other _ _ _ _ (clearOf_fits hf) (clearOf_apart hf (by simp)))))

theorem windowed_charge {m : Nat} (hm : s.cvi.winS = some m) (ht : m + (s.win * 2500 + 5000) ≤ s.quartzNs) :
    s.windowed.get F.CVI_Q0 = toCode 64 s.cvi.qS % 4294967296 ∧ s.windowed.get F.CVI_Q1 = toCode 64 s.cvi.qS / 4294967296 := by
  have hq : toCode 64 s.cvi.qS < 18446744073709551616 := toCode_lt 64 _
  have hregs := (windowed_writes hm ht).2
  refine ⟨?_, ?_⟩
  · rw [get_congr hregs, get_set_clear _ _ _ _ (by decide), get_set_same _ F.CVI_Q0 _ (show 0 + 32 ≤ 32 by decide)]
    exact Nat.mod_mod ..
  · rw [get_congr hregs, get_set_same _ F.CVI_Q1 _ (show 0 + 32 ≤ 32 by decide)]
    exact Nat.mod_eq_of_lt (show _ < 4294967296 by omega)

end

/-! ## The overcurrent bit of the last millisecond (R100) -/

/-- A sample of the last completed grid millisecond was clipped. -/
def clippedLast (s : State) : Bool :=
  s.cvi.hist.any fun x => x.clip && decide (s.gridAt msec ≤ x.eff + 1002500) && decide (x.eff + 2500 < s.gridAt msec)

theorem gridMs_eq (s : State) : s.gridMs =
    if clippedLast s then (s.setB F.CVI_SH_STAT_OVR (clippedLast s)).setB F.CVI_SH_STAT_OVR_SEEN true
    else s.setB F.CVI_SH_STAT_OVR (clippedLast s) := by
  unfold State.gridMs clippedLast
  simp only [Nat.add_assoc, Nat.reduceAdd]

theorem gridMs_ovr (s : State) : s.gridMs.flag F.CVI_SH_STAT_OVR = clippedLast s := by
  have h : (s.setB F.CVI_SH_STAT_OVR (clippedLast s)).flag F.CVI_SH_STAT_OVR = clippedLast s :=
    flag_setB_same _ _ _ (show 7 + 1 ≤ 32 by decide) rfl
  rw [gridMs_eq]
  split
  · exact (flag_set_clear _ _ _ _ (by decide)).trans h
  · exact h

theorem gridMs_seen (s : State) (h : clippedLast s = true) : s.gridMs.flag F.CVI_SH_STAT_OVR_SEEN = true := by
  rw [gridMs_eq, if_pos h]
  exact flag_setB_same _ _ _ (show 16 + 1 ≤ 32 by decide) rfl

/-! ## Auto-zero (R101, R102) -/

theorem azinitEnd_shows (s : State) : s.azinitEnd.flag F.CVI_SH_STAT_AZINIT = false ∧
    s.azinitEnd.cvi.ofsA = azMean s.cvi.azA s.cvi.ofsA ∧ s.azinitEnd.cvi.ofsB = azMean s.cvi.azB s.cvi.ofsB := by
  have h : (s.setB F.CVI_SH_STAT_AZINIT false).flag F.CVI_SH_STAT_AZINIT = false := flag_setB_same _ _ _ (show 5 + 1 ≤ 32 by decide) rfl
  refine ⟨?_, rfl, rfl⟩
  unfold State.azinitEnd
  dsimp only
  split
  · exact (flag_set_clear _ F.CVI_SH_STAT_MEAS _ _ (by decide)).trans h
  · exact h

/-- The mean of an auto-zero becomes the offset of the converter whose input is shorted, and of no other. -/
theorem azOffset_shorted (s : State) :
    (s.cvi.shorted = 1 → s.azOffset.cvi.ofsA = azMean s.cvi.azA s.cvi.ofsA ∧ s.azOffset.cvi.ofsB = s.cvi.ofsB) ∧
    (s.cvi.shorted = 2 → s.azOffset.cvi.ofsB = azMean s.cvi.azB s.cvi.ofsB ∧ s.azOffset.cvi.ofsA = s.cvi.ofsA) := by
  unfold State.azOffset
  refine ⟨fun h => ?_, fun h => ?_⟩
  · rw [if_pos h]
    exact ⟨rfl, rfl⟩
  · rw [if_neg (by omega)]
    exact ⟨rfl, rfl⟩

/-! ## Handover (R102 to R104) -/

/-- What a handover at the instant `h` shows. -/
structure HandedOver (a : State) (h : Nat) (b : State) : Prop where
  meas : b.get F.CVI_SH_STAT_MEAS = 1 - a.get F.CVI_SH_STAT_MEAS
  at_ : b.cvi.handAt = h
  azA : b.cvi.azA = (0, 0)
  azB : b.cvi.azB = (0, 0)
  count : b.get F.CVI_SWAPCNT_COUNT = min 2147483647 (a.get F.CVI_SWAPCNT_COUNT + 1)

/-- The state in which a handover has counted itself. -/
def swapCounted (s : State) : State :=
  if s.get F.CVI_SWAPCNT_COUNT + 1 < 2147483648 then s.set F.CVI_SWAPCNT_COUNT (s.get F.CVI_SWAPCNT_COUNT + 1) else s.setB F.CVI_SWAPCNT_SAT true

theorem swapCounted_count (s : State) : (swapCounted s).get F.CVI_SWAPCNT_COUNT = min 2147483647 (s.get F.CVI_SWAPCNT_COUNT + 1) := by
  have hn : s.get F.CVI_SWAPCNT_COUNT < 2147483648 := get_lt s F.CVI_SWAPCNT_COUNT
  unfold swapCounted
  split
  · refine (get_set_same s F.CVI_SWAPCNT_COUNT _ (show 0 + 31 ≤ 32 by decide)).trans ?_
    show (s.get F.CVI_SWAPCNT_COUNT + 1) % 2147483648 = _
    omega
  · refine (get_set_clear s F.CVI_SWAPCNT_SAT _ _ (by decide)).trans ?_
    omega

theorem swapCounted_get (s : State) {f : Fld} (h : clearOf [F.CVI_SWAPCNT_COUNT, F.CVI_SWAPCNT_SAT] f = true) :
    (swapCounted s).get f = s.get f := by
  unfold swapCounted
  split
  · exact get_set_other _ _ _ _ (clearOf_fits h) (clearOf_apart h (by simp))
  · exact get_set_other _ _ _ _ (clearOf_fits h) (clearOf_apart h (by simp))

/-- Of the registers a handover moves the count and MEAS. -/
theorem handover_get (s : State) (h : Nat) (f : Fld) :
    (s.handover h).get f = ((swapCounted s).set F.CVI_SH_STAT_MEAS (1 - s.get F.CVI_SH_STAT_MEAS)).get f := rfl

theorem handover_hands (s : State) (h : Nat) : HandedOver s h (s.handover h) where
  meas := by
    rw [handover_get, get_set_same _ F.CVI_SH_STAT_MEAS _ (show 0 + 1 ≤ 32 by decide)]
    exact Nat.mod_eq_of_lt (show 1 - s.get F.CVI_SH_STAT_MEAS < 2 by omega)
  at_ := rfl
  azA := rfl
  azB := rfl
  count := by rw [handover_get, get_set_clear _ _ _ _ (by decide), swapCounted_count]

/-- A handover leaves the fields of the comparison. -/
theorem handover_keeps (s : State) (h : Nat) {f : Fld} (hf : clearOf [F.CVI_SWAPCNT_COUNT, F.CVI_SWAPCNT_SAT, F.CVI_SH_STAT_MEAS] f = true) :
    (s.handover h).get f = s.get f := by
  have hc : clearOf [F.CVI_SWAPCNT_COUNT, F.CVI_SWAPCNT_SAT] f = true := by
    simp only [clearOf, List.all_cons, List.all_nil, Bool.and_true, Bool.and_eq_true] at hf ⊢
    tauto
  rw [handover_get, get_set_other _ _ _ _ (clearOf_fits hf) (clearOf_apart hf (by simp)), swapCounted_get s hc]

/-- The state in which two converters that agree are compared: DISAGREE and SWERR clear, and entry 5 follows. -/
def agreed (s : State) : State := ((s.set F.CVI_SH_STAT_DISAGREE 0).setB F.CVI_SH_STAT_SWERR false).integrity

theorem agreed_stands (s : State) : Stands entReg ((s.set F.CVI_SH_STAT_DISAGREE 0).setB F.CVI_SH_STAT_SWERR false) (agreed s) :=
  (Stands.refl _ _).integrity fun _ h => h

theorem agreed_get (s : State) {f : Fld} (hf : clearOf [F.CVI_SH_STAT_DISAGREE, F.CVI_SH_STAT_SWERR] f = true) (he : entReg f.addr = false) :
    (agreed s).get f = s.get f := by
  rw [(agreed_stands s).get he]
  exact (get_set_other _ _ _ _ (clearOf_fits hf) (clearOf_apart hf (by simp))).trans
    (get_set_other _ _ _ _ (clearOf_fits hf) (clearOf_apart hf (by simp)))

theorem agreed_disagree (s : State) : (agreed s).get F.CVI_SH_STAT_DISAGREE = 0 := by
  rw [(agreed_stands s).get (by decide)]
  exact (get_set_clear _ _ _ _ (by decide)).trans (get_set_same _ _ _ (show 8 + 3 ≤ 32 by decide))

theorem agreed_swerr (s : State) : (agreed s).flag F.CVI_SH_STAT_SWERR = false := by
  rw [(agreed_stands s).flag (by decide)]
  exact flag_setB_same _ _ _ (show 11 + 1 ≤ 32 by decide) rfl

/-- Converters whose samples are the same before the handover agree. -/
theorem swap_agrees (s : State) {h : Nat} (hh : h = (s.quartzNs + sec / 2) / sec * sec) (hs : ∀ x ∈ s.overlap h, x.ia = x.ib) :
    s.swap = if s.overlap h = [] then s.handover h else (agreed s).handover h := by
  have hx : ∀ p : Prop, [Decidable p] → (s.overlap h).map (fun x => if p then x.ib else x.ia) = (s.overlap h).map (·.ia) := fun p _ =>
    List.map_congr_left fun x hm => by rw [hs x hm, ite_self]
  have hy : ∀ p : Prop, [Decidable p] → (s.overlap h).map (fun x => if p then x.ia else x.ib) = (s.overlap h).map (·.ia) := fun p _ =>
    List.map_congr_left fun x hm => by rw [hs x hm, ite_self]
  subst hh
  unfold State.swap
  dsimp only
  rw [hx, hy, Int.sub_self]
  by_cases hn : s.overlap ((s.quartzNs + sec / 2) / sec * sec) = []
  · rw [if_pos (by rw [hn]; rfl), if_pos hn]
  · rw [if_neg (by simpa using hn), if_neg hn, if_pos (by simp [absN])]
    rfl

/-- A swap whose converters agree hands over, and clears DISAGREE and SWERR where there was a sample to compare. -/
theorem swap_hands (s : State) {h : Nat} (hh : h = (s.quartzNs + sec / 2) / sec * sec) (hs : ∀ x ∈ s.overlap h, x.ia = x.ib) :
    HandedOver s h s.swap ∧ (s.overlap h ≠ [] → s.swap.get F.CVI_SH_STAT_DISAGREE = 0 ∧ s.swap.flag F.CVI_SH_STAT_SWERR = false) := by
  rw [swap_agrees s hh hs]
  by_cases hn : s.overlap h = []
  · rw [if_pos hn]
    exact ⟨handover_hands s h, fun hne => absurd hn hne⟩
  · rw [if_neg hn]
    obtain ⟨hm, ha, hA, hB, hc⟩ := handover_hands (agreed s) h
    rw [agreed_get s (by decide) (by decide)] at hm hc
    exact ⟨⟨hm, ha, hA, hB, hc⟩, fun _ => ⟨(handover_keeps _ h (by decide)).trans (agreed_disagree s),
      (congrArg (· == 1) (handover_keeps _ h (by decide))).trans (agreed_swerr s)⟩⟩

/-! ## A forced converter (R105) -/

/-- CVI_SH_CFG with a new word stored. -/
def shCfgPut (s : State) (v : Nat) : State := s.putWord 0x50000 (merged 0x37fffff (s.word 0x50000) v)

/-- A write of CVI_SH_CFG stores its writable bits, and what a new FORCE brings follows. -/
theorem writeDo_shCfg (s : State) (v : Nat) : s.writeDo 0x50000 v = (shCfgPut s v).writeHook 0x50000 (s.word 0x50000) := by
  have hw : writable 0x50000 =
      some ⟨0x50000, 4, 1, 0x3140fa, 0x37fffff, 0, 0, 0, 0, [⟨0, 12, 1, 4095⟩, ⟨20, 3, 1, 7⟩, ⟨24, 2, 0, 2⟩]⟩ := by decide
  unfold State.writeDo
  rw [hw]
  rfl

theorem shCfgPut_force (s : State) {f : Nat} (hf : f < 4) : (shCfgPut s (s.withField F.CVI_SH_CFG_FORCE f)).get F.CVI_SH_CFG_FORCE = f := by
  have hm : F.CVI_SH_CFG_FORCE.of (merged 0x37fffff (s.word 0x50000) (F.CVI_SH_CFG_FORCE.into (s.word 0x50000) f).toNat) = f :=
    (of_merged (f := F.CVI_SH_CFG_FORCE) (show 24 + 2 ≤ 32 by decide) (by decide) _ _).trans
      ((of_into_same F.CVI_SH_CFG_FORCE _ _ (show 24 + 2 ≤ 32 by decide)).trans (Nat.mod_eq_of_lt hf))
  exact (congrArg F.CVI_SH_CFG_FORCE.of (word_putWord_same _ _ _)).trans hm

theorem shCfgPut_get (s : State) (v : Nat) {f : Fld} (h : f.addr ≠ 0x50000) : (shCfgPut s v).get f = s.get f :=
  congrArg f.of (word_putWord_other _ _ _ _ h.symm)

/-- With both converters in order a forced one measures alone, and with FORCE 0 both alternate. -/
theorem forceHook_shows (s : State) (ha : s.shFailed false = false) (hb : s.shFailed true = false) (hf : s.get F.CVI_SH_CFG_FORCE < 3) :
    s.forceHook.get F.CVI_SH_CFG_FORCE = s.get F.CVI_SH_CFG_FORCE ∧ s.forceHook.cvi.shorted = 0 ∧
    s.forceHook.get F.CVI_SH_STAT_MEAS = (if s.get F.CVI_SH_CFG_FORCE = 0 then s.get F.CVI_SH_STAT_MEAS else s.get F.CVI_SH_CFG_FORCE - 1) ∧
    s.forceHook.flag F.CVI_SH_STAT_DRIFT = (s.get F.CVI_SH_CFG_FORCE != 0) := by
  have hmeas : (3 : Nat) + 1 ≤ 32 := by decide
  unfold State.forceHook
  dsimp only
  rw [ha, hb]
  by_cases h0 : s.get F.CVI_SH_CFG_FORCE = 0
  · rw [if_pos (.inl h0), if_pos h0]
    refine ⟨get_set_clear _ _ _ _ (by decide), rfl, get_set_clear _ _ _ _ (by decide), ?_⟩
    rw [h0]
    exact flag_setB_same _ F.CVI_SH_STAT_DRIFT false hmeas rfl
  · rw [if_neg (by simp [h0]), if_neg h0, bne_iff_ne.2 h0]
    generalize hu : ({ s with cvi := { s.cvi with shorted := 0, handAt := min s.cvi.handAt (s.quartzNs - 5000) } } : State) = u
    have hg : ∀ f, u.get f = s.get f := fun f => by rw [← hu]; rfl
    have hst := (Stands.refl entReg (((u.set F.CVI_SH_STAT_MEAS (s.get F.CVI_SH_CFG_FORCE - 1)).setB F.CVI_SH_STAT_DRIFT true).setB
      F.CVI_SH_STAT_SWERR false)).integrity fun _ h => h
    refine ⟨?_, ?_, ?_, ?_⟩
    · rw [hst.get (by decide)]
      exact (get_set_clear _ _ _ _ (by decide)).trans ((get_set_clear _ _ _ _ (by decide)).trans
        ((get_set_clear _ _ _ _ (by decide)).trans (hg _)))
    · rw [hst.cvi, ← hu]
      rfl
    · rw [hst.get (by decide)]
      exact (get_set_clear _ _ _ _ (by decide)).trans ((get_set_clear _ _ _ _ (by decide)).trans
        ((get_set_same u F.CVI_SH_STAT_MEAS _ (show 0 + 1 ≤ 32 by decide)).trans (Nat.mod_eq_of_lt (show _ < 2 ^ 1 by omega))))
    · rw [hst.flag (by decide)]
      exact (flag_set_clear _ _ _ _ (by decide)).trans (flag_setB_same _ F.CVI_SH_STAT_DRIFT true hmeas rfl)

/-- A write of another FORCE. -/
theorem writeDo_force (s : State) {f : Nat} (hf : f < 3) (hne : s.get F.CVI_SH_CFG_FORCE ≠ f) :
    s.writeDo 0x50000 (s.withField F.CVI_SH_CFG_FORCE f) = (shCfgPut s (s.withField F.CVI_SH_CFG_FORCE f)).forceHook := by
  have hforce := shCfgPut_force s (f := f) (by omega)
  rw [writeDo_shCfg]
  have hch : (F.CVI_SH_CFG_FORCE.of (s.word 0x50000) != F.CVI_SH_CFG_FORCE.of ((shCfgPut s (s.withField F.CVI_SH_CFG_FORCE f)).word 0x50000)) = true := by
    rw [bne_iff_ne]
    exact fun e => hne (e.trans hforce)
  exact if_pos hch

theorem writeDo_force_shows (s : State) {f : Nat} (hf : f < 3) (hne : s.get F.CVI_SH_CFG_FORCE ≠ f) (ha : s.shFailed false = false)
    (hb : s.shFailed true = false) :
    let b := s.writeDo 0x50000 (s.withField F.CVI_SH_CFG_FORCE f)
    b.get F.CVI_SH_CFG_FORCE = f ∧ b.cvi.shorted = 0 ∧ b.get F.CVI_SH_STAT_MEAS = (if f = 0 then s.get F.CVI_SH_STAT_MEAS else f - 1) ∧
      b.flag F.CVI_SH_STAT_DRIFT = (f != 0) := by
  have hforce := shCfgPut_force s (f := f) (by omega)
  have hkeep : ∀ g : Fld, g.addr = 0x50008 → (shCfgPut s (s.withField F.CVI_SH_CFG_FORCE f)).get g = s.get g := fun g h =>
    shCfgPut_get s _ (by rw [h]; decide)
  have hfail : ∀ x, (shCfgPut s (s.withField F.CVI_SH_CFG_FORCE f)).shFailed x = s.shFailed x := fun x => by
    unfold State.shFailed State.flag
    rw [hkeep _ rfl, hkeep _ rfl]
  have h := forceHook_shows (shCfgPut s (s.withField F.CVI_SH_CFG_FORCE f)) ((hfail _).trans ha) ((hfail _).trans hb) (by omega)
  rw [hforce, hkeep _ rfl] at h
  rw [writeDo_force s hf hne]
  exact h

end Sys2Proof.Machine.Laws

namespace Sys2Proof.Proofs

open Sys2Proof.Machine Sys2Proof.Machine.Laws Sys2Proof.Safety

/-- Settles O8: a clause for each command of the cycle; each is its body where the guard holds, and what the body does to the registers and the
converters is a lemma above. -/
theorem windowedValuesAndShuntSwapsFollowTheCycle : Obligations.WindowedValuesAndShuntSwapsFollowTheCycle := by
  unfold Obligations.WindowedValuesAndShuntSwapsFollowTheCycle
  rintro s _ t rfl hs
  refine ⟨fun m hm ht hi hv => ?windowed, fun m hm => ?ovr, fun haz ht => ?azinit, fun hd hdue halt haz hcm hag => ?handover,
    fun halt haz h0 h5 h9 => ?short, fun ht => ⟨fun h1 => ?offsetA, fun h2 => ?offsetB⟩, fun hne ht => ?reconnect,
    fun f herr hf hne ha hb => ?force⟩
  case windowed =>
    obtain ⟨hQ0, hQ1⟩ := windowed_charge hm ht
    obtain ⟨hI, hS, hB⟩ := valuesPut_shows hi hv
    refine answers_of_guard rfl hs rfl ?_
    rw [command_cvi, command_getI, command_getI, command_getI, command_get, command_get, windowed_values hm ht (by decide),
      windowed_values hm ht (by decide), windowed_values hm ht (by decide)]
    exact ⟨hI, hS, hB, hQ0, hQ1, (windowed_writes hm ht).1⟩
  case ovr =>
    subst hm
    refine answers_of_guard rfl hs rfl ?_
    rw [command_flag, command_flag, gridMs_ovr]
    exact ⟨rfl, gridMs_seen _⟩
  case azinit =>
    refine answers_of_guard rfl (by simp [State.measuring, hs, haz, ht]) rfl ?_
    rw [command_flag, command_cvi]
    exact azinitEnd_shows _
  case handover =>
    obtain ⟨⟨hm, ha, hA, hB, hc⟩, hsame⟩ := swap_hands (s.upto t) rfl hag
    refine answers_of_guard rfl (by simp [State.measuring, hs, hd, hdue, halt, haz, hcm]) rfl ?_
    rw [command_get, command_get, command_get, command_flag, command_cvi]
    exact ⟨hm, ha, hA, hB, hc, hsame⟩
  case short =>
    refine answers_of_guard rfl (by simp [State.measuring, hs, halt, haz, h0, h5, h9]) rfl ?_
    rw [command_cvi, command_regs]
    exact ⟨rfl, rfl⟩
  case offsetA =>
    refine answers_of_guard rfl (by simp [State.measuring, hs, h1, ht]) rfl ?_
    rw [command_cvi]
    exact (azOffset_shorted _).1 h1
  case offsetB =>
    refine answers_of_guard rfl (by simp [State.measuring, hs, h2, ht]) rfl ?_
    rw [command_cvi]
    exact (azOffset_shorted _).2 h2
  case reconnect =>
    refine answers_of_guard rfl (by simp [State.measuring, hs, hne, ht]) rfl ?_
    rw [command_cvi, command_regs]
    exact ⟨rfl, rfl⟩
  case force =>
    refine answers_of_guard rfl (by simp [hs, show f < 4 by omega]) (accessWrite_ok herr) ?_
    rw [command_get, command_get, command_flag, command_cvi]
    exact writeDo_force_shows _ hf hne ha hb

end Sys2Proof.Proofs
end

section
/-! The insulation monitor: its legs, what a contactor does to it, and the results of half-periods (O9). -/

namespace Sys2Proof.Machine.Laws

open Sys2Proof.Safety

/-! ## The legs (R108, R111) -/

section
variable {s : State}

/-- Where the monitor may not run, both legs open and PAUSED is set. -/
theorem insPause_shows (s : State) : s.insPause.get F.CVI_INS_STAT_LEG = s.get F.CVI_INS_STAT_LEG ∧
    s.insPause.flag F.CVI_INS_STAT_PAUSED = true ∧ s.insPause.cvi.insOpen = true :=
  ⟨get_set_clear s F.CVI_INS_STAT_PAUSED _ _ (by decide), flag_setB_same s F.CVI_INS_STAT_PAUSED true (show 5 + 1 ≤ 32 by decide) rfl, rfl⟩

theorem legSwitch_paused (h : s.insRuns = false) : s.legSwitch = s.insPause := by
  unfold State.legSwitch
  rw [h]
  rfl

/-- Where the monitor runs, the other leg begins a half-period of its own. -/
theorem legSwitch_runs (h : s.insRuns = true) : s.legSwitch.get F.CVI_INS_STAT_LEG = 1 - s.get F.CVI_INS_STAT_LEG ∧
    s.legSwitch.flag F.CVI_INS_STAT_PAUSED = false ∧ s.legSwitch.cvi.insOpen = false ∧ s.legSwitch.cvi.insAt = s.quartzNs ∧
    s.legSwitch.cvi.ins = {} := by
  have hp : (s.setB F.CVI_INS_STAT_PAUSED false).flag F.CVI_INS_STAT_PAUSED = false := flag_setB_same _ _ _ (show 5 + 1 ≤ 32 by decide) rfl
  unfold State.legSwitch
  rw [h]
  refine ⟨?_, (flag_set_clear _ F.CVI_INS_STAT_LEG _ _ (by decide)).trans hp, rfl, rfl, rfl⟩
  exact (get_set_same _ F.CVI_INS_STAT_LEG _ (show 2 + 1 ≤ 32 by decide)).trans
    (Nat.mod_eq_of_lt (show 1 - s.get F.CVI_INS_STAT_LEG < 2 by omega))

/-! ## A contactor closes (R109, R111) -/

/-- The contactor whose feedback is set reads back closed. -/
theorem fb_closed (s : State) {k : Nat} (hk : k < 3) : (s.set F.PRT_CONTSTAT_FB (setBit (s.get F.PRT_CONTSTAT_FB) k true)).fb k = true := by
  unfold State.fb
  rw [get_set_same s F.PRT_CONTSTAT_FB _ (show 4 + 3 ≤ 32 by decide), Nat.testBit_mod_two_pow]
  simp [hk, setBit, Nat.testBit_or]

theorem not_allOpen_of_fb {k : Nat} (h : s.fb k = true) : s.allOpen = false := by
  unfold State.fb at h
  unfold State.allOpen
  rw [beq_eq_false_iff_ne]
  intro h0
  rw [h0, Nat.zero_testBit] at h
  exact absurd h (by decide)

/-- With MODE 1 the monitor stops at once when a contactor closes. -/
theorem insMoved_pauses (hs : s.inService = true) (hm : s.get F.CVI_INS_CFG_MODE = 1) (hp : s.flag F.CVI_INS_STAT_PAUSED = false)
    (ho : s.allOpen = false) : s.insMoved.flag F.CVI_INS_STAT_PAUSED = true ∧ s.insMoved.cvi.insOpen = true := by
  generalize hu : ({ s with cvi := { s.cvi with ins := { s.cvi.ins with moved := true } } } : State) = u
  have hr : u.insRuns = false := by
    rw [← hu]
    show (s.get F.CVI_INS_CFG_MODE == 0 || s.allOpen) = false
    rw [hm, ho]
    rfl
  have he : s.insMoved = u.insPause := by
    unfold State.insMoved State.insFollow
    rw [hu, hr, ← legSwitch_paused hr]
    refine if_neg ?_
    rw [← hu]
    show ¬ (!s.inService || false != s.flag F.CVI_INS_STAT_PAUSED) = true
    rw [hs, hp]
    decide
  obtain ⟨-, hpaused, hopen⟩ := insPause_shows u
  rw [he]
  exact ⟨hpaused, hopen⟩

/-- In the other mode it runs on, and the half-period in progress is marked. -/
theorem insMoved_marks (hm : s.get F.CVI_INS_CFG_MODE ≠ 1) (hp : s.flag F.CVI_INS_STAT_PAUSED = false) :
    s.insMoved.flag F.CVI_INS_STAT_PAUSED = false ∧ s.insMoved.cvi.ins.moved = true := by
  have hlt : s.get F.CVI_INS_CFG_MODE < 2 := get_lt s F.CVI_INS_CFG_MODE
  have he : s.insMoved = { s with cvi := { s.cvi with ins := { s.cvi.ins with moved := true } } } := by
    refine if_pos ?_
    show (!s.inService || (s.get F.CVI_INS_CFG_MODE == 0 || s.allOpen) != s.flag F.CVI_INS_STAT_PAUSED) = true
    rw [show s.get F.CVI_INS_CFG_MODE = 0 by omega, hp]
    exact Bool.or_true _
  rw [he]
  exact ⟨hp, rfl⟩

end

/-! ### What a contactor sequence does, and what it leaves (R196, R197) -/

/-- What one transition of a contactor sequence makes of the state. -/
inductive SeqMove (s : State) (q : Seq) : State → Prop
  | put (q1 : Seq) : SeqMove s q (s.seqPut q1)
  | fail : SeqMove s q (s.closeFail q)
  | welded (k : Nat) : SeqMove s q ((s.weld k).closeFail q)
  | knOn (q1 : Seq) : SeqMove s q ((s.coilOn 1).seqPut q1)
  | kpOn (q1 : Seq) : SeqMove s q (((s.coilOn 0).setConn 3).seqPut q1)
  | kpcOff (q1 : Seq) : SeqMove s q ((s.coilOff 2).seqPut q1)
  | connected : SeqMove s q ((s.setConn 4).seqJob q true)
  | loopStop (q1 : Seq) : SeqMove s q (s.loopStop.seqPut q1)
  | underLoad (q1 : Seq) : SeqMove s q ((s.setB F.PRT_CONTSTAT_UNDERLOAD true).loopStop.seqPut q1)
  | kpOff (q1 : Seq) : SeqMove s q (((s.openCoil 0).openCoil 2).seqPut q1)
  | knOff (q1 : Seq) : SeqMove s q ((s.openCoil 1).seqPut q1)
  | opened (late : List Nat) (ok : Bool) : SeqMove s q (((late.foldl State.weld s).setConn 0).seqJob q ok)

/-- A transition, where one is due. -/
def Moves (s : State) (q : Seq) (o : Option State) : Prop := ∀ c, o = some c → SeqMove s q c

section
variable {s : State} {q : Seq}

theorem Moves.none : Moves s q none := fun _ h => nomatch h

theorem Moves.some {c : State} (h : SeqMove s q c) : Moves s q (some c) := fun _ e => Option.some.inj e ▸ h

theorem Moves.ite {p : Prop} [Decidable p] {x y : Option State} (hx : Moves s q x) (hy : Moves s q y) : Moves s q (if p then x else y) := by
  split
  · exact hx
  · exact hy

theorem closeStep_moves (s : State) (q : Seq) : Moves s q (s.closeStep q) := by
  unfold State.closeStep
  dsimp only
  split
  next =>
    split
    · exact .ite (.some .fail) .none
    · exact .ite (.some (.welded 1)) (.ite (.some (.knOn _)) .none)
  next =>
    refine .ite (.some (.welded 0)) ?_
    split
    · exact .ite (.some .fail) .none
    · exact .ite (.some (.put _)) (.ite (.some .fail) .none)
  next =>
    refine .ite (.some (.welded 0)) ?_
    split
    · exact .ite (.some (.put _)) (.ite (.some (.kpOn _)) (.ite (.some .fail) .none))
    · exact .ite (.some (.put _)) (.ite (.some .fail) .none)
  next =>
    split
    · exact .ite (.some .fail) .none
    · exact .some (.put _)
  next => exact .ite (.ite (.some (.kpcOff _)) .none) (.ite (.some .connected) (.ite (.some (.welded 2)) .none))
  next => exact .none

theorem openStep_moves (s : State) (q : Seq) : Moves s q (s.openStep q) := by
  unfold State.openStep
  dsimp only
  split
  next =>
    split
    · exact .ite (.some (.put _)) (.ite (.some (.loopStop _)) (.ite (.some (.underLoad _)) .none))
    · exact .ite (.some (.put _)) (.ite (.some (.underLoad _)) .none)
  next => exact .ite (.some (.kpOff _)) .none
  next => exact .ite (.some (.knOff _)) .none
  next => exact .ite (.some (.opened _ _)) .none
  next => exact .none

end

/-- The registers of the contactors: those of a latch and SAF_STAT. -/
def contReg (y : Nat) : Bool := latchReg y || y == F.SAF_STAT_STATE.addr

theorem contReg_of_latchReg {y : Nat} (h : latchReg y = true) : contReg y = true := by simp [contReg, h]
theorem contReg_of_tripReg {y : Nat} (h : tripReg y = true) : contReg y = true := contReg_of_latchReg (by simp [latchReg, h])
theorem contReg_of_jobReg {y : Nat} (h : jobReg y = true) : contReg y = true := contReg_of_tripReg (tripReg_of_jobReg h)

namespace Stands

section
variable {a b : State} (h : Stands contReg a b)
include h

theorem weld (k : Nat) : Stands contReg a (b.weld k) := (h.set { F.PRT_CONTSTAT_WELD_P with lo := 16 + k } 1 (by rfl)).raise 50 [] (by rfl)

theorem coilOn (k : Nat) : Stands contReg a (b.coilOn k) :=
  (h.set F.PRT_CONTSTAT_COIL (setBit (b.get F.PRT_CONTSTAT_COIL) k true) (by rfl)).upd

theorem openCoil (k : Nat) : Stands contReg a (b.openCoil k) := (h.coilOff (fun _ => contReg_of_tripReg) k).upd

theorem seqMove {q : Seq} {c : State} (m : SeqMove b q c) : Stands contReg a c := by
  have hT : ∀ y, tripReg y = true → contReg y = true := fun _ => contReg_of_tripReg
  have hJ : ∀ y, jobReg y = true → contReg y = true := fun _ => contReg_of_jobReg
  cases m with
  | put q1 => exact h.seqPut q1
  | fail => exact h.closeFail hT q
  | welded k => exact (h.weld k).closeFail hT q
  | knOn q1 => exact (h.coilOn 1).seqPut q1
  | kpOn q1 => exact ((h.coilOn 0).setConn hT 3).seqPut q1
  | kpcOff q1 => exact (h.coilOff hT 2).seqPut q1
  | connected => exact (h.setConn hT 4).seqJob hJ q true
  | loopStop q1 => exact (h.loopStop hT).seqPut q1
  | underLoad q1 => exact ((h.setB F.PRT_CONTSTAT_UNDERLOAD true (by rfl)).loopStop hT).seqPut q1
  | kpOff q1 => exact ((h.openCoil 0).openCoil 2).seqPut q1
  | knOff q1 => exact (h.openCoil 1).seqPut q1
  | opened late ok => exact ((foldl (fun _ k hs => hs.weld k) late _ h).setConn hT 0).seqJob hJ q ok

end

theorem seqPoll {a b : State} (h : Stands contReg a b) (n : Nat) : Stands contReg a (b.seqPoll n) := by
  induction n generalizing b with
  | zero => exact h
  | succ n ih =>
    unfold State.seqPoll
    split
    · exact h
    next q _ =>
      have hm : Moves b q (match q.kind with | .close => b.closeStep q | .open_ => b.openStep q) := by
        split
        · exact closeStep_moves b q
        · exact openStep_moves b q
      split
      · exact h
      next c he => exact ih (h.seqMove (hm c he))

theorem poll {a b : State} (h : Stands contReg a b) : Stands contReg a b.poll := by
  have hs := h.seqPoll 8
  unfold State.poll State.stopCheck
  exact ite (fun _ => (hs.latch (fun _ => contReg_of_latchReg) 6).set _ _ (by rfl)) fun _ => hs

/-- A contactor that closes leaves what is measured. -/
theorem fbClosed {a b : State} (h : Stands contReg a b) (k : Nat) : Stands contReg a (b.fbClosed k) := by
  unfold State.fbClosed
  refine ite (fun _ => h.weld k) fun _ => ?_
  split
  · exact h
  · exact ite (fun _ => Stands.poll h.upd) fun _ => h

end Stands

/-! ## The end of a half-period (R108, R109) -/

/-- A tap mean is settled: its two quarters of a second differ by at most 0.2 % of the string voltage. -/
def tapSettled (x : InsSums) (a1 a2 : Int) : Bool := decide (500 * absN (a2 * x.n1 - a1 * x.n2) ≤ absN x.u1 * x.n2)

/-- Both means of a half-period are settled. -/
def halfSettled (x : InsSums) : Bool := tapSettled x x.v1 x.v2 && tapSettled x x.u1 x.u2

/-- A half-period gives nothing: without samples, out of range, disturbed, or with too low a string voltage. -/
def halfLost (x : InsSums) : Bool :=
  x.n1 = 0 || x.n2 = 0 || x.ovr || x.moved || decide (absN x.u1 < x.n1 * 100000 * 16777216)

/-- The means of the tap and the string over the last quarter of a second. -/
def halfMeans (x : InsSums) : Int × Int := (divRne x.v1 x.n1, divRne x.u1 x.n1)

theorem halfLost_of {x : InsSums} (h : x.n1 = 0 ∨ x.n2 = 0 ∨ x.ovr = true ∨ x.moved = true) : halfLost x = true := by
  unfold halfLost
  rcases h with h | h | h | h <;> simp [h]

theorem not_halfLost {x : InsSums} (h1 : 0 < x.n1) (h2 : 0 < x.n2) (ho : x.ovr = false) (hm : x.moved = false)
    (hu : x.n1 * 100000 * 16777216 ≤ absN x.u1) : halfLost x = false := by
  unfold halfLost
  simp [ho, hm, hu, h1.ne', h2.ne']

theorem not_halfSettled {x : InsSums} (h : absN x.u1 * x.n2 < 500 * absN (x.v2 * x.n1 - x.v1 * x.n2)) : halfSettled x = false := by
  unfold halfSettled tapSettled
  rw [decide_eq_false (by omega), Bool.false_and]

theorem halfSettled_of {x : InsSums} (hv : x.v2 * x.n1 = x.v1 * x.n2) (hu : x.u2 * x.n1 = x.u1 * x.n2) : halfSettled x = true := by
  unfold halfSettled tapSettled
  rw [hv, hu, Int.sub_self, Int.sub_self]
  simp [absN]

/-- The state whose half-period has ended, with the mark of means that differ. -/
def halfMarked (s : State) : State :=
  State.setB { s with cvi := { s.cvi with insDone := true } } F.CVI_INS_STAT_NOTSETTLED (!halfSettled s.cvi.ins)

section
variable {s : State}

/-- The block with the means of a settled half-period kept for its leg. -/
def halfKept (s : State) : CviSt :=
  let c : CviSt := { s.cvi with insDone := true }
  if s.get F.CVI_INS_STAT_LEG = 1 then { c with insN := some (halfMeans s.cvi.ins) } else { c with insP := some (halfMeans s.cvi.ins) }

/-- The insulation values from the products of the means of both legs, in the registers and in the recorder's interval; `s1` is the state
that keeps the means. -/
def halfResult (s1 : State) (rl : Nat) (num denI denP denN : Int) : State :=
  let r := insRes rl num denI
  let s2 := (((s1.set F.CVI_RISO (min 100000 r.1)).set F.CVI_RPOS (min 100000 (insRes rl num denP).1)).set F.CVI_RNEG
    (min 100000 (insRes rl num denN).1)).setB F.CVI_INS_STAT_ABOVE (r.2 || decide (100000 < r.1))
  { s2 with rcd := { s2.rcd with cur := { s2.rcd.cur with riso := min s2.rcd.cur.riso (min 100000 r.1) } } }

/-- What follows once the means are kept. -/
def halfJudged (s1 : State) (rl : Nat) (c : CviSt) : State :=
  match c.insP, c.insN with
  | some (vp, u1), some (vn, u2) =>
    let num := (u1 - vp) * u2 - u1 * vn
    let den := u1 * vn + u2 * vp
    if num < 0 ∨ (num = 0 ∧ den ≤ 0) then s1.setB F.CVI_INS_STAT_INVALID true
    else (halfResult s1 rl num den (u2 * vn) (u2 * vp)).insJudge (min 100000 (insRes rl num den).1)
  | _, _ => s1

theorem halfEnd_eq (s : State) : s.halfEnd =
    if halfLost s.cvi.ins = true then (halfMarked s).setB F.CVI_INS_STAT_INVALID true
    else if (!halfSettled s.cvi.ins) = true then (halfMarked s).setB F.CVI_INS_STAT_INVALID false
    else halfJudged ({ halfMarked s with cvi := halfKept s }.setB F.CVI_INS_STAT_INVALID false) (uAt s.cal 44 4) (halfKept s) := rfl

/-! ### Judging a result (R110) -/

/-- The state after a change of the insulation state keeps the other fields of its registers. -/
theorem insState_get (s : State) (st : Nat) {f : Fld} (hf : clearOf [F.CVI_INS_STAT_STATE, F.CVI_INS_STAT_TRIP_SEEN, F.CVI_INS_STAT_WARN_SEEN] f = true)
    (he : entReg f.addr = false) (hv : f.addr ≠ 0x20004) : (s.insState st).get f = s.get f := by
  have hset : ∀ (g : Fld) (c : State) (n : Nat), g ∈ [F.CVI_INS_STAT_STATE, F.CVI_INS_STAT_TRIP_SEEN, F.CVI_INS_STAT_WARN_SEEN] →
      (c.set g n).get f = c.get f := fun g c n hg => get_set_other c g f n (clearOf_fits hf) (clearOf_apart hf hg)
  have hent : ∀ (c : State) (d k : Int), (c.entry 4 d k).get f = c.get f := fun c d k =>
    ((Stands.refl entReg c).entry (fun _ h => h) (by decide) d k).get he
  have hraise : ∀ (c : State) (n : Nat), (c.raise n []).get f = c.get f := fun c n =>
    congrArg f.of (raise_word_other c n [] hv)
  unfold State.insState State.setB
  dsimp only
  split_ifs <;> simp [hset, hent, hraise]


/-- The block with the consecutive results counted on. -/
def judgeCounts (s : State) (riso : Nat) : CviSt :=
  { s.cvi with nWarn := runCount (decide (riso < s.get F.CVI_INS_THR_WARN)) s.cvi.nWarn,
               nTrip := runCount (decide (riso < s.get F.CVI_INS_THR_TRIP)) s.cvi.nTrip,
               nLeaveT := runCount (decide (5 * s.get F.CVI_INS_THR_TRIP ≤ 4 * riso)) s.cvi.nLeaveT,
               nLeaveW := runCount (decide (5 * s.get F.CVI_INS_THR_WARN ≤ 4 * riso)) s.cvi.nLeaveW }

/-- What a judgement makes of the state once it has counted: the insulation state stays or changes. -/
inductive Judged (s : State) : State → Prop
  | stays : Judged s s
  | moves (st : Nat) : Judged s (s.insState st)

theorem Judged.ite {s x y : State} {p : Prop} [Decidable p] (hx : Judged s x) (hy : Judged s y) : Judged s (if p then x else y) := by
  split
  · exact hx
  · exact hy

theorem insJudge_judged (s : State) (n : Nat) : Judged { s with cvi := judgeCounts s n } (s.insJudge n) := by
  unfold State.insJudge
  dsimp only
  split
  next => exact .ite (.moves 0) (.ite (.moves _) .stays)
  next => exact .ite (.moves _) .stays
  next => exact .ite (.moves 2) (.ite (.moves 0) .stays)
  next => exact .ite (.moves _) .stays

/-- A judgement leaves the fields that the insulation state and its events do not show. -/
theorem insJudge_get (s : State) (n : Nat) {f : Fld}
    (hf : clearOf [F.CVI_INS_STAT_STATE, F.CVI_INS_STAT_TRIP_SEEN, F.CVI_INS_STAT_WARN_SEEN] f = true)
    (he : entReg f.addr = false) (hv : f.addr ≠ 0x20004) : (s.insJudge n).get f = s.get f := by
  have h := insJudge_judged s n
  generalize s.insJudge n = u at h ⊢
  cases h with
  | stays => rfl
  | moves st => exact insState_get _ st hf he hv

/-! ### What the end of a half-period shows -/

theorem halfMarked_get (s : State) {f : Fld} (h : clearOf [F.CVI_INS_STAT_NOTSETTLED] f = true) : (halfMarked s).get f = s.get f :=
  get_set_clear _ F.CVI_INS_STAT_NOTSETTLED f _ h

/-- A half-period that gives nothing leaves the results and the state. -/
theorem halfEnd_lost (h : halfLost s.cvi.ins = true) : s.halfEnd.flag F.CVI_INS_STAT_INVALID = true ∧ s.halfEnd.cvi.insDone = true ∧
    s.halfEnd.get F.CVI_RISO = s.get F.CVI_RISO ∧ s.halfEnd.get F.CVI_INS_STAT_STATE = s.get F.CVI_INS_STAT_STATE := by
  rw [halfEnd_eq, if_pos h]
  exact ⟨flag_setB_same _ _ true (show 6 + 1 ≤ 32 by decide) rfl, rfl,
    (get_set_clear _ F.CVI_INS_STAT_INVALID F.CVI_RISO _ (by decide)).trans (halfMarked_get s (by decide)),
    (get_set_clear _ F.CVI_INS_STAT_INVALID F.CVI_INS_STAT_STATE _ (by decide)).trans (halfMarked_get s (by decide))⟩

/-- Means that differ are marked, and leave the results. -/
theorem halfEnd_unsettled (h : halfLost s.cvi.ins = false) (hs : halfSettled s.cvi.ins = false) :
    s.halfEnd.flag F.CVI_INS_STAT_NOTSETTLED = true ∧ s.halfEnd.flag F.CVI_INS_STAT_INVALID = false ∧
    s.halfEnd.get F.CVI_RISO = s.get F.CVI_RISO := by
  have hn : (halfMarked s).flag F.CVI_INS_STAT_NOTSETTLED = true :=
    (flag_setB_same _ F.CVI_INS_STAT_NOTSETTLED _ (show 4 + 1 ≤ 32 by decide) rfl).trans (by rw [hs]; rfl)
  rw [halfEnd_eq, if_neg (by rw [h]; decide), if_pos (by rw [hs]; rfl)]
  exact ⟨(flag_set_clear _ F.CVI_INS_STAT_INVALID _ _ (by decide)).trans hn, flag_setB_same _ _ false (show 6 + 1 ≤ 32 by decide) rfl,
    (get_set_clear _ F.CVI_INS_STAT_INVALID F.CVI_RISO _ (by decide)).trans (halfMarked_get s (by decide))⟩

/-- The state that keeps the means of a settled half-period. -/
def keptState (s : State) : State := { halfMarked s with cvi := halfKept s }.setB F.CVI_INS_STAT_INVALID false

theorem keptState_valid (s : State) : (keptState s).flag F.CVI_INS_STAT_INVALID = false :=
  flag_setB_same _ _ false (show 6 + 1 ≤ 32 by decide) rfl

theorem halfKept_legN (hl : s.get F.CVI_INS_STAT_LEG = 1) :
    (halfKept s).insN = some (halfMeans s.cvi.ins) ∧ (halfKept s).insP = s.cvi.insP := by
  unfold halfKept
  rw [if_pos hl]
  exact ⟨rfl, rfl⟩

theorem halfEnd_settled (h : halfLost s.cvi.ins = false) (hs : halfSettled s.cvi.ins = true) :
    s.halfEnd = halfJudged (keptState s) (uAt s.cal 44 4) (halfKept s) := by
  rw [halfEnd_eq, if_neg (by rw [h]; decide), if_neg (by rw [hs]; decide)]
  rfl

/-- The first settled half-period of leg N keeps its means. -/
theorem halfEnd_first (h : halfLost s.cvi.ins = false) (hs : halfSettled s.cvi.ins = true) (hl : s.get F.CVI_INS_STAT_LEG = 1)
    (hp : s.cvi.insP = none) : s.halfEnd.flag F.CVI_INS_STAT_INVALID = false ∧ s.halfEnd.cvi.insN = some (halfMeans s.cvi.ins) := by
  obtain ⟨hN, hP⟩ := halfKept_legN hl
  have he : s.halfEnd = keptState s := by
    rw [halfEnd_settled h hs]
    unfold halfJudged
    rw [hP, hp]
  rw [he]
  exact ⟨keptState_valid s, hN⟩

/-- The values stand in their registers, each in its own, and validity stays. -/
theorem halfResult_shows (s1 : State) (rl : Nat) (num denI denP denN : Int) :
    (halfResult s1 rl num denI denP denN).flag F.CVI_INS_STAT_INVALID = s1.flag F.CVI_INS_STAT_INVALID ∧
    (halfResult s1 rl num denI denP denN).get F.CVI_RISO = min 100000 (insRes rl num denI).1 ∧
    (halfResult s1 rl num denI denP denN).get F.CVI_RPOS = min 100000 (insRes rl num denP).1 ∧
    (halfResult s1 rl num denI denP denN).get F.CVI_RNEG = min 100000 (insRes rl num denN).1 := by
  have hfit : ∀ n : Nat, min 100000 n % 2 ^ 32 = min 100000 n := fun n => Nat.mod_eq_of_lt (by omega)
  generalize hu : (((s1.set F.CVI_RISO (min 100000 (insRes rl num denI).1)).set F.CVI_RPOS (min 100000 (insRes rl num denP).1)).set
    F.CVI_RNEG (min 100000 (insRes rl num denN).1)) = u
  have hget : ∀ f, clearOf [F.CVI_INS_STAT_ABOVE] f = true → (halfResult s1 rl num denI denP denN).get f = u.get f := fun f hf => by
    subst hu
    exact get_set_clear _ F.CVI_INS_STAT_ABOVE f _ hf
  refine ⟨?_, ?_, ?_, ?_⟩
  · refine congrArg (· == 1) ((hget _ (by decide)).trans ?_)
    rw [← hu, get_set_clear _ _ _ _ (by decide), get_set_clear _ _ _ _ (by decide), get_set_clear _ _ _ _ (by decide)]
  · rw [hget _ (by decide), ← hu, get_set_clear _ _ _ _ (by decide), get_set_clear _ _ _ _ (by decide),
      get_set_same _ F.CVI_RISO _ (show 0 + 32 ≤ 32 by decide)]
    exact hfit _
  · rw [hget _ (by decide), ← hu, get_set_clear _ _ _ _ (by decide), get_set_same _ F.CVI_RPOS _ (show 0 + 32 ≤ 32 by decide)]
    exact hfit _
  · rw [hget _ (by decide), ← hu, get_set_same _ F.CVI_RNEG _ (show 0 + 32 ≤ 32 by decide)]
    exact hfit _

/-- Once both legs have their means the insulation values follow. -/
theorem halfEnd_result (h : halfLost s.cvi.ins = false) (hs : halfSettled s.cvi.ins = true) (hl : s.get F.CVI_INS_STAT_LEG = 1)
    {vp u1 vn u2 num den : Int} (hp : s.cvi.insP = some (vp, u1)) (hm : halfMeans s.cvi.ins = (vn, u2))
    (hnum : num = (u1 - vp) * u2 - u1 * vn) (hden : den = u1 * vn + u2 * vp) (hpos : 0 < num) :
    s.halfEnd.flag F.CVI_INS_STAT_INVALID = false ∧ s.halfEnd.get F.CVI_RISO = min 100000 (insRes (uAt s.cal 44 4) num den).1 ∧
    s.halfEnd.get F.CVI_RPOS = min 100000 (insRes (uAt s.cal 44 4) num (u2 * vn)).1 ∧
    s.halfEnd.get F.CVI_RNEG = min 100000 (insRes (uAt s.cal 44 4) num (u2 * vp)).1 := by
  obtain ⟨hN, hP⟩ := halfKept_legN hl
  have he : s.halfEnd = (halfResult (keptState s) (uAt s.cal 44 4) num den (u2 * vn) (u2 * vp)).insJudge
      (min 100000 (insRes (uAt s.cal 44 4) num den).1) := by
    rw [halfEnd_settled h hs]
    unfold halfJudged
    rw [hP, hN, hp, hm]
    dsimp only
    rw [← hnum, ← hden, if_neg (by omega)]
  obtain ⟨hv, hI, hP, hN⟩ := halfResult_shows (keptState s) (uAt s.cal 44 4) num den (u2 * vn) (u2 * vp)
  rw [he]
  refine ⟨?_, ?_, ?_, ?_⟩
  · exact (congrArg (· == 1) (insJudge_get _ _ (by decide) (by decide) (by decide))).trans (hv.trans (keptState_valid s))
  · rw [insJudge_get _ _ (by decide) (by decide) (by decide), hI]
  · rw [insJudge_get _ _ (by decide) (by decide) (by decide), hP]
  · rw [insJudge_get _ _ (by decide) (by decide) (by decide), hN]

end

end Sys2Proof.Machine.Laws

namespace Sys2Proof.Proofs

open Sys2Proof.Machine Sys2Proof.Machine.Laws Sys2Proof.Safety

/-- Settles O9: the legs take turns where the monitor runs; of a contactor that closes, the sequence that goes on leaves what is measured; a
half-period ends in one of the ways its sums decide, and what judges a result leaves the values. -/
theorem insulationHalfPeriodsGiveResults : Obligations.InsulationHalfPeriodsGiveResults := by
  unfold Obligations.InsulationHalfPeriodsGiveResults
  rintro s _ t x rfl hs rfl
  refine ⟨fun hdue => ⟨fun hr => ?turns, fun hr => ?pauses⟩, fun k hk hfb hp => ?closes, fun ho hd hp ht => ⟨fun hl => ?lost,
    fun h1 h2 hov hmv hu hset => ?unsettled, fun h1 h2 hov hmv hu hsv hsu hleg => ⟨fun hP => ?first,
    fun vp u1 vn u2 num den hP hvn hu2 hnum hden hpos => ?result⟩⟩⟩
  case turns =>
    refine answers_of_guard rfl (by simpa [State.measuring, hs, or_assoc] using hdue) rfl ?_
    rw [command_get, command_flag, command_cvi]
    exact legSwitch_runs hr
  case pauses =>
    refine answers_of_guard rfl (by simpa [State.measuring, hs, or_assoc] using hdue) (legSwitch_paused hr) ?_
    rw [command_get, command_flag, command_cvi]
    exact insPause_shows _
  case closes =>
    have hmode : (s.upto t).rst.mode ≠ .off := fun e => by simp [State.inService, e] at hs
    generalize hb : (s.upto t).set F.PRT_CONTSTAT_FB (setBit ((s.upto t).get F.PRT_CONTSTAT_FB) k true) = b
    have hst := (Stands.refl contReg b.insMoved).fbClosed k
    have hbs : b.inService = true := by rw [← hb]; exact hs
    have hbp : b.flag F.CVI_INS_STAT_PAUSED = false := by rw [← hb, flag_set_clear _ _ _ _ (by decide)]; exact hp
    have hbm : b.get F.CVI_INS_CFG_MODE = (s.upto t).get F.CVI_INS_CFG_MODE := by rw [← hb, get_set_clear _ _ _ _ (by decide)]
    have hbo : b.allOpen = false := not_allOpen_of_fb (k := k) (by rw [← hb]; exact fb_closed _ hk)
    refine answers_of_guard (r := b.insMoved.fbClosed k) rfl (by simp [hmode, hk, hfb]) (by rw [← hb]; rfl) ?_
    rw [command_flag, command_cvi, hst.flag (by decide), hst.cvi, ← hbm]
    split
    next h1 => exact insMoved_pauses hbs h1 hbp hbo
    next h1 => exact insMoved_marks h1 hbp
  case lost =>
    refine answers_of_guard rfl (by simp [State.measuring, hs, ho, hd, hp, ht]) rfl ?_
    rw [command_flag, command_cvi, command_get, command_get]
    exact halfEnd_lost (halfLost_of hl)
  case unsettled =>
    refine answers_of_guard rfl (by simp [State.measuring, hs, ho, hd, hp, ht]) rfl ?_
    rw [command_flag, command_flag, command_get]
    exact halfEnd_unsettled (not_halfLost h1 h2 hov hmv hu) (not_halfSettled hset)
  case first =>
    refine answers_of_guard rfl (by simp [State.measuring, hs, ho, hd, hp, ht]) rfl ?_
    rw [command_flag, command_cvi]
    exact halfEnd_first (not_halfLost h1 h2 hov hmv hu) (halfSettled_of hsv hsu) hleg hP
  case result =>
    refine answers_of_guard rfl (by simp [State.measuring, hs, ho, hd, hp, ht]) rfl ?_
    rw [command_flag, command_get, command_get, command_get]
    exact halfEnd_result (not_halfLost h1 h2 hov hmv hu) (halfSettled_of hsv hsu) hleg hP (by rw [hvn, hu2]; rfl) hnum hden hpos

end Sys2Proof.Proofs
end

section
/-! Calibration and trace: what a set that is stored shows, what a measurement counts and reports, and the queue of traces (O37). -/

namespace Sys2Proof.Machine.Laws

open Sys2Proof.Safety

/-! ## The calibration set (R113) -/

theorem crc32cBits_lt (n c : Nat) (h : c < 2 ^ 32) : crc32cBits n c < 2 ^ 32 := by
  induction n generalizing c with
  | zero => exact h
  | succ n ih =>
    have hs : c >>> 1 < 2 ^ 32 := (Nat.shiftRight_le c 1).trans_lt h
    unfold crc32cBits
    split
    · exact ih _ (Nat.xor_lt_two_pow hs (by decide))
    · exact ih _ hs

/-- A CRC-32C has 32 bits. -/
theorem crc32c_lt (l : List Byte) : crc32c l < 2 ^ 32 := by
  have hf : ∀ c < 2 ^ 32, l.foldl crc32cByte c < 2 ^ 32 := by
    induction l with
    | nil => exact fun _ h => h
    | cons b t ih => exact fun c h => ih _ (crc32cBits_lt _ _ (Nat.xor_lt_two_pow h (b.isLt.trans (by decide))))
  exact Nat.xor_lt_two_pow (hf _ (by decide)) (by decide)

/-- The bytes of a number spell it. -/
theorem ofLe_leBytes {n v : Nat} (h : v < 256 ^ n) : ofLe (leBytes n v) = v := by
  induction n generalizing v with
  | zero =>
    rw [pow_zero, Nat.lt_one_iff] at h
    rw [h]
    rfl
  | succ n ih =>
    rw [leBytes, ofLe, ih (by rw [pow_succ] at h; omega), BitVec.toNat_ofNat]
    omega

theorem modNth_eq_modify {α : Type} (l : List α) (i : Nat) (f : α → α) : modNth l i f = l.modify i f := by
  induction l generalizing i with
  | nil => cases i <;> rfl
  | cons x t ih => cases i with
    | zero => rfl
    | succ i => rw [modNth, ih, List.modify_succ_cons]

/-- A number is read from its own bytes alone. -/
theorem uAt_congr {l k : List Byte} {o n : Nat} (h : ∀ i < n, l[o + i]? = k[o + i]?) : uAt l o n = uAt k o n := by
  refine congrArg ofLe (List.ext_getElem? fun i => ?_)
  unfold slice
  rw [List.getElem?_take, List.getElem?_take, List.getElem?_drop, List.getElem?_drop]
  split
  next hi => exact h i hi
  next => rfl

/-- A set that passes has its length, format, serial number and CRC. -/
theorem calOk_iff {p : List Byte} : calOk p = true ↔
    p.length = 96 ∧ uAt p 0 2 = 1 ∧ uAt p 2 2 = 96 ∧ uAt p 88 4 = Config.serial.toNat ∧ uAt p 92 4 = crc32c (p.take 92) := by
  unfold calOk
  simp only [Bool.and_eq_true, beq_iff_eq, and_assoc]

/-- The first 92 bytes of a set as stored. -/
def calBody (p : List Byte) : List Byte := (modNth p 4 (fun _ => 1)).take 92

section
variable {p : List Byte} (hp : p.length = 96)
include hp

theorem calBody_length : (calBody p).length = 92 := by
  unfold calBody
  rw [List.length_take, modNth_length, hp]
  rfl

theorem calSeal_length : (calSeal p).length = 96 := by
  have h : (calSeal p).length = (calBody p).length + (leBytes 4 (crc32c (calBody p))).length := List.length_append
  rw [h, calBody_length hp, leBytes_length]

/-- Of the first 92 bytes a stored set has all but ORIGIN from the payload. -/
theorem calSeal_byte {i : Nat} (hi : i < 92) : (calSeal p)[i]? = if i = 4 then some 1 else p[i]? := by
  have h : (calSeal p)[i]? = (calBody p)[i]? := List.getElem?_append_left (hi.trans_eq (calBody_length hp).symm)
  rw [h, calBody, List.getElem?_take, if_pos hi, modNth_eq_modify, List.getElem?_modify, List.getElem?_eq_getElem (by omega)]
  by_cases h4 : i = 4
  · simp [h4]
  · simp [h4, Ne.symm h4]

theorem calSeal_field {o n : Nat} (hb : o + n ≤ 92) (h4 : o + n ≤ 4 ∨ 4 < o) : uAt (calSeal p) o n = uAt p o n :=
  uAt_congr fun i hi => by rw [calSeal_byte hp (by omega), if_neg (by omega)]

theorem calSeal_origin : uAt (calSeal p) 4 1 = 1 := by
  have h : uAt (calSeal p) 4 1 = uAt [0, 0, 0, 0, 1] 4 1 := uAt_congr fun i hi => by
    rw [calSeal_byte hp (by omega), if_pos (by omega), show i = 0 by omega]
    rfl
  rw [h]
  rfl

theorem calSeal_crc : uAt (calSeal p) 92 4 = crc32c ((calSeal p).take 92) := by
  have hl := calBody_length hp
  have htake : (calSeal p).take 92 = calBody p := List.take_left' hl
  have hslice : slice (calSeal p) 92 4 = leBytes 4 (crc32c (calBody p)) := by
    have hd : (calSeal p).drop 92 = leBytes 4 (crc32c (calBody p)) := List.drop_left' hl
    unfold slice
    rw [hd]
    exact List.take_of_length_le (leBytes_length ..).le
  rw [htake, uAt, hslice]
  exact ofLe_leBytes (crc32c_lt _)

end

/-- What is stored of a set that passes, passes. -/
theorem calOk_calSeal {p : List Byte} (h : calOk p = true) : calOk (calSeal p) = true := by
  obtain ⟨hl, hf, hn, hs, -⟩ := calOk_iff.1 h
  exact calOk_iff.2 ⟨calSeal_length hl, (calSeal_field hl (by decide) (by decide)).trans hf, (calSeal_field hl (by decide) (by decide)).trans hn,
    (calSeal_field hl (by decide) (by decide)).trans hs, calSeal_crc hl⟩

/-- An erased block holds no set. -/
theorem not_calOk_erased : calOk (List.replicate 96 0xFF) = false := by
  rw [Bool.eq_false_iff, Ne, calOk_iff]
  rintro ⟨-, hf, -⟩
  exact absurd hf (by decide)

/-! ## The stored set comes into use (R113) -/

section
variable (s : State)

/-- CAL_STAT as a reading of the stored set leaves it. -/
def calMarked : State :=
  (((s.setB F.CVI_CAL_STAT_VALID (calOk s.flash.cal)).setB F.CVI_CAL_STAT_DEFAULTS (!calOk s.flash.cal)).set F.CVI_CAL_STAT_ORIGIN
    (if calOk s.flash.cal then uAt s.flash.cal 4 1 else 0)).set F.CVI_CAL_STAT_FORMAT 1

/-- Beside CAL_STAT a reading changes the offsets in use, and a set that does not pass is an event. -/
theorem calLoad_eq : ∃ c : CviSt, s.calLoad =
    if calOk s.flash.cal then { calMarked s with cvi := c } else { calMarked s with cvi := c }.raise 2 [] := ⟨_, rfl⟩

theorem calLoad_flash : s.calLoad.flash = s.flash := by
  obtain ⟨c, h⟩ := calLoad_eq s
  rw [h]
  split
  · rfl
  · exact raise_flash _ 2 []

theorem calLoad_host : s.calLoad.host = s.host := by
  obtain ⟨c, h⟩ := calLoad_eq s
  rw [h]
  split
  · rfl
  · exact raise_host _ 2 []

theorem calLoad_word {y : Nat} (hy : y ≠ 0x20004) : s.calLoad.word y = (calMarked s).word y := by
  obtain ⟨c, h⟩ := calLoad_eq s
  rw [h]
  split
  · rfl
  · exact raise_word_other _ 2 [] hy

theorem calLoad_get (f : Fld) (hf : f.addr ≠ 0x20004) : s.calLoad.get f = (calMarked s).get f := congrArg f.of (calLoad_word s hf)

theorem calLoad_flag (f : Fld) (hf : f.addr ≠ 0x20004) : s.calLoad.flag f = (calMarked s).flag f := congrArg (· == 1) (calLoad_get s f hf)

/-- VALID tells whether the stored set passes. -/
theorem calLoad_valid : s.calLoad.flag F.CVI_CAL_STAT_VALID = calOk s.flash.cal := by
  rw [calLoad_flag s _ (by decide), calMarked, flag_set_clear _ F.CVI_CAL_STAT_FORMAT _ _ rfl, flag_set_clear _ F.CVI_CAL_STAT_ORIGIN _ _ rfl]
  exact (flag_set_clear _ F.CVI_CAL_STAT_DEFAULTS _ _ rfl).trans (flag_setB_same s F.CVI_CAL_STAT_VALID _ (show 0 + 1 ≤ 32 by decide) rfl)

/-- DEFAULTS tells that the nominal set is in use. -/
theorem calLoad_defaults : s.calLoad.flag F.CVI_CAL_STAT_DEFAULTS = !calOk s.flash.cal := by
  rw [calLoad_flag s _ (by decide), calMarked, flag_set_clear _ F.CVI_CAL_STAT_FORMAT _ _ rfl, flag_set_clear _ F.CVI_CAL_STAT_ORIGIN _ _ rfl]
  exact flag_setB_same _ F.CVI_CAL_STAT_DEFAULTS _ (show 2 + 1 ≤ 32 by decide) rfl

/-- ORIGIN is that of a set which passes. -/
theorem calLoad_origin (h : calOk s.flash.cal = true) (h1 : uAt s.flash.cal 4 1 ≤ 1) : s.calLoad.get F.CVI_CAL_STAT_ORIGIN = uAt s.flash.cal 4 1 := by
  rw [calLoad_get s _ (by decide), calMarked, if_pos h, get_set_clear _ F.CVI_CAL_STAT_FORMAT _ _ rfl,
    get_set_same _ F.CVI_CAL_STAT_ORIGIN _ (show 1 + 1 ≤ 32 by decide)]
  exact Nat.mod_eq_of_lt (Nat.lt_succ_of_le h1)

end

/-! ## CAL_WRITE (R114) -/

section
variable (s : State) (p : List Byte) (bad : List Nat) (n : Nat)

/-- The block is erased, its first `n` bytes are programmed, and what it then holds is read. -/
def calInUse : State := (((s.blocksFail .cal bad).calProgram p n).calLoad).keepOfs s.cvi

/-- What becomes of a set that passes the checks. -/
def calPut (w : FlashDone) : State × HRes := match w.cut with
  | some n => (s.calProgram p (min 95 n), .later)
  | none => s.calStore p w

theorem calProgram_cal (hp : p.length = 96) (hn : n ≤ 96) : (s.calProgram p n).flash.cal = (calSeal p).take n ++ List.replicate (96 - n) 0xFF := by
  have h : (s.calProgram p n).flash.cal = (calSeal p).take n ++ List.replicate ((calSeal p).length - min n (calSeal p).length) 0xFF := rfl
  rw [h, calSeal_length hp, Nat.min_eq_left hn]

theorem calInUse_host : (calInUse s p bad n).host = s.host :=
  (calLoad_host ((s.blocksFail .cal bad).calProgram p n)).trans (blocksFail_host s .cal bad)

theorem calInUse_cal : (calInUse s p bad n).flash.cal = ((s.blocksFail .cal bad).calProgram p n).flash.cal :=
  congrArg Flash.cal (calLoad_flash ((s.blocksFail .cal bad).calProgram p n))

theorem calInUse_flag (f : Fld) : (calInUse s p bad n).flag f = ((s.blocksFail .cal bad).calProgram p n).calLoad.flag f := rfl

theorem calInUse_get (f : Fld) : (calInUse s p bad n).get f = ((s.blocksFail .cal bad).calProgram p n).calLoad.get f := rfl

end

section
variable {s : State} {p : List Byte} {bad : List Nat} (hp : calOk p = true)
include hp

theorem calProgram_whole : (s.calProgram p 96).flash.cal = calSeal p := by
  have hl := (calOk_iff.1 hp).1
  rw [calProgram_cal s p 96 hl le_rfl, List.take_of_length_le (calSeal_length hl).le]
  exact List.append_nil _

theorem calProgram_none : (s.calProgram p 0).flash.cal = List.replicate 96 0xFF := calProgram_cal s p 0 (calOk_iff.1 hp).1 (Nat.zero_le _)

/-- A set that reads back is the one stored, and in use. -/
theorem calInUse_whole : (calInUse s p bad 96).flash.cal = calSeal p ∧ (calInUse s p bad 96).flag F.CVI_CAL_STAT_VALID = true ∧
    (calInUse s p bad 96).flag F.CVI_CAL_STAT_DEFAULTS = false ∧ (calInUse s p bad 96).get F.CVI_CAL_STAT_ORIGIN = 1 := by
  have hc : ((s.blocksFail .cal bad).calProgram p 96).flash.cal = calSeal p := calProgram_whole hp
  have hk := calOk_calSeal hp
  have ho := calSeal_origin (calOk_iff.1 hp).1
  refine ⟨(calInUse_cal ..).trans hc, ?_, ?_, ?_⟩
  · rw [calInUse_flag, calLoad_valid, hc, hk]
  · rw [calInUse_flag, calLoad_defaults, hc, hk]
    rfl
  · rw [calInUse_get, calLoad_origin _ (by rw [hc, hk]) (by rw [hc, ho]), hc, ho]

/-- Where nothing is programmed the block stands erased, and the nominal set is in use. -/
theorem calInUse_none : (calInUse s p bad 0).flash.cal = List.replicate 96 0xFF ∧ (calInUse s p bad 0).flag F.CVI_CAL_STAT_VALID = false ∧
    (calInUse s p bad 0).flag F.CVI_CAL_STAT_DEFAULTS = true := by
  have hc : ((s.blocksFail .cal bad).calProgram p 0).flash.cal = List.replicate 96 0xFF := calProgram_none hp
  refine ⟨(calInUse_cal ..).trans hc, ?_, ?_⟩
  · rw [calInUse_flag, calLoad_valid, hc, not_calOk_erased]
  · rw [calInUse_flag, calLoad_defaults, hc, not_calOk_erased]
    rfl

end

section
variable {a : State} {r : Req}

theorem taken_allOpen : (taken a r).allOpen = a.allOpen := by unfold State.allOpen; rw [taken_get]

theorem taken_convOff : (taken a r).convOff = a.convOff := by
  unfold State.convOff State.convLevel
  rw [taken_loopStopped, taken_ctl, taken_get, taken_word, taken_now]

end

section
variable {s : State} {r : Req} {w : FlashDone} (hu : s.get F.UPD_STATE_PHASE ≠ 2)
include hu

theorem calWrite_closed (h : s.allOpen = false) : s.calWrite r w = (s, .refused 2) := by
  unfold State.calWrite
  rw [if_neg hu, h]
  rfl

variable (ho : s.allOpen = true) (hc : s.convOff = true)
include ho hc

theorem calWrite_open : s.calWrite r w =
    if !calOk r.payload then (s, .no stBadParam 0)
    else if 1 < uAt r.payload 4 1 then (s, .err stBadParam 0 4)
    else calPut s r.payload w := by
  unfold State.calWrite
  rw [if_neg hu, ho, hc]
  rfl

theorem calWrite_bad (hk : calOk r.payload = false) : s.calWrite r w = (s, .no stBadParam 0) := by
  rw [calWrite_open hu ho hc, hk]
  rfl

variable (hk : calOk r.payload = true) (h1 : uAt r.payload 4 1 ≤ 1)
include hk h1

theorem calWrite_good : s.calWrite r w = calPut s r.payload w := by
  rw [calWrite_open hu ho hc, hk, if_neg (by decide), if_neg (Nat.not_lt.2 h1)]

theorem calWrite_stored (bad : List Nat) : s.calWrite r { ok := true, bad := bad } = (calInUse s r.payload bad 96, .ok []) :=
  calWrite_good hu ho hc hk h1

theorem calWrite_notRead (bad : List Nat) :
    s.calWrite r { ok := false, bad := bad } = ((calInUse s r.payload bad 0).traceFault, .no stInternal 0) :=
  calWrite_good hu ho hc hk h1

theorem calWrite_cut (ok : Bool) (bad : List Nat) (n : Nat) :
    s.calWrite r { ok := ok, bad := bad, cut := some n } = (s.calProgram r.payload (min 95 n), .later) :=
  calWrite_good hu ho hc hk h1

end

/-- CAL_WRITE without a loss of power is a request as any other. -/
theorem exec_calWrite {s : State} {t : Nat} {r : Req} {w : FlashDone} (hw : w.cut = none) : exec (.calWrite t ⟨r, w⟩) s =
    .next (s.hostCommand t 0x0C02 r (Fmt.fixed 96 []) fun _ s => s.calWrite r w) := by
  obtain ⟨ok, bad, cut⟩ := w
  cases hw
  rfl

section
variable {s : State} {t : Nat} {r : Req} (hs : serves (s.upto t) 0x0C02 r (Fmt.fixed 96 []) = true)
  (hu : (s.upto t).get F.UPD_STATE_PHASE ≠ 2)
include hs hu

/-- With a contactor closed a set is refused. -/
theorem calWrite_refused {w : FlashDone} (hw : w.cut = none) (ho : (s.upto t).allOpen = false) : Answers (.calWrite t ⟨r, w⟩) s (fun s' =>
    Replied s' r 0x0C02 stRefused 0 (leBytes 2 2 ++ leBytes 2 0xFFFF) ∧ s'.flash = (s.upto t).flash) :=
  answers_given (exec_calWrite hw) hs (calWrite_closed (by rwa [taken_get]) (by rwa [taken_allOpen])) (taken_hasPlace hs)
    fun _ g => ⟨g.replied, g.flash.trans (taken_flash ..)⟩

variable (ho : (s.upto t).allOpen = true) (hc : (s.upto t).convOff = true)
include ho hc

/-- A set that fails a check is refused. -/
theorem calWrite_badParam {w : FlashDone} (hw : w.cut = none) (hk : calOk r.payload = false) : Answers (.calWrite t ⟨r, w⟩) s (fun s' =>
    Replied s' r 0x0C02 stBadParam 0 (leBytes 2 0 ++ leBytes 2 0xFFFF) ∧ s'.flash = (s.upto t).flash) :=
  answers_given (exec_calWrite hw) hs (calWrite_bad (by rwa [taken_get]) (by rwa [taken_allOpen]) (by rwa [taken_convOff]) hk)
    (taken_hasPlace hs) fun _ g => ⟨g.replied, g.flash.trans (taken_flash ..)⟩

variable (hk : calOk r.payload = true) (h1 : uAt r.payload 4 1 ≤ 1) (bad : List Nat)
include hk h1

/-- A set that passes and reads back is stored and in use. -/
theorem calWrite_ok : Answers (.calWrite t ⟨r, { ok := true, bad := bad }⟩) s (fun s' => Replied s' r 0x0C02 stOk 0 [] ∧
    s'.flash.cal = calSeal r.payload ∧ s'.flag F.CVI_CAL_STAT_VALID = true ∧ s'.flag F.CVI_CAL_STAT_DEFAULTS = false ∧
    s'.get F.CVI_CAL_STAT_ORIGIN = 1) := by
  obtain ⟨hcal, hv, hd, hor⟩ := calInUse_whole (s := taken (s.upto t) r) (bad := bad) hk
  refine answers_given (exec_calWrite rfl) hs
    (calWrite_stored (by rwa [taken_get]) (by rwa [taken_allOpen]) (by rwa [taken_convOff]) hk h1 bad)
    ((taken_hasPlace hs).of_host (calInUse_host ..)) fun s' g => ?_
  exact ⟨g.replied, (congrArg Flash.cal g.flash).trans hcal, (congrArg (· == 1) (g.get rfl)).trans hv,
    (congrArg (· == 1) (g.get rfl)).trans hd, (g.get rfl).trans hor⟩

/-- A set that does not read back leaves the block erased. -/
theorem calWrite_internal : Answers (.calWrite t ⟨r, { ok := false, bad := bad }⟩) s (fun s' =>
    Replied s' r 0x0C02 stInternal 0 (leBytes 2 0 ++ leBytes 2 0xFFFF) ∧ (∀ x ∈ s'.flash.cal, x = 0xFF) ∧
    s'.flag F.CVI_CAL_STAT_VALID = false ∧ s'.flag F.CVI_CAL_STAT_DEFAULTS = true) := by
  obtain ⟨hcal, hv, hd⟩ := calInUse_none (s := taken (s.upto t) r) (bad := bad) hk
  refine answers_given (exec_calWrite rfl) hs
    (calWrite_notRead (by rwa [taken_get]) (by rwa [taken_allOpen]) (by rwa [taken_convOff]) hk h1 bad)
    (((taken_hasPlace hs).of_host (calInUse_host ..)).of_sess (traceFault_sess ..)) fun s' g => ?_
  have hflag : ∀ f : Fld, replyReg f.addr = false → s'.flag f = (calInUse (taken (s.upto t) r) r.payload bad 0).flag f := fun f hf =>
    congrArg (· == 1) ((g.get hf).trans (congrArg f.of (traceFault_word _ hf)))
  refine ⟨g.replied, fun x hx => ?_, (hflag _ rfl).trans hv, (hflag _ rfl).trans hd⟩
  rw [g.flash, show (calInUse (taken (s.upto t) r) r.payload bad 0).traceFault.flash = (calInUse (taken (s.upto t) r) r.payload bad 0).flash from
    congrArg Prod.fst (traceFault_stored _), hcal] at hx
  exact List.eq_of_mem_replicate hx

/-- Power lost in the write leaves what was programmed. -/
theorem calWrite_lost (ok : Bool) (n : Nat) : Answers (.calWrite t ⟨r, { ok := ok, bad := bad, cut := some n }⟩) s (fun s' =>
    s'.rst.mode = .off ∧ s'.flash.cal = (calSeal r.payload).take (min 95 n) ++ List.replicate (96 - min 95 n) 0xFF) := by
  refine ⟨_, rfl, (congrArg (·.mode) (command_rst ..)).trans ?_, (congrArg Flash.cal (command_flash ..)).trans ?_⟩
  · rfl
  · have hb := calWrite_cut (s := taken (s.upto t) r) (by rwa [taken_get]) (by rwa [taken_allOpen]) (by rwa [taken_convOff]) hk h1 ok bad n
    have hh := host_served _ _ _ _ (fun _ s => s.calWrite r { ok := ok, bad := bad, cut := some n }) hs
    rw [hb] at hh
    refine Eq.trans ?_ (calProgram_cal (taken (s.upto t) r) r.payload (min 95 n) (calOk_iff.1 hk).1 (by omega))
    exact congrArg (fun s => s.flash.cal) hh

end

/-! ## A measurement (R308) -/

section
variable (s : State)

/-- What a measurement begins with. -/
def calBegun (conv time job : Nat) : State :=
  { s with cvi := { s.cvi with cmConv := conv, cmSince := s.now, cmTime := time, cmSum := 0, cmSq := 0, cmN := 0, cmJob := some job } }

/-- Beside what a measurement begins with, MEAS and the shorted converter may follow it. -/
theorem calStart_cases (conv time job : Nat) : s.calStart conv time job = calBegun s conv time job ∨
    ∃ n, s.calStart conv time job = { (calBegun s conv time job).set F.CVI_SH_STAT_MEAS conv with
      cvi := { (calBegun s conv time job).cvi with shorted := n } } := by
  unfold State.calStart
  dsimp only
  split
  · exact .inl rfl
  · exact .inr ⟨_, rfl⟩

theorem calStart_host (conv time job : Nat) : (s.calStart conv time job).host = s.host := by
  obtain h | ⟨n, h⟩ := calStart_cases s conv time job <;> rw [h] <;> rfl

theorem calStart_cvi (conv time job : Nat) : (s.calStart conv time job).cvi.cmJob = some job ∧ (s.calStart conv time job).cvi.cmConv = conv ∧
    (s.calStart conv time job).cvi.cmTime = time ∧ (s.calStart conv time job).cvi.cmSince = s.now ∧ (s.calStart conv time job).cvi.cmN = 0 := by
  obtain h | ⟨n, h⟩ := calStart_cases s conv time job <;> rw [h] <;> exact ⟨rfl, rfl, rfl, rfl, rfl⟩

end

/-! ### The result of a served request leaves the measurement and the trace -/

section
variable {β : Type} (g : State → β)

/-- What the queueing of packets and the sessions do not touch, the result of a tagged request leaves. -/
theorem giveRes_keeps (s : State) (r : Req) (op : Nat) (res : HRes) (ha : r.auth = true)
    (hq : ∀ s p, g (State.queueReply s r.session r.via r.src p) = g s)
    (hh : ∀ (s : State) l, g { s with host := { s.host with sess := l } } = g s) : g (s.giveRes (reqId r op false) res) = g s := by
  have hf := fold_queue g r.session r.via r.src hq
  cases res with
  | later => rfl
  | reply st j p =>
    unfold State.giveRes State.answer
    simp only [reqId, ha, Bool.not_false, Bool.and_true, Bool.false_eq_true, if_false, if_true]
    split
    · exact hf _ _
    · rw [hh]
      exact hf _ _

end

theorem queueReply_trace (s : State) (n : Nat) (via : Via) (src : Nat) (p : Pkt) :
    ((s.queueReply n via src p).host.traceMask, (s.queueReply n via src p).host.trace) = (s.host.traceMask, s.host.trace) := by
  unfold State.queueReply
  dsimp only
  split
  · split
    · rfl
    · rw [qLost_host, count_host]
      rfl
  · split
    · rfl
    · rw [qLost_host, count_host]

/-- A served request whose body answers at once keeps what its body makes of the conversions and of the trace. -/
theorem answers_kept {c : Instr} {s s1 : State} {t op st j : Nat} {r : Req} {fmt : Fmt} {body : ReqId → State → State × HRes}
    {p : List Byte} {P : State → Prop} (hc : exec c s = .next (s.hostCommand t op r fmt body)) (h : serves (s.upto t) op r fmt = true)
    (hb : body (reqId r op false) (taken (s.upto t) r) = (s1, .reply st j p)) (hs : HasPlace r.session r.seq s1)
    (hP : ∀ s', Replied s' r op st j p → s'.cvi = s1.cvi → s'.host.traceMask = s1.host.traceMask → s'.host.trace = s1.host.trace → P s') :
    Answers c s P := by
  have ha := serves_auth h
  have ht := giveRes_keeps (fun s => (s.host.traceMask, s.host.trace)) s1 r op (.reply st j p) ha (fun s p => queueReply_trace s _ _ _ p)
    fun _ _ => rfl
  refine ⟨_, hc, ?_⟩
  rw [hostCommand_served _ _ _ _ _ _ h, hb]
  refine hP _ (command_replied (giveRes_replied s1 r op st j p ha (serves_target h) hs.1 hs.2)) ((command_cvi ..).trans (giveRes_cvi _ _ _ _ ha)) ?_ ?_
  · rw [command_host]
    exact congrArg Prod.fst ht
  · rw [command_host]
    exact congrArg Prod.snd ht

/-- A measurement that may begin becomes a job. -/
theorem calMeasure_starts {s : State} {t : Nat} {r : Req} {c u : Nat} (hs : serves (s.upto t) 0x0C03 r (Fmt.fixed 4 [1]) = true)
    (hc : c = uAt r.payload 0 1) (hu : u = uAt r.payload 2 2) (h8 : c ≤ 8) (h10 : 10 ≤ u) (hmax : u ≤ 60000)
    (hA : c = 0 → (s.upto t).shFailed false = false) (hB : c = 1 → (s.upto t).shFailed true = false) (hj : (s.upto t).cvi.cmJob = none)
    (hroom : (s.upto t).jobRoom = true) : Answers (.calMeasure t r) s (fun s' => ∃ j, Replied s' r 0x0C03 stAccepted j [] ∧
      s'.cvi.cmJob = some j ∧ s'.cvi.cmConv = c ∧ s'.cvi.cmTime = u ∧ s'.cvi.cmSince = (s.upto t).now ∧ s'.cvi.cmN = 0) := by
  have hf : ∀ b, (taken (s.upto t) r).shFailed b = (s.upto t).shFailed b := fun b => by unfold State.shFailed; rw [taken_flag, taken_flag]
  have hr : ((taken (s.upto t) r).cvi.cmJob.isSome || !(taken (s.upto t) r).jobRoom) = false := by
    unfold State.jobRoom at hroom ⊢
    rw [taken_cvi, hj, taken_jobs, hroom]
    rfl
  have hn : ¬ ((c = 0 ∧ (taken (s.upto t) r).shFailed false = true) ∨ (c = 1 ∧ (taken (s.upto t) r).shFailed true = true)) := by
    rw [hf, hf]
    rintro (⟨h, hx⟩ | ⟨h, hx⟩)
    · exact absurd ((hA h).symm.trans hx) (by decide)
    · exact absurd ((hB h).symm.trans hx) (by decide)
  subst hc hu
  obtain ⟨h1, h2, h3, h4, h5⟩ := calStart_cvi ((taken (s.upto t) r).jobStart 0x0C03 r.session 0 10000).1 (uAt r.payload 0 1) (uAt r.payload 2 2)
    ((taken (s.upto t) r).jobStart 0x0C03 r.session 0 10000).2
  refine answers_kept rfl hs ((if_neg (by omega)).trans <| (if_neg (by omega)).trans <| (if_neg hn).trans <| if_neg (by rw [hr]; decide))
    ((taken_hasPlace hs).of_host (calStart_host ..)) fun s' hrep hcvi _ _ => ⟨_, hrep, ?_⟩
  rw [hcvi]
  exact ⟨h1, h2, h3, h4.trans (taken_now ..), h5⟩

/-! ## The completion of a job (R291, R292) -/

section
variable (s : State)

/-- A change that keeps a job's id reaches the job of that id. -/
theorem job?_jobMod (i : Nat) (f : Job → Job) (hf : ∀ j, (f j).id = j.id) : (s.jobMod i f).job? i = (s.job? i).map f := by
  have hp : ((fun j : Job => decide (j.id = i)) ∘ fun j => if j.id = i then f j else j) = fun j => decide (j.id = i) := by
    funext j
    by_cases h : j.id = i
    · simp [h, hf]
    · simp [h]
  have hm : (s.jobMod i f).job? i = (s.job? i).map fun j => if j.id = i then f j else j := by
    unfold State.job? State.jobMod
    rw [List.find?_map, hp]
  cases hj : s.job? i with
  | none => rw [hm, hj]; rfl
  | some j =>
    have hi : j.id = i := of_decide_eq_true (List.find?_some hj :)
    rw [hm, hj, Option.map_some, if_pos hi, Option.map_some]

/-- The payload of an event begins with its number. -/
theorem eventPayload_num {num : Nat} (c l ns : Nat) (d : List Byte) (h : num < 65536) : uAt (s.eventPayload num c l ns d) 0 2 = num := by
  have hl : ∀ x : List Byte, uAt (leBytes 2 num ++ x) 0 2 = num := fun x => by
    have hs : slice (leBytes 2 num ++ x) 0 2 = leBytes 2 num := List.take_left' (leBytes_length ..)
    rw [uAt, hs]
    exact ofLe_leBytes h
  unfold State.eventPayload
  simp only [List.append_assoc]
  exact hl _

/-- The payload of an event ends with its detail. -/
theorem eventPayload_detail (num c l ns : Nat) (d : List Byte) : (s.eventPayload num c l ns d).drop 20 = d := by
  refine List.drop_left' ?_
  simp only [List.length_append, leBytes_length]
  rfl

/-- The room an event makes leaves the jobs, and where its session stands. -/
theorem eventRoom_keeps (n : Nat) : (s.eventRoom n).jobs = s.jobs ∧ ((s.eventRoom n).session n).via = (s.session n).via ∧
    ((s.eventRoom n).session n).src = (s.session n).src := by
  unfold State.eventRoom State.session
  dsimp only
  split_ifs
  · rw [qLost_host]
    exact ⟨count_jobs .., rfl, rfl⟩
  · exact ⟨rfl, rfl, rfl⟩
  · rw [qLost_host]
    exact ⟨count_jobs .., nth_modNth_keep Session.via _ _ _ _ fun _ => rfl, nth_modNth_keep Session.src _ _ _ _ fun _ => rfl⟩
  · exact ⟨rfl, rfl, rfl⟩

theorem sendEvent_jobs (n num c ns st j : Nat) (d : List Byte) : (s.sendEvent n num c ns st j d).jobs = s.jobs := by
  have h := (eventRoom_keeps s n).1
  unfold State.sendEvent State.queueEvent
  dsimp only
  split <;> exact h

/-- An event goes out over its session's transport, or enters the SPI stream. -/
theorem sendEvent_sends (n num c ns st j : Nat) (d : List Byte) :
    ((s.session n).via ≠ .spi → OutMsg.packet (s.session n).via (s.session n).src ((s.eventRoom n).eventPkt n num c ns st j d) ∈
      (s.sendEvent n num c ns st j d).out) ∧
    ((s.session n).via = .spi → (s.eventRoom n).eventPkt n num c ns st j d ∈ (s.sendEvent n num c ns st j d).host.spiOut) := by
  obtain ⟨-, hv, hr⟩ := eventRoom_keeps s n
  rw [← hv, ← hr]
  unfold State.sendEvent State.queueEvent
  dsimp only
  split
  next h => exact ⟨fun hn => absurd h hn, fun _ => List.mem_append_right _ (List.mem_singleton.2 rfl)⟩
  next h => exact ⟨fun _ => List.mem_cons_self .., fun he => absurd he h⟩

end

/-- A job as its end leaves it. -/
def jobOver (s : State) (st : JobSt) (final : Nat) (j : Job) : Job :=
  { j with st := st, final := final, endedAt := s.now, value := if st = .done then j.total else j.value }

section
variable {s : State} {i : Nat} {j : Job} (hj : s.job? i = some j) (hr : j.st = .running) (st : JobSt) (final : Nat) (d : List Byte)
include hj hr

/-- The end of a running job changes it, and its session is told where it is open. -/
theorem jobEnd_running : s.jobEnd i st final d =
    if s.isOpen j.session then (s.jobMod i (jobOver s st final)).sendEvent j.session 0xFFFF 1 s.quartzNs final i d
    else s.jobMod i (jobOver s st final) := by
  unfold State.jobEnd
  rw [hj]
  dsimp only
  rw [if_neg (fun h => h hr)]
  have ho : (!(s.jobMod i (jobOver s st final)).isOpen j.session) = !s.isOpen j.session := rfl
  cases h : s.isOpen j.session
  · exact if_pos (ho.trans (by rw [h]; rfl))
  · exact if_neg fun e => absurd (ho.symm.trans e) (by rw [h]; decide)

theorem jobEnd_job? : (s.jobEnd i st final d).job? i = some (jobOver s st final j) := by
  have hm : (s.jobMod i (jobOver s st final)).job? i = some (jobOver s st final j) := by
    rw [job?_jobMod s i (jobOver s st final) fun _ => rfl, hj]
    rfl
  rw [jobEnd_running hj hr]
  split
  · unfold State.job? at hm ⊢
    rwa [sendEvent_jobs]
  · exact hm

/-- The completion event of a job whose session is open. -/
theorem jobEnd_event (ho : s.isOpen j.session = true) : ∃ p : Pkt, p.opcode = 0x0700 ∧ p.session = j.session ∧ p.jobid = i ∧
    p.status = final ∧ uAt p.payload 0 2 = 0xFFFF ∧ p.payload.drop 20 = d ∧
    ((s.session j.session).via ≠ .spi → OutMsg.packet (s.session j.session).via (s.session j.session).src p ∈ (s.jobEnd i st final d).out) ∧
    ((s.session j.session).via = .spi → p ∈ (s.jobEnd i st final d).host.spiOut) := by
  rw [jobEnd_running hj hr, if_pos ho]
  obtain ⟨hout, hspi⟩ := sendEvent_sends (s.jobMod i (jobOver s st final)) j.session 0xFFFF 1 s.quartzNs final i d
  exact ⟨_, rfl, rfl, rfl, rfl, eventPayload_num _ _ _ _ _ (by decide), eventPayload_detail .., hout, hspi⟩

end

/-- No measurement runs. -/
def calIdle (a : State) : State := { a with cvi := { a.cvi with cmJob := none } }

theorem calDone_eq {a : State} {i : Nat} (h : a.cvi.cmJob = some i) : a.calDone = (calIdle a).jobEnd i .done stOk a.cvi.calDetail := by
  unfold State.calDone
  rw [h]
  rfl

theorem calDetail_some {c : CviSt} (h : c.cmN ≠ 0) : c.calDetail = leBytesI 8 (divRne (c.cmSum * 65536) c.cmN) ++
    leBytes 4 (min 4294967295 (sqrtNear ((c.cmN * c.cmSq - c.cmSum * c.cmSum).toNat * 4294967296 / (c.cmN * c.cmN)))) ++ leBytes 4 c.cmN := by
  unfold CviSt.calDetail
  dsimp only
  rw [if_neg h, if_neg h]

/-- A measurement's job ends with its mean, its deviation and the count of its samples. -/
theorem calMeasureDone_ends {s : State} {t i : Nat} {j : Job} (hin : (s.upto t).inService = true) (hc : (s.upto t).cvi.cmJob = some i)
    (ht : (s.upto t).cvi.cmSince + (s.upto t).cvi.cmTime * msec ≤ (s.upto t).now) (hj : (s.upto t).job? i = some j) (hr : j.st = .running) :
    Answers (.calMeasureDone t) s (fun s' => s'.cvi.cmJob = none ∧ (∃ k, s'.job? i = some k ∧ k.st = .done ∧ k.final = stOk) ∧
      ((s.upto t).isOpen j.session = true → (s.upto t).cvi.cmN ≠ 0 → ∃ p : Pkt, p.opcode = 0x0700 ∧ p.session = j.session ∧ p.jobid = i ∧
        p.status = stOk ∧ uAt p.payload 0 2 = 0xFFFF ∧
        p.payload.drop 20 = leBytesI 8 (divRne ((s.upto t).cvi.cmSum * 65536) (s.upto t).cvi.cmN) ++ leBytes 4 (min 4294967295 (sqrtNear
          (((s.upto t).cvi.cmN * (s.upto t).cvi.cmSq - (s.upto t).cvi.cmSum * (s.upto t).cvi.cmSum).toNat * 4294967296 /
            ((s.upto t).cvi.cmN * (s.upto t).cvi.cmN)))) ++ leBytes 4 (s.upto t).cvi.cmN ∧
        (((s.upto t).session j.session).via ≠ .spi → OutMsg.packet ((s.upto t).session j.session).via ((s.upto t).session j.session).src p ∈ s'.out) ∧
        (((s.upto t).session j.session).via = .spi → p ∈ s'.host.spiOut))) := by
  generalize ha : s.upto t = a at *
  have hb : (calIdle a).job? i = some j := hj
  refine answers_of_guard (r := (calIdle a).jobEnd i .done stOk a.cvi.calDetail) (body := State.calDone) rfl ?_ (by rw [ha]; exact calDone_eq hc)
    ⟨?_, ⟨jobOver (calIdle a) .done stOk j, ?_, rfl, rfl⟩, fun ho hn => ?_⟩
  · rw [ha, hin, hc, Option.isSome_some, Bool.and_self, Bool.true_and]
    exact decide_eq_true ht
  · rw [command_cvi, ((Stands.refl (fun _ => true) (calIdle a)).jobEnd (fun _ _ => rfl) i .done stOk _).cvi]
    rfl
  · have h := jobEnd_job? hb hr .done stOk a.cvi.calDetail
    unfold State.job? at h ⊢
    rwa [command_jobs]
  · obtain ⟨p, h1, h2, h3, h4, h5, h6, h7, h8⟩ := jobEnd_event hb hr .done stOk a.cvi.calDetail ho
    refine ⟨p, h1, h2, h3, h4, h5, h6.trans (calDetail_some hn), fun hv => ?_, fun hv => ?_⟩
    · rw [command_out]
      exact h7 hv
    · rw [command_host]
      exact h8 hv

/-! ## TRACE (R309) -/

theorem taken_trace (a : State) (r : Req) : (taken a r).host.trace = a.host.trace := by
  obtain h | ⟨l, h⟩ := taken_split a r <;> rw [h] <;> rfl

section
variable {s : State} {t : Nat} {r : Req} (hs : serves (s.upto t) 0x0F03 r traceFmt = true)
include hs

theorem traceStop_stops (h : uAt r.payload 0 1 = 0) :
    Answers (.traceStop t r) s (fun s' => Replied s' r 0x0F03 stOk 0 [] ∧ s'.host.traceMask = none) :=
  answers_kept rfl hs (if_pos h) ((taken_hasPlace hs).of_sess rfl) fun _ hr _ hm _ => ⟨hr, hm⟩

theorem traceStart_starts (h : uAt r.payload 0 1 = 1) :
    Answers (.traceStart t r) s (fun s' => Replied s' r 0x0F03 stOk 0 [] ∧ s'.host.traceMask = some (uAt r.payload 4 4)) :=
  answers_kept rfl hs (if_pos h) ((taken_hasPlace hs).of_sess rfl) fun _ hr _ hm _ => ⟨hr, hm⟩

theorem traceRead_reads (h : uAt r.payload 0 1 = 2) : Answers (.traceRead t r) s (fun s' => s'.host.trace = (s.upto t).host.trace.drop 255 ∧
    Replied s' r 0x0F03 stOk 0 (leBytes 1 ((s.upto t).host.trace.take 255).length ++ [0, 0, 0] ++ ((s.upto t).host.trace.take 255).flatten)) := by
  refine answers_kept rfl hs (if_pos h) ((taken_hasPlace hs).of_sess rfl) fun s' hr _ _ hl => ?_
  rw [taken_trace] at hr
  exact ⟨hl.trans (congrArg (List.drop 255) (taken_trace (s.upto t) r)), hr⟩

end

end Sys2Proof.Machine.Laws

namespace Sys2Proof.Proofs

open Sys2Proof.Machine Sys2Proof.Machine.Laws Sys2Proof.Safety

/-- Settles O37: CAL_WRITE by what is programmed and then read, a measurement by the end of its job, TRACE by its forms. -/
theorem calibrationAndTraceAct : Obligations.CalibrationAndTraceAct := by
  unfold Obligations.CalibrationAndTraceAct
  rintro s _ t r rfl
  refine ⟨fun hs => ?_, fun hs hu => ⟨fun ho hc hk h1 bad => ?_, fun w hw => ?_⟩,
    fun c u hs hc hu h8 h10 hmax hA hB hj hroom => calMeasure_starts hs hc hu h8 h10 hmax hA hB hj hroom,
    fun i j hin hc ht hj hr => calMeasureDone_ends hin hc ht hj hr,
    fun hs => ⟨traceStop_stops hs, traceStart_starts hs, traceRead_reads hs⟩⟩
  · refine answers_given rfl hs rfl (taken_hasPlace hs) fun s' g => ⟨?_, g.flash.trans (taken_flash ..)⟩
    have hr := g.replied
    rwa [taken_flash] at hr
  · exact ⟨calWrite_ok hs hu ho hc hk h1 bad, calWrite_internal hs hu ho hc hk h1 bad, calWrite_lost hs hu ho hc hk h1 bad⟩
  · exact ⟨calWrite_refused hs hu hw, fun ho hc hk => calWrite_badParam hs hu ho hc hw hk⟩

end Sys2Proof.Proofs
end

section
/-! Records loaded in pieces: the pieces of an assembly join in order, a complete record is staged or comes into use (O11). -/

namespace Sys2Proof.Machine.Laws

open Sys2Proof.Safety

/-! ## Assemblies (R303) -/

/-- A piece of `d` as its opcode gives it is the first of an assembly, or goes on where the one of its session ends. -/
def Joins (x? : Option Assembly) (n off total : Nat) (piece d : List Byte) : Prop :=
  (off = 0 ∧ d = piece) ∨
    ∃ x, x? = some x ∧ x.session = n ∧ x.total = total ∧ off = x.data.length ∧ x.data ≠ [] ∧ d = x.data ++ piece

theorem joinPiece_joins {x? : Option Assembly} {n now most off total : Nat} {piece d : List Byte} (ht : total ≤ most) (hd : d.length ≤ total)
    (h : Joins x? n off total piece d) :
    joinPiece x? n now most off total piece = .inr { session := n, total := total, data := d, since := now } := by
  unfold joinPiece
  rw [if_neg (by omega)]
  obtain ⟨h0, rfl⟩ | ⟨x, rfl, rfl, rfl, ho, hne, rfl⟩ := h
  · rw [if_pos h0, if_neg (by omega)]
  · have hpos := List.length_pos_iff.2 hne
    rw [List.length_append] at hd
    rw [if_neg (by omega)]
    dsimp only
    rw [if_neg (by simp), if_neg (by omega), if_neg (by simp)]

/-- The assembly that a request's piece leaves. -/
def assembled (r : Req) (d : List Byte) (now : Nat) : Assembly :=
  { session := r.session, total := uAt r.payload 4 4, data := d, since := now }

/-! ## TABLE_LOAD (R119, R155, R303) -/

/-- The staged set with a table more, and no table under assembly. -/
def tableStaged (c : CfgSt) (d : List Byte) : CfgSt :=
  { c with asmT := none, tables := assocPut (256 * uAt d 3 1 + uAt d 2 1) d c.tables }

/-- A table that passes its checks is staged, and its assembly is over. -/
theorem tableTake_staged (s : State) {d : List Byte} (hh : tableHeaderOk d = true) (hd : tableDataOk (uAt d 2 1) (d.drop 16) = true) :
    s.tableTake d = ({ s with cfg := tableStaged s.cfg d }, .ok []) := by
  unfold State.tableTake
  rw [hh, hd]
  rfl

/-- The form of TABLE_LOAD's payload. -/
abbrev tableFmt : Fmt := { len := fun p => decide (9 ≤ p.length) && decide (p.length ≤ 1400) }

section
variable {s : State} {t : Nat} {r : Req} {d : List Byte} (hs : serves (s.upto t) 0x0304 r tableFmt = true) (ht : uAt r.payload 4 4 ≤ 43024)
  (hj : Joins (s.upto t).cfg.asmT r.session (uAt r.payload 0 4) (uAt r.payload 4 4) (r.payload.drop 8) d)
include hs ht hj

theorem tableLoad_joins (hl : d.length < uAt r.payload 4 4) : Answers (.tableLoad t r) s (fun s' => Replied s' r 0x0304 stOk 0 [] ∧
    s'.cfg.asmT = some (assembled r d (s.upto t).now) ∧ s'.cfg.tables = (s.upto t).cfg.tables) := by
  have hjoin := joinPiece_joins (now := (taken (s.upto t) r).now) ht hl.le ((taken_cfg (s.upto t) r).symm ▸ hj)
  refine answers_given (s1 := { taken (s.upto t) r with cfg := { (taken (s.upto t) r).cfg with
    asmT := some (assembled r d (taken (s.upto t) r).now) } }) rfl hs ?_ ((taken_hasPlace hs).of_host rfl) fun s' hs' =>
      ⟨hs'.replied, by rw [hs'.cfg, taken_now], by rw [hs'.cfg, taken_cfg]⟩
  change (match joinPiece _ r.session _ _ _ _ _ with | .inl _ => _ | .inr _ => _) = _
  rw [hjoin]
  exact if_neg hl.ne

theorem tableLoad_stages (hl : d.length = uAt r.payload 4 4) (hh : tableHeaderOk d = true)
    (hd : tableDataOk (uAt d 2 1) (d.drop 16) = true) : Answers (.tableLoad t r) s (fun s' => Replied s' r 0x0304 stOk 0 [] ∧
      s'.cfg.asmT = none ∧ assoc? (256 * uAt d 3 1 + uAt d 2 1) s'.cfg.tables = some d) := by
  have hjoin := joinPiece_joins (now := (taken (s.upto t) r).now) ht hl.le ((taken_cfg (s.upto t) r).symm ▸ hj)
  refine answers_given (s1 := { taken (s.upto t) r with cfg := tableStaged (taken (s.upto t) r).cfg d }) rfl hs ?_
    ((taken_hasPlace hs).of_host rfl) fun s' hs' => ⟨hs'.replied, by rw [hs'.cfg]; rfl, by rw [hs'.cfg]; exact assoc_put_same _ _ _⟩
  change (match joinPiece _ r.session _ _ _ _ _ with | .inl _ => _ | .inr _ => _) = _
  rw [hjoin]
  exact (if_pos hl).trans (tableTake_staged _ hh hd)

end

/-! ## COEF_LOAD (R178 to R180) -/

/-- The form of COEF_LOAD's payload. -/
abbrev coefFmt : Fmt :=
  { len := fun p => decide (12 ≤ p.length) && decide (p.length ≤ 1400), pad := [9, 10, 11], flagsAt := some (8, 3) }

/-- No coefficient record is under assembly. -/
def coefOver (s : State) : State := { s with cfg := { s.cfg with asmC := none } }

/-- ACTVALID and SHVALID are bits of CTL_BANKSEL. -/
theorem bankBits_ctl (s : State) : s.bankBits.ctl = s.ctl := rfl
theorem bankBits_host (s : State) : s.bankBits.host = s.host := rfl

theorem bankBits_shvalid (s : State) : s.bankBits.flag F.CTL_BANKSEL_SHVALID =
    (if s.get F.CTL_BANKSEL_ACTIVE = 0 then s.ctl.bank1 else s.ctl.bank0).isSome := by
  unfold State.bankBits
  exact flag_setB_same _ F.CTL_BANKSEL_SHVALID _ (by unfold Fld.fits; decide) rfl

/-- A gain record goes into the bank that is not active, and the other bank stands (R178). -/
theorem gainPut_banks (s : State) (g : Gain) :
    (if s.get F.CTL_BANKSEL_ACTIVE = 0 then (s.gainPut g).ctl.bank1 = some g ∧ (s.gainPut g).ctl.bank0 = s.ctl.bank0
      else (s.gainPut g).ctl.bank0 = some g ∧ (s.gainPut g).ctl.bank1 = s.ctl.bank1) := by
  unfold State.gainPut
  rw [bankBits_ctl]
  split <;> exact ⟨rfl, rfl⟩

theorem gainPut_shvalid (s : State) (g : Gain) : (s.gainPut g).flag F.CTL_BANKSEL_SHVALID = true := by
  unfold State.gainPut
  rw [bankBits_shvalid]
  split
  next h => exact congrArg Option.isSome (if_pos h)
  next h => exact congrArg Option.isSome (if_neg h)

theorem gainPut_host (s : State) (g : Gain) : (s.gainPut g).host = s.host := by
  unfold State.gainPut
  rw [bankBits_host]
  split <;> rfl

section
variable {s : State} {d : List Byte}

/-- A structure record comes into use with the loop stopped and the gates low (R180). -/
theorem coefUse_struct {c : CtlStruct} (h1 : uAt d 2 1 = 1) (hc : structOf d = some c) (hl : s.loopStopped = true)
    (hg : s.ctl.gatesLow = true) : s.coefUse d = .inr (s.structPut c) := by
  unfold State.coefUse
  rw [if_pos h1, hc, hl, hg]
  rfl

/-- A gain record comes into the inactive bank while no swap is pending. -/
theorem coefUse_gain {c : CtlStruct} {g : Gain} (h1 : uAt d 2 1 ≠ 1) (hc : s.ctl.struct = some c) (hg : gainOf d c = some g)
    (hw : s.ctl.swapAt = none) : s.coefUse d = .inr (s.gainPut g) := by
  unfold State.coefUse
  rw [if_neg h1, hc, Option.bind_some, hg, hw]
  rfl

/-- A record without FLAGS comes into use, and its assembly is over. -/
theorem coefTake_used {b : State} {id : ReqId} {r : Req} (hd : d ≠ []) (hf : uAt r.payload 8 1 = 0) (hu : s.coefUse d = .inr b) :
    s.coefTake id r d = (coefOver b, .ok []) := by
  unfold State.coefTake
  rw [if_neg (by simpa using hd), hf, hu]
  rfl

/-- A request for a swap alone: pending until the first control sample at least 10 µs on. -/
theorem coefTake_swap {id : ReqId} {r : Req} (hf : uAt r.payload 8 1 = 1) (hw : s.ctl.swapAt = none)
    (hv : s.flag F.CTL_BANKSEL_SHVALID = true) : s.coefTake id r [] =
      ({ (coefOver s).setB F.CTL_BANKSEL_SWAPPEND true with
         ctl := { s.ctl with swapAt := some (s.now + s.toSample 10000) },
         host := { s.host with waiting := s.host.waiting ++ [{ why := .swap, id := id, req := r, since := s.now }] } }, .later) := by
  have hask : (coefOver s).swapAsk id r = _ := (if_neg (by rw [show (coefOver s).ctl = s.ctl from rfl, hw]; decide)).trans
    (if_neg (by rw [show (coefOver s).flag F.CTL_BANKSEL_SHVALID = s.flag F.CTL_BANKSEL_SHVALID from rfl, hv]; decide))
  unfold State.coefTake
  rw [hf]
  exact hask

end

section
variable {s : State} {t : Nat} {r : Req} (hs : serves (s.upto t) 0x0305 r coefFmt = true)
include hs

section
variable {d : List Byte} (ht : uAt r.payload 4 4 ≤ 8192)
  (hj : Joins (s.upto t).cfg.asmC r.session (uAt r.payload 0 4) (uAt r.payload 4 4) (r.payload.drop 12) d)
include ht hj

theorem coefLoad_joins (hl : d.length < uAt r.payload 4 4) : Answers (.coefLoad t r) s (fun s' => Replied s' r 0x0305 stOk 0 [] ∧
    s'.cfg.asmC = some (assembled r d (s.upto t).now) ∧ s'.ctl = (s.upto t).ctl) := by
  have hjoin := joinPiece_joins (now := (taken (s.upto t) r).now) ht hl.le ((taken_cfg (s.upto t) r).symm ▸ hj)
  refine answers_given (s1 := { taken (s.upto t) r with cfg := { (taken (s.upto t) r).cfg with
    asmC := some (assembled r d (taken (s.upto t) r).now) } }) rfl hs ?_ ((taken_hasPlace hs).of_host rfl) fun s' hs' =>
      ⟨hs'.replied, by rw [hs'.cfg, taken_now], by rw [hs'.ctl, taken_ctl]⟩
  change (match joinPiece _ r.session _ _ _ _ _ with | .inl _ => _ | .inr _ => _) = _
  rw [hjoin]
  exact if_neg hl.ne

/-- A complete record without FLAGS comes into use as `b`. -/
theorem coefLoad_uses {b : State} {P : State → Prop} (hf : uAt r.payload 8 1 = 0) (hl : d.length = uAt r.payload 4 4) (hd : d ≠ [])
    (hu : (taken (s.upto t) r).coefUse d = .inr b) (hh : b.host = (taken (s.upto t) r).host)
    (hP : ∀ s', Given r 0x0305 stOk 0 [] (coefOver b) s' → P s') : Answers (.coefLoad t r) s P := by
  have hjoin := joinPiece_joins (now := (taken (s.upto t) r).now) ht hl.le ((taken_cfg (s.upto t) r).symm ▸ hj)
  refine answers_given (s1 := coefOver b) rfl hs ?_ ((taken_hasPlace hs).of_host hh) hP
  change (match joinPiece _ r.session _ _ _ _ _ with | .inl _ => _ | .inr _ => _) = _
  rw [hjoin]
  exact (if_pos hl).trans (coefTake_used hd hf hu)

end

theorem coefLoad_swaps (hf : uAt r.payload 8 1 = 1) (h0 : uAt r.payload 0 4 = 0) (ht : uAt r.payload 4 4 = 0) (hl : r.payload.length = 12)
    (hw : (s.upto t).ctl.swapAt = none) (hv : (s.upto t).flag F.CTL_BANKSEL_SHVALID = true) :
    Answers (.coefLoad t r) s (fun s' => s'.flag F.CTL_BANKSEL_SWAPPEND = true ∧
      s'.ctl.swapAt = some ((s.upto t).now + (s.upto t).toSample 10000) ∧ ∃ w ∈ s'.host.waiting, w.why = .swap ∧ w.req = r) := by
  have hd : r.payload.drop 12 = [] := List.drop_eq_nil_of_le hl.le
  have hjoin : joinPiece (taken (s.upto t) r).cfg.asmC r.session (taken (s.upto t) r).now 8192 (uAt r.payload 0 4) (uAt r.payload 4 4)
      (r.payload.drop 12) = .inr (assembled r [] (taken (s.upto t) r).now) :=
    joinPiece_joins (by omega) (Nat.zero_le _) (.inl ⟨h0, hd.symm⟩)
  have hsample : (taken (s.upto t) r).toSample 10000 = (s.upto t).toSample 10000 := by
    obtain h | ⟨l, h⟩ := taken_split (s.upto t) r <;> rw [h] <;> rfl
  have hask := coefTake_swap (s := taken (s.upto t) r) (id := reqId r 0x0305 false) hf (by rw [taken_ctl, hw]) (by rw [taken_flag, hv])
  refine answers_later rfl hs (Eq.trans ?_ hask) ?_
  · change (match joinPiece _ r.session _ _ _ _ _ with | .inl _ => _ | .inr _ => _) = _
    rw [hjoin]
    exact if_pos ht.symm
  · rw [command_flag, command_ctl, command_host]
    refine ⟨flag_setB_same _ F.CTL_BANKSEL_SWAPPEND true (by unfold Fld.fits; decide) rfl, ?_,
      _, List.mem_append_right _ (List.mem_singleton_self _), rfl, rfl⟩
    rw [taken_now, hsample]

end

section
variable {s : State} {t : Nat} {x : Assembly} (hin : (s.upto t).inService = true) (hx : x.since + 60 * sec ≤ (s.upto t).now)
include hin hx

/-- An assembly without a piece for 60 s is dropped (R303). -/
theorem loadAssemblyTimeout_table (ha : (s.upto t).cfg.asmT = some x) :
    Answers (.loadAssemblyTimeout t false) s (fun s' => s'.cfg = { (s.upto t).cfg with asmT := none }) := by
  refine answers_of_guard rfl ?_ rfl (command_cfg ..)
  rw [if_neg (by decide), hin, ha, Option.any_some, Bool.true_and]
  exact decide_eq_true hx

theorem loadAssemblyTimeout_coef (ha : (s.upto t).cfg.asmC = some x) :
    Answers (.loadAssemblyTimeout t true) s (fun s' => s'.cfg = { (s.upto t).cfg with asmC := none }) := by
  refine answers_of_guard rfl ?_ rfl (command_cfg ..)
  rw [if_pos rfl, hin, ha, Option.any_some, Bool.true_and]
  exact decide_eq_true hx

end

end Sys2Proof.Machine.Laws

namespace Sys2Proof.Proofs

open Sys2Proof.Machine Sys2Proof.Machine.Laws Sys2Proof.Safety

/-- Settles O11: a piece that joins leaves its assembly with the data so far (`joinPiece_joins`); a complete record is staged
(`tableTake_staged`), comes into use (`coefLoad_uses`), or asks for a swap (`coefLoad_swaps`). -/
theorem recordsAreLoadedInPieces : Obligations.RecordsAreLoadedInPieces := by
  unfold Obligations.RecordsAreLoadedInPieces
  rintro s _ t _ r d rfl rfl
  refine ⟨fun hs ht _ hj => ⟨fun hl => tableLoad_joins hs ht hj hl, fun hl hh hd => tableLoad_stages hs ht hj hl hh hd⟩,
    fun hs ht _ hf hj => ⟨fun hl => coefLoad_joins hs ht hj hl, fun c hl hd h1 hc hstop hlow => ?struct,
      fun c g hl hd h1 hc hg hw => ?gain⟩,
    fun hs hf h0 ht hl hw hv => coefLoad_swaps hs hf h0 ht hl hw hv, fun x hin hx => ⟨loadAssemblyTimeout_table hin hx, loadAssemblyTimeout_coef hin hx⟩⟩
  case struct =>
    exact coefLoad_uses hs ht hj hf hl hd (coefUse_struct h1 hc ((taken_loopStopped ..).trans hstop) (by rw [taken_ctl, hlow]))
      (bankBits_host _) fun s' hs' => ⟨hs'.replied, by rw [hs'.ctl]; rfl, by rw [hs'.cfg]; rfl⟩
  case gain =>
    refine coefLoad_uses hs ht hj hf hl hd (coefUse_gain h1 (by rw [taken_ctl, hc]) hg (by rw [taken_ctl, hw])) (gainPut_host _ g)
      fun s' hs' => ⟨hs'.replied, by rw [hs'.cfg]; rfl, ?_, ?_⟩
    · have hb := gainPut_banks (taken (s.upto t) r) g
      rw [taken_get, taken_ctl] at hb
      rw [hs'.ctl]
      exact hb
    · unfold State.flag
      rw [hs'.get (by decide)]
      exact gainPut_shvalid _ g

end Sys2Proof.Proofs
end

section
/-! The estimator's update of a quarter, the string values and the learning interval (O13). -/

namespace Sys2Proof.Machine.Laws

open Sys2Proof.Safety

/-! ## What the end of a job leaves -/

section
variable {β : Type} (g : State → β) (hq : ∀ s n, g (State.qLost s n) = g s) (hh : ∀ (s : State) h, g { s with host := h } = g s)
  (hp : ∀ s p, g (State.toSpi s p) = g s) (he : ∀ s m, g (State.emit s m) = g s)
include hq hh hp he

/-- What no lost packet, no record of the host side and no message that leaves touches, an event to a session leaves. -/
theorem sendEvent_leaves (s : State) (n num c ns st j : Nat) (d : List Byte) : g (s.sendEvent n num c ns st j d) = g s := by
  have hroom : g (s.eventRoom n) = g s := by
    unfold State.eventRoom
    dsimp only
    split_ifs
    · rw [hq, hh]
    · rfl
    · rw [hq, hh]
    · rfl
  unfold State.sendEvent State.queueEvent
  dsimp only
  split
  · rw [hp, hh, hroom]
  · rw [he, hh, hroom]

theorem jobEnd_leaves (hj : ∀ (s : State) l, g { s with jobs := l } = g s) (s : State) (i : Nat) (st : JobSt) (fin : Nat) (d : List Byte) :
    g (s.jobEnd i st fin d) = g s := by
  have hm : ∀ f, g (s.jobMod i f) = g s := fun f => hj s _
  unfold State.jobEnd
  dsimp only
  split
  · rfl
  · simp only [apply_ite g, sendEvent_leaves g hq hh hp he, hm, ite_self]

end

/-! ## What an update leaves of the estimator -/

/-- The registers an update may change: those of jobs and EST_LRN_LAST. -/
def estReg (y : Nat) : Bool := jobReg y || y == 0x60038

/-- Time, the marks of the quarters and the records of the groups. -/
def estCore (s : State) : Nat × List Nat × List Nat × List Cell := (s.now, s.est.done, s.est.lastUpd, s.est.cells)

section
variable (s : State)

@[simp] theorem raise_estCore (n : Nat) (d : List Byte) : estCore (s.raise n d) = estCore s := by
  unfold estCore
  rw [raise_est, raise_now]

theorem restGrant_estCore (n : Nat) : estCore (s.restGrant n) = estCore s := by
  unfold State.restGrant
  split <;> rfl

theorem lrnOver_estCore : estCore s.lrnOver = estCore s := by
  unfold State.lrnOver State.applyLater
  dsimp only
  rw [foldl_leaves estCore]
  · rfl
  · intro b x
    split
    · rfl
    · exact restGrant_estCore ..

theorem lrnFail_estCore (code : Nat) : estCore (s.lrnFail code) = estCore s := by
  unfold State.lrnFail
  split
  · rfl
  · rw [jobEnd_leaves estCore (fun s n => by unfold estCore State.qLost; rw [count_est, count_now]) (fun _ _ => rfl) (fun _ _ => rfl)
      (fun _ _ => rfl) (fun _ _ => rfl), raise_estCore]
    exact lrnOver_estCore s

end

/-- Whether a group is initialised, and its charge. -/
def charge (c : Cell) : Bool × Int := (c.init, c.qrem)

theorem qrem_of_charge {c : Cell} {b : Bool} {x : Int} (h : charge c = (b, x)) : c.qrem = x := congrArg Prod.snd h

theorem charge_parts {c d : Cell} (h : charge c = charge d) : c.init = d.init ∧ c.qrem = d.qrem :=
  ⟨congrArg Prod.fst h, congrArg Prod.snd h⟩

/-- `b` is `a` as an update has left it so far: time, the marks of the quarters and the registers outside `estReg` stand, and so does the
charge of every group whose record is not one of `X`. -/
structure Updated (X : List Nat) (a b : State) : Prop extends Stands estReg a b where
  now : b.now = a.now
  done : b.est.done = a.est.done
  lastUpd : b.est.lastUpd = a.est.lastUpd
  charge : ∀ g, g - 1 ∉ X → charge (b.cell g) = charge (a.cell g)

namespace Updated

variable {X : List Nat} {a b c : State}

theorem refl (a : State) : Updated X a a := ⟨.refl _ a, rfl, rfl, rfl, fun _ _ => rfl⟩

theorem trans (h : Updated X a b) (k : Updated X b c) : Updated X a c :=
  ⟨h.toStands.trans k.toStands, k.now.trans h.now, k.done.trans h.done, k.lastUpd.trans h.lastUpd,
   fun g hg => (k.charge g hg).trans (h.charge g hg)⟩

theorem mono {Y : List Nat} (h : Updated X a b) (hX : X ⊆ Y) : Updated Y a b := { h with charge := fun g hg => h.charge g fun hx => hg (hX hx) }

/-- A change elsewhere in the state, and in the registers of `estReg`. -/
theorem of_core (hs : Stands estReg a b) (he : estCore b = estCore a) : Updated X a b := by
  obtain ⟨hn, hd, hl, hc⟩ : b.now = a.now ∧ b.est.done = a.est.done ∧ b.est.lastUpd = a.est.lastUpd ∧ b.est.cells = a.est.cells := by
    simpa only [estCore, Prod.mk.injEq] using he
  exact ⟨hs, hn, hd, hl, fun g _ => by unfold State.cell; rw [hc]⟩

theorem set (h : Updated X a b) (f : Fld) (x : Nat) (hf : estReg f.addr = true) : Updated X a (b.set f x) :=
  h.trans (of_core ((Stands.refl _ b).set f x hf) rfl)

theorem setB (h : Updated X a b) (f : Fld) (x : Bool) (hf : estReg f.addr = true) : Updated X a (b.setB f x) := h.set f _ hf

theorem raise (h : Updated X a b) (n : Nat) (d : List Byte) : Updated X a (b.raise n d) :=
  h.trans (of_core ((Stands.refl _ b).raise n d rfl) (raise_estCore b n d))

theorem ite {p : Prop} [Decidable p] {x y : State} (hx : Updated X a x) (hy : Updated X a y) : Updated X a (if p then x else y) := by
  split
  · exact hx
  · exact hy

theorem foldl {α : Type} {f : State → α → State} (hf : ∀ s x, Updated X a s → Updated X a (f s x)) (l : List α) :
    ∀ s, Updated X a s → Updated X a (l.foldl f s) := by
  induction l with
  | nil => exact fun _ h => h
  | cons x t ih => exact fun s h => ih _ (hf s x h)

/-- A change of every record that keeps its charge, and of parts of the estimator and of learning that no charge and no mark rests on. -/
theorem cells (h : Updated X a b) {e : EstSt} {f : Cell → Cell} (l : LrnSt) (hd : e.done = b.est.done) (hl : e.lastUpd = b.est.lastUpd)
    (hc : e.cells = b.est.cells.map f) (hf : ∀ x, Laws.charge (f x) = Laws.charge x) : Updated X a { b with est := e, lrn := l } := by
  refine h.trans ⟨(Stands.refl _ _).upd rfl, rfl, hd, hl, fun g _ => ?_⟩
  unfold State.cell
  rw [hc]
  exact nth_map_keep Laws.charge _ _ _ _ hf

section
variable (h : Updated X a b)
include h

theorem lrnFail (code : Nat) : Updated X a (b.lrnFail code) :=
  h.trans (of_core ((Stands.refl _ b).lrnFail (fun y hy => by rw [estReg, hy]; rfl) code) (lrnFail_estCore b code))

theorem learnDue : Updated X a b.learnDue := by
  unfold State.learnDue
  have hs := h.setB F.EST_LRN_STAT_DUE true rfl
  have hd : Updated X a { b.setB F.EST_LRN_STAT_DUE true with lrn := { (b.setB F.EST_LRN_STAT_DUE true).lrn with dueRaised := true } } :=
    hs.trans (of_core ((Stands.refl _ _).upd rfl) rfl)
  exact ite hs (hd.raise _ _)

theorem candidate (g : Nat) (x : Bool × Int × Nat) : Updated X a (b.candidate g x) := by
  have hs := (h.setB F.EST_FLAGS_CANDIDATE_SEEN true rfl).raise 33 (leBytes 2 g ++ [0, 0] ++ leBytesI 4 (clipS 32 x.2.1))
  unfold State.candidate
  exact ite hs.learnDue hs

theorem learnResult (g : Nat) (x : Nat × Nat × Nat) : Updated X a (b.learnResult g x) := by
  unfold State.learnResult
  exact ite ((h.setB F.EST_LRN_STAT_RESULT_SEEN true rfl).raise _ _)
    (((h.setB F.EST_LRN_STAT_REJECT_SEEN true rfl).set F.EST_LRN_STAT_LASTDQ x.1 rfl).raise _ _)

theorem lrnCode (code : Nat) (holds : Bool) : Updated X a (b.lrnCode code holds) := by
  have hs : Updated X a { b with lrn := { b.lrn with codeAt := assocPut code b.opsec b.lrn.codeAt } } :=
    h.trans (of_core (Stands.refl _ _).upd rfl)
  unfold State.lrnCode
  exact ite (ite hs (hs.lrnFail code)) h

theorem lrnScan (p : Prof) (dq : Int) (ms : Nat) (first : Bool) : Updated X a (b.lrnScan p dq ms first) := by
  unfold State.lrnScan
  exact ((((h.lrnCode _ _).lrnCode _ _).lrnCode _ _).lrnCode _ _).lrnCode _ _

theorem lrnStarted : Updated X a
    (if b.lrn.started then b else { b.set F.EST_LRN_LAST_LEARNLAST b.opsec with lrn := { b.lrn with started := true } }) :=
  ite h ((h.set F.EST_LRN_LAST_LEARNLAST _ rfl).trans (of_core ((Stands.refl _ _).upd rfl) rfl))

theorem estString (p : Prof) (dq : Int) (ms : Nat) : Updated X a (b.estString p dq ms) := by
  unfold State.estString
  extract_lets dt ik first below run rest qr e s1 s2
  have h1 : Updated X a s1 := h.cells b.lrn rfl rfl rfl fun _ => rfl
  exact (lrnStarted h1).lrnScan p dq ms first

theorem learnedAll : Updated X a b.learnedAll := by
  unfold State.learnedAll
  extract_lets gs e l s1
  have h1 : Updated X a s1 := h.cells (e := s1.est) s1.lrn rfl rfl rfl (by intro; rfl)
  exact ite ((h1.set F.EST_LRN_LAST_LEARNLAST s1.opsec rfl).setB F.EST_LRN_STAT_DUE false rfl) h

theorem futile : Updated X a b.futile := by
  unfold State.futile
  exact ite (h.setB F.EST_FLAGS_REST_FUTILE false rfl) h

theorem estFlags : Updated X a b.estFlags := by
  unfold State.estFlags State.setRaise
  extract_lets cs bnd past s1
  have h1 : Updated X a s1 := (h.setB F.EST_FLAGS_CONFLICT _ rfl).setB F.EST_FLAGS_TCLAMP _ rfl
  exact ite (ite h1 ((h1.setB F.EST_FLAGS_REST_WANTED true rfl).raise _ _)) (h1.setB F.EST_FLAGS_REST_WANTED false rfl)

theorem checkpointOf (q : Nat) : Updated X a (b.checkpointOf q) := by
  unfold State.checkpointOf
  exact ite (h.trans (of_core (Stands.refl _ _).upd rfl)) h

end

end Updated

/-! ## The groups of a quarter -/

/-- No register of blocks 3 to 5 is one an update may change. -/
theorem estReg_low {y : Nat} (h0 : 0x30000 ≤ y) (h1 : y < 0x60000) : estReg y = false := by
  unfold estReg jobReg replyReg
  simp
  omega

theorem mem_positions {s : State} {p : Nat} (h : p ∈ s.positions) : 1 ≤ p ∧ p ≤ 63 := by
  obtain ⟨x, hx, rfl⟩ := List.mem_map.mp h
  have hl : s.len < 2 ^ 6 := get_lt s F.RING_CTRL_LEN
  have hx := List.mem_range.mp hx
  omega

theorem mem_groups {s : State} {g : Nat} (hc : ∀ x, s.cells x ≤ 16) (h : g ∈ s.groups) : 1 ≤ g ∧ groupPos g ≤ 63 := by
  obtain ⟨p, hp, hg⟩ := List.mem_flatMap.mp h
  obtain ⟨c, hr, rfl⟩ := List.mem_map.mp hg
  have hp := mem_positions hp
  have hr := List.mem_range.mp hr
  have hc := hc p
  unfold groupPos
  omega

theorem positions_ascend (s : State) : s.positions.Pairwise (· < ·) :=
  List.pairwise_map.mpr (List.pairwise_lt_range.imp fun h => Nat.succ_lt_succ h)

/-- The configured groups ascend, so no two share a record. -/
theorem groups_ascend {s : State} (hc : ∀ x, s.cells x ≤ 16) : s.groups.Pairwise (· < ·) := by
  refine List.pairwise_flatMap.mpr ⟨fun p _ => List.pairwise_map.mpr (List.pairwise_lt_range.imp fun h => ?_), ?_⟩
  · omega
  · refine (positions_ascend s).imp_of_mem fun {p r} hp _ hlt x hx y hy => ?_
    obtain ⟨c, hr, rfl⟩ := List.mem_map.mp hx
    obtain ⟨d, _, rfl⟩ := List.mem_map.mp hy
    have hr := List.mem_range.mp hr
    have hc := hc p
    have hp := mem_positions hp
    omega

theorem groups_apart {s : State} (hc : ∀ x, s.cells x ≤ 16) (f : Nat → Bool) : (s.groups.filter f).Pairwise (fun x y => x - 1 ≠ y - 1) := by
  refine ((groups_ascend hc).filter f).imp_of_mem fun {x y} hx hy hlt => ?_
  have hx := mem_groups hc (List.mem_filter.mp hx).1
  omega

namespace Updated

variable {X : List Nat} {a b : State} (h : Updated X a b)
include h

theorem groups : b.groups = a.groups := by
  have hl : b.len = a.len := h.toStands.get rfl
  have hp : b.positions = a.positions := by unfold State.positions; rw [hl]
  unfold State.groups
  rw [hp]
  refine List.flatMap_congr fun p hp => ?_
  have hc : b.cells p = a.cells p := by
    have hp := mem_positions hp
    refine h.toStands.get (estReg_low ?_ ?_)
    · show _ ≤ 0x40100 + 4 * (p - 1); omega
    · show 0x40100 + 4 * (p - 1) < _; omega
  rw [hc]

theorem pairOf {p : Nat} (c : Nat) (hp : p ≤ 63) : b.pairOf p c = a.pairOf p c := by
  have hs : b.suspects p = a.suspects p := by
    unfold State.suspects
    rw [h.word _ (estReg_low (by omega) (by omega))]
  unfold State.pairOf
  rw [hs]

theorem stale {p : Nat} (hp : p ≤ 63) : b.stale p = a.stale p := by
  unfold State.stale
  rw [h.word _ (estReg_low (by omega) (by omega))]

end Updated

/-! ## One group -/

theorem drift_charge (c : Cell) (k : EstCfg) : charge (c.drift k) = charge c := by
  unfold Cell.drift
  split <;> rfl

/-- Without a fresh voltage an update moves the charge by dQ alone. -/
theorem update_charge_of_stale {c : Cell} (k : EstCfg) {i : EstIn} (hi : c.init = true) (hs : i.stale = true) :
    charge (c.update k i).cell = (true, clipS 64 (c.qrem - i.dq * 65536)) := by
  have hni : ¬(!c.init) = true := by rw [hi]; decide
  have hst : (i.stale || i.lost) = true := by rw [hs, Bool.true_or]
  unfold Cell.update
  dsimp only
  rw [if_neg hni, if_pos hst, drift_charge, ← hi]
  rfl

theorem cellMod_updated (s : State) (g : Nat) (f : Cell → Cell) : Updated [g - 1] s (s.cellMod g f) :=
  ⟨(Stands.refl _ _).upd, rfl, rfl, rfl, fun x hx =>
    congrArg charge (nth_modNth_other _ _ _ _ _ fun he => hx (List.mem_singleton.mpr he.symm))⟩

/-- What follows from a group's update leaves its record as the update made it. -/
theorem estOut_updated (s : State) (g : Nat) (old : Cell) (o : EstOut) : Updated [] (s.cellMod g fun _ => o.cell) (s.estOut g old o) := by
  unfold State.estOut
  extract_lets s1 s2 s3 s4 s5
  have h2 : Updated [] s1 s2 := .ite (Updated.setB (.refl _) F.EST_FLAGS_GATED_SEEN true rfl) (.refl _)
  have h3 : Updated [] s1 s3 := .ite (h2.setB F.EST_FLAGS_CONFLICT_SEEN true rfl) h2
  have h4 : Updated [] s1 s4 := .foldl (fun _ x hs => hs.candidate g x) _ _ h3
  have h5 : Updated [] s1 s5 := .foldl (fun _ x hs => hs.learnResult g x) _ _ h4
  exact .ite (h5.setB F.EST_FLAGS_REST_FUTILE false rfl) h5

/-- The group is not one of a suspect pair. -/
def single (s : State) (g : Nat) : Prop := groupPos g ≤ 63 ∧ s.pairOf (groupPos g) (groupCh g) = none

theorem Updated.single {X : List Nat} {a b : State} {g : Nat} (h : Updated X a b) (hg : Laws.single a g) : Laws.single b g :=
  ⟨hg.1, (h.pairOf _ hg.1).trans hg.2⟩

section
variable {s : State} (p : Prof) (dq : Int) (ms : Nat) {g : Nat}

theorem estGroup_single (hg : single s g) :
    s.estGroup p dq ms g = s.estOut g (s.cell g) ((s.cell g).update (s.estCfg p) (s.estIn g dq ms)) := by
  unfold State.estGroup
  rw [hg.2]

theorem estGroup_updated (hg : single s g) : Updated [g - 1] s (s.estGroup p dq ms g) := by
  rw [estGroup_single p dq ms hg]
  exact (cellMod_updated ..).trans ((estOut_updated ..).mono (List.nil_subset _))

/-- A group that is initialised has a record. -/
theorem cell_held (hi : (s.cell g).init = true) : g - 1 < s.est.cells.length := by
  by_contra h
  unfold State.cell nth at hi
  rw [List.getElem?_eq_none (Nat.le_of_not_lt h)] at hi
  exact absurd hi (by decide)

theorem estGroup_charge (hg : single s g) (hi : (s.cell g).init = true) (hs : s.stale (groupPos g) = true) :
    charge ((s.estGroup p dq ms g).cell g) = (true, clipS 64 ((s.cell g).qrem - dq * 65536)) := by
  have hst : (s.estIn g dq ms).stale = true := by
    show (!((s.tile? (groupPos g)).any (·.fresh) && !s.stale (groupPos g))) = true
    rw [hs, Bool.not_true, Bool.and_false, Bool.not_false]
  rw [estGroup_single p dq ms hg, (estOut_updated ..).charge g (List.not_mem_nil)]
  unfold State.cell State.cellMod
  rw [nth_modNth_same _ _ _ _ (cell_held hi)]
  exact update_charge_of_stale _ hi hst

end

/-! ## Every group of the quarter -/

section
variable (p : Prof) (dq : Int) (ms : Nat)

theorem estGroups_updated (gs : List Nat) : ∀ s : State, (∀ g ∈ gs, single s g) →
    Updated (gs.map (· - 1)) s (gs.foldl (fun a g => a.estGroup p dq ms g) s) := by
  induction gs with
  | nil => exact fun s _ => .refl s
  | cons x t ih =>
    intro s hg
    have hx := estGroup_updated p dq ms (hg x List.mem_cons_self)
    have ht := ih _ fun g hm => hx.single (hg g (List.mem_cons_of_mem x hm))
    exact (hx.mono (by simp)).trans (ht.mono (by simp))

theorem estGroups_charge (gs : List Nat) : ∀ s : State, (∀ g ∈ gs, single s g) → gs.Pairwise (fun x y => x - 1 ≠ y - 1) →
    ∀ g ∈ gs, (s.cell g).init = true → s.stale (groupPos g) = true →
      charge ((gs.foldl (fun a g => a.estGroup p dq ms g) s).cell g) = (true, clipS 64 ((s.cell g).qrem - dq * 65536)) := by
  induction gs with
  | nil => exact fun _ _ _ g hg => absurd hg List.not_mem_nil
  | cons x t ih =>
    intro s hs hd g hg hi hst
    obtain ⟨hx, hd⟩ := List.pairwise_cons.mp hd
    have hu := estGroup_updated p dq ms (hs x List.mem_cons_self)
    have ht : ∀ y ∈ t, single (s.estGroup p dq ms x) y := fun y hy => hu.single (hs y (List.mem_cons_of_mem x hy))
    rcases List.mem_cons.mp hg with rfl | hm
    case inl =>
      refine ((estGroups_updated p dq ms t _ ht).charge g fun hm => ?_).trans (estGroup_charge p dq ms (hs g List.mem_cons_self) hi hst)
      obtain ⟨y, hy, he⟩ := List.mem_map.mp hm
      exact hx y hy he.symm
    case inr =>
      obtain ⟨hci, hcq⟩ := charge_parts (hu.charge g fun he => hx g hm (List.mem_singleton.mp he).symm)
      rw [← hcq]
      exact ih _ ht hd g hm (hci.trans hi) ((hu.stale (hs g hg).1).trans hst)

end

/-! ## The update of a quarter

It does the string's part once per scan, then the groups of the quarter, marks the quarter as done, and ends with the flags of all groups. -/

/-- The string's part, done once per scan. -/
def stringPart (s : State) (p : Prof) : State :=
  if s.est.stringS = some s.ring.lastS then s else s.estString p (s.cvi.qS - s.cvi.qPrev) s.periodMs

/-- The configured groups of a quarter. -/
def quarterGroups (s : State) (q : Nat) : List Nat := s.groups.filter (fun g => groupQ g == q)

/-- The quarter is marked as done. -/
def marked (s : State) (q : Nat) : State :=
  { s with est := { s.est with done := q :: s.est.done, lastUpd := modNth s.est.lastUpd q (fun _ => s.now) } }

/-- The flags of all groups, and the quarter's checkpoint. -/
def closed (s : State) (q : Nat) : State :=
  let x := s.learnedAll.futile.estFlags
  if x.gridNo x.ring.lastS msec % 100 = 0 then x.checkpointOf q else x

theorem marked_cell (s : State) (q g : Nat) : (marked s q).cell g = s.cell g := rfl

theorem closed_updated (s : State) (q : Nat) : Updated [] s (closed s q) := by
  have h := (Updated.refl (X := []) s).learnedAll.futile.estFlags
  exact .ite (h.checkpointOf q) h

section
variable {a : State} {p : Prof} {q : Nat}

theorem stringPart_updated (a : State) (p : Prof) : Updated [] a (stringPart a p) := .ite (.refl a) ((Updated.refl a).estString p _ _)

theorem estUpdate_eq (hp : a.prof? = some p) (hn : a.flag F.CVI_SH_STAT_NONE = false) :
    a.estUpdate q = closed (marked ((quarterGroups (stringPart a p) q).foldl
      (fun x g => x.estGroup p (a.cvi.qS - a.cvi.qPrev) a.periodMs g) (stringPart a p)) q) q := by
  unfold State.estUpdate
  rw [hp]
  dsimp only
  rw [hn]
  rfl

/-- The groups of the quarter are single, where no wire is suspect. -/
theorem quarterGroups_single (hc : ∀ x, a.cells x ≤ 16) (hw : ∀ g, a.wireSuspect g = false) : ∀ g ∈ quarterGroups a q, single a g :=
  fun g hm => ⟨(mem_groups hc (List.mem_filter.mp hm).1).2, Option.not_isSome_iff_eq_none.mp (Bool.eq_false_iff.mp (hw g))⟩

theorem Updated.quarterGroups {X : List Nat} {b : State} (h : Updated X a b) : Laws.quarterGroups b q = Laws.quarterGroups a q := by
  unfold Laws.quarterGroups
  rw [h.groups]

/-- An update marks its quarter. -/
theorem estUpdate_marks (hp : a.prof? = some p) (hn : a.flag F.CVI_SH_STAT_NONE = false) (hl : q < a.est.lastUpd.length)
    (hc : ∀ x, a.cells x ≤ 16) (hw : ∀ g, a.wireSuspect g = false) :
    q ∈ (a.estUpdate q).est.done ∧ nth 0 (a.estUpdate q).est.lastUpd q = a.now := by
  have h2 := stringPart_updated a p
  have h3 := estGroups_updated p (a.cvi.qS - a.cvi.qPrev) a.periodMs (quarterGroups (stringPart a p) q) (stringPart a p)
    (h2.quarterGroups ▸ fun g hg => h2.single (quarterGroups_single hc hw g hg))
  have h5 := closed_updated (marked ((quarterGroups (stringPart a p) q).foldl
    (fun x g => x.estGroup p (a.cvi.qS - a.cvi.qPrev) a.periodMs g) (stringPart a p)) q) q
  rw [estUpdate_eq hp hn, h5.done, h5.lastUpd]
  refine ⟨List.mem_cons_self, (nth_modNth_same _ _ _ _ ?_).trans (h3.now.trans h2.now)⟩
  rw [h3.lastUpd, h2.lastUpd]
  exact hl

/-- An update moves the charge of a group without a fresh voltage by dQ alone. -/
theorem estUpdate_charge (hp : a.prof? = some p) (hn : a.flag F.CVI_SH_STAT_NONE = false) (hc : ∀ x, a.cells x ≤ 16)
    (hw : ∀ g, a.wireSuspect g = false) {g : Nat} (hm : g ∈ a.groups) (hq : groupQ g = q) (hi : (a.cell g).init = true)
    (hst : a.stale (groupPos g) = true) :
    ((a.estUpdate q).cell g).qrem = clipS 64 ((a.cell g).qrem - (a.cvi.qS - a.cvi.qPrev) * 65536) := by
  have h2 := stringPart_updated a p
  have hgs : quarterGroups (stringPart a p) q = quarterGroups a q := h2.quarterGroups
  have hin : g ∈ quarterGroups a q := List.mem_filter.mpr ⟨hm, by rw [hq]; exact beq_self_eq_true q⟩
  obtain ⟨hci, hcq⟩ := charge_parts (h2.charge g List.not_mem_nil)
  have hch := estGroups_charge p (a.cvi.qS - a.cvi.qPrev) a.periodMs (quarterGroups a q) (stringPart a p)
    (fun x hx => h2.single (quarterGroups_single hc hw x hx)) (groups_apart hc _) g hin (hci.trans hi) ((h2.stale (mem_groups hc hm).2).trans hst)
  have h5 := (closed_updated (marked ((quarterGroups a q).foldl
    (fun x g => x.estGroup p (a.cvi.qS - a.cvi.qPrev) a.periodMs g) (stringPart a p)) q) q).charge g List.not_mem_nil
  rw [marked_cell, hch, hcq] at h5
  rw [estUpdate_eq hp hn, hgs]
  exact qrem_of_charge h5

end

/-! ## String values (R124, R125) -/

theorem foldl_min_le (l : List Nat) : ∀ a, l.foldl min a ≤ a ∧ ∀ x ∈ l, l.foldl min a ≤ x := by
  induction l with
  | nil => exact fun a => ⟨Nat.le_refl a, fun x hx => absurd hx List.not_mem_nil⟩
  | cons y t ih =>
    intro a
    obtain ⟨ha, ht⟩ := ih (min a y)
    refine ⟨ha.trans (Nat.min_le_left ..), fun x hx => ?_⟩
    rcases List.mem_cons.mp hx with rfl | hx
    · exact ha.trans (Nat.min_le_right ..)
    · exact ht x hx

theorem le_foldl_max (l : List Nat) : ∀ a, a ≤ l.foldl max a ∧ ∀ x ∈ l, x ≤ l.foldl max a := by
  induction l with
  | nil => exact fun a => ⟨Nat.le_refl a, fun x hx => absurd hx List.not_mem_nil⟩
  | cons y t ih =>
    intro a
    obtain ⟨ha, ht⟩ := ih (max a y)
    refine ⟨(Nat.le_max_left ..).trans ha, fun x hx => ?_⟩
    rcases List.mem_cons.mp hx with rfl | hx
    · exact (Nat.le_max_right ..).trans ha
    · exact ht x hx

theorem foldl_max_le {l : List Nat} {b : Nat} (hl : ∀ x ∈ l, x ≤ b) : ∀ a, a ≤ b → l.foldl max a ≤ b := by
  induction l with
  | nil => exact fun _ h => h
  | cons y t ih => exact fun a ha => ih (fun x hx => hl x (List.mem_cons_of_mem y hx)) _ (Nat.max_le.mpr ⟨ha, hl y List.mem_cons_self⟩)

theorem pct_le (x : F32) : pct x ≤ 10000 := by
  unfold pct clip
  split_ifs <;> omega

theorem taperEntry_get (s : State) {f : Fld} (hf : entReg f.addr = false) : s.taperEntry.get f = s.get f :=
  (Stands.entry (T := entReg) (fun _ h => h) (.refl _ s) (by decide) _ _).get hf

/-- The least and the greatest usable SOC of the initialised groups, in 0.01 %. -/
def usableAll (s : State) : List Nat := ((s.groups.filter (fun g => (s.cell g).init)).map s.cell).map (fun c => pct (s.usable c))

theorem usableAll_le (s : State) : ∀ x ∈ usableAll s, x ≤ 10000 := fun x hx => by
  obtain ⟨c, _, rfl⟩ := List.mem_map.mp hx
  exact pct_le _

/-- With a profile and an initialised group the string values hold the span of the usable SOCs. -/
theorem stringValues_span {s : State} (hp : s.prof? ≠ none) (hn : usableAll s ≠ []) :
    s.stringValues.get F.EST_STR_USOC_LO = (usableAll s).foldl min 10000 ∧ s.stringValues.get F.EST_STR_USOC_HI = (usableAll s).foldl max 0 := by
  obtain ⟨p, hp⟩ := Option.ne_none_iff_exists'.mp hp
  have hne : ¬((s.groups.filter (fun g => (s.cell g).init)).map s.cell).isEmpty = true := fun h =>
    hn (by unfold usableAll; rw [List.isEmpty_iff.mp h]; rfl)
  have hlo : (usableAll s).foldl min 10000 < 2 ^ 16 := ((foldl_min_le _ 10000).1).trans_lt (by decide)
  have hhi : (usableAll s).foldl max 0 < 2 ^ 16 := (foldl_max_le (usableAll_le s) 0 (by decide)).trans_lt (by decide)
  obtain ⟨x, he, hxl, hxh⟩ : ∃ x : State, s.stringValues = x.taperEntry ∧
      x.get F.EST_STR_USOC_LO = (usableAll s).foldl min 10000 % 2 ^ 16 ∧ x.get F.EST_STR_USOC_HI = (usableAll s).foldl max 0 % 2 ^ 16 := by
    refine ⟨_, by unfold State.stringValues; rw [hp]; exact if_neg hne, ?_, ?_⟩
    · simp (disch := decide) only [get_set_clear]
      exact get_set_same _ _ _ (by unfold Fld.fits; decide)
    · simp (disch := decide) only [get_set_clear]
      exact get_set_same _ _ _ (by unfold Fld.fits; decide)
  rw [he, taperEntry_get _ rfl, taperEntry_get _ rfl, hxl, hxh, Nat.mod_eq_of_lt hlo, Nat.mod_eq_of_lt hhi]
  exact ⟨rfl, rfl⟩

/-- The usable SOC of every initialised group lies within the string's span. -/
theorem stringValues_spans {s : State} (hp : s.prof? ≠ none) {g : Nat} (hg : g ∈ s.groups) (hi : (s.cell g).init = true) :
    s.stringValues.get F.EST_STR_USOC_LO ≤ pct (s.usable (s.cell g)) ∧ pct (s.usable (s.cell g)) ≤ s.stringValues.get F.EST_STR_USOC_HI := by
  have hu : pct (s.usable (s.cell g)) ∈ usableAll s :=
    List.mem_map_of_mem (f := fun c => pct (s.usable c)) (List.mem_map_of_mem (List.mem_filter.mpr ⟨hg, hi⟩))
  obtain ⟨hlo, hhi⟩ := stringValues_span hp (List.ne_nil_of_mem hu)
  rw [hlo, hhi]
  exact ⟨(foldl_min_le _ _).2 _ hu, (le_foldl_max _ _).2 _ hu⟩

/-- The reserve taper writes entry 3, where the supervisor executes. -/
theorem taperEntry_entries {s : State} (hs : s.s1Down = false) :
    s.taperEntry.getI (F.PRT_ENT_DIS.ix8 3) = (if s.get F.EST_STR_USOC_LO = 0 then clipS 32 s.taper else noLimit) ∧
    s.taperEntry.getI (F.PRT_ENT_CHG.ix8 3) = (if s.get F.EST_STR_USOC_HI = 10000 then clipS 32 s.taper else noLimit) := by
  have hd : s.lan.supDown = false := by
    unfold State.s1Down State.coresHeld at hs
    simp only [Bool.or_eq_false_iff] at hs
    exact hs.1.1
  have hn : clipS 32 noLimit = noLimit := by decide
  have he : ∀ d c, s.entry 3 d c = (s.setI (F.PRT_ENT_DIS.ix8 3) d).setI (F.PRT_ENT_CHG.ix8 3) c := fun d c => by
    unfold State.entry
    rw [hd]
    rfl
  unfold State.taperEntry
  rw [he]
  constructor
  · refine (getI_set_clear _ _ _ _ (by decide)).trans ((getI_setI _ _ _ (by unfold Fld.fits; decide) (by decide)).trans ?_)
    rw [apply_ite (clipS _)]
    exact congrArg _ hn
  · refine (getI_setI _ _ _ (by unfold Fld.fits; decide) (by decide)).trans ?_
    rw [apply_ite (clipS _)]
    exact congrArg _ hn

/-! ## The learning interval (R144) -/

theorem learnDue_due (s : State) : s.learnDue.flag F.EST_LRN_STAT_DUE = true ∧ s.learnDue.lrn.dueRaised = true ∧
    (s.lrn.dueRaised = false → 35 ∈ s.learnDue.evr.pend) := by
  have hf : (s.setB F.EST_LRN_STAT_DUE true).flag F.EST_LRN_STAT_DUE = true := flag_setB_same _ _ _ (by unfold Fld.fits; decide) rfl
  have hl : (s.setB F.EST_LRN_STAT_DUE true).lrn = s.lrn := rfl
  unfold State.learnDue
  dsimp only
  rw [hl]
  split
  next hd => exact ⟨hf, hl ▸ hd, fun h => absurd (hd.symm.trans h) (by decide)⟩
  next => exact ⟨(((Stands.refl (fun y => y == 0x20004) _).raise 35 [] rfl).flag rfl).trans hf, by rw [raise_lrn], fun _ => raise_mem ..⟩

end Sys2Proof.Machine.Laws

namespace Sys2Proof.Proofs

open Sys2Proof.Machine Sys2Proof.Machine.Laws Sys2Proof.Safety

/-- Settles O13: an update keeps time, marks and charge (`Updated`) but where it says otherwise (`estUpdate_marks`, `estUpdate_charge`); the
string values hold the least and the greatest usable SOC (`stringValues_span`). -/
theorem estimatorUpdatesMoveCharge : Obligations.EstimatorUpdatesMoveCharge := by
  unfold Obligations.EstimatorUpdatesMoveCharge
  rintro s _ t q rfl
  refine ⟨fun p hon hq hd hch hqi hlane hout hst h0 hp hn hl hc hw => ?update, fun hin hs => ⟨fun hp => ?span, fun hp => ?taper⟩,
    fun hin hl hd => ?due⟩
  case update =>
    refine answers_of_guard rfl ?_ rfl ?_
    · simp [hon, hq, hd, hch, hqi, hlane, hout, hst, h0]
    · obtain ⟨hdone, hupd⟩ := estUpdate_marks hp hn hl hc hw
      rw [command_est]
      refine ⟨hdone, hupd, fun g hm hg hi hs => ?_⟩
      unfold State.cell
      rw [command_est]
      exact estUpdate_charge hp hn hc hw hm hg hi hs
  case span =>
    refine answers_of_guard rfl (by rw [hin, hs]; rfl) rfl fun g hg hi => ?_
    rw [command_get, command_get]
    exact stringValues_spans hp hg hi
  case taper =>
    refine answers_of_guard rfl (by rw [hin, hs]; rfl) rfl ?_
    rw [command_getI, command_getI]
    have he : (s.upto t).stringValues = (s.upto t).taperEntry := by unfold State.stringValues; rw [hp]
    show ((s.upto t).stringValues.getI _ = _) ∧ ((s.upto t).stringValues.getI _ = _)
    rw [he]
    exact taperEntry_entries hs
  case due =>
    refine answers_of_guard rfl ?_ rfl ?_
    · rw [hin, hl, Bool.true_and]
      exact decide_eq_true hd
    · rw [command_flag, command_lrn, command_evr_pend]
      exact learnDue_due _

end Sys2Proof.Proofs
end

section
/-! Rest windows, snapshots, restores and resets of groups (O14). -/

namespace Sys2Proof.Machine.Laws

open Sys2Proof.Safety

/-! ## What a reply leaves of the estimator and of the requests that wait -/

/-- A served request whose body answers at once keeps what its body makes of the estimator. -/
theorem answers_est {c : Instr} {s s1 : State} {t op st j : Nat} {r : Req} {fmt : Fmt} {body : ReqId → State → State × HRes}
    {p : List Byte} {P : State → Prop} (hc : exec c s = .next (s.hostCommand t op r fmt body)) (h : serves (s.upto t) op r fmt = true)
    (hb : body (reqId r op false) (taken (s.upto t) r) = (s1, .reply st j p)) (hs : HasPlace r.session r.seq s1)
    (hP : ∀ s', Replied s' r op st j p → s'.est = s1.est → (∀ y, replyReg y = false → s'.word y = s1.word y) → P s') : Answers c s P := by
  have ha := serves_auth h
  refine ⟨_, hc, ?_⟩
  rw [hostCommand_served _ _ _ _ _ _ h, hb]
  refine hP _ (command_replied (giveRes_replied s1 r op st j p ha (serves_target h) hs.1 hs.2)) ((command_est ..).trans (giveRes_est _ _ _ _ ha))
    fun y hy => ?_
  rw [command_word]
  exact giveRes_word _ _ _ _ ha (serves_session h) hy

section
variable (s : State) (id : ReqId) (st j : Nat) (p : List Byte)

theorem answer_est : (s.answer id st j p).est = s.est :=
  answer_leaves s State.est queueReply_est (fun _ via _ _ => by cases via <;> rfl) (fun _ _ => rfl) id st j p

theorem answer_waiting : (s.answer id st j p).host.waiting = s.host.waiting := by
  have hf : ∀ (f : State → Pkt → State), (∀ s x, (f s x).host.waiting = s.host.waiting) →
      ((s.replyPkts id st j p).foldl f s).host.waiting = s.host.waiting := fun f h => foldl_leaves (fun s => s.host.waiting) f h _ s
  have hq := hf (fun a x => a.queueReply id.session id.via id.src x) fun s x => congrArg Prod.fst (queueReply_asks (s := s) _ _ _ x)
  unfold State.answer
  dsimp only
  split
  · exact hf _ fun _ _ => rfl
  · split
    · split
      · exact hq
      · exact hq
    · refine hf _ fun s x => ?_
      cases id.via <;> rfl

end

/-! ## What keeps a part of the estimator and some of its flags -/

/-- The flags of EST_FLAGS that an update of groups writes. -/
def updFlags : List Fld :=
  [F.EST_FLAGS_REST_WANTED, F.EST_FLAGS_REST_FUTILE, F.EST_FLAGS_CONFLICT, F.EST_FLAGS_TCLAMP, F.EST_FLAGS_CONFLICT_SEEN,
   F.EST_FLAGS_GATED_SEEN, F.EST_FLAGS_CANDIDATE_SEEN]

/-- From `a` to `b` a part of the estimator and the flags `l` stand. -/
structure KeepsFlags {β : Type} (e : EstSt → β) (l : List Fld) (a b : State) : Prop where
  est : e b.est = e a.est
  get : ∀ f ∈ l, b.get f = a.get f

namespace KeepsFlags

section
variable {β : Type} {e : EstSt → β} {l : List Fld} {a b c : State}

theorem refl (a : State) : KeepsFlags e l a a := ⟨rfl, fun _ _ => rfl⟩

theorem trans (h : KeepsFlags e l a b) (k : KeepsFlags e l b c) : KeepsFlags e l a c :=
  ⟨k.est.trans h.est, fun f hf => (k.get f hf).trans (h.get f hf)⟩

theorem flag (h : KeepsFlags e l a b) {f : Fld} (hf : f ∈ l) : b.flag f = a.flag f := by unfold State.flag; rw [h.get f hf]

theorem upd (h : KeepsFlags e l a b) (he : e c.est = e b.est) (hr : c.regs = b.regs := by rfl) : KeepsFlags e l a c :=
  h.trans ⟨he, fun f _ => get_congr hr f⟩

theorem ite {p : Prop} [Decidable p] {x y : State} (hx : KeepsFlags e l a x) (hy : KeepsFlags e l a y) :
    KeepsFlags e l a (if p then x else y) := by
  split
  · exact hx
  · exact hy

theorem foldl {α : Type} {f : State → α → State} (hf : ∀ s x, KeepsFlags e l a s → KeepsFlags e l a (f s x)) (t : List α) :
    ∀ s, KeepsFlags e l a s → KeepsFlags e l a (t.foldl f s) := by
  induction t with
  | nil => exact fun _ h => h
  | cons x t ih => exact fun s h => ih _ (hf s x h)

end

section
variable {β : Type} {e : EstSt → β} {l : List Fld} {a b c : State} (hl : ∀ f ∈ l, f.addr = 0x60018 ∧ clearOf updFlags f = true)
  (h : KeepsFlags e l a b)
include hl h

/-- What leaves the estimator and EST_FLAGS. -/
theorem of_word (he : c.est = b.est) (hw : c.word 0x60018 = b.word 0x60018) : KeepsFlags e l a c :=
  h.trans ⟨congrArg e he, fun f hf => by unfold State.get; rw [(hl f hf).1, hw]⟩

theorem set_elsewhere (g : Fld) (x : Nat) (hg : g.addr ≠ 0x60018) : KeepsFlags e l a (b.set g x) :=
  h.of_word hl rfl (word_set_other _ _ _ _ hg)

theorem setB_flag (g : Fld) (x : Bool) (hg : g ∈ updFlags) : KeepsFlags e l a (b.setB g x) :=
  h.trans ⟨rfl, fun f hf => get_set_other _ _ _ _ (clearOf_fits (hl f hf).2) (clearOf_apart (hl f hf).2 hg)⟩

theorem raise (n : Nat) (d : List Byte) : KeepsFlags e l a (b.raise n d) :=
  h.of_word hl (raise_est ..) (raise_word_other _ _ _ (by decide))

theorem estFlags : KeepsFlags e l a b.estFlags := by
  unfold State.estFlags State.setRaise
  extract_lets cs bnd past s1
  have h1 : KeepsFlags e l a s1 := setB_flag hl (h.setB_flag hl F.EST_FLAGS_CONFLICT _ (by decide)) F.EST_FLAGS_TCLAMP _ (by decide)
  exact ite (ite h1 ((h1.setB_flag hl F.EST_FLAGS_REST_WANTED true (by decide)).raise hl _ _))
    (h1.setB_flag hl F.EST_FLAGS_REST_WANTED false (by decide))

theorem learnDue : KeepsFlags e l a b.learnDue := by
  unfold State.learnDue
  have hs := h.set_elsewhere hl F.EST_LRN_STAT_DUE 1 (by decide)
  have hd : KeepsFlags e l a { b.setB F.EST_LRN_STAT_DUE true with lrn := { (b.setB F.EST_LRN_STAT_DUE true).lrn with dueRaised := true } } :=
    hs.upd rfl
  exact ite hs (hd.raise hl _ _)

theorem candidate (g : Nat) (x : Bool × Int × Nat) : KeepsFlags e l a (b.candidate g x) := by
  unfold State.candidate
  have hs := (h.setB_flag hl F.EST_FLAGS_CANDIDATE_SEEN true (by decide)).raise hl 33 (leBytes 2 g ++ [0, 0] ++ leBytesI 4 (clipS 32 x.2.1))
  exact ite (hs.learnDue hl) hs

theorem learnResult (g : Nat) (x : Nat × Nat × Nat) : KeepsFlags e l a (b.learnResult g x) := by
  unfold State.learnResult
  exact ite ((h.set_elsewhere hl F.EST_LRN_STAT_RESULT_SEEN 1 (by decide)).raise hl _ _)
    (((h.set_elsewhere hl F.EST_LRN_STAT_REJECT_SEEN 1 (by decide)).set_elsewhere hl F.EST_LRN_STAT_LASTDQ x.1 (by decide)).raise hl _ _)

end

section
variable {β : Type} {e : EstSt → β} {l : List Fld} {a b : State} (hl : ∀ f ∈ l, f.addr = 0x60018 ∧ clearOf updFlags f = true)
  (he : ∀ (x : EstSt) c g n, e { x with cells := c, futGroup := g, futSoc := n } = e x) (h : KeepsFlags e l a b)
include hl he h

theorem estOut (g : Nat) (old : Cell) (o : EstOut) : KeepsFlags e l a (b.estOut g old o) := by
  unfold State.estOut
  extract_lets s1 s2 s3 s4 s5
  have h1 : KeepsFlags e l a s1 := h.upd (he ..)
  have h2 : KeepsFlags e l a s2 := ite (h1.setB_flag hl F.EST_FLAGS_GATED_SEEN true (by decide)) h1
  have h3 : KeepsFlags e l a s3 := ite (h2.setB_flag hl F.EST_FLAGS_CONFLICT_SEEN true (by decide)) h2
  have h4 : KeepsFlags e l a s4 := foldl (fun _ x hs => hs.candidate hl g x) _ _ h3
  have h5 : KeepsFlags e l a s5 := foldl (fun _ x hs => hs.learnResult hl g x) _ _ h4
  exact ite (h5.setB_flag hl F.EST_FLAGS_REST_FUTILE false (by decide)) h5

theorem windowAnchor (p : Prof) (g : Nat) : KeepsFlags e l a (b.windowAnchor p g) := by
  unfold State.windowAnchor
  exact ite h (h.estOut hl he ..)

end

end KeepsFlags

/-! ## Rest windows (R130) -/

theorem restGrant_grants (s : State) (n : Nat) : (s.restGrant n).flag F.EST_FLAGS_RESTING = (n != 0) ∧
    (s.restGrant n).est.restEnd = if n = 0 then s.est.restEnd.map (fun _ => s.now) else some (s.now + n * sec) := by
  have hf : ∀ b, (s.setB F.EST_FLAGS_RESTING b).flag F.EST_FLAGS_RESTING = b := fun b =>
    flag_setB_same _ _ _ (by unfold Fld.fits; decide) rfl
  unfold State.restGrant
  split
  next h =>
    subst h
    exact ⟨hf false, rfl⟩
  next h => exact ⟨(hf true).trans (bne_iff_ne.mpr h).symm, rfl⟩

/-- The end of a window closes it, whatever anchors follow. -/
theorem restWindowEnd_closes (s : State) : s.restWindowEnd.flag F.EST_FLAGS_RESTING = false ∧ s.restWindowEnd.est.restEnd = none := by
  have hl : ∀ f ∈ [F.EST_FLAGS_RESTING], f.addr = 0x60018 ∧ clearOf updFlags f = true := by decide
  have hk : KeepsFlags EstSt.restEnd [F.EST_FLAGS_RESTING]
      { s.setB F.EST_FLAGS_RESTING false with est := { s.est with restEnd := none, restClean := true } } s.restWindowEnd := by
    unfold State.restWindowEnd
    extract_lets x e s1 s2 y e2 s3
    have h2 : KeepsFlags EstSt.restEnd [F.EST_FLAGS_RESTING] s1 s2 := by
      show KeepsFlags _ _ s1 (match s1.prof? with | some p => _ | none => _)
      split
      · exact .foldl (fun _ g hs => hs.windowAnchor hl (fun _ _ _ _ => rfl) _ g) _ _ (.refl s1)
      · exact .refl s1
    have h3 : KeepsFlags EstSt.restEnd [F.EST_FLAGS_RESTING] s1 s3 := by
      show KeepsFlags _ _ s1 (match s2.worst with | some p => _ | none => _)
      split
      · exact (h2.setB_flag hl F.EST_FLAGS_REST_FUTILE true (by decide)).upd rfl
      · exact h2
    exact .ite (.refl s1) (h3.estFlags hl)
  refine ⟨(hk.flag (List.mem_singleton.mpr rfl)).trans ?_, hk.est⟩
  exact flag_setB_same s F.EST_FLAGS_RESTING false (by unfold Fld.fits; decide) rfl

/-! ## The requests that wait for a capture (R136) -/

/-- The requests answered by a strobe's capture are gone from those that wait; the estimator stands. -/
theorem captureReplies_waiting (s : State) (copy : List Byte) : (s.captureReplies copy).est = s.est ∧
    (s.captureReplies copy).host.waiting = s.host.waiting.filter (fun x => !(x.why == .capture && x.since != s.ring.lastS)) := by
  unfold State.captureReplies
  rw [List.partition_eq_filter_filter]
  exact ⟨foldl_leaves State.est _ (fun a x => answer_est ..) _ _, foldl_leaves (fun a => a.host.waiting) _ (fun a x => answer_waiting ..) _ _⟩

/-! ## A restore takes effect (R139) -/

/-- The flags that a restore sets. -/
def restoreFlags : List Fld := [F.EST_FLAGS_RESTORED_SEEN, F.EST_FLAGS_CHGLOST, F.EST_FLAGS_ASSUMED_REST]

theorem restoreFlags_clear : ∀ f ∈ restoreFlags, f.addr = 0x60018 ∧ clearOf updFlags f = true := by decide

namespace KeepsFlags

variable {a b : State} (h : KeepsFlags EstSt.apply restoreFlags a b)
include h

theorem setB_resting (x : Bool) : KeepsFlags EstSt.apply restoreFlags a (b.setB F.EST_FLAGS_RESTING x) :=
  h.trans ⟨rfl, fun f hf => get_set_clear _ _ _ _ ((by decide : ∀ f ∈ restoreFlags, clearOf [F.EST_FLAGS_RESTING] f = true) f hf)⟩

theorem restGrant (n : Nat) : KeepsFlags EstSt.apply restoreFlags a (b.restGrant n) := by
  unfold State.restGrant
  exact ite ((h.setB_resting false).upd rfl) ((h.setB_resting true).upd rfl)

theorem lrnOver : KeepsFlags EstSt.apply restoreFlags a b.lrnOver := by
  unfold State.lrnOver State.applyLater
  refine foldl (fun s x hs => ?_) _ _ (upd ?_ rfl)
  · exact ite (hs.upd rfl) (hs.restGrant _)
  · have h0 : KeepsFlags EstSt.apply restoreFlags a { b with lrn := { b.lrn with job := none, setp := 0 } } := h.upd rfl
    exact (h0.set_elsewhere restoreFlags_clear F.EST_LRN_STAT_PHASE 0 (by decide)).upd rfl

theorem jobEnd (i : Nat) (st : JobSt) (fin : Nat) (d : List Byte) : KeepsFlags EstSt.apply restoreFlags a (b.jobEnd i st fin d) := by
  have hw := jobEnd_leaves (fun s => (s.est, s.word 0x60018)) (fun s n => ?_) (fun _ _ => rfl) (fun _ _ => rfl) (fun _ _ => rfl)
    (fun _ _ => rfl) b i st fin d
  · exact h.of_word restoreFlags_clear (congrArg Prod.fst hw) (congrArg Prod.snd hw)
  · have hq : allBut 0x60018 (0x100100 + 4 * n) = true := bne_iff_ne.2 (by omega)
    have hs : Stands (allBut 0x60018) s (s.qLost n) := (Stands.refl _ s).count _ _ hq hq
    exact Prod.ext (count_est ..) (hs.word _ (by decide))

theorem lrnFail (code : Nat) : KeepsFlags EstSt.apply restoreFlags a (b.lrnFail code) := by
  unfold State.lrnFail
  split
  · exact h
  · have hs := (h.lrnOver.set_elsewhere restoreFlags_clear F.EST_LRN_STAT_LASTDQ code (by decide)).set_elsewhere restoreFlags_clear
      F.EST_LRN_STAT_JOBFAIL_SEEN 1 (by decide)
    exact (hs.raise restoreFlags_clear 36 []).jobEnd ..

theorem lrnCode7 : KeepsFlags EstSt.apply restoreFlags a (b.lrnCode 7 true) := by
  have hs : KeepsFlags EstSt.apply restoreFlags a { b with lrn := { b.lrn with codeAt := assocPut 7 b.opsec b.lrn.codeAt } } := h.upd rfl
  exact hs.lrnFail 7

end KeepsFlags

/-- The requests that waited for a restore are answered. -/
def restoreAnswered (s : State) : State :=
  (s.host.waiting.filter (fun x => x.why == .restore)).foldl (fun (a : State) x => a.answer x.id stOk 0 [])
    { s with host := { s.host with waiting := s.host.waiting.filter (fun x => !(x.why == .restore)) } }

theorem restoreAnswered_waiting (s : State) : (restoreAnswered s).host.waiting = s.host.waiting.filter (fun x => !(x.why == .restore)) :=
  foldl_leaves (fun a => a.host.waiting) _ (fun _ _ => answer_waiting ..) _ _

theorem restoreAnswered_est (s : State) : (restoreAnswered s).est = s.est := foldl_leaves State.est _ (fun _ _ => answer_est ..) _ _

theorem restoreAnswered_word (s : State) {x : Nat} (h24 : allBut x 0x24 = true) (hx : x < 0x100100) : (restoreAnswered s).word x = s.word x :=
  foldl_leaves (fun a => a.word x) _ (fun _ _ => answer_word _ _ _ _ _ h24 hx) _ _

theorem estFlags_host (s : State) : s.estFlags.host = s.host := by
  unfold State.estFlags State.setRaise
  dsimp only
  split_ifs
  · rfl
  · rw [raise_host]
    rfl
  · rfl

/-- The flags of a restore, with the snapshot's run the same or not. -/
def restoreMarked (s : State) (same : Bool) : State :=
  ((s.setB F.EST_FLAGS_RESTORED_SEEN true).setB F.EST_FLAGS_ASSUMED_REST (!same)).setB F.EST_FLAGS_CHGLOST false

theorem restoreMarked_flags (s : State) (same : Bool) : (restoreMarked s same).flag F.EST_FLAGS_RESTORED_SEEN = true ∧
    (restoreMarked s same).flag F.EST_FLAGS_CHGLOST = false ∧ (restoreMarked s same).flag F.EST_FLAGS_ASSUMED_REST = !same := by
  refine ⟨(flag_set_clear _ _ _ _ (by decide)).trans ((flag_set_clear _ _ _ _ (by decide)).trans ?_), ?_,
    (flag_set_clear _ _ _ _ (by decide)).trans ?_⟩
  all_goals exact flag_setB_same _ _ _ (by unfold Fld.fits; decide) rfl

section
variable {s : State} {b : List Byte} {el at_ : Nat} {forced : Bool}

/-- The groups and the marks of a restore first, then the learning job's end, the replies, and the flags of all groups. -/
theorem restoreApply_eq (ha : s.est.apply = some (b, el, forced, at_)) : ∃ x : State, x.est.apply = none ∧
    s.restoreApply = (restoreAnswered (((restoreMarked x (uAt b 44 4 == s.est.runId)).set F.EST_LRN_LAST_LEARNLAST (uAt b 84 4)).lrnCode 7
      true)).estFlags := by
  refine ⟨_, ?_, by unfold State.restoreApply; rw [ha]; dsimp only; rw [List.partition_eq_filter_filter]; rfl⟩
  rfl

/-- A restore that takes effect leaves the estimator's flags as R139 says, and no restore waits for its reply. -/
theorem restoreApply_applies (ha : s.est.apply = some (b, el, forced, at_)) :
    s.restoreApply.est.apply = none ∧ s.restoreApply.flag F.EST_FLAGS_RESTORED_SEEN = true ∧
    s.restoreApply.flag F.EST_FLAGS_CHGLOST = false ∧ s.restoreApply.flag F.EST_FLAGS_ASSUMED_REST = (uAt b 44 4 != s.est.runId) ∧
    ∀ w ∈ s.restoreApply.host.waiting, w.why ≠ .restore := by
  obtain ⟨x, hx, he⟩ := restoreApply_eq ha
  set m := restoreMarked x (uAt b 44 4 == s.est.runId)
  set y := (m.set F.EST_LRN_LAST_LEARNLAST (uAt b 84 4)).lrnCode 7 true
  have hy : KeepsFlags EstSt.apply restoreFlags m y := ((KeepsFlags.refl m).set_elsewhere restoreFlags_clear _ _ (by decide)).lrnCode7
  have hk : KeepsFlags EstSt.apply restoreFlags m s.restoreApply := by
    rw [he]
    exact (hy.of_word restoreFlags_clear (restoreAnswered_est y) (restoreAnswered_word y (by decide) (by decide))).estFlags restoreFlags_clear
  obtain ⟨hseen, hlost, hrest⟩ := restoreMarked_flags x (uAt b 44 4 == s.est.runId)
  refine ⟨hk.est.trans hx, (hk.flag (by decide)).trans hseen, (hk.flag (by decide)).trans hlost, (hk.flag (by decide)).trans hrest, fun w hw => ?_⟩
  rw [he, estFlags_host, restoreAnswered_waiting] at hw
  have hn := (List.mem_filter.mp hw).2
  exact fun h => by rw [h] at hn; exact absurd hn (by decide)

end

/-! ## The host's commands -/

section
variable {s : State} {t : Nat} {r : Req}

theorem restGrant_granted {n : Nat} (hn : n = uAt r.payload 0 2) (hs : serves (s.upto t) 0x0406 r (Fmt.fixed 4 [2, 3]) = true) (h : n ≠ 65535)
    (hj : (s.upto t).lrn.job = none) : Answers (.restGrant t r) s (fun s' => Replied s' r 0x0406 stOk 0 [] ∧
      s'.flag F.EST_FLAGS_RESTING = (n != 0) ∧
      s'.est.restEnd = if n = 0 then (s.upto t).est.restEnd.map (fun _ => (s.upto t).now) else some ((s.upto t).now + n * sec)) := by
  subst hn
  have hh : ((taken (s.upto t) r).restGrant (uAt r.payload 0 2)).host = (taken (s.upto t) r).host := by
    unfold State.restGrant
    split <;> rfl
  obtain ⟨hflag, hend⟩ := restGrant_grants (taken (s.upto t) r) (uAt r.payload 0 2)
  refine answers_est rfl hs (s1 := (taken (s.upto t) r).restGrant (uAt r.payload 0 2)) (st := stOk) (j := 0) (p := []) ?_
    ((taken_hasPlace hs).of_host hh) fun s' hrep hest hword => ⟨hrep, ?_, ?_⟩
  · dsimp only
    rw [if_neg h, taken_lrn, hj]
    rfl
  · unfold State.flag State.get at hflag ⊢
    rw [hword _ rfl]
    exact hflag
  · rw [hest, hend, taken_est, taken_now]

theorem estResetCell_asks {f n : Nat} (hf : f = uAt r.payload 0 2) (hn : n = uAt r.payload 2 2)
    (hs : serves (s.upto t) 0x0505 r (Fmt.fixed 4 []) = true) (hj : (s.upto t).lrn.job = none) (hf1 : 1 ≤ f) (hn1 : 1 ≤ n) (hfn : f + n ≤ 641) :
    Answers (.estResetCell t r) s (fun s' => Replied s' r 0x0505 stOk 0 [] ∧ s'.est.resetReq = (s.upto t).est.resetReq ++ [(f, n)]) := by
  subst hf hn
  refine answers_est rfl hs (s1 := { taken (s.upto t) r with est := { (taken (s.upto t) r).est with
    resetReq := (taken (s.upto t) r).est.resetReq ++ [(uAt r.payload 0 2, uAt r.payload 2 2)] } })
    (st := stOk) (j := 0) (p := []) ?_ ?_ fun s' hrep hest _ => ⟨hrep, ?_⟩
  case refine_1 =>
    dsimp only
    rw [taken_lrn, hj, if_neg (by decide), if_neg (by omega), if_neg (by omega)]
    rfl
  case refine_2 => exact (taken_hasPlace hs).of_host rfl
  case refine_3 =>
    rw [hest]
    dsimp only
    rw [taken_est]

/-- The format of EST_SNAPSHOT_READ. -/
def snapFmt : Fmt := { len := fun p => p.length == 8, pad := [7], flagsAt := some (6, 1) }

section
variable {o n : Nat} (ho : o = uAt r.payload 0 4) (hn : n = uAt r.payload 4 2) (hs : serves (s.upto t) 0x0501 r snapFmt = true)
  (hn1 : 1 ≤ n) (hn2 : n ≤ 1024) (hon : o + n ≤ 49152)
include ho hn hs hn1 hn2 hon

/-- A piece of the copy is read. -/
theorem estSnapshotRead_reads {c : List Byte} (hc : (s.upto t).est.copy = some c) (hnew : uAt r.payload 6 1 = 0 ∨ o ≠ 0) :
    Answers (.estSnapshotRead t r) s (fun s' => Replied s' r 0x0501 stOk 0 (slice c o n) ∧ s'.est.copyAt = (s.upto t).now) := by
  subst ho hn
  refine answers_est rfl hs (s1 := { taken (s.upto t) r with est := { (taken (s.upto t) r).est with copyAt := (taken (s.upto t) r).now } })
    (st := stOk) (j := 0) (p := slice c (uAt r.payload 0 4) (uAt r.payload 4 2)) ?_ ?_ fun s' hrep hest _ => ⟨hrep, ?_⟩
  case refine_1 =>
    dsimp only
    rw [if_neg (by omega), if_neg (by omega), if_neg (by omega), taken_est, hc]
    rfl
  case refine_2 => exact (taken_hasPlace hs).of_host rfl
  case refine_3 =>
    rw [hest]
    dsimp only
    rw [taken_now]

/-- The request for a new copy waits for the capture. -/
theorem estSnapshotRead_waits (hnew : uAt r.payload 6 1 = 1) (h0 : o = 0) (hp : (s.upto t).parked = false) :
    Answers (.estSnapshotRead t r) s (fun s' => ∃ w, s'.host.waiting = (s.upto t).host.waiting ++ [w] ∧ w.why = .capture ∧ w.req = r) := by
  subst ho hn
  refine answers_later rfl hs (s1 := { taken (s.upto t) r with host := { (taken (s.upto t) r).host with
    waiting := (taken (s.upto t) r).host.waiting ++
      [({ why := .capture, id := reqId r 0x0501 false, req := r, since := (taken (s.upto t) r).ring.lastS } : Waiting)] } }) ?_ ?_
  · dsimp only
    rw [if_neg (by omega), if_neg (by omega), if_pos ⟨hnew, h0⟩, taken_parked, hp]
    rfl
  · refine ⟨{ why := .capture, id := reqId r 0x0501 false, req := r, since := (taken (s.upto t) r).ring.lastS }, ?_, rfl, rfl⟩
    rw [command_host, ← taken_waiting (a := s.upto t) (r := r)]

end

/-- The format of EST_RESTORE. -/
def restoreFmt : Fmt := { len := fun p => decide (12 ≤ p.length) && p.length == 12 + uAt p 4 2, pad := [7], flagsAt := some (6, 3) }

/-- The pieces of a snapshot with one more. -/
def restorePiece (s : State) (o : Nat) (d : List Byte) : RestoreSt :=
  { bytes := (match s.est.restore with | some x => x.bytes | none => []) ++ [(o, d)], since := s.now }

/-- A piece of a snapshot is kept. -/
theorem estRestore_keeps {o n : Nat} (ho : o = uAt r.payload 0 4) (hn : n = uAt r.payload 4 2)
    (hs : serves (s.upto t) 0x0502 r restoreFmt = true) (hn1 : 1 ≤ n) (hn2 : n ≤ 1024) (hon : o + n ≤ 49152)
    (hf : (uAt r.payload 6 1).testBit 0 = false) : Answers (.estRestore t r) s (fun s' => Replied s' r 0x0502 stOk 0 [] ∧
      ∃ x, s'.est.restore = some x ∧ x.since = (s.upto t).now ∧
        x.bytes = (((s.upto t).est.restore.map (·.bytes)).getD []) ++ [(o, r.payload.drop 12)]) := by
  subst ho hn
  refine answers_est rfl hs (s1 := { taken (s.upto t) r with est := { (taken (s.upto t) r).est with
    restore := some (restorePiece (taken (s.upto t) r) (uAt r.payload 0 4) (r.payload.drop 12)) } })
    (st := stOk) (j := 0) (p := []) ?_ ?_ fun s' hrep hest _ => ⟨hrep, _, congrArg EstSt.restore hest, ?_, ?_⟩
  case refine_1 =>
    dsimp only
    rw [if_neg (by omega), if_neg (by omega), hf, Bool.false_and, if_neg (by decide), if_pos (by decide)]
    rfl
  case refine_2 => exact (taken_hasPlace hs).of_host rfl
  case refine_3 => exact taken_now ..
  case refine_4 =>
    unfold restorePiece
    rw [taken_est]
    cases (s.upto t).est.restore <;> rfl

/-! ## The module's own commands -/

theorem restWindowEnd_ends {e : Nat} (hin : (s.upto t).inService = true) (he : (s.upto t).est.restEnd = some e) (hle : e ≤ (s.upto t).now) :
    Answers (.restWindowEnd t) s (fun s' => s'.flag F.EST_FLAGS_RESTING = false ∧ s'.est.restEnd = none) := by
  refine answers_of_guard rfl ?_ rfl ?_
  · rw [hin, he, Option.any_some, Bool.true_and]
    exact decide_eq_true hle
  · rw [command_flag, command_est]
    exact restWindowEnd_closes _

theorem snapshotCopyExpire_expires (hin : (s.upto t).inService = true) (hc : (s.upto t).est.copy ≠ none)
    (hle : (s.upto t).est.copyAt + 600 * sec ≤ (s.upto t).now) :
    Answers (.snapshotCopyExpire t) s (fun s' => s'.est.copy = none ∧ s'.regs = (s.upto t).regs) := by
  refine answers_of_guard rfl ?_ rfl ⟨congrArg EstSt.copy (command_est ..), command_regs ..⟩
  rw [hin, Option.isSome_iff_ne_none.mpr hc, Bool.true_and, Bool.true_and]
  exact decide_eq_true hle

theorem restoreDiscard_discards {x : RestoreSt} (hin : (s.upto t).inService = true) (hx : (s.upto t).est.restore = some x)
    (hle : x.since + 60 * sec ≤ (s.upto t).now) :
    Answers (.restoreDiscard t) s (fun s' => s'.est.restore = none ∧ s'.regs = (s.upto t).regs) := by
  refine answers_of_guard rfl ?_ rfl ⟨congrArg EstSt.restore (command_est ..), command_regs ..⟩
  rw [hin, hx, Bool.true_and]
  exact decide_eq_true hle

theorem snapshotCapture_copies (hin : (s.upto t).inService = true) (hu : (s.upto t).scanUpdated = true)
    (hw : (s.upto t).host.waiting.any (fun x => x.why == .capture && x.since != (s.upto t).ring.lastS) = true) :
    Answers (.snapshotCapture t) s (fun s' => s'.est.copy = some (s.upto t).snapshot ∧ s'.est.copyAt = (s.upto t).now ∧
      ∀ w ∈ s'.host.waiting, w.why = .capture → w.since = (s.upto t).ring.lastS) := by
  obtain ⟨hest, hwait⟩ := captureReplies_waiting (s.upto t).takeCopy ((s.upto t).takeCopy.est.copy.getD [])
  refine answers_of_guard rfl (by rw [hin, hu, hw]; rfl) rfl ?_
  rw [command_est, command_host]
  refine ⟨congrArg EstSt.copy hest, congrArg EstSt.copyAt hest, fun w hm hc => ?_⟩
  rw [hwait] at hm
  have hn := (List.mem_filter.mp hm).2
  rw [hc] at hn
  by_contra hne
  rw [show (w.since != (s.upto t).takeCopy.ring.lastS) = true from bne_iff_ne.mpr hne] at hn
  exact absurd hn (by decide)

end

end Sys2Proof.Machine.Laws

namespace Sys2Proof.Proofs

open Sys2Proof.Machine Sys2Proof.Machine.Laws Sys2Proof.Safety

/-- Settles O14: a grant and the end of a window (`restGrant_grants`, `restWindowEnd_closes`), the capture and its replies
(`captureReplies_waiting`), and a restore, whose flags outlast what the update's end changes (`restoreApply_applies`). -/
theorem restWindowsSnapshotsAndRestoresAct : Obligations.RestWindowsSnapshotsAndRestoresAct := by
  unfold Obligations.RestWindowsSnapshotsAndRestoresAct
  rintro s _ t r rfl
  refine ⟨fun n hn hs h hj => restGrant_granted hn hs h hj, fun e hin he hle => restWindowEnd_ends hin he hle,
    fun f n hf hn hs hj hf1 hn1 hfn => estResetCell_asks hf hn hs hj hf1 hn1 hfn,
    fun o n ho hn hs hn1 hn2 hon => ⟨fun c hc hnew => estSnapshotRead_reads ho hn hs hn1 hn2 hon hc hnew,
      fun hnew h0 hp => estSnapshotRead_waits ho hn hs hn1 hn2 hon hnew h0 hp⟩,
    fun hin hu hw => snapshotCapture_copies hin hu hw, fun hin hc hle => snapshotCopyExpire_expires hin hc hle,
    fun o n ho hn hs hn1 hn2 hon hf => estRestore_keeps ho hn hs hn1 hn2 hon hf, fun b el forced at_ hin ha hd hc hu => ?apply,
    fun x hin hx hle => restoreDiscard_discards hin hx hle⟩
  case apply =>
    refine answers_of_guard rfl (by rw [hin, hd, hc, hu]; rfl) rfl ?_
    rw [command_est, command_flag, command_flag, command_flag, command_host]
    exact restoreApply_applies ha

end Sys2Proof.Proofs
end

section
/-! The status opcodes and JOB_STATUS, JOB_CANCEL (O33). -/

namespace Sys2Proof.Machine.Laws

open Sys2Proof.Safety

/-! ## Reading the fields of a reply (R10) -/

theorem ofLe_leBytes_mod (n v : Nat) : ofLe (leBytes n v) = v % 256 ^ n := by
  induction n generalizing v with
  | zero => rw [pow_zero, Nat.mod_one]; rfl
  | succ n ih =>
    show (v % 256) + 256 * ofLe (leBytes n (v / 256)) = _
    rw [ih, pow_succ', Nat.mod_mul]

theorem slice_append_right {l m : List Byte} {o n : Nat} (h : l.length ≤ o) : slice (l ++ m) o n = slice m (o - l.length) n := by
  unfold slice
  rw [List.drop_append, List.drop_eq_nil_of_le h, List.nil_append]

theorem slice_append_left {l m : List Byte} {o n : Nat} (h : o + n ≤ l.length) : slice (l ++ m) o n = slice l o n := by
  unfold slice
  rw [List.drop_append_of_le_length (by omega), List.take_append_of_le_length (by rw [List.length_drop]; omega)]

/-- Bytes as a table lists them: each field's width and value, in order. -/
def fields (l : List (Nat × Nat)) : List Byte := l.flatMap (fun x => leBytes x.1 x.2)

section
variable {l : List (Nat × Nat)} {ws : List Nat} (hw : l.map Prod.fst = ws)
include hw

theorem fields_length : (fields l).length = ws.sum := by
  unfold fields
  rw [List.length_flatMap, ← hw]
  simp only [leBytes_length]

/-- The field with the number `i` reads back at its offset. -/
theorem uAt_fields {o w v : Nat} (i : Nat) (h : l[i]? = some (w, v)) (ho : (ws.take i).sum = o) : uAt (fields l) o w = v % 256 ^ w := by
  obtain ⟨hi, hv⟩ := List.getElem?_eq_some_iff.mp h
  have hs : fields l = fields (l.take i) ++ (leBytes w v ++ fields (l.drop (i + 1))) := by
    have hl : l = l.take i ++ (w, v) :: l.drop (i + 1) := by rw [← hv, List.getElem_cons_drop, List.take_append_drop]
    unfold fields
    conv_lhs => rw [hl]
    rw [List.flatMap_append, List.flatMap_cons]
  have hlen : (fields (l.take i)).length = o := (fields_length (by rw [List.map_take, hw])).trans ho
  unfold uAt
  rw [hs, slice_append_right hlen.le, hlen, Nat.sub_self, slice_append_left (by rw [leBytes_length, Nat.zero_add])]
  show ofLe ((leBytes w v).take w) = _
  rw [List.take_of_length_le (leBytes_length w v).le, ofLe_leBytes_mod]

/-- A field that holds its value reads back as it is. -/
theorem uAt_field {o w v : Nat} (i : Nat) (hv : v < 256 ^ w) (h : l[i]? = some (w, v)) (ho : (ws.take i).sum = o) : uAt (fields l) o w = v :=
  (uAt_fields hw i h ho).trans (Nat.mod_eq_of_lt hv)

end

theorem pieces_length {f : Nat → List Byte} {k : Nat} (hk : ∀ i, (f i).length = k) (n : Nat) : ((List.range n).flatMap f).length = k * n := by
  rw [List.length_flatMap]
  simp only [hk, List.map_const', List.sum_replicate, List.length_range, smul_eq_mul, Nat.mul_comm]

/-- A piece of equal pieces in a row. -/
theorem slice_pieces {f : Nat → List Byte} {k : Nat} (hk : ∀ i, (f i).length = k) {n : Nat} (i : Nat) (hi : i < n) :
    slice ((List.range n).flatMap f) (k * i) k = f i := by
  induction n with
  | zero => exact absurd hi (Nat.not_lt_zero i)
  | succ n ih =>
    rw [List.range_succ, List.flatMap_append, List.flatMap_singleton]
    rcases Nat.lt_succ_iff_lt_or_eq.mp hi with h | rfl
    · have hm : k * (i + 1) ≤ k * n := Nat.mul_le_mul_left k h
      rw [slice_append_left (by rw [pieces_length hk]; rw [Nat.mul_succ] at hm; exact hm), ih h]
    · rw [slice_append_right (pieces_length hk i).le, pieces_length hk, Nat.sub_self]
      exact List.take_of_length_le (hk i).le

theorem word_fits (w : Word) : w.toNat < 256 ^ 4 := w.isLt

theorem get_fits {s : State} {f : Fld} (n : Nat) (h : 2 ^ f.w ≤ 256 ^ n := by decide) : s.get f < 256 ^ n := (get_lt s f).trans_le h

/-! ## GET_STRING (Table 14.7) -/

/-- The fields of Table 14.7. -/
def stringFields (s : State) : List (Nat × Nat) :=
  [(4, (s.word 0x50010).toNat), (4, (s.word 0x5001C).toNat), (4, (s.word 0x50020).toNat), (4, (s.word 0x50014).toNat), (4, (s.word 0x50018).toNat),
   (2, s.get F.EST_STR_SOC_USOC), (2, s.get F.EST_STR_USOC_LO), (2, s.get F.EST_STR_USOC_HI), (2, s.get F.EST_STR_SOC_UNCMAX),
   (4, (s.word 0x60028).toNat), (4, (s.word 0x6002C).toNat), (4, (s.word 0x9001C).toNat), (4, (s.word 0x50034).toNat),
   (1, s.get F.CVI_INS_STAT_STATE), (1, s.get F.PRT_CONTSTAT_CONN), (2, (s.view 0x60018).toNat)]

theorem stringBytes_fields (s : State) : s.stringBytes = fields (stringFields s) := by
  unfold State.stringBytes State.rd fields stringFields
  simp only [List.flatMap_cons, List.flatMap_nil, List.append_assoc, List.append_nil]
  rfl

theorem stringFields_widths (s : State) : (stringFields s).map Prod.fst = [4, 4, 4, 4, 4, 2, 2, 2, 2, 4, 4, 4, 4, 1, 1, 2] := rfl

theorem taken_stringFields (a : State) (r : Req) : stringFields (taken a r) = stringFields a := by
  rcases taken_split a r with h | ⟨l, h⟩ <;> rw [h] <;> rfl

/-! ## GET_STATUS (Table 14.5) -/

/-- The first four fields, which RECOVERY reports too. -/
def statusHead (s : State) : List (Nat × Nat) :=
  [(1, s.get F.RST_STAT_MSTATE), (1, if s.get F.RST_BOOT_SLOT < 2 then s.get F.RST_BOOT_SLOT else 0xFF), (2, (s.view 8).toNat % 65536),
   (4, Config.serial.toNat)]

/-- The fields of Table 14.5 outside RECOVERY. -/
def statusTail (s : State) : List (Nat × Nat) :=
  [(4, (s.view 0x110010).toNat), (4, (s.view 0x110014).toNat), (4, (s.view 0x10000).toNat), (4, (s.view 0x80030).toNat),
   (4, (s.view 0x8002C).toNat), (4, (s.view 0xA0000).toNat), (4, (s.view 0x30004).toNat), (4, (s.view 0x70004).toNat),
   (4, (s.view 0xC0000).toNat), (4, s.cfgReport)]

/-- The fields of a GET_STATUS reply. -/
def statusFields (s : State) : List (Nat × Nat) := statusHead s ++ if s.rst.mode = .recovery then [(40, 0)] else statusTail s

theorem statusBytes_fields (s : State) : s.statusBytes = fields (statusFields s) := by
  unfold State.statusBytes State.rd fields statusFields statusHead statusTail
  dsimp only
  split
  · simp only [List.flatMap_cons, List.flatMap_nil, List.flatMap_append, List.append_assoc, List.append_nil]
    rw [show leBytes 40 0 = List.replicate 40 0 by decide]
  · simp only [List.flatMap_cons, List.flatMap_nil, List.flatMap_append, List.append_assoc, List.append_nil]

theorem statusTail_widths (a s : State) : (statusHead a ++ statusTail s).map Prod.fst = [1, 1, 2, 4, 4, 4, 4, 4, 4, 4, 4, 4, 4, 4] := rfl

theorem taken_statusHead (a : State) (r : Req) : statusHead (taken a r) = statusHead a := by
  rcases taken_split a r with h | ⟨l, h⟩ <;> rw [h] <;> rfl

/-- The first four fields read back, whatever follows. -/
theorem statusHead_reads (s : State) {l : List (Nat × Nat)} {ws : List Nat} (hw : (statusHead s ++ l).map Prod.fst = [1, 1, 2, 4] ++ ws) :
    uAt (fields (statusHead s ++ l)) 0 1 = s.get F.RST_STAT_MSTATE ∧
    uAt (fields (statusHead s ++ l)) 1 1 = (if s.get F.RST_BOOT_SLOT < 2 then s.get F.RST_BOOT_SLOT else 0xFF) ∧
    uAt (fields (statusHead s ++ l)) 2 2 = (s.view 8).toNat % 65536 ∧ uAt (fields (statusHead s ++ l)) 4 4 = Config.serial.toNat := by
  refine ⟨uAt_field hw 0 (get_fits 1) rfl rfl, uAt_field hw 1 ?_ rfl rfl, uAt_field hw 2 (Nat.mod_lt _ (by decide)) rfl rfl,
    uAt_field hw 3 (word_fits _) rfl rfl⟩
  split
  · omega
  · decide

/-- The bits of CFGREP. -/
theorem cfgReport_bits (s : State) : s.cfgReport < 8 ∧ s.cfgReport.testBit 0 = decide (s.get F.ACQ_CFG_WIN % 4 ≠ 0) ∧
    s.cfgReport.testBit 2 = s.flag F.GLB_SESS_PROV ∧ s.cfgReport.testBit 1 =
      !(s.cfg.staged.isEmpty && s.cfg.keys.isEmpty && s.cfg.tables.isEmpty && s.cfg.coefs.isEmpty && s.cfg.bayMap.isNone) := by
  have hbits : ∀ (x y : Bool) (v : Nat), v < 2 → b2n x + 2 * b2n y + 4 * v < 8 ∧ (b2n x + 2 * b2n y + 4 * v).testBit 0 = x ∧
      (b2n x + 2 * b2n y + 4 * v).testBit 2 = (v == 1) ∧ (b2n x + 2 * b2n y + 4 * v).testBit 1 = y := by
    intro x y v hv
    interval_cases v
    all_goals revert x y; decide
  exact hbits _ _ _ (get_lt s F.GLB_SESS_PROV)

/-! ## GET_CELLS (Table 14.6) -/

/-- FLAGS of a cell group. -/
def cellFlags (s : State) (g : Nat) : Nat :=
  b2n (s.wireSuspect g) + 2 * b2n ((s.cell g).confE || (s.cell g).confF) + 8 * b2n (s.stale (groupPos g)) + 16 * b2n (s.tSub g)
    + 32 * b2n (s.cell g).learned

/-- The fields of a configured cell group. -/
def cellFields (s : State) (g : Nat) : List (Nat × Nat) :=
  [(4, s.cellV g % 1048576), (2, toCode 16 (clipS 16 (s.tGroup g)))]
    ++ (if (s.cell g).init then [(2, pct (s.cell g).soc), (2, pct (s.usable (s.cell g))), (2, min 65535 (pctUp (s.cell g).unc))] else [(6, 0)])
    ++ [(2, s.capSoh (s.cell g)), (2, (s.cell g).rgrow), (1, (s.cell g).qual), (1, cellFlags s g), (2, 0)]

theorem cellRecord_absent {s : State} {g : Nat} (h : s.groupOk g = false) : s.cellRecord g = List.replicate 17 0 ++ [4, 0, 0] := by
  unfold State.cellRecord
  rw [h]
  rfl

theorem cellRecord_fields {s : State} {g : Nat} (h : s.groupOk g = true) : s.cellRecord g = fields (cellFields s g) := by
  unfold State.cellRecord
  rw [h, if_neg (by decide)]
  unfold fields cellFields
  dsimp only
  cases (s.cell g).init
  all_goals
    simp only [if_true, if_false, Bool.false_eq_true, List.flatMap_cons, List.flatMap_nil, List.flatMap_append, List.append_assoc, List.append_nil]
    rfl

theorem cellFields_widths {s : State} {g : Nat} (hi : (s.cell g).init = true) :
    (cellFields s g).map Prod.fst = [4, 2, 2, 2, 2, 2, 2, 1, 1, 2] := by
  unfold cellFields
  rw [hi]
  rfl

theorem cellFields_widths_new {s : State} {g : Nat} (hi : (s.cell g).init = false) : (cellFields s g).map Prod.fst = [4, 2, 6, 2, 2, 1, 1, 2] := by
  unfold cellFields
  rw [hi]
  rfl

theorem cellRecord_length (s : State) (g : Nat) : (s.cellRecord g).length = 20 := by
  cases h : s.groupOk g with
  | false => rw [cellRecord_absent h]; rfl
  | true =>
    rw [cellRecord_fields h]
    cases hi : (s.cell g).init with
    | true => exact fields_length (cellFields_widths hi)
    | false => exact fields_length (cellFields_widths_new hi)

theorem taken_cellRecord (a : State) (r : Req) (g : Nat) : (taken a r).cellRecord g = a.cellRecord g := by
  rcases taken_split a r with h | ⟨l, h⟩ <;> rw [h] <;> rfl

/-- The bits of FLAGS. -/
theorem cellFlags_bits (s : State) (g : Nat) : cellFlags s g < 256 ∧ (cellFlags s g).testBit 0 = s.wireSuspect g ∧
    (cellFlags s g).testBit 1 = ((s.cell g).confE || (s.cell g).confF) ∧ (cellFlags s g).testBit 2 = false ∧
    (cellFlags s g).testBit 3 = s.stale (groupPos g) ∧ (cellFlags s g).testBit 4 = s.tSub g ∧ (cellFlags s g).testBit 5 = (s.cell g).learned := by
  have hbits : ∀ a b c d e : Bool, let x := b2n a + 2 * b2n b + 8 * b2n c + 16 * b2n d + 32 * b2n e
      x < 256 ∧ x.testBit 0 = a ∧ x.testBit 1 = b ∧ x.testBit 2 = false ∧ x.testBit 3 = c ∧ x.testBit 4 = d ∧ x.testBit 5 = e := by decide
  exact hbits _ _ _ _ _

/-! ## GET_LIMITS and GET_HEALTH (Tables 14.4, 14.8) -/

/-- The fields of a GET_LIMITS reply. -/
def limitFields (s : State) : List (Nat × Nat) :=
  [(4, s.get F.PRT_LDIS), (4, s.get F.PRT_LCHG), (1, s.get F.PRT_LIMIT_BIND_DIS), (1, s.get F.PRT_LIMIT_BIND_CHG),
   (1, s.get F.PRT_LIMIT_BLK_CHG + 2 * s.get F.PRT_LIMIT_BLK_DIS), (1, 0)]
    ++ (List.range 10).flatMap (fun i => [(4, s.get (F.PRT_ENT_DIS.ix8 i)), (4, s.get (F.PRT_ENT_CHG.ix8 i))])

theorem limitBytes_fields (s : State) : s.limitBytes = fields (limitFields s) := by
  unfold State.limitBytes fields limitFields
  simp only [List.flatMap_append, List.flatMap_assoc, List.flatMap_cons, List.flatMap_nil, List.append_assoc, List.append_nil]
  rfl

theorem limitFields_widths (s : State) : (limitFields s).map Prod.fst = [4, 4, 1, 1, 1, 1] ++ List.replicate 20 4 := rfl

theorem taken_limitFields (a : State) (r : Req) : limitFields (taken a r) = limitFields a := by
  rcases taken_split a r with h | ⟨l, h⟩ <;> rw [h] <;> rfl

/-- The fields of a GET_HEALTH reply. -/
def healthFields (s : State) : List (Nat × Nat) :=
  (List.range 5).map (fun n => (4, s.hoursWord n)) ++ (List.range 5).map (fun n => (4, s.bistWord n)) ++ [(4, (s.view 0x100000).toNat)]
    ++ FlashRegion.all.map (fun g => (4, satU32 (s.flash.highest g)))
    ++ [(2, FlashRegion.spare.blocks - s.flash.retBlocks), (2, 0), (4, satU32 s.flash.swaps), (4, (s.view 0x50008).toNat),
        (1, s.get F.RING_BREAK_BRKCNT), (1, 0), (2, s.get F.TIM_ETH_LOSS), (2, s.get (F.TIM_ETH_LOSS.ix 1)), (2, 0)]

theorem healthBytes_fields (s : State) : s.healthBytes = fields (healthFields s) := by
  unfold State.healthBytes State.rd fields healthFields
  simp only [List.flatMap_append, List.flatMap_map, List.flatMap_cons, List.flatMap_nil, List.append_assoc, List.append_nil]
  rfl

theorem healthFields_widths (s : State) : (healthFields s).map Prod.fst = List.replicate 18 4 ++ [2, 2, 4, 4, 1, 1, 2, 2, 2] := rfl

theorem taken_healthFields (a : State) (r : Req) : healthFields (taken a r) = healthFields a := by
  rcases taken_split a r with h | ⟨l, h⟩ <;> rw [h] <;> rfl

/-! ## The status opcodes -/

section
variable {s : State} {t : Nat} {r : Req}

/-- A status opcode replies its bytes, and its reply stands. -/
theorem answers_bytes {c : Instr} {op : Nat} {fmt : Fmt} {bytes : State → List Byte} {P : List Byte → Prop}
    (hc : exec c s = .next (s.hostCommand t op r fmt fun _ s => (s, .ok (bytes s)))) (hs : serves (s.upto t) op r fmt = true)
    (hp : P (bytes (taken (s.upto t) r))) : Answers c s (fun s' => ∃ p, Replied s' r op stOk 0 p ∧ P p) :=
  answers_of_served hc hs rfl (taken_hasPlace hs) fun _ hrep _ => ⟨_, hrep, hp⟩

theorem getStatus_replies (hs : serves (s.upto t) 0x0201 r (Fmt.fixed 0 []) = true) : Answers (.getStatus t r) s (fun s' => ∃ p,
    Replied s' r 0x0201 stOk 0 p ∧ p.length = 48 ∧ uAt p 0 1 = (s.upto t).get F.RST_STAT_MSTATE ∧
      uAt p 1 1 = (if (s.upto t).get F.RST_BOOT_SLOT < 2 then (s.upto t).get F.RST_BOOT_SLOT else 0xFF) ∧
      uAt p 2 2 = ((s.upto t).view 8).toNat % 65536 ∧ uAt p 4 4 = Config.serial.toNat ∧
      ((s.upto t).rst.mode = .recovery → p.drop 8 = List.replicate 40 0) ∧
      ((s.upto t).rst.mode ≠ .recovery → (∀ x ∈ [(8, 0x110010), (12, 0x110014), (16, 0x10000), (20, 0x80030), (24, 0x8002C), (28, 0xA0000),
          (32, 0x30004), (36, 0x70004), (40, 0xC0000)], uAt p x.1 4 = ((taken (s.upto t) r).view x.2).toNat) ∧
        (uAt p 44 4).testBit 0 = decide ((s.upto t).get F.ACQ_CFG_WIN % 4 ≠ 0) ∧ (uAt p 44 4).testBit 2 = (s.upto t).flag F.GLB_SESS_PROV ∧
        uAt p 44 4 < 8 ∧ ((uAt p 44 4).testBit 1 = false ↔ (s.upto t).cfg.staged = [] ∧ (s.upto t).cfg.keys = [] ∧ (s.upto t).cfg.tables = [] ∧
          (s.upto t).cfg.coefs = [] ∧ (s.upto t).cfg.bayMap = none))) := by
  refine answers_bytes rfl hs ?_
  rw [statusBytes_fields]
  have hh : statusFields (taken (s.upto t) r) = statusHead (s.upto t) ++
      if (s.upto t).rst.mode = .recovery then [(40, 0)] else statusTail (taken (s.upto t) r) := by
    unfold statusFields
    rw [taken_statusHead, taken_mode]
  rw [hh]
  by_cases hr : (s.upto t).rst.mode = .recovery
  case pos =>
    rw [if_pos hr]
    have hw : (statusHead (s.upto t) ++ [(40, 0)]).map Prod.fst = [1, 1, 2, 4, 40] := rfl
    obtain ⟨hm, hs, hv, hn⟩ := statusHead_reads (s.upto t) hw
    exact ⟨fields_length hw, hm, hs, hv, hn, fun _ => rfl, fun h => absurd hr h⟩
  case neg =>
    rw [if_neg hr]
    have hw := statusTail_widths (s.upto t) (taken (s.upto t) r)
    obtain ⟨hm, hs, hv, hn⟩ := statusHead_reads (s.upto t) hw
    refine ⟨fields_length hw, hm, hs, hv, hn, fun h => absurd h hr, fun _ => ?_⟩
    obtain ⟨hlt, h0, h2, h1⟩ := cfgReport_bits (taken (s.upto t) r)
    have hrep : uAt (fields (statusHead (s.upto t) ++ statusTail (taken (s.upto t) r))) 44 4 = (taken (s.upto t) r).cfgReport :=
      uAt_field hw 13 (hlt.trans (by decide)) rfl rfl
    rw [hrep, h0, h1, h2, taken_get, taken_flag, taken_cfg]
    refine ⟨?_, rfl, rfl, hlt, ?_⟩
    · simp only [List.forall_mem_cons, List.not_mem_nil, false_imp_iff, implies_true, and_true]
      exact ⟨uAt_field hw 4 (word_fits _) rfl rfl, uAt_field hw 5 (word_fits _) rfl rfl, uAt_field hw 6 (word_fits _) rfl rfl,
        uAt_field hw 7 (word_fits _) rfl rfl, uAt_field hw 8 (word_fits _) rfl rfl, uAt_field hw 9 (word_fits _) rfl rfl,
        uAt_field hw 10 (word_fits _) rfl rfl, uAt_field hw 11 (word_fits _) rfl rfl, uAt_field hw 12 (word_fits _) rfl rfl⟩
    · simp only [Bool.not_eq_false', Bool.and_eq_true, List.isEmpty_iff, Option.isNone_iff_eq_none, and_assoc]

section
variable {f n : Nat} (hf : f = uAt r.payload 0 2) (hs : serves (s.upto t) 0x0202 r (Fmt.fixed 4 []) = true)
include hf hs

/-- GET_CELLS replies the records of its groups in a row. -/
theorem getCells_replies (hn : n = uAt r.payload 2 2) (h1 : 1 ≤ f) (hn1 : 1 ≤ n) (hn2 : n ≤ 64) (hfn : f + n ≤ 641) : Answers (.getCells t r) s (fun s' => ∃ p,
    Replied s' r 0x0202 stOk 0 p ∧ p.length = 20 * n ∧ ∀ i < n, slice p (20 * i) 20 = (s.upto t).cellRecord (f + i)) := by
  subst hf hn
  refine answers_of_served (p := (List.range (uAt r.payload 2 2)).flatMap fun i => (s.upto t).cellRecord (uAt r.payload 0 2 + i)) rfl hs ?_
    (taken_hasPlace hs) fun s' hrep _ => ⟨_, hrep, pieces_length (fun i => cellRecord_length ..) _, fun i hi => ?_⟩
  · dsimp only
    rw [if_neg (by omega), if_neg (by omega)]
    simp only [taken_cellRecord]
    rfl
  · exact slice_pieces (fun i => cellRecord_length (s.upto t) (uAt r.payload 0 2 + i)) i hi

theorem getCells_refuses (hbad : f = 0 ∨ 640 < f) :
    Answers (.getCells t r) s (fun s' => Replied s' r 0x0202 stBadParam 0 (leBytes 2 0 ++ leBytes 2 0)) := by
  subst hf
  refine answers_of_served rfl hs ?_ (taken_hasPlace hs) fun s' hrep _ => hrep
  dsimp only
  rw [if_pos (by omega)]
  rfl

end

theorem pct_fits (x : F32) : pct x < 256 ^ 2 := (pct_le x).trans_lt (by decide)

theorem capSoh_fits (s : State) (c : Cell) : s.capSoh c < 256 ^ 2 := by
  unfold State.capSoh clip
  dsimp only
  split_ifs <;> omega

/-- Every field of a configured group's record. -/
theorem cellRecord_reads {a : State} {g : Nat} (hg : a.groupOk g = true) :
    uAt (a.cellRecord g) 0 4 = a.cellV g % 1048576 ∧ iAt (a.cellRecord g) 4 2 = clipS 16 (a.tGroup g) ∧
      ((a.cell g).init = true → uAt (a.cellRecord g) 6 2 = pct (a.cell g).soc ∧ uAt (a.cellRecord g) 8 2 = pct (a.usable (a.cell g)) ∧
        uAt (a.cellRecord g) 10 2 = min 65535 (pctUp (a.cell g).unc)) ∧
      ((a.cell g).init = false → uAt (a.cellRecord g) 6 6 = 0) ∧ uAt (a.cellRecord g) 12 2 = a.capSoh (a.cell g) ∧
      uAt (a.cellRecord g) 14 2 = (a.cell g).rgrow % 65536 ∧ uAt (a.cellRecord g) 16 1 = (a.cell g).qual % 256 ∧
      uAt (a.cellRecord g) 17 1 = cellFlags a g ∧ uAt (a.cellRecord g) 18 2 = 0 := by
  obtain ⟨hlo, hhi⟩ := clipS_range 15 (a.tGroup g)
  have hv : a.cellV g % 1048576 < 256 ^ 4 := (Nat.mod_lt _ (by decide)).trans (by decide)
  have ht : toCode 16 (clipS 16 (a.tGroup g)) < 256 ^ 2 := toCode_lt 16 _
  have hunc : min 65535 (pctUp (a.cell g).unc) < 256 ^ 2 := (Nat.min_le_left ..).trans_lt (by decide)
  have hflags : cellFlags a g < 256 ^ 1 := (cellFlags_bits a g).1
  have hcode : ∀ {p : List Byte}, uAt p 4 2 = toCode 16 (clipS 16 (a.tGroup g)) → iAt p 4 2 = clipS 16 (a.tGroup g) := fun h => by
    unfold iAt
    rw [h]
    exact ofCode_toCode hlo hhi
  rw [cellRecord_fields hg]
  cases hi : (a.cell g).init with
  | true =>
    have hw := cellFields_widths hi
    unfold cellFields at hw ⊢
    rw [hi] at hw ⊢
    exact ⟨uAt_field hw 0 hv rfl rfl, hcode (uAt_field hw 1 ht rfl rfl), fun _ => ⟨uAt_field hw 2 (pct_fits _) rfl rfl,
      uAt_field hw 3 (pct_fits _) rfl rfl, uAt_field hw 4 hunc rfl rfl⟩, fun h => absurd h (by decide),
      uAt_field hw 5 (capSoh_fits ..) rfl rfl, uAt_fields hw 6 rfl rfl, uAt_fields hw 7 rfl rfl, uAt_field hw 8 hflags rfl rfl, uAt_field hw 9 (by decide) rfl rfl⟩
  | false =>
    have hw := cellFields_widths_new hi
    unfold cellFields at hw ⊢
    rw [hi] at hw ⊢
    exact ⟨uAt_field hw 0 hv rfl rfl, hcode (uAt_field hw 1 ht rfl rfl), fun h => absurd h (by decide), fun _ => uAt_field hw 2 (by decide) rfl rfl,
      uAt_field hw 3 (capSoh_fits ..) rfl rfl, uAt_fields hw 4 rfl rfl, uAt_fields hw 5 rfl rfl, uAt_field hw 6 hflags rfl rfl, uAt_field hw 7 (by decide) rfl rfl⟩

theorem getString_replies (hs : serves (s.upto t) 0x0203 r (Fmt.fixed 0 []) = true) : Answers (.getString t r) s (fun s' => ∃ p,
    Replied s' r 0x0203 stOk 0 p ∧ p.length = 48 ∧
      (∀ x ∈ [(0, 0x50010), (4, 0x5001C), (8, 0x50020), (12, 0x50014), (16, 0x50018), (28, 0x60028), (32, 0x6002C), (36, 0x9001C), (40, 0x50034)],
        uAt p x.1 4 = ((s.upto t).word x.2).toNat) ∧
      (∀ x ∈ [(20, F.EST_STR_SOC_USOC), (22, F.EST_STR_USOC_LO), (24, F.EST_STR_USOC_HI), (26, F.EST_STR_SOC_UNCMAX)],
        uAt p x.1 2 = (s.upto t).get x.2) ∧
      uAt p 44 1 = (s.upto t).get F.CVI_INS_STAT_STATE ∧ uAt p 45 1 = (s.upto t).get F.PRT_CONTSTAT_CONN ∧
      uAt p 46 2 = ((s.upto t).view 0x60018).toNat % 65536) := by
  refine answers_bytes rfl hs ?_
  rw [stringBytes_fields, taken_stringFields]
  have hw := stringFields_widths (s.upto t)
  simp only [List.forall_mem_cons, List.not_mem_nil, false_imp_iff, implies_true, and_true]
  exact ⟨fields_length hw, ⟨uAt_field hw 0 (word_fits _) rfl rfl, uAt_field hw 1 (word_fits _) rfl rfl,
    uAt_field hw 2 (word_fits _) rfl rfl, uAt_field hw 3 (word_fits _) rfl rfl, uAt_field hw 4 (word_fits _) rfl rfl,
    uAt_field hw 9 (word_fits _) rfl rfl, uAt_field hw 10 (word_fits _) rfl rfl, uAt_field hw 11 (word_fits _) rfl rfl,
    uAt_field hw 12 (word_fits _) rfl rfl⟩, ⟨uAt_field hw 5 (get_fits 2) rfl rfl, uAt_field hw 6 (get_fits 2) rfl rfl,
    uAt_field hw 7 (get_fits 2) rfl rfl, uAt_field hw 8 (get_fits 2) rfl rfl⟩, uAt_field hw 13 (get_fits 1) rfl rfl,
    uAt_field hw 14 (get_fits 1) rfl rfl, uAt_fields hw 15 rfl rfl⟩

theorem getLimits_replies (hs : serves (s.upto t) 0x0204 r (Fmt.fixed 0 []) = true) : Answers (.getLimits t r) s (fun s' => ∃ p,
    Replied s' r 0x0204 stOk 0 p ∧ p.length = 92 ∧
      uAt p 0 4 = (s.upto t).get F.PRT_LDIS ∧ uAt p 4 4 = (s.upto t).get F.PRT_LCHG ∧ uAt p 8 1 = (s.upto t).get F.PRT_LIMIT_BIND_DIS ∧
      uAt p 9 1 = (s.upto t).get F.PRT_LIMIT_BIND_CHG ∧
      uAt p 10 1 = (s.upto t).get F.PRT_LIMIT_BLK_CHG + 2 * (s.upto t).get F.PRT_LIMIT_BLK_DIS ∧ uAt p 11 1 = 0 ∧
      ∀ i, i < 10 → uAt p (12 + 8 * i) 4 = (s.upto t).get (F.PRT_ENT_DIS.ix8 i) ∧ uAt p (16 + 8 * i) 4 = (s.upto t).get (F.PRT_ENT_CHG.ix8 i)) := by
  refine answers_bytes rfl hs ?_
  rw [limitBytes_fields, taken_limitFields]
  have hw := limitFields_widths (s.upto t)
  have h32 : 2 ^ 32 ≤ 256 ^ 4 := by decide
  have hb : (s.upto t).get F.PRT_LIMIT_BLK_CHG + 2 * (s.upto t).get F.PRT_LIMIT_BLK_DIS < 256 ^ 1 := by
    have hc : (s.upto t).get F.PRT_LIMIT_BLK_CHG < 2 := get_lt _ F.PRT_LIMIT_BLK_CHG
    have hd : (s.upto t).get F.PRT_LIMIT_BLK_DIS < 2 := get_lt _ F.PRT_LIMIT_BLK_DIS
    omega
  refine ⟨fields_length hw, uAt_field hw 0 (get_fits 4) rfl rfl, uAt_field hw 1 (get_fits 4) rfl rfl,
    uAt_field hw 2 (get_fits 1) rfl rfl, uAt_field hw 3 (get_fits 1) rfl rfl, uAt_field hw 4 hb rfl rfl,
    uAt_field hw 5 (by decide) rfl rfl, fun i hi => ⟨uAt_field hw (6 + 2 * i) (get_fits 4 h32) ?_ ?_, uAt_field hw (7 + 2 * i) (get_fits 4 h32) ?_ ?_⟩⟩
  all_goals interval_cases i <;> rfl

theorem hoursWord_fits (s : State) (n : Nat) : s.hoursWord n < 256 ^ 4 := by
  unfold State.hoursWord b2n
  dsimp only
  split_ifs <;> omega

theorem getHealth_replies (hs : serves (s.upto t) 0x0205 r (Fmt.fixed 0 []) = true) : Answers (.getHealth t r) s (fun s' => ∃ p,
    Replied s' r 0x0205 stOk 0 p ∧ p.length = 92 ∧
      (∀ n, n < 5 → uAt p (4 * n) 4 = (s.upto t).hoursWord n ∧ uAt p (20 + 4 * n) 4 = (s.upto t).bistWord n % 4294967296) ∧
      uAt p 40 4 = ((s.upto t).view 0x100000).toNat ∧
      (∀ i g, FlashRegion.all[i]? = some g → uAt p (44 + 4 * i) 4 = min 4294967295 ((s.upto t).flash.highest g)) ∧
      uAt p 72 2 = 366 - (s.upto t).flash.retBlocks ∧ uAt p 74 2 = 0 ∧ uAt p 76 4 = min 4294967295 (s.upto t).flash.swaps ∧
      uAt p 80 4 = ((s.upto t).view 0x50008).toNat ∧ uAt p 84 1 = (s.upto t).get F.RING_BREAK_BRKCNT ∧ uAt p 85 1 = 0 ∧
      uAt p 86 2 = (s.upto t).get F.TIM_ETH_LOSS ∧ uAt p 88 2 = (s.upto t).get (F.TIM_ETH_LOSS.ix 1) ∧ uAt p 90 2 = 0) := by
  refine answers_bytes rfl hs ?_
  rw [healthBytes_fields, taken_healthFields]
  have hw := healthFields_widths (s.upto t)
  have hsat : ∀ n, min 4294967295 n < 256 ^ 4 := fun n => (Nat.min_le_left ..).trans_lt (by decide)
  have hspare : 366 - (s.upto t).flash.retBlocks < 256 ^ 2 := (Nat.sub_le ..).trans_lt (by decide)
  refine ⟨fields_length hw, fun n hn => ⟨uAt_field hw n (hoursWord_fits _ n) ?_ ?_, uAt_fields hw (5 + n) ?_ ?_⟩,
    uAt_field hw 10 (word_fits _) rfl rfl, fun i g hg => ?_, uAt_field hw 18 hspare rfl rfl, uAt_field hw 19 (by decide) rfl rfl,
    uAt_field hw 20 (hsat _) rfl rfl, uAt_field hw 21 (word_fits _) rfl rfl, uAt_field hw 22 (get_fits 1) rfl rfl,
    uAt_field hw 23 (by decide) rfl rfl, uAt_field hw 24 (get_fits 2) rfl rfl, uAt_field hw 25 (get_fits 2) rfl rfl, uAt_field hw 26 (by decide) rfl rfl⟩
  case refine_5 =>
    obtain ⟨hi, he⟩ := List.getElem?_eq_some_iff.mp hg
    have hi : i < 7 := hi
    refine uAt_field hw (11 + i) (hsat _) ?_ ?_
    · subst he
      interval_cases i <;> rfl
    · interval_cases i <;> rfl
  all_goals interval_cases n <;> rfl

theorem safeStatus_replies (hs : serves (s.upto t) 0x0E01 r (Fmt.fixed 0 []) = true) : Answers (.safeStatus t r) s (fun s' => ∃ p,
    Replied s' r 0x0E01 stOk 0 p ∧ p.length = 24 ∧ ∀ i, i < 6 → uAt p (4 * i) 4 = ((s.upto t).word (0xA0000 + 4 * i)).toNat) := by
  refine answers_bytes rfl hs ?_
  have hb : [0xA0000, 0xA0004, 0xA0008, 0xA000C, 0xA0010, 0xA0014].flatMap (taken (s.upto t) r).rd =
      fields ((List.range 6).map fun i => (4, ((s.upto t).word (0xA0000 + 4 * i)).toNat)) := by
    simp only [← taken_word (s.upto t) r]
    rfl
  have hw : ((List.range 6).map fun i => (4, ((s.upto t).word (0xA0000 + 4 * i)).toNat)).map Prod.fst = List.replicate 6 4 := rfl
  rw [hb]
  refine ⟨fields_length hw, fun i hi => uAt_field hw i (word_fits _) ?_ ?_⟩
  all_goals interval_cases i <;> rfl

end

/-! ## JOB_STATUS and JOB_CANCEL (R291, R292, R307) -/

section
variable {s : State} {t : Nat} {r : Req} {j : Job}

theorem taken_job? (a : State) (r : Req) (i : Nat) : (taken a r).job? i = a.job? i := by
  unfold State.job?
  rw [taken_jobs]

theorem job?_id {a : State} {i : Nat} (h : a.job? i = some j) : j.id = i := by
  unfold State.job? at h
  have hd := List.find?_some h
  exact of_decide_eq_true hd

/-- A served request whose body answers at once keeps what its body makes of the jobs and of the current inputs. -/
theorem answers_jobs {c : Instr} {s1 : State} {op st n : Nat} {fmt : Fmt} {body : ReqId → State → State × HRes}
    {p : List Byte} {P : State → Prop} (hc : exec c s = .next (s.hostCommand t op r fmt body)) (h : serves (s.upto t) op r fmt = true)
    (hb : body (reqId r op false) (taken (s.upto t) r) = (s1, .reply st n p)) (hs : HasPlace r.session r.seq s1)
    (hP : ∀ s', Replied s' r op st n p → s'.jobs = s1.jobs → s'.cvi = s1.cvi → P s') : Answers c s P := by
  have ha := serves_auth h
  refine ⟨_, hc, ?_⟩
  rw [hostCommand_served _ _ _ _ _ _ h, hb]
  exact hP _ (command_replied (giveRes_replied s1 r op st n p ha (serves_target h) hs.1 hs.2)) ((command_jobs ..).trans (giveRes_jobs _ _ _ _ ha))
    ((command_cvi ..).trans (giveRes_cvi _ _ _ _ ha))

section
variable (hs : serves (s.upto t) 0x0601 r (Fmt.fixed 4 [2, 3]) = true)
include hs

theorem jobStatus_unknown (hj : (s.upto t).job? (uAt r.payload 0 2) = none) :
    Answers (.jobStatus t r) s (fun s' => Replied s' r 0x0601 stBadParam 0 (leBytes 2 0 ++ leBytes 2 0)) := by
  refine answers_of_served rfl hs ?_ (taken_hasPlace hs) fun _ hrep _ => hrep
  rw [taken_job?, hj]
  rfl

/-- The status of a job whose value the state holds is given as it stands. -/
theorem jobStatus_replies {v n : Nat} (hj : (s.upto t).job? (uAt r.payload 0 2) = some j)
    (hv : (taken (s.upto t) r).jobValue j = (taken (s.upto t) r, v, n)) : Answers (.jobStatus t r) s (fun s' =>
      Replied s' r 0x0601 stOk 0 (leBytes 1 j.st.code ++ leBytes 1 j.kind ++ leBytes 2 j.final ++ leBytes 4 v ++ leBytes 4 n)) := by
  refine answers_of_served (s1 := (taken (s.upto t) r).jobProgress j.id v n) rfl hs ?_ ((taken_hasPlace hs).of_host rfl) fun _ hrep _ => hrep
  rw [taken_job?, hj]
  dsimp only
  unfold State.jobStatus
  rw [hv]
  rfl

/-- An ended job stands as it ended. -/
theorem jobStatus_ended (hj : (s.upto t).job? (uAt r.payload 0 2) = some j) (he : j.st ≠ .running) : Answers (.jobStatus t r) s (fun s' =>
    Replied s' r 0x0601 stOk 0 (leBytes 1 j.st.code ++ leBytes 1 j.kind ++ leBytes 2 j.final ++ leBytes 4 j.value ++ leBytes 4 j.total)) :=
  jobStatus_replies hs hj (by unfold State.jobValue; rw [if_pos he])

/-- The value of a learning job does not fall. -/
theorem jobStatus_learning (hj : (s.upto t).job? (uAt r.payload 0 2) = some j) (hr : j.st = .running) (hop : j.op = 0x0503) :
    Answers (.jobStatus t r) s (fun s' => ∃ v, j.value ≤ v ∧
      Replied s' r 0x0601 stOk 0 (leBytes 1 0 ++ leBytes 1 j.kind ++ leBytes 2 j.final ++ leBytes 4 v ++ leBytes 4 j.total)) := by
  have hv : (taken (s.upto t) r).jobValue j = (taken (s.upto t) r, max j.value (taken (s.upto t) r).lrnProgress, j.total) := by
    unfold State.jobValue
    rw [if_neg (not_not.mpr hr), if_pos hop]
  have h := jobStatus_replies hs hj hv
  rw [hr] at h
  obtain ⟨s', he, hrep⟩ := h
  exact ⟨s', he, _, Nat.le_max_left .., hrep⟩

end

/-- A change of a session that leaves its cache leaves a request its place. -/
theorem HasPlace.session {n q : Nat} {a b : State} (h : HasPlace n q a) (m : Nat) (f : Session → Session) (hf : ∀ x, (f x).cache = x.cache)
    (hb : b.host.sess = modNth a.host.sess m f) : HasPlace n q b := by
  refine h.of_cache (by rw [hb, modNth_length]) ?_
  unfold State.session
  rw [hb]
  by_cases hm : m = n
  · subst hm
    exact nth_modNth_keep Session.cache _ _ _ _ hf
  · rw [nth_modNth_other _ _ _ _ _ hm]

theorem HasPlace.qLost {n q : Nat} {a : State} (h : HasPlace n q a) (m : Nat) : HasPlace n q (a.qLost m) := h.of_host (qLost_host ..)

theorem HasPlace.sendEvent {n q : Nat} {a : State} (h : HasPlace n q a) (m num c ns st j : Nat) (d : List Byte) :
    HasPlace n q (a.sendEvent m num c ns st j d) := by
  have hroom : HasPlace n q (a.eventRoom m) := by
    unfold State.eventRoom
    dsimp only
    split_ifs
    · refine HasPlace.qLost ?_ _
      exact h.of_sess rfl
    · exact h
    · refine HasPlace.qLost ?_ _
      exact h.session m (fun y => { y with eventq := y.eventq.drop 1, lost := min 255 (y.lost + 1) }) (fun _ => rfl) rfl
    · exact h
  unfold State.sendEvent State.queueEvent
  dsimp only
  split
  · refine HasPlace.toSpi ?_ _
    exact hroom.session m (fun y => { y with evseq := ((a.eventRoom m).eventPkt m num c ns st j d).seq, lost := 0 }) (fun _ => rfl) rfl
  · refine HasPlace.of_sess (s := _) ?_ rfl
    exact hroom.session m _ (fun x => by split <;> rfl) rfl

/-- The end of a running job leaves a request its place. -/
theorem HasPlace.jobEnd {n q : Nat} {a : State} (h : HasPlace n q a) {i : Nat} (hj : a.job? i = some j) (hr : j.st = .running) (st : JobSt)
    (fin : Nat) (d : List Byte) : HasPlace n q (a.jobEnd i st fin d) := by
  have hm : HasPlace n q (a.jobMod i (jobOver a st fin)) := h.of_host rfl
  rw [jobEnd_running hj hr]
  split
  · exact hm.sendEvent ..
  · exact hm

/-- No calibration measurement runs any more. -/
def calStopped (a : State) : State := { a with cvi := { a.cvi with cmJob := none } }

/-- The cancel of a calibration measurement ends it with its job. -/
theorem jobStop_calibration (a : State) (hop : j.op = 0x0C03) : a.jobStop j = (calStopped a).jobEnd j.id .cancelled stRefused [] := by
  unfold State.jobStop
  dsimp only
  rw [hop, if_neg (by decide), if_neg (by decide), if_neg (by decide), if_pos rfl]
  rfl

section
variable (hs : serves (s.upto t) 0x0602 r (Fmt.fixed 4 [2, 3]) = true) (hj : (s.upto t).job? (uAt r.payload 0 2) = some j)
  (ho : j.session = r.session)
include hs hj ho

/-- A cancel of a session's own job by its state: the body of JOB_CANCEL. -/
theorem jobCancel_answers {s1 : State} {st : Nat} {p : List Byte} {P : State → Prop}
    (hb : (if j.st ≠ .running then (taken (s.upto t) r, HRes.ok [])
      else if j.op = 0x0402 ∨ j.op = 0x0903 then (taken (s.upto t) r, .refused 0x000E)
      else ((taken (s.upto t) r).jobStop j, .ok [])) = (s1, .reply st 0 p)) (hp : HasPlace r.session r.seq s1)
    (hP : ∀ s', Replied s' r 0x0602 st 0 p → s'.jobs = s1.jobs → s'.cvi = s1.cvi → P s') : Answers (.jobCancel t r) s P := by
  refine answers_jobs rfl hs ?_ hp hP
  rw [taken_job?, hj]
  exact (if_neg fun h => h.1 ho).trans hb

theorem jobCancel_ended (he : j.st ≠ .running) :
    Answers (.jobCancel t r) s (fun s' => Replied s' r 0x0602 stOk 0 [] ∧ s'.jobs = (s.upto t).jobs) :=
  jobCancel_answers hs hj ho (if_pos he) (taken_hasPlace hs) fun _ hrep hjobs _ => ⟨hrep, hjobs.trans (taken_jobs ..)⟩

theorem jobCancel_refused (hr : j.st = .running) (hop : j.op = 0x0402 ∨ j.op = 0x0903) : Answers (.jobCancel t r) s (fun s' =>
    Replied s' r 0x0602 stRefused 0 (leBytes 2 14 ++ leBytes 2 0xFFFF) ∧ s'.jobs = (s.upto t).jobs) :=
  jobCancel_answers hs hj ho ((if_neg (not_not.mpr hr)).trans (if_pos hop)) (taken_hasPlace hs) fun _ hrep hjobs _ =>
    ⟨hrep, hjobs.trans (taken_jobs ..)⟩

theorem jobCancel_calibration (hr : j.st = .running) (hop : j.op = 0x0C03) : Answers (.jobCancel t r) s (fun s' =>
    Replied s' r 0x0602 stOk 0 [] ∧ s'.cvi.cmJob = none ∧ ∃ k, s'.job? j.id = some k ∧ k.st = .cancelled ∧ k.final = stRefused) := by
  have hja : (calStopped (taken (s.upto t) r)).job? j.id = some j := by
    rw [← job?_id hj] at hj
    exact (taken_job? ..).trans hj
  refine jobCancel_answers hs hj ho (s1 := (calStopped (taken (s.upto t) r)).jobEnd j.id .cancelled stRefused []) (st := stOk) (p := []) ?_
    (HasPlace.jobEnd (a := calStopped (taken (s.upto t) r)) ((taken_hasPlace hs).of_host rfl) hja hr ..)
    fun s' hrep hjobs hcvi => ⟨hrep, ?_, jobOver (calStopped (taken (s.upto t) r)) .cancelled stRefused j, ?_, rfl, rfl⟩
  · rw [if_neg (not_not.mpr hr), if_neg (by rw [hop]; decide), jobStop_calibration _ hop]
    rfl
  · rw [hcvi, jobEnd_leaves State.cvi (fun s n => by unfold State.qLost; rw [count_cvi]) (fun _ _ => rfl) (fun _ _ => rfl) (fun _ _ => rfl)
      (fun _ _ => rfl)]
    rfl
  · unfold State.job?
    rw [hjobs]
    exact jobEnd_job? hja hr ..

end

end

end Sys2Proof.Machine.Laws

namespace Sys2Proof.Proofs

open Sys2Proof.Machine Sys2Proof.Machine.Laws Sys2Proof.Safety

/-- Settles O33: each status reply is a row of fields (`statusBytes_fields`, `cellRecord_fields`, …), which read back at their offsets
(`uAt_fields`); the job opcodes by the state of the job (`jobStatus_replies`, `jobCancel_answers`). -/
theorem jobAndStatusOpcodesReply : Obligations.JobAndStatusOpcodesReply := by
  unfold Obligations.JobAndStatusOpcodesReply
  refine ⟨?jobs, ?status⟩
  case jobs =>
    rintro s _ t r j rfl
    exact ⟨fun hs => ⟨fun hj => jobStatus_unknown hs hj, fun hj he => jobStatus_ended hs hj he, fun hj hr hop => jobStatus_learning hs hj hr hop⟩,
      fun hs hj ho => ⟨fun he => jobCancel_ended hs hj ho he, fun hr hop => jobCancel_refused hs hj ho hr hop,
        fun hr hop => jobCancel_calibration hs hj ho hr hop⟩⟩
  case status =>
    rintro s _ t r rfl
    refine ⟨fun hs => getStatus_replies hs, fun f n hf hn hs => ⟨fun h1 hn1 hn2 hfn => ?absent, fun h1 hn1 hn2 hfn => ?cells,
      fun hbad => getCells_refuses hf hs hbad⟩, fun hs => getString_replies hs, fun hs => getLimits_replies hs, fun hs => getHealth_replies hs,
      fun hs => safeStatus_replies hs⟩
    case absent =>
      obtain ⟨s', he, p, hrep, hlen, hrec⟩ := getCells_replies hf hs hn h1 hn1 hn2 hfn
      exact ⟨s', he, p, hrep, hlen, fun i hi hg => (hrec i hi).trans (cellRecord_absent hg)⟩
    case cells =>
      obtain ⟨s', he, p, hrep, -, hrec⟩ := getCells_replies hf hs hn h1 hn1 hn2 hfn
      refine ⟨s', he, p, hrep, fun i c d g hi hg hok hc hd => ?_⟩
      obtain rfl : d = (s.upto t).cellRecord g := by rw [hd, hrec i hi, hg]
      subst hc
      obtain ⟨hv, ht, hnew, hold, hcap, hgrow, hqual, hflags, hpad⟩ := cellRecord_reads hok
      obtain ⟨-, h0, h1, h2, h3, h4, h5⟩ := cellFlags_bits (s.upto t) g
      rw [hflags]
      exact ⟨hv, ht, hnew, hold, hcap, hgrow, hqual, h0, h1, h2, h3, h4, h5, hpad⟩

end Sys2Proof.Proofs
end

section
/-! Learning jobs: their start, the passage from phase to phase, their end and their failure; the start of a sweep (O15). -/

namespace Sys2Proof.Machine.Laws

open Sys2Proof.Safety

/-! ## What a served request leaves of learning and the sweep -/

/-- What neither the host's records nor the listen windows touch, the acceptance of a request leaves. -/
theorem taken_leaves {β : Type} (g : State → β) (hh : ∀ (s : State) h, g { s with host := h } = g s)
    (hl : ∀ (s : State) l, g { s with rst := { s.rst with listen := l } } = g s) (a : State) (r : Req) : g (taken a r) = g a := by
  have ha : g (a.accept r) = g a := hh a _
  obtain h | ⟨l, h⟩ := taken_split a r
  · rw [h, ha]
  · rw [h, hl, ha]

theorem taken_carrying (a : State) (r : Req) : (taken a r).carrying = a.carrying :=
  taken_leaves State.carrying (fun _ _ => rfl) (fun _ _ => rfl) a r

theorem taken_tGroup (a : State) (r : Req) (g : Nat) : (taken a r).tGroup g = a.tGroup g :=
  taken_leaves (State.tGroup · g) (fun _ _ => rfl) (fun _ _ => rfl) a r

theorem taken_groups (a : State) (r : Req) : (taken a r).groups = a.groups :=
  taken_leaves State.groups (fun _ _ => rfl) (fun _ _ => rfl) a r

theorem taken_cRate (a : State) (r : Req) (x : Nat) : (taken a r).cRate x = a.cRate x :=
  taken_leaves (State.cRate · x) (fun _ _ => rfl) (fun _ _ => rfl) a r

theorem taken_jobRoom (a : State) (r : Req) : (taken a r).jobRoom = a.jobRoom := by unfold State.jobRoom; rw [taken_jobs]

theorem taken_sweeping (a : State) (r : Req) : (taken a r).sweeping = a.sweeping := by unfold State.sweeping; rw [taken_imp]

/-- A served request whose body answers at once keeps what its body makes of learning, of the sweep and of their registers. -/
theorem answers_learning {c : Instr} {s s1 : State} {t op st j : Nat} {r : Req} {fmt : Fmt} {body : ReqId → State → State × HRes}
    {p : List Byte} {P : State → Prop} (hc : exec c s = .next (s.hostCommand t op r fmt body)) (h : serves (s.upto t) op r fmt = true)
    (hb : body (reqId r op false) (taken (s.upto t) r) = (s1, .reply st j p)) (hs : HasPlace r.session r.seq s1)
    (hP : ∀ s', Replied s' r op st j p → s'.lrn = s1.lrn → s'.imp = s1.imp →
      (∀ f : Fld, replyReg f.addr = false → s'.get f = s1.get f) → P s') : Answers c s P := by
  have ha := serves_auth h
  refine ⟨_, hc, ?_⟩
  rw [hostCommand_served _ _ _ _ _ _ h, hb]
  refine hP _ (command_replied (giveRes_replied s1 r op st j p ha (serves_target h) hs.1 hs.2))
    ((command_lrn ..).trans (giveRes_lrn _ _ _ _ ha)) ((command_imp ..).trans (giveRes_imp _ _ _ _ ha)) fun f hf => ?_
  unfold State.get
  rw [command_word, giveRes_word _ _ _ _ ha (serves_session h) hf]

/-- A job is opened where a learning job or a sweep may begin: none runs, and there is room. -/
theorem taken_idle {a : State} {r : Req} (hj : a.lrn.job = none) (hw : a.sweeping = false) :
    ¬ ((taken a r).lrn.job.isSome || (taken a r).sweeping) = true := by
  rw [taken_lrn, taken_sweeping, hj, hw]
  decide

/-- A named field reads what was written: `decide` shows that it lies in its word. -/
theorem get_set_self (s : State) (f : Fld) (x : Nat) (h : f.lo + f.w ≤ 32) : (s.set f x).get f = x % 2 ^ f.w := get_set_same s f x h

theorem flag_setB_self (s : State) (f : Fld) (b : Bool) (h : f.lo + f.w ≤ 32 ∧ f.w = 1) : (s.setB f b).flag f = b :=
  flag_setB_same s f b h.1 h.2

/-! ## The phases of a learning job (R145, Table 6.3) -/

theorem lrnPhase_get (s : State) {n : Nat} (hn : n < 8) : (s.lrnPhase n).get F.EST_LRN_STAT_PHASE = n :=
  (get_set_self s F.EST_LRN_STAT_PHASE n (by decide)).trans (Nat.mod_eq_of_lt hn)

/-- LEARN_START that nothing bars begins CHARGE (R145, R146). -/
theorem learnStart_begins {s : State} {t : Nat} {r : Req} (hs : serves (s.upto t) 0x0503 r (Fmt.fixed 6 []) = true)
    (hc : (s.upto t).carrying = true) (hT : ∀ g ∈ (s.upto t).groups, 1500 ≤ (s.upto t).tGroup g ∧ (s.upto t).tGroup g ≤ 3500)
    (hj : (s.upto t).lrn.job = none) (hw : (s.upto t).sweeping = false) (hr1 : 50 ≤ uAt r.payload 0 2) (hr2 : uAt r.payload 0 2 ≤ 200)
    (hc1 : 50 ≤ uAt r.payload 2 2) (hc2 : uAt r.payload 2 2 ≤ 500) (ht : uAt r.payload 4 2 ≤ 10000 ∨ uAt r.payload 4 2 = 65535)
    (hroom : (s.upto t).jobRoom = true) : Answers (.learnStart t r) s (fun s' => ∃ j, Replied s' r 0x0503 stAccepted j [] ∧
      s'.lrn.job = some j ∧ s'.get F.EST_LRN_STAT_PHASE = 1 ∧ s'.lrn.setp = -((s.upto t).cRate (uAt r.payload 2 2)) ∧
      s'.lrn.rate = uAt r.payload 0 2 ∧ s'.lrn.target = uAt r.payload 4 2) := by
  have hcar : ¬ (!(taken (s.upto t) r).carrying) = true := by rw [taken_carrying, hc]; decide
  have hTs : ¬ (taken (s.upto t) r).groups.any (fun g => decide ((taken (s.upto t) r).tGroup g < 1500) ||
      decide (3500 < (taken (s.upto t) r).tGroup g)) = true := by
    simp only [taken_groups, taken_tGroup, List.any_eq_true, Bool.or_eq_true, decide_eq_true_eq]
    rintro ⟨g, hg, h⟩
    have := hT g hg
    omega
  have hrm : ¬ (!(taken (s.upto t) r).jobRoom) = true := by rw [taken_jobRoom, hroom]; decide
  refine answers_learning rfl hs ((if_neg hcar).trans <| (if_neg hTs).trans <| (if_neg (taken_idle hj hw)).trans <| (if_neg (by omega)).trans <|
    (if_neg (by omega)).trans <| (if_neg (by omega)).trans <| if_neg hrm) ((taken_hasPlace hs).of_host rfl) fun s' hrep hlrn _ hget =>
      ⟨_, hrep, ?_⟩
  rw [hlrn, hget F.EST_LRN_STAT_PHASE rfl, lrnPhase_get _ (by decide), ← taken_cRate _ r]
  exact ⟨rfl, rfl, rfl, rfl, rfl⟩

/-- A phase whose end condition holds gives way to the next (Table 6.3). -/
theorem learnPhaseEnd_next {s : State} {t : Nat} (hj : (s.upto t).lrn.job ≠ none) (hd : (s.upto t).lrnDone = true)
    (hn : (s.upto t).get F.EST_LRN_STAT_PHASE < 4 ∨ (s.upto t).get F.EST_LRN_STAT_PHASE = 4 ∧ (s.upto t).lrn.target ≠ 65535) :
    Answers (.learnPhaseEnd t) s (fun s' => s'.get F.EST_LRN_STAT_PHASE = (s.upto t).get F.EST_LRN_STAT_PHASE + 1 ∧
      s'.lrn.phaseAt = (s.upto t).now ∧ s'.lrn.phaseQ = (s.upto t).cvi.qS ∧ s'.lrn.job = (s.upto t).lrn.job) := by
  refine answers_of_guard rfl (by rw [hd, Option.isSome_iff_ne_none.2 hj]; rfl) (if_neg (by omega)) ?_
  rw [command_get, command_lrn]
  exact ⟨lrnPhase_get _ (by omega), rfl, rfl, rfl⟩

/-! ## The end of a learning job (R146, R147) -/

theorem restGrant_leaves {β : Type} (g : State → β) (hf : ∀ s b, g (State.setB s F.EST_FLAGS_RESTING b) = g s)
    (he : ∀ (s : State) e, g { s with est := e } = g s) (s : State) (n : Nat) : g (s.restGrant n) = g s := by
  unfold State.restGrant
  split
  · rw [he, hf]
  · rw [he, hf]

/-- What the requests that waited for the job's end do not touch, the end of a learning job leaves. -/
theorem applyLater_leaves {β : Type} (g : State → β) (hf : ∀ s b, g (State.setB s F.EST_FLAGS_RESTING b) = g s)
    (he : ∀ (s : State) e, g { s with est := e } = g s) (hc : ∀ (s : State) c, g { s with ctl := c } = g s) (s : State) :
    g s.applyLater = g s := by
  unfold State.applyLater
  refine (foldl_leaves g _ (fun a x => ?_) _ _).trans (hc s _)
  split
  · exact hc a _
  · exact restGrant_leaves g hf he a _

section
variable (s : State)

theorem lrnOver_jobs : s.lrnOver.jobs = s.jobs :=
  applyLater_leaves State.jobs (fun _ _ => rfl) (fun _ _ => rfl) (fun _ _ => rfl) _

theorem lrnOver_job? (i : Nat) : s.lrnOver.job? i = s.job? i := by unfold State.job?; rw [lrnOver_jobs]

theorem lrnOver_lrn : s.lrnOver.lrn = { s.lrn with job := none, setp := 0 } :=
  applyLater_leaves State.lrn (fun _ _ => rfl) (fun _ _ => rfl) (fun _ _ => rfl) _

theorem lrnOver_phase : s.lrnOver.get F.EST_LRN_STAT_PHASE = 0 :=
  (applyLater_leaves (State.get · F.EST_LRN_STAT_PHASE) (fun _ _ => get_set_elsewhere _ _ _ _ (by decide)) (fun _ _ => rfl) (fun _ _ => rfl)
    _).trans (get_set_self _ F.EST_LRN_STAT_PHASE 0 (by decide))

/-- The end of a job leaves every field but those that count a full queue. -/
theorem jobEnd_get (i : Nat) (st : JobSt) (fin : Nat) (d : List Byte) {f : Fld} (hf : replyReg f.addr = false) :
    (s.jobEnd i st fin d).get f = s.get f :=
  ((Stands.refl replyReg s).jobEnd (fun _ h => h) i st fin d).get hf

theorem jobEnd_flag (i : Nat) (st : JobSt) (fin : Nat) (d : List Byte) {f : Fld} (hf : replyReg f.addr = false) :
    (s.jobEnd i st fin d).flag f = s.flag f :=
  congrArg (· == 1) (jobEnd_get s i st fin d hf)

theorem jobEnd_lrn (i : Nat) (st : JobSt) (fin : Nat) (d : List Byte) : (s.jobEnd i st fin d).lrn = s.lrn :=
  jobEnd_leaves State.lrn (fun _ _ => count_lrn ..) (fun _ _ => rfl) (fun _ _ => rfl) (fun _ _ => rfl) (fun _ _ => rfl) s i st fin d

theorem jobEnd_imp (i : Nat) (st : JobSt) (fin : Nat) (d : List Byte) : (s.jobEnd i st fin d).imp = s.imp :=
  jobEnd_leaves State.imp (fun _ _ => count_imp ..) (fun _ _ => rfl) (fun _ _ => rfl) (fun _ _ => rfl) (fun _ _ => rfl) s i st fin d

end

theorem command_job? (s : State) (t : Nat) (f : State → State) (i : Nat) : (s.command t f).job? i = (f (s.upto t)).job? i := by
  unfold State.job?
  rw [command_jobs]

theorem lrnEnd_eq {s : State} {i : Nat} (h : s.lrn.job = some i) : s.lrnEnd = s.lrnOver.jobEnd i .done stOk [] := by
  unfold State.lrnEnd
  rw [h]

/-- The last phase ends the job: RETURN, or the second rest where no target is set (R146). -/
theorem learnPhaseEnd_ends {s : State} {t : Nat} (hj : (s.upto t).lrn.job ≠ none) (hd : (s.upto t).lrnDone = true)
    (hn : (s.upto t).get F.EST_LRN_STAT_PHASE = 5 ∨ (s.upto t).get F.EST_LRN_STAT_PHASE = 4 ∧ (s.upto t).lrn.target = 65535) :
    Answers (.learnPhaseEnd t) s (fun s' => s'.get F.EST_LRN_STAT_PHASE = 0 ∧ s'.lrn.job = none ∧
      ∀ id j, (s.upto t).lrn.job = some id → (s.upto t).job? id = some j → j.st = .running →
        ∃ k, s'.job? id = some k ∧ k.st = .done ∧ k.value = j.total) := by
  obtain ⟨i, hi⟩ := Option.ne_none_iff_exists'.1 hj
  refine answers_of_guard rfl (by rw [hd, hi]; rfl) ((if_pos hn).trans (lrnEnd_eq hi)) ⟨?_, ?_, fun id j hid hjob hr => ?_⟩
  · rw [command_get, jobEnd_get _ _ _ _ _ rfl, lrnOver_phase]
  · rw [command_lrn, jobEnd_lrn, lrnOver_lrn]
  · obtain rfl : i = id := Option.some.inj (hi.symm.trans hid)
    rw [← lrnOver_job?] at hjob
    exact ⟨_, (command_job? ..).trans (jobEnd_job? hjob hr ..), rfl, rfl⟩

/-- What the failure of a learning job shows before the job itself ends (R147). -/
def lrnFailed (s : State) (code : Nat) : State :=
  ((s.lrnOver.set F.EST_LRN_STAT_LASTDQ code).setB F.EST_LRN_STAT_JOBFAIL_SEEN true).raise 36 []

theorem lrnFail_eq {s : State} {i : Nat} (h : s.lrn.job = some i) (code : Nat) :
    s.lrnFail code = (lrnFailed s code).jobEnd i .failed stRefused [] := by
  unfold State.lrnFail
  rw [h]
  rfl

section
variable (s : State) (code : Nat)

/-- An event leaves the fields of every register but EVR_STAT. -/
theorem raise_get_other (n : Nat) (d : List Byte) {f : Fld} (hf : f.addr ≠ 0x20004) : (s.raise n d).get f = s.get f := by
  unfold State.get
  rw [raise_word_other _ _ _ hf]

theorem lrnFailed_jobs : (lrnFailed s code).jobs = s.jobs := (raise_jobs ..).trans (lrnOver_jobs s)

theorem lrnFailed_lrn : (lrnFailed s code).lrn = { s.lrn with job := none, setp := 0 } := (raise_lrn ..).trans (lrnOver_lrn s)

theorem lrnFailed_phase : (lrnFailed s code).get F.EST_LRN_STAT_PHASE = 0 := by
  unfold lrnFailed State.setB
  rw [raise_get_other _ _ _ (by decide), get_set_clear _ _ _ _ (by decide), get_set_clear _ _ _ _ (by decide), lrnOver_phase]

theorem lrnFailed_lastdq : (lrnFailed s code).get F.EST_LRN_STAT_LASTDQ = code % 16 := by
  unfold lrnFailed State.setB
  rw [raise_get_other _ _ _ (by decide), get_set_clear _ _ _ _ (by decide), get_set_self _ _ _ (by decide)]
  rfl

theorem lrnFailed_seen : (lrnFailed s code).flag F.EST_LRN_STAT_JOBFAIL_SEEN = true :=
  (congrArg (· == 1) (raise_get_other _ _ _ (by decide))).trans (flag_setB_self _ _ true (by decide))

end

/-- A phase that takes too long fails the job (R147). -/
theorem learnPhaseTimeout_fails {s : State} {t : Nat} (hj : (s.upto t).lrn.job ≠ none)
    (hl : (s.upto t).lrn.phaseAt + (s.upto t).lrnLimit < (s.upto t).now) : Answers (.learnPhaseTimeout t) s (fun s' =>
      s'.get F.EST_LRN_STAT_PHASE = 0 ∧ s'.lrn.job = none ∧ s'.flag F.EST_LRN_STAT_JOBFAIL_SEEN = true ∧
      s'.get F.EST_LRN_STAT_LASTDQ = 0 ∧ 36 ∈ s'.evr.pend ∧
      ∀ id j, (s.upto t).lrn.job = some id → (s.upto t).job? id = some j → j.st = .running →
        ∃ k, s'.job? id = some k ∧ k.st = .failed ∧ k.final = stRefused) := by
  obtain ⟨i, hi⟩ := Option.ne_none_iff_exists'.1 hj
  refine answers_of_guard rfl (by rw [hi, Option.isSome_some, Bool.true_and]; exact decide_eq_true hl) (lrnFail_eq hi 0)
    ⟨?_, ?_, ?_, ?_, ?_, fun id j hid hjob hr => ?_⟩
  · rw [command_get, jobEnd_get _ _ _ _ _ rfl, lrnFailed_phase]
  · rw [command_lrn, jobEnd_lrn, lrnFailed_lrn]
  · rw [command_flag, jobEnd_flag _ _ _ _ _ rfl, lrnFailed_seen]
  · rw [command_get, jobEnd_get _ _ _ _ _ rfl, lrnFailed_lastdq]
  · rw [command_evr_pend, jobEnd_pend]
    exact raise_mem ..
  · obtain rfl : i = id := Option.some.inj (hi.symm.trans hid)
    have hf : (lrnFailed (s.upto t) 0).job? i = some j := by
      unfold State.job? at hjob ⊢
      rwa [lrnFailed_jobs]
    exact ⟨_, (command_job? ..).trans (jobEnd_job? hf hr ..), rfl, rfl⟩

/-! ## The start of a sweep (R153) -/

/-- The results and the frequencies of the sweep before are cleared. -/
def impCleared (s : State) : State :=
  (List.range 8).foldl (fun (a : State) k => a.set (F.EST_IMP_FREQ.ix k) 0)
    { s with regs := s.regs.filter (fun (x : Nat × Word) => decide (x.1 < 0x64000) || decide (0x6E000 ≤ x.1)) }

section
variable (s : State) (pts : List ImpPt) (ampl : Nat) (job : Option Nat)

theorem impBegin_regs : (s.impBegin pts ampl job).regs =
    ((((impCleared s).set F.EST_IMP_STAT_NPTS pts.length).set F.EST_IMP_STAT_POINT 0).set F.EST_IMP_STAT_STATE 0).regs := rfl

theorem impBegin_host : (s.impBegin pts ampl job).host = s.host := by
  unfold State.impBegin
  dsimp only
  rw [set_host, set_host, set_host]
  exact foldl_leaves State.host (fun (a : State) k => a.set (F.EST_IMP_FREQ.ix k) 0) (fun _ _ => rfl) _ _

theorem impBegin_state : (s.impBegin pts ampl job).get F.EST_IMP_STAT_STATE = 0 := by
  rw [get_congr (impBegin_regs s pts ampl job), get_set_self _ _ _ (by decide), Nat.zero_mod]

theorem impBegin_point : (s.impBegin pts ampl job).get F.EST_IMP_STAT_POINT = 0 := by
  rw [get_congr (impBegin_regs s pts ampl job), get_set_clear _ _ _ _ (by decide), get_set_self _ _ _ (by decide), Nat.zero_mod]

theorem impBegin_npts : (s.impBegin pts ampl job).get F.EST_IMP_STAT_NPTS = pts.length % 16 := by
  rw [get_congr (impBegin_regs s pts ampl job), get_set_clear _ _ _ _ (by decide), get_set_clear _ _ _ _ (by decide),
    get_set_self _ _ _ (by decide)]
  rfl

end

theorem sweepPts_length (p : List Byte) : (sweepPts p).length = uAt p 0 1 := by simp [sweepPts]

/-- The job of a requested sweep is opened. -/
def sweepOpened (a : State) (r : Req) : State × Nat :=
  a.jobStart 0x0504 r.session 1 (65536 * uAt r.payload 0 1 + (nth { freq := 0, cycles := 0 } (sweepPts r.payload) 0).cycles)

/-- IMPEDANCE_SWEEP that nothing bars begins the sweep of its points (R149, R153). -/
theorem impedanceSweep_begins {s : State} {t : Nat} {r : Req} (hs : serves (s.upto t) 0x0504 r
      { len := fun p => decide (4 ≤ p.length) && p.length == 4 + 8 * uAt p 0 1,
        pad := 1 :: ((List.range 255).flatMap (fun i => [10 + 8 * i, 11 + 8 * i])) } = true)
    (hc : (s.upto t).carrying = true) (hrate : (s.upto t).get F.RING_CTRL_RATE = 0) (hj : (s.upto t).lrn.job = none)
    (hw : (s.upto t).sweeping = false) (hn1 : 1 ≤ uAt r.payload 0 1) (hn8 : uAt r.payload 0 1 ≤ 8) (ha1 : 1000 ≤ uAt r.payload 2 2)
    (ha2 : uAt r.payload 2 2 ≤ 20000) (hok : ∀ p ∈ sweepPts r.payload, p.ok = true) (hroom : (s.upto t).jobRoom = true) :
    Answers (.impedanceSweep t r) s (fun s' => ∃ j, Replied s' r 0x0504 stAccepted j [] ∧ s'.imp.job = some j ∧
      s'.imp.pts = sweepPts r.payload ∧ s'.imp.ampl = uAt r.payload 2 2 ∧ s'.get F.EST_IMP_STAT_NPTS = uAt r.payload 0 1 ∧
      s'.get F.EST_IMP_STAT_POINT = 0 ∧ s'.get F.EST_IMP_STAT_STATE = 0) := by
  have hcar : ¬ (!(taken (s.upto t) r).carrying || (taken (s.upto t) r).get F.RING_CTRL_RATE != 0) = true := by
    rw [taken_carrying, taken_get, hc, hrate]
    decide
  have hfind : (sweepPts r.payload).findIdx? (fun p => !p.ok) = none :=
    List.findIdx?_eq_none_iff.2 fun p hp => by rw [hok p hp]; rfl
  have hrm : ¬ (!(taken (s.upto t) r).jobRoom) = true := by rw [taken_jobRoom, hroom]; decide
  refine answers_learning (s1 := (sweepOpened (taken (s.upto t) r) r).1.impBegin (sweepPts r.payload) (uAt r.payload 2 2)
      (some (sweepOpened (taken (s.upto t) r) r).2)) (j := (sweepOpened (taken (s.upto t) r) r).2) rfl hs
    ((if_neg hcar).trans <| (if_neg (taken_idle hj hw)).trans <| (if_neg (by omega)).trans <| (if_neg (by omega)).trans <| ?_)
    ((taken_hasPlace hs).of_host (impBegin_host ..)) fun s' hrep _ himp hget => ⟨_, hrep, ?_⟩
  · rw [hfind]
    exact if_neg hrm
  · rw [himp, hget F.EST_IMP_STAT_NPTS rfl, hget F.EST_IMP_STAT_POINT rfl, hget F.EST_IMP_STAT_STATE rfl, impBegin_npts, impBegin_point,
      impBegin_state, sweepPts_length, Nat.mod_eq_of_lt (by omega)]
    exact ⟨rfl, rfl, rfl, rfl, rfl, rfl⟩

end Sys2Proof.Machine.Laws

namespace Sys2Proof.Proofs

open Sys2Proof.Machine Sys2Proof.Machine.Laws Sys2Proof.Safety

/-- Settles O15: a start that nothing bars passes every check of its body and opens a job; the end of a phase and the failure of a job are
the two ways that a learning job's registers and its entry among the jobs change (`lrnEnd_eq`, `lrnFail_eq`). -/
theorem learningJobsPassTheirPhases : Obligations.LearningJobsPassTheirPhases := by
  unfold Obligations.LearningJobsPassTheirPhases
  rintro s _ t r rfl
  refine ⟨?start, ?phases, fun hj hl => learnPhaseTimeout_fails hj hl, ?sweep⟩
  case start =>
    rintro _ _ _ rfl rfl rfl hs hc hT hj hw hr1 hr2 hc1 hc2 ht hroom
    exact learnStart_begins hs hc hT hj hw hr1 hr2 hc1 hc2 ht hroom
  case phases =>
    rintro _ rfl hj hd
    exact ⟨fun hn => learnPhaseEnd_next hj hd hn, fun hn => learnPhaseEnd_ends hj hd hn⟩
  case sweep =>
    rintro _ _ rfl rfl hs hc hrate hj hw hn1 hn8 ha1 ha2 hok hroom
    exact impedanceSweep_begins hs hc hrate hj hw hn1 hn8 ha1 ha2 hok hroom

end Sys2Proof.Proofs
end

section
/-! Impedance points: the start of a point, its stages, its fit and its results; automatic sweeps and inferred temperatures (O16). -/

namespace Sys2Proof.Machine.Laws

open Sys2Proof.Safety

/-! ## Folds that write one place for each element -/

section
variable {σ α : Type} {f : σ → α → σ} {I P : σ → Prop} {x : α}

/-- What the step of one element of a list establishes and no step of another breaks holds after the list. -/
theorem foldl_establishes {l : List α} (hx : x ∈ l) (hI : ∀ s y, I s → I (f s y)) (hf : ∀ s, I s → P (f s x))
    (hk : ∀ s, ∀ y ∈ l, y ≠ x → P s → P (f s y)) {s : σ} (hs : I s) : P (l.foldl f s) := by
  induction l using List.reverseRecOn with
  | nil => exact absurd hx List.not_mem_nil
  | append_singleton t y ih =>
    rw [List.foldl_append, List.foldl_cons, List.foldl_nil]
    by_cases hy : y = x
    · rw [hy]
      exact hf _ (List.foldlRecOn t f hs fun b hb a _ => hI b a hb)
    · have ht : x ∈ t := (List.mem_append.1 hx).resolve_right fun h => hy (List.mem_singleton.1 h).symm
      exact hk _ y (by simp) hy (ih ht fun s z hz => hk s z (List.mem_append_left _ hz))

end

/-! ## Results of groups (Table 6.5) -/

/-- From `a` to `b` results of groups were written: of the registers those from EST_IMP on alone, and the sweep stands where it stood. -/
structure ResultsIn (a b : State) : Prop where
  word : ∀ y < 0x64000, b.word y = a.word y
  k : b.imp.k = a.imp.k
  pts : b.imp.pts = a.imp.pts

namespace ResultsIn

variable {a b c : State}

theorem refl (a : State) : ResultsIn a a := ⟨fun _ _ => rfl, rfl, rfl⟩

theorem get (h : ResultsIn a b) {f : Fld} (hf : f.addr < 0x64000) : b.get f = a.get f := get_of_words h.word f hf

/-- An update of other parts of the state. -/
theorem upd (h : ResultsIn a b) (hr : c.regs = b.regs := by rfl) (hk : c.imp.k = b.imp.k := by rfl) (hp : c.imp.pts = b.imp.pts := by rfl) :
    ResultsIn a c :=
  ⟨fun y hy => (word_congr hr y).trans (h.word y hy), hk.trans h.k, hp.trans h.pts⟩

theorem putWord (h : ResultsIn a b) {y : Nat} (v : Word) (hy : 0x64000 ≤ y) : ResultsIn a (b.putWord y v) :=
  ⟨fun z hz => (word_putWord_other _ _ _ _ (by omega)).trans (h.word z hz), h.k, h.pts⟩

theorem foldl {α : Type} {f : State → α → State} (hf : ∀ s x, ResultsIn a s → ResultsIn a (f s x)) (l : List α) (h : ResultsIn a b) :
    ResultsIn a (l.foldl f b) :=
  List.foldlRecOn l f h fun s hs x _ => hf s x hs

theorem impRe (h : ResultsIn a b) (k g : Nat) (v : Word) : ResultsIn a (b.putWord (impRe k g) v) :=
  h.putWord v (by unfold Machine.impRe; omega)

theorem impIm (h : ResultsIn a b) (k g : Nat) (v : Word) : ResultsIn a (b.putWord (impIm k g) v) :=
  h.putWord v (by unfold Machine.impIm; omega)

theorem impBad (h : ResultsIn a b) (k g code : Nat) : ResultsIn a (b.impBad k g code) := (h.impRe k g _).impIm k g _

theorem impAll (h : ResultsIn a b) (k code : Nat) : ResultsIn a (b.impAll k code) := foldl (fun _ g hs => hs.impBad k g _) _ h

theorem growth (h : ResultsIn a b) (p : Prof) (d : List Byte) (g : Nat) (re : Int) : ResultsIn a (b.growth p d g re) := by
  unfold State.growth
  dsimp only
  split
  · exact h
  · exact h.upd

theorem inner (h : ResultsIn a b) (p : Prof) (d : List Byte) (g : Nat) (re im : Int) : ResultsIn a (b.inner p d g re im) :=
  (h.putWord (y := 0x6E000 + 4 * (g - 1)) _ (by omega)).upd

theorem impResult (h : ResultsIn a b) (p : ImpPt) (g : Nat) (z : (Int × Int) ⊕ Nat) : ResultsIn a (b.impResult p g z) := by
  unfold State.impResult
  split
  next => exact h.impBad ..
  next re im =>
    have h1 := (h.impRe b.imp.k g (BitVec.ofInt 32 (clip (-2147483647) 2147483647 re))).impIm b.imp.k g
      (BitVec.ofInt 32 (clip (-2147483647 - 1) 2147483647 im))
    dsimp only
    split
    next pr d _ _ =>
      split_ifs
      · exact (h1.growth pr d g re).inner ..
      · exact h1.inner ..
      · exact h1.growth ..
      · exact h1
    next => exact h1

/-- Which groups are configured does not depend on results. -/
theorem groupOk (h : ResultsIn a b) (g : Nat) : b.groupOk g = a.groupOk g := by
  unfold State.groupOk State.len State.cells
  rw [h.get (f := F.RING_CTRL_LEN) (by decide)]
  by_cases hg : g ≤ 640
  · rw [h.get (f := F.ACQ_SEG_CELLS.ix (groupPos g - 1)) (by unfold groupPos Fld.ix; dsimp only; omega)]
  · simp [hg]

end ResultsIn

section
variable (s : State) (k g c : Nat)

theorem impBad_words : (s.impBad k g c).word (impRe k g) = 0x80000000 ∧ (s.impBad k g c).word (impIm k g) = BitVec.ofNat 32 c := by
  refine ⟨?_, word_putWord_same ..⟩
  unfold State.impBad
  rw [word_putWord_other _ _ _ _ (by unfold impRe impIm; omega), word_putWord_same]

/-- The result of one group leaves the results of the others. -/
theorem impBad_words_other {x : Nat} (hg : 1 ≤ g) (hx : 1 ≤ x) (hne : x ≠ g) :
    (s.impBad k x c).word (impRe k g) = s.word (impRe k g) ∧ (s.impBad k x c).word (impIm k g) = s.word (impIm k g) := by
  unfold State.impBad
  constructor
  · rw [word_putWord_other _ _ _ _ (by unfold impRe impIm; omega), word_putWord_other _ _ _ _ (by unfold impRe; omega)]
  · rw [word_putWord_other _ _ _ _ (by unfold impIm; omega), word_putWord_other _ _ _ _ (by unfold impRe impIm; omega)]

/-- A code for every group: invalid results, ABSENT where a number holds no group. -/
theorem impAll_words (hg : 1 ≤ g) (hg2 : g ≤ 640) : (s.impAll k c).word (impRe k g) = 0x80000000 ∧
    (s.impAll k c).word (impIm k g) = BitVec.ofNat 32 (if s.groupOk g then c else 3) := by
  have hmem : g ∈ (List.range 640).map (· + 1) := List.mem_map.2 ⟨g - 1, List.mem_range.2 (by omega), Nat.sub_add_cancel hg⟩
  unfold State.impAll
  refine foldl_establishes (I := ResultsIn s) (P := fun b => b.word (impRe k g) = 0x80000000 ∧
      b.word (impIm k g) = BitVec.ofNat 32 (if s.groupOk g then c else 3)) hmem
    (fun b x h => h.impBad k x _) (fun b h => ?_) (fun b x hx hne hb => ?_) (ResultsIn.refl s)
  · rw [← h.groupOk g]
    exact impBad_words ..
  · obtain ⟨i, -, rfl⟩ := List.mem_map.1 hx
    obtain ⟨h1, h2⟩ := impBad_words_other b k g (if b.groupOk (i + 1) then c else 3) hg (Nat.le_add_left 1 i) hne
    rw [h1, h2]
    exact hb

end

/-! ## The next point, or the end of the sweep (R153) -/

/-- The sweep stands at its next point, nothing of which has begun. -/
def impMoved (s : State) : State :=
  { s with imp := { s.imp with k := s.imp.k + 1, on := false, clips := 0, restarts := 0, clipped := false, iSer := [], vSer := [], stale := [],
                               armed := false, ready := false, after := s.ring.lastS } }

theorem impNext_more {s : State} (h : s.imp.k + 1 < s.imp.pts.length) :
    s.impNext = ((impMoved s).set F.EST_IMP_STAT_STATE 0).set F.EST_IMP_STAT_POINT (s.imp.k + 1) :=
  if_pos h

/-- The sweep goes on: the status shows the next point, and the results stand. -/
theorem impNext_shows {s : State} (h : s.imp.k + 1 < s.imp.pts.length) (h7 : s.imp.k < 7) : s.impNext.imp.k = s.imp.k + 1 ∧
    s.impNext.imp.on = false ∧ s.impNext.get F.EST_IMP_STAT_POINT = s.imp.k + 1 ∧ s.impNext.get F.EST_IMP_STAT_STATE = 0 ∧
    ∀ y, 0x64000 ≤ y → s.impNext.word y = s.word y := by
  rw [impNext_more h]
  refine ⟨rfl, rfl, ?_, ?_, fun y hy => ?_⟩
  · rw [get_set_self _ _ _ (by decide)]
    exact Nat.mod_eq_of_lt (show s.imp.k + 1 < 2 ^ 3 by omega)
  · rw [get_set_clear _ _ _ _ (by decide), get_set_self _ _ _ (by decide), Nat.zero_mod]
  · rw [word_set_other _ _ _ _ (by dsimp only; omega), word_set_other _ _ _ _ (by dsimp only; omega)]
    rfl

/-- The last point is over: the sweep ends, with its job where it has one. -/
theorem impNext_last {s : State} (h : s.imp.pts.length ≤ s.imp.k + 1) : ∃ l, s.impNext =
    ((State.impEnd { impMoved s with jobs := l } .done stOk).setB F.EST_IMP_STAT_DONE_SEEN true).raise 37 [] := by
  have hn : ¬ (impMoved s).imp.k < (impMoved s).imp.pts.length := Nat.not_lt.2 h
  unfold State.impNext
  refine Exists.imp (fun l hl => (if_neg hn).trans hl) ?_
  dsimp only
  split
  · exact ⟨_, rfl⟩
  · exact ⟨s.jobs, rfl⟩

/-- The end of a sweep leaves no point, and nothing ready to be fitted. -/
theorem impEnd_imp (s : State) (st : JobSt) (fin : Nat) : (s.impEnd st fin).imp =
    { s.imp with on := false, job := none, pts := [], iSer := [], vSer := [], stale := [], stopping := false, armed := false, ready := false } := by
  unfold State.impEnd
  split
  · rfl
  · exact jobEnd_imp ..

section
variable {s : State}

theorem impNext_point : s.impNext.imp.k = s.imp.k + 1 ∧ s.impNext.imp.ready = false := by
  by_cases h : s.imp.k + 1 < s.imp.pts.length
  · rw [impNext_more h]
    exact ⟨rfl, rfl⟩
  · obtain ⟨l, hl⟩ := impNext_last (Nat.not_lt.1 h)
    rw [hl, raise_imp, setB_imp, impEnd_imp]
    exact ⟨rfl, rfl⟩

theorem impNext_stands : Stands jobReg s s.impNext := by
  have hm : Stands jobReg s (impMoved s) := (Stands.refl jobReg s).upd
  by_cases h : s.imp.k + 1 < s.imp.pts.length
  · rw [impNext_more h]
    exact (hm.set _ _ rfl).set _ _ rfl
  · obtain ⟨l, hl⟩ := impNext_last (Nat.not_lt.1 h)
    have hj : Stands jobReg s { impMoved s with jobs := l } := hm.upd
    rw [hl]
    exact ((hj.impEnd (fun _ hy => hy) .done stOk).setB _ _ rfl).raise _ _ rfl

theorem impNext_completes (h : s.imp.pts.length ≤ s.imp.k + 1) : s.impNext.flag F.EST_IMP_STAT_DONE_SEEN = true ∧
    s.impNext.imp.pts = [] ∧ 37 ∈ s.impNext.evr.pend := by
  obtain ⟨l, hl⟩ := impNext_last h
  rw [hl]
  refine ⟨(congrArg (· == 1) (raise_get_other _ _ _ (by decide))).trans (flag_setB_self _ _ true (by decide)), ?_, raise_mem ..⟩
  rw [raise_imp, setB_imp, impEnd_imp]

end

/-! ## The start of a point (R148, R150) -/

section
variable {s : State} {apt : Int} (hapt : apt = min (min (min (s.imp.ampl : Int) (50 * s.get F.CTL_SPCFG_IRATED : Nat)) 20000)
  (min (s.getI F.PRT_LDIS - s.ctl.islew) (s.getI F.PRT_LCHG + s.ctl.islew)))
include hapt

/-- With 1 A or more left by the limits the sinusoid starts with it. -/
theorem impStart_starts (h : 1000 ≤ apt) : s.impStart =
    { s.set F.EST_IMP_STAT_STATE 1 with imp := { s.imp with apt := apt, on := true, onAt := s.ring.lastS, clipped := false } } := by
  push_cast at hapt
  subst hapt
  exact if_neg (not_lt.2 h)

/-- Below 1 A the point is skipped. -/
theorem impStart_skips (h : apt < 1000) : s.impStart = (s.impAll s.imp.k 4).impNext := by
  push_cast at hapt
  subst hapt
  exact if_pos h

end

section
variable {s : State} {t : Nat} {apt : Int}
  (hapt : apt = min (min (min ((s.upto t).imp.ampl : Int) (50 * (s.upto t).get F.CTL_SPCFG_IRATED : Nat)) 20000)
    (min ((s.upto t).getI F.PRT_LDIS - (s.upto t).ctl.islew) ((s.upto t).getI F.PRT_LCHG + (s.upto t).ctl.islew)))
  (hw : (s.upto t).sweeping = true) (hon : (s.upto t).imp.on = false) (hr : (s.upto t).imp.ready = false)
  (hst : (s.upto t).get F.EST_IMP_STAT_STATE = 0) (haf : (s.upto t).imp.after < (s.upto t).ring.lastS)
include hw hon hr hst haf

/-- A point starts at the first strobe after the one before. -/
theorem impPointStart_answers {P : State → Prop} {b : State} (hb : (s.upto t).impStart = b) (hP : P (s.command t fun _ => b)) :
    Answers (.impPointStart t) s P :=
  answers_of_guard rfl (by rw [hw, hon, hr, hst, decide_eq_true haf]; rfl) hb hP

include hapt

theorem impPointStart_starts (h : 1000 ≤ apt) : Answers (.impPointStart t) s (fun s' => s'.imp.on = true ∧ s'.imp.apt = apt ∧
    s'.imp.onAt = (s.upto t).ring.lastS ∧ s'.get F.EST_IMP_STAT_STATE = 1) := by
  refine impPointStart_answers hw hon hr hst haf (impStart_starts hapt h) ?_
  rw [command_imp, command_get]
  exact ⟨rfl, rfl, rfl, get_set_self (s.upto t) F.EST_IMP_STAT_STATE 1 (by decide)⟩

theorem impPointStart_skips (h : apt < 1000) (hk : (s.upto t).imp.k + 1 < (s.upto t).imp.pts.length) (h7 : (s.upto t).imp.k < 7) :
    Answers (.impPointStart t) s (fun s' => s'.imp.k = (s.upto t).imp.k + 1 ∧ s'.imp.on = false ∧
      s'.get F.EST_IMP_STAT_POINT = (s.upto t).imp.k + 1 ∧ s'.get F.EST_IMP_STAT_STATE = 0 ∧
      ∀ g, 1 ≤ g → g ≤ 640 → s'.word (impRe (s.upto t).imp.k g) = 0x80000000 ∧
        s'.word (impIm (s.upto t).imp.k g) = if (s.upto t).groupOk g then 4 else 3) := by
  have hall : ResultsIn (s.upto t) ((s.upto t).impAll (s.upto t).imp.k 4) := (ResultsIn.refl _).impAll ..
  refine impPointStart_answers hw hon hr hst haf (impStart_skips hapt h) ?_
  obtain ⟨h1, h2, h3, h4, h5⟩ := impNext_shows (s := (s.upto t).impAll (s.upto t).imp.k 4) (by rwa [hall.k, hall.pts]) (by rwa [hall.k])
  rw [command_imp, command_get, command_get, h1, h2, h3, h4, hall.k]
  refine ⟨rfl, rfl, rfl, rfl, fun g hg hg2 => ?_⟩
  obtain ⟨hre, him⟩ := impAll_words (s.upto t) (s.upto t).imp.k g 4 hg hg2
  rw [command_word, command_word, h5 _ (by unfold impRe; omega), h5 _ (by unfold impIm; omega), hre, him]
  refine ⟨rfl, ?_⟩
  split <;> rfl

end

/-! ## Settling, correlation and the upload (R149, R150, R154) -/

section
variable {s : State} {p : ImpPt}

/-- A synchronous point takes no samples of the burst stream. -/
theorem burstSample_sync (hp : s.impPt = some p) (hb : p.burst = false) (x : Samp) : s.burstSample x = s := by
  unfold State.burstSample
  rw [hp]
  dsimp only
  rw [hb, Bool.and_false, Bool.false_and, Bool.false_and, Bool.false_and]
  exact if_neg (by decide)

/-- What the series of the current is not part of, a sample of the burst stream leaves. -/
theorem burstSample_leaves {β : Type} (g : State → β) (hg : ∀ (s : State) l, g { s with imp := { s.imp with iSer := l } } = g s) (s : State)
    (x : Samp) : g (s.burstSample x) = g s := by
  unfold State.burstSample
  split
  · rfl
  · dsimp only
    split
    · exact hg ..
    · rfl

/-- Correlation begins, without samples. -/
def impCounting (s : State) : State :=
  { s.set F.EST_IMP_STAT_STATE 2 with imp := { s.imp with phaseAt := s.ring.lastS, iSer := [], vSer := [], stale := [] } }

theorem impSettled_eq (s : State) : s.impSettled = s.cvi.hist.reverse.foldl State.burstSample (impCounting s) := rfl

/-- Correlation begins at the strobe that ends settling, without samples but those of a burst. -/
theorem impSettled_begins (s : State) : s.impSettled.get F.EST_IMP_STAT_STATE = 2 ∧ s.impSettled.imp.phaseAt = s.ring.lastS ∧
    s.impSettled.imp.vSer = [] := by
  have hl : ∀ {β : Type} (g : State → β), (∀ (s : State) l, g { s with imp := { s.imp with iSer := l } } = g s) →
      g s.impSettled = g (impCounting s) := fun g hg => foldl_leaves g _ (burstSample_leaves g hg) _ _
  exact ⟨(hl (State.get · F.EST_IMP_STAT_STATE) fun _ _ => rfl).trans (get_set_self s F.EST_IMP_STAT_STATE 2 (by decide)),
    hl (fun s => s.imp.phaseAt) fun _ _ => rfl, hl (fun s => s.imp.vSer) fun _ _ => rfl⟩

theorem impSettled_sync (hp : s.impPt = some p) (hb : p.burst = false) : s.impSettled.imp.iSer = [] := by
  have hc : (impCounting s).impPt = some p := hp
  rw [impSettled_eq, List.foldl_fixed' (burstSample_sync hc hb)]
  rfl

/-- The upload of a burst queues frames for the ring alone. -/
theorem uploads_leaves (s : State) (n : Nat) : (s.uploads n).regs = s.regs ∧ (s.uploads n).imp = s.imp := by
  unfold State.uploads
  dsimp only
  constructor
  · refine foldl_leaves State.regs _ ?_ _ _
    exact fun _ _ => rfl
  · refine foldl_leaves State.imp _ ?_ _ _
    exact fun _ _ => rfl

/-- After correlation the sinusoid stops; a burst goes on to its upload, another point to its fit. -/
theorem impCorrelated_stops (hst : s.get F.EST_IMP_STAT_STATE = 2) : (s.impCorrelated p).imp.on = false ∧
    (s.impCorrelated p).get F.EST_IMP_STAT_STATE = (if p.burst then 3 else 2) ∧ (p.burst = false → (s.impCorrelated p).imp.ready = true) := by
  unfold State.impCorrelated
  dsimp only
  split
  next hb =>
    obtain ⟨hr, hi⟩ := uploads_leaves (State.set { s with imp := { s.imp with on := false } } F.EST_IMP_STAT_STATE 3) p.len
    rw [get_congr hr, hi, get_set_self _ _ _ (by decide)]
    exact ⟨rfl, rfl, fun h => absurd (hb.symm.trans h) (by decide)⟩
  next => exact ⟨rfl, hst, fun _ => rfl⟩

end

section
variable {s : State} {t : Nat} {p : ImpPt}

theorem impSettlingEnd_begins (hon : (s.upto t).imp.on = true) (hp : (s.upto t).impPt = some p)
    (hst : (s.upto t).get F.EST_IMP_STAT_STATE = 1) (hle : (s.upto t).imp.onAt + p.time p.settling ≤ (s.upto t).ring.lastS) :
    Answers (.impSettlingEnd t) s (fun s' => s'.get F.EST_IMP_STAT_STATE = 2 ∧ s'.imp.phaseAt = (s.upto t).ring.lastS ∧ s'.imp.vSer = [] ∧
      (p.burst = false → s'.imp.iSer = [])) := by
  refine answers_of_guard rfl (by rw [hon, hp, hst, Option.any_some, decide_eq_true hle]; rfl) rfl ?_
  obtain ⟨h1, h2, h3⟩ := impSettled_begins (s.upto t)
  rw [command_get, command_imp]
  exact ⟨h1, h2, h3, impSettled_sync hp⟩

theorem impCorrelationEnd_stops (hon : (s.upto t).imp.on = true) (hp : (s.upto t).impPt = some p)
    (hst : (s.upto t).get F.EST_IMP_STAT_STATE = 2) (hlen : p.len ≤ (s.upto t).imp.iSer.length)
    (hle : (s.upto t).imp.phaseAt + p.time p.cycles ≤ (s.upto t).quartzNs) : Answers (.impCorrelationEnd t) s (fun s' => s'.imp.on = false ∧
      s'.get F.EST_IMP_STAT_STATE = (if p.burst then 3 else 2) ∧ (p.burst = false → s'.imp.ready = true)) := by
  refine answers_of_guard (r := (s.upto t).impCorrelated p) rfl
    (by rw [hon, hp, hst, Option.any_some, decide_eq_true hlen, decide_eq_true hle]; rfl) (by rw [hp]) ?_
  rw [command_get, command_imp]
  exact impCorrelated_stops hst

theorem impUploadDone_readies (hst : (s.upto t).get F.EST_IMP_STAT_STATE = 3) (hr : (s.upto t).imp.ready = false)
    (hu : (s.upto t).uploading = false) : Answers (.impUploadDone t) s (fun s' => s'.imp.ready = true ∧ s'.regs = (s.upto t).regs) := by
  refine answers_of_guard rfl (by rw [hst, hr, hu]; rfl) rfl ?_
  rw [command_imp, command_regs]
  exact ⟨rfl, rfl⟩

end

/-! ## The fit (R151, R152) -/

section
variable {s : State} {p : ImpPt}

/-- A clipped point is repeated once (R152). -/
theorem impFit_clipped (hc : s.imp.clipped = true) (h0 : s.imp.clips = 0) : s.impFit p =
    { (s.setB F.EST_IMP_STAT_CLIP_SEEN true).impAgain with
      imp := { (s.setB F.EST_IMP_STAT_CLIP_SEEN true).impAgain.imp with clips := 1 } } :=
  if_pos (by rw [hc, h0]; rfl)

/-- A point whose current did not clip writes its frequency, its amplitude and the results of the groups, and the sweep goes on. -/
theorem impFit_whole (hc : s.imp.clipped = false) : ∃ amp b, s.impFit p = b.impNext ∧
    ResultsIn ((s.set (F.EST_IMP_FREQ.ix (s.imp.k % 8)) p.actual).set (F.EST_IMP_IAMP.ix (s.imp.k % 8)) amp) b := by
  have hn : ¬ (s.imp.clipped && s.imp.clips == 0) = true := by rw [hc, Bool.false_and]; decide
  unfold State.impFit
  extract_lets k sClip eClip s0 basis i m2 unit amp weak s1 one none_
  rw [if_neg hn]
  have h0 : s0 = s := if_neg (by rw [hc]; decide)
  have h1 : (s.set (F.EST_IMP_FREQ.ix (s.imp.k % 8)) p.actual).set (F.EST_IMP_IAMP.ix (s.imp.k % 8)) amp = s1 :=
    congrArg (fun x : State => (x.set (F.EST_IMP_FREQ.ix (k % 8)) p.actual).set (F.EST_IMP_IAMP.ix (k % 8)) amp) h0.symm
  refine ⟨amp, ?_⟩
  rw [h1]
  split
  · exact ⟨_, rfl, (ResultsIn.refl s1).impAll ..⟩
  · have hnone : ResultsIn s1 none_ := ResultsIn.foldl (fun x g h => h.impBad k g 3) _ (.refl s1)
    refine ⟨_, rfl, ResultsIn.foldl (fun x g h => ?_) _ hnone⟩
    have hy := h.impResult p g (x.impZ p basis i g)
    show ResultsIn s1 (if _ then _ else _)
    split
    · exact hy.impResult ..
    · exact hy

end

/-- The registers of the frequencies are not those of jobs. -/
theorem freq_not_jobReg {i : Nat} (h : i < 8) : jobReg (F.EST_IMP_FREQ.ix i).addr = false :=
  (by decide : ∀ i < 8, jobReg (F.EST_IMP_FREQ.ix i).addr = false) i h

section
variable {s : State} {t : Nat} {p : ImpPt} (hr : (s.upto t).imp.ready = true) (hw : (s.upto t).sweeping = true)
  (hp : (s.upto t).impPt = some p)
include hr hw hp

/-- The fit of a point that is ready. -/
theorem impFitDone_answers {P : State → Prop} {b : State} (hb : (s.upto t).impFit p = b) (hP : P (s.command t fun _ => b)) :
    Answers (.impFitDone t) s P :=
  answers_of_guard (r := b) rfl (by rw [hr, hw]; rfl) (by rw [hp]; exact hb) hP

theorem impFitDone_repeats (hc : (s.upto t).imp.clipped = true) (h0 : (s.upto t).imp.clips = 0) : Answers (.impFitDone t) s (fun s' =>
    s'.flag F.EST_IMP_STAT_CLIP_SEEN = true ∧ s'.get F.EST_IMP_STAT_STATE = 0 ∧ s'.imp.clips = 1 ∧ s'.imp.k = (s.upto t).imp.k ∧
      s'.imp.ready = false) := by
  refine impFitDone_answers hr hw hp (impFit_clipped hc h0) ?_
  rw [command_flag, command_get, command_imp]
  exact ⟨(flag_set_clear _ F.EST_IMP_STAT_STATE F.EST_IMP_STAT_CLIP_SEEN 0 (by decide)).trans (flag_setB_self _ _ true (by decide)),
    get_set_self _ F.EST_IMP_STAT_STATE 0 (by decide), rfl, rfl, rfl⟩

theorem impFitDone_moves (hc : (s.upto t).imp.clipped = false) (hf : p.actual < 4294967296) : Answers (.impFitDone t) s (fun s' =>
    s'.get (F.EST_IMP_FREQ.ix ((s.upto t).imp.k % 8)) = p.actual ∧ s'.imp.k = (s.upto t).imp.k + 1 ∧ s'.imp.ready = false ∧
      ((s.upto t).imp.pts.length ≤ (s.upto t).imp.k + 1 → s'.flag F.EST_IMP_STAT_DONE_SEEN = true ∧ s'.imp.pts = [] ∧
        37 ∈ s'.evr.pend)) := by
  obtain ⟨amp, b, hb, hres⟩ := impFit_whole (p := p) hc
  have hk : b.imp.k = (s.upto t).imp.k := hres.k
  have hpts : b.imp.pts = (s.upto t).imp.pts := hres.pts
  have hi : (s.upto t).imp.k % 8 < 8 := Nat.mod_lt _ (by decide)
  refine impFitDone_answers hr hw hp hb ?_
  rw [command_get, command_imp, command_flag, command_evr_pend, ← hk, ← hpts]
  refine ⟨?_, impNext_point.1, impNext_point.2, impNext_completes⟩
  rw [hk, impNext_stands.get (freq_not_jobReg hi), hres.get (by unfold Fld.ix; dsimp only; omega),
    get_set_elsewhere _ _ _ _ (by unfold Fld.ix; dsimp only; omega), get_set_self _ _ _ (show 0 + 32 ≤ 32 by decide)]
  exact Nat.mod_eq_of_lt hf

end

/-! ## Automatic sweeps (R159) -/

/-- An automatic sweep as it begins. -/
def autoBegun (s : State) (d : List Byte) : State :=
  (s.impBegin ([uAt d 0 4, uAt d 4 4].map fun f => { freq := f, cycles := autoCycles f }) (10 * s.get F.EST_IMP_CFG_AMP) none).set
    F.EST_IMP_STAT_AUTO 1

/-- A change of the sweep's own records leaves every flag. -/
theorem flag_imp_upd (s : State) (i : ImpSt) (f : Fld) : ({ s with imp := i } : State).flag f = s.flag f := rfl

theorem autoBegun_auto (s : State) (d : List Byte) : (autoBegun s d).flag F.EST_IMP_STAT_AUTO = true := by
  unfold autoBegun State.flag
  rw [get_set_self _ _ _ (by decide)]
  rfl

section
variable {s : State} {d : List Byte} (hd : s.impRef? = some d)
include hd

/-- While a sweep runs an automatic one waits for its end. -/
theorem autoSweep_waits (hw : s.sweeping = true) : s.autoSweep = s := by
  unfold State.autoSweep
  rw [hd]
  exact if_pos hw

/-- What R153 bars is tried again ten minutes later. -/
theorem autoSweep_retries (hw : s.sweeping = false) (hb : s.carrying = false ∨ s.get F.RING_CTRL_RATE ≠ 0 ∨ s.lrn.job ≠ none) :
    s.autoSweep = { s with imp := { s.imp with retryAt := s.opsec + 600 } } := by
  have hbar : (!s.carrying || s.get F.RING_CTRL_RATE != 0 || s.lrn.job.isSome) = true := by
    simpa [or_assoc, Option.isSome_iff_ne_none] using hb
  unfold State.autoSweep
  rw [hd]
  exact (if_neg (by rw [hw]; decide)).trans (if_pos hbar)

theorem autoSweep_eq (hw : s.sweeping = false) (hc : s.carrying = true) (hr : s.get F.RING_CTRL_RATE = 0) (hj : s.lrn.job = none) :
    s.autoSweep = { autoBegun s d with imp := { (autoBegun s d).imp with autoAt := s.opsec } } := by
  have hbar : ¬ (!s.carrying || s.get F.RING_CTRL_RATE != 0 || s.lrn.job.isSome) = true := by rw [hc, hr, hj]; decide
  unfold State.autoSweep
  rw [hd]
  exact (if_neg (by rw [hw]; decide)).trans (if_neg hbar)

/-- An automatic sweep has a point at each of the two frequencies of the reference, and no job. -/
theorem autoSweep_begins (hw : s.sweeping = false) (hc : s.carrying = true) (hr : s.get F.RING_CTRL_RATE = 0) (hj : s.lrn.job = none) :
    s.autoSweep.flag F.EST_IMP_STAT_AUTO = true ∧ s.autoSweep.imp.job = none ∧ s.autoSweep.imp.autoAt = s.opsec ∧
      s.autoSweep.imp.pts.map (·.freq) = [uAt d 0 4, uAt d 4 4] := by
  rw [autoSweep_eq hd hw hc hr hj]
  exact ⟨(flag_imp_upd ..).trans (autoBegun_auto s d), rfl, rfl, rfl⟩

end

section
variable {s : State} {t : Nat} {d : List Byte} (hin : (s.upto t).inService = true) (hh : (s.upto t).get F.EST_IMP_CFG_AUTOH ≠ 0)
  (hdue : (s.upto t).imp.autoAt + 3600 * (s.upto t).get F.EST_IMP_CFG_AUTOH ≤ (s.upto t).opsec)
  (hre : (s.upto t).imp.retryAt ≤ (s.upto t).opsec)
include hin hh hdue hre

/-- An automatic sweep that is due in service is tried. -/
theorem impAutoSweepDue_answers {P : State → Prop} {b : State} (hb : (s.upto t).autoSweep = b) (hP : P (s.command t fun _ => b)) :
    Answers (.impAutoSweepDue t) s P :=
  answers_of_guard rfl (by rw [hin, bne_iff_ne.2 hh, decide_eq_true hdue, decide_eq_true hre]; rfl) hb hP

end

/-! ## The age of inferred temperatures (R158) -/

/-- The age that EST_TINT shows of a result at an instant: whole hours, at most 254. -/
def tintAge (s : State) (b : Nat) : Nat := min 254 ((s.now - b) / (3600 * sec))

theorem tintAge_le (s : State) (b : Nat) : tintAge s b ≤ 254 := Nat.min_le_left ..

theorem tintTick_eq (s : State) :
    s.tintTick = s.imp.tintAt.foldl (fun (a : State) x => a.set (F.EST_TINT_AGE.ix (x.1 - 1)) (tintAge s x.2)) s := rfl

theorem age_set_same (s : State) (i : Nat) {x : Nat} (h : x ≤ 254) : (s.set (F.EST_TINT_AGE.ix i) x).get (F.EST_TINT_AGE.ix i) = x :=
  (get_set_self s _ x (show 16 + 8 ≤ 32 by decide)).trans (Nat.mod_eq_of_lt (show x < 2 ^ 8 by omega))

theorem age_set_other (s : State) {i j : Nat} (x : Nat) (h : i ≠ j) :
    (s.set (F.EST_TINT_AGE.ix i) x).get (F.EST_TINT_AGE.ix j) = s.get (F.EST_TINT_AGE.ix j) :=
  get_set_elsewhere _ _ _ _ (by unfold Fld.ix; dsimp only; omega)

theorem mem_of_assoc? {α : Type} {k : Nat} {l : List (Nat × α)} {v : α} (h : assoc? k l = some v) : (k, v) ∈ l := by
  induction l with
  | nil => exact absurd h (by simp [assoc?])
  | cons x t ih =>
    unfold assoc? at h
    split at h
    next hk => rw [← hk, ← Option.some.inj h]; exact List.mem_cons_self ..
    next => exact List.mem_cons_of_mem _ (ih h)

theorem not_mem_of_assoc? {α : Type} {k : Nat} {l : List (Nat × α)} (h : assoc? k l = none) {x : Nat × α} (hx : x ∈ l) : x.1 ≠ k := by
  induction l with
  | nil => exact absurd hx List.not_mem_nil
  | cons y t ih =>
    unfold assoc? at h
    split at h
    next => exact absurd h (by simp)
    next hk =>
      obtain rfl | hx := List.mem_cons.1 hx
      · exact hk
      · exact ih h hx

/-- Each group's age is that of its own result; a group without a result keeps what it shows. -/
theorem tintTick_age (s : State) {g : Nat} (hg : 1 ≤ g) (h1 : ∀ x ∈ s.imp.tintAt, 1 ≤ x.1) (hn : (s.imp.tintAt.map (·.1)).Nodup) :
    s.tintTick.get (F.EST_TINT_AGE.ix (g - 1)) = match assoc? g s.imp.tintAt with
      | some b => tintAge s b
      | none => s.get (F.EST_TINT_AGE.ix (g - 1)) := by
  have hother : ∀ (a : State), ∀ x ∈ s.imp.tintAt, x.1 ≠ g →
      (a.set (F.EST_TINT_AGE.ix (x.1 - 1)) (tintAge s x.2)).get (F.EST_TINT_AGE.ix (g - 1)) = a.get (F.EST_TINT_AGE.ix (g - 1)) :=
    fun a x hx hne => age_set_other a _ (by have := h1 x hx; omega)
  rw [tintTick_eq]
  split
  next b hb =>
    have hmem := mem_of_assoc? hb
    refine foldl_establishes (I := fun _ => True) (P := fun a : State => a.get (F.EST_TINT_AGE.ix (g - 1)) = tintAge s b) hmem
      (fun _ _ _ => trivial) (fun a _ => ?_) (fun a x hx hne ha => ?_) trivial
    · exact age_set_same a (g - 1) (tintAge_le s b)
    · exact (hother a x hx fun e => hne (List.inj_on_of_nodup_map hn hx hmem e)).trans ha
  next hnone =>
    exact List.foldlRecOn (motive := fun a : State => a.get (F.EST_TINT_AGE.ix (g - 1)) = s.get (F.EST_TINT_AGE.ix (g - 1))) _ _ rfl
      fun a ha x hx => (hother a x hx (not_mem_of_assoc? hnone hx)).trans ha

end Sys2Proof.Machine.Laws

namespace Sys2Proof.Proofs

open Sys2Proof.Machine Sys2Proof.Machine.Laws Sys2Proof.Safety

/-- Settles O16: each stage of a point is its body where its guard holds; besides its frequency and its amplitude a point writes results of
groups alone (`ResultsIn`), after which the sweep moves on (`impNext_more`, `impNext_last`); an automatic sweep that is due goes one of
three ways, and each group's age is set once, by its own result (`tintTick_age`). -/
theorem impedancePointsPassTheirStages : Obligations.ImpedancePointsPassTheirStages := by
  unfold Obligations.ImpedancePointsPassTheirStages
  rintro s _ t rfl
  refine ⟨fun apt hapt hw hon hr hst haf => ⟨fun h => impPointStart_starts hapt hw hon hr hst haf h,
      fun h hk h7 => impPointStart_skips hapt hw hon hr hst haf h hk h7⟩,
    fun p hon hp => ⟨fun hst hle => impSettlingEnd_begins hon hp hst hle, fun hst hlen hle => impCorrelationEnd_stops hon hp hst hlen hle⟩,
    fun hst hr hu => impUploadDone_readies hst hr hu,
    fun p hr hw hp => ⟨fun hc h0 => impFitDone_repeats hr hw hp hc h0, fun hc _ hf => impFitDone_moves hr hw hp hc hf⟩,
    fun d hin hh hdue hre hd => ⟨fun hc hr hj hw => ?begins, fun hw hb => ?retries, fun hw => ?waits⟩,
    fun g hst hg _ h1 hn => ?age⟩
  case begins =>
    refine impAutoSweepDue_answers hin hh hdue hre rfl ?_
    rw [command_flag, command_imp]
    exact autoSweep_begins hd hw hc hr hj
  case retries =>
    refine impAutoSweepDue_answers hin hh hdue hre (autoSweep_retries hd hw hb) ?_
    rw [command_imp, command_regs]
    exact ⟨rfl, rfl⟩
  case waits =>
    refine impAutoSweepDue_answers hin hh hdue hre (autoSweep_waits hd hw) ?_
    rw [command_imp, command_regs]
    exact ⟨rfl, rfl⟩
  case age =>
    refine answers_of_guard rfl hst rfl ?_
    rw [command_get]
    exact tintTick_age (s.upto t) hg h1 hn

end Sys2Proof.Proofs
end

section
/-! The pads follow the state after every step (O48). -/

namespace Sys2Proof.Machine.Laws

open Sys2Proof.Safety

/-! ## Steps -/

/-- Every step ends with the combinational part. -/
theorem step_settles {s s' : State} (h : step s = .next s') : ∃ b : State, s' = b.settle := by
  have hexec : ∀ {c : Instr} {s1 : State}, exec c s1 = .next s' → ∃ b : State, s' = b.settle := by
    intro c s1 hc
    obtain ⟨t, f, he⟩ := exec_command c s1
    rw [he] at hc
    exact ⟨_, (Host.Outcome.next.inj hc).symm⟩
  unfold step at h
  split at h
  · exact hexec h
  · split at h
    · exact hexec h
    · exact ⟨_, (Host.Outcome.next.inj h).symm⟩

theorem settle_settled (s : State) : Settled s.settle := settle_pads s

/-! ## The gates of a phase (R163) -/

/-- The two gates of a phase are never high together. -/
theorem carrier_gates_exclusive (c : Carrier) (dt x : Nat) : ¬ ((c.gates dt x).1 = true ∧ (c.gates dt x).2 = true) := by
  unfold Carrier.gates
  cases c.hi <;> simp

section
variable (s : State)

theorem gatePair_off (q : Nat) (h : s.gatesOn = false ∨ nth none s.lan.tok q = none) : s.gatePair q = (false, false) := by
  unfold State.gatePair
  refine if_neg ?_
  rcases h with h | h
  · simp [h]
  · simp [h]

theorem gatePair_exclusive (q : Nat) : ¬ ((s.gatePair q).1 = true ∧ (s.gatePair q).2 = true) := by
  unfold State.gatePair
  split
  · exact carrier_gates_exclusive _ _ _
  · simp

/-- A latched cause holds the gates low. -/
theorem gatesOn_of_cause (h : (s.word 0x8002C).toNat % 512 ≠ 0) : s.gatesOn = false := by
  unfold State.gatesOn
  simp [h]

/-- Outside RUN the gates are low. -/
theorem gatesOn_of_mode (h : s.inRun = false) : s.gatesOn = false := by
  unfold State.gatesOn
  simp [h]

/-- While a cause is latched CONV_EN stays high for 10 µs after the gates went low, and no longer (R185). -/
theorem convLevel_of_cause (h : (s.word 0x8002C).toNat % 512 ≠ 0) (hc : s.convLevel = true) : s.now < s.ctl.lowAt + 10 * usec := by
  unfold State.convLevel at hc
  simpa [h] using And.right (Bool.and_eq_true_iff.1 hc)

end

/-- Pads that are the ones the rest of the state gives are safe. -/
theorem Settled.padsSafe {s : State} (h : Settled s) : PadsSafe s := by
  unfold Settled at h
  have hgates : s.pads.gates = s.gatesOn := by rw [h]; rfl
  have hgate : s.pads.gate = (List.range 4).map s.gatePair := by rw [h]; rfl
  have hconv : s.pads.convEn = s.convLevel := by rw [h]; rfl
  refine ⟨fun hc => ⟨hgates ▸ gatesOn_of_cause s hc, fun he => convLevel_of_cause s hc (hconv ▸ he)⟩,
    fun hr => hgates ▸ gatesOn_of_mode s hr, fun p hp => ?phases, fun q hq ht => ?token, fun hm => ?attention⟩
  case phases =>
    rw [hgate, List.mem_map] at hp
    obtain ⟨q, -, rfl⟩ := hp
    exact ⟨gatePair_exclusive s q, fun hg => gatePair_off s q (.inl (hgates ▸ hg))⟩
  case token =>
    rw [hgate, List.getElem?_map, List.getElem?_range hq, Option.map_some, gatePair_off s q (.inr ht)]
  case attention =>
    rw [h]
    unfold State.padsOf
    simp [hm]

end Sys2Proof.Machine.Laws

namespace Sys2Proof.Proofs

open Sys2Proof.Machine Sys2Proof.Machine.Laws Sys2Proof.Safety

/-- Settles O48: every step ends with the combinational part, which gives the pads from the state (`step_settles`), and such pads are
safe (`Settled.padsSafe`). -/
theorem everyStepLeavesThePadsSafe : Obligations.EveryStepLeavesThePadsSafe := by
  unfold Obligations.EveryStepLeavesThePadsSafe
  intro s s' h
  obtain ⟨b, rfl⟩ := step_settles h
  exact ⟨settle_settled b, Settled.padsSafe (settle_settled b)⟩

end Sys2Proof.Proofs
end

section
/-! Structure records: in use with the loop stopped and the gates low, refused otherwise (O54). -/

namespace Sys2Proof.Machine.Laws

open Sys2Proof.Safety

/-- What a new structure leaves of a gain bank: nothing where its dimensions no longer match. -/
theorem structPut_banks (s : State) (c : CtlStruct) : (s.structPut c).ctl = { s.ctl with
    struct := some c, bank0 := s.ctl.bank0.bind (fun x => if x.fits c then some x else none),
    bank1 := s.ctl.bank1.bind (fun x => if x.fits c then some x else none) } := rfl

section
variable {s : State} {d : List Byte} {c : CtlStruct}

/-- A structure record is refused while the loop runs or a gate is not low (R180). -/
theorem coefUse_struct_refused (h1 : uAt d 2 1 = 1) (hc : structOf d = some c) (h : (s.loopStopped && s.ctl.gatesLow) = false) :
    s.coefUse d = .inl (.refused 0x0003) := by
  unfold State.coefUse
  rw [if_pos h1, hc]
  exact if_neg (by rw [h]; decide)

/-- A refusal by the state is the answer, and nothing changes. -/
theorem coefTake_refused {id : ReqId} {r : Req} {reason : Nat} (hd : d ≠ []) (hf : uAt r.payload 8 1 = 0)
    (hu : s.coefUse d = .inl (.refused reason)) : s.coefTake id r d = (s, .refused reason) := by
  unfold State.coefTake
  rw [if_neg (by simpa using hd), hf, hu]
  rfl

end

/-- A complete structure record that comes while the loop runs or a gate is not low. -/
theorem coefLoad_refused {s : State} {t : Nat} {r : Req} {d : List Byte} {c : CtlStruct} {P : State → Prop}
    (hs : serves (s.upto t) 0x0305 r coefFmt = true) (ht : uAt r.payload 4 4 ≤ 8192)
    (hj : Joins (s.upto t).cfg.asmC r.session (uAt r.payload 0 4) (uAt r.payload 4 4) (r.payload.drop 12) d)
    (hf : uAt r.payload 8 1 = 0) (hl : d.length = uAt r.payload 4 4) (hd : d ≠ []) (h1 : uAt d 2 1 = 1) (hc : structOf d = some c)
    (h : ((s.upto t).loopStopped && (s.upto t).ctl.gatesLow) = false)
    (hP : ∀ s', Given r 0x0305 stRefused 0 (leBytes 2 3 ++ leBytes 2 0xFFFF) (taken (s.upto t) r) s' → P s') : Answers (.coefLoad t r) s P := by
  have hjoin := joinPiece_joins (now := (taken (s.upto t) r).now) ht hl.le ((taken_cfg (s.upto t) r).symm ▸ hj)
  refine answers_given rfl hs ?_ (taken_hasPlace hs) hP
  change (match joinPiece _ r.session _ _ _ _ _ with | .inl _ => _ | .inr _ => _) = _
  rw [hjoin]
  exact (if_pos hl).trans (coefTake_refused hd hf (coefUse_struct_refused h1 hc (by rw [taken_loopStopped, taken_ctl, h])))

end Sys2Proof.Machine.Laws

namespace Sys2Proof.Proofs

open Sys2Proof.Machine Sys2Proof.Machine.Laws Sys2Proof.Safety

/-- Settles O54: a complete structure record comes into use (`coefLoad_uses`), where each bank stands or falls by its dimensions
(`structPut_banks`), or is refused (`coefLoad_refused`). -/
theorem structureRecordsNeedAStoppedLoop : Obligations.StructureRecordsNeedAStoppedLoop := by
  unfold Obligations.StructureRecordsNeedAStoppedLoop
  rintro s _ t r d c rfl hs hl hlen hd hf h1 hc hj
  have ht : uAt r.payload 4 4 ≤ 8192 := hl ▸ hlen
  have hjoins : Joins (s.upto t).cfg.asmC r.session (uAt r.payload 0 4) (uAt r.payload 4 4) (r.payload.drop 12) d := by
    obtain h | ⟨x, hx, hses, htot, hrest⟩ := hj
    · exact .inl h
    · exact .inr ⟨x, hx, hses, htot.trans hl, hrest⟩
  refine ⟨fun hstop hlow => ?used, fun hno => ?refused⟩
  case used =>
    have hstopped : (taken (s.upto t) r).loopStopped = true := (taken_loopStopped ..).trans (beq_iff_eq.2 hstop)
    refine coefLoad_uses hs ht hjoins hf hl hd (coefUse_struct h1 hc hstopped (by rw [taken_ctl, hlow])) (bankBits_host _) fun s' hs' => ?_
    have hctl : s'.ctl = _ := hs'.ctl.trans (structPut_banks (taken (s.upto t) r) c)
    rw [taken_ctl] at hctl
    rw [hctl]
    exact ⟨hs'.replied, rfl, fun g hg => by rw [hg]; rfl, fun hg => by rw [hg]; rfl, fun g hg => by rw [hg]; rfl, fun hg => by rw [hg]; rfl⟩
  case refused =>
    have h : ((s.upto t).loopStopped && (s.upto t).ctl.gatesLow) = false := by
      rw [Bool.and_eq_false_iff]
      exact hno.imp (fun h => beq_eq_false_iff_ne.2 h) id
    exact coefLoad_refused hs ht hjoins hf hl hd h1 hc h fun s' hs' => ⟨hs'.replied, hs'.ctl.trans (taken_ctl ..)⟩

end Sys2Proof.Proofs
end

section
/-! Starts and stops of the loop, the swap of the gain banks, and the faults of the set-point sources (O18). -/

namespace Sys2Proof.Machine.Laws

open Sys2Proof.Safety

/-! ## A write of CTL_CTRL.RUN (R176, R177) -/

/-- CTL_CTRL with its plain bits from the value `v`. -/
def ctrlStored (s : State) (v : Nat) : State :=
  s.putWord 0x70000 (BitVec.ofNat 32 (((s.word 0x70000).toNat &&& (4294967295 - 0xff01)) ||| (v &&& 0xff01)))

/-- What a write that passes its checks brings follows the bit RUN alone. -/
theorem writeDo_run (s : State) (v : Nat) :
    s.writeDo 0x70000 v = (ctrlStored s v).runWrite ((s.word 0x70000).toNat.testBit 0) (v.testBit 0) := by
  have hw : writable 0x70000 = some ⟨0x70000, 4, 1, 0x4000, 0xff01, 0, 0, 0, 1, [⟨8, 8, 1, 255⟩]⟩ := by decide
  unfold State.writeDo
  rw [hw]
  rfl

/-- The bit RUN of the word that names it. -/
theorem withField_run (s : State) {x : Nat} (hx : x < 2) : (s.withField F.CTL_CTRL_RUN x).testBit 0 = (x == 1) := by
  have h : (s.withField F.CTL_CTRL_RUN x).testBit 0 = x.testBit 0 := into_getLsbD F.CTL_CTRL_RUN (s.word 0x70000) x 0 (by decide)
  rw [h]
  interval_cases x <;> rfl

/-- RUN is the lowest bit of CTL_CTRL. -/
theorem run_testBit (s : State) : (s.word 0x70000).toNat.testBit 0 = s.flag F.CTL_CTRL_RUN := by
  rw [Nat.testBit_eq_decide_div_mod_eq, ← Nat.shiftRight_eq_div_pow]
  rfl

section
variable {s : State} {v : Nat}

/-- A start that nothing bars finds a structure (R176). -/
theorem start_struct (hv : v.testBit 0 = true) (hr : s.flag F.CTL_CTRL_RUN = false) (h : s.writeErr 0x70000 v = none) :
    s.ctl.struct.isSome = true := by
  by_contra hn
  have hbar : s.startRefused = some 0 := if_pos (by simp [Option.not_isSome_iff_eq_none.1 hn])
  unfold State.writeErr at h
  simp only [hbar, hv, hr, Bool.not_false, and_self, if_true] at h
  split at h
  · cases h
  · split_ifs at h
    split at h <;> cases h

/-- The loop starts in warm-up with CONV_EN high and nothing slewed (Table 7.5). -/
theorem loopStart_begins (h : s.ctl.struct.isSome = true) : s.loopStart.get F.CTL_STAT_STATE = 1 ∧ s.loopStart.flag F.CTL_CTRL_RUN = true ∧
    s.loopStart.ctl.convEn = true ∧ s.loopStart.ctl.islew = 0 ∧ s.loopStart.ctl.warm = 0 := by
  obtain ⟨c, hc⟩ := Option.isSome_iff_exists.1 h
  unfold State.loopStart
  rw [hc]
  dsimp only
  refine ⟨?_, flag_setB_same _ F.CTL_CTRL_RUN true (show 0 + 1 ≤ 32 by decide) rfl, rfl, rfl, rfl⟩
  rw [get_set_clear _ _ _ _ (by decide)]
  exact get_set_same _ F.CTL_STAT_STATE 1 (show 0 + 2 ≤ 32 by decide)

/-- RUN written 1 starts the loop anew, with the structure it has. -/
theorem runWrite_starts (h : s.ctl.struct.isSome = true) :
    s.runWrite false true = (if s.loopStopped then s else s.loopStop).loopStart ∧
      (if s.loopStopped then s else s.loopStop).ctl.struct.isSome = true := by
  refine ⟨rfl, ?_⟩
  split
  · exact h
  · exact h

end

section
variable {s : State} {t : Nat} (hin : (s.upto t).inService = true)
include hin

theorem loopStartWrite_begins (hw : (s.upto t).writeErr 0x70000 ((s.upto t).withField F.CTL_CTRL_RUN 1) = none)
    (hr : (s.upto t).flag F.CTL_CTRL_RUN = false) : Answers (.loopStartWrite t) s (fun s' => s'.get F.CTL_STAT_STATE = 1 ∧
      s'.flag F.CTL_CTRL_RUN = true ∧ s'.ctl.convEn = true ∧ s'.ctl.islew = 0 ∧ s'.ctl.warm = 0) := by
  have hbit := withField_run (s.upto t) (x := 1) (by decide)
  have hs : (s.upto t).ctl.struct.isSome = true := start_struct hbit hr hw
  obtain ⟨he, hkept⟩ := runWrite_starts (s := ctrlStored (s.upto t) ((s.upto t).withField F.CTL_CTRL_RUN 1)) hs
  refine answers_of_guard rfl hin (accessWrite_ok hw) ?_
  rw [writeDo_run (s.upto t), run_testBit, hr, hbit, command_get, command_flag, command_ctl]
  exact he ▸ loopStart_begins hkept

theorem loopStopWrite_asks (hw : (s.upto t).writeErr 0x70000 ((s.upto t).withField F.CTL_CTRL_RUN 0) = none)
    (hr : (s.upto t).flag F.CTL_CTRL_RUN = true) : Answers (.loopStopWrite t) s (fun s' => s'.ctl.stopReq = true ∧
      s'.get F.CTL_STAT_STATE = (s.upto t).get F.CTL_STAT_STATE) := by
  have hbit := withField_run (s.upto t) (x := 0) (by decide)
  refine answers_of_guard rfl hin (accessWrite_ok hw) ?_
  rw [writeDo_run (s.upto t), run_testBit, hr, hbit, command_get, command_ctl]
  exact ⟨rfl, congrArg F.CTL_STAT_STATE.of (word_putWord_other _ 0x70000 0x70004 _ (by decide))⟩

end

/-! ## The end of warm-up, and CONV_EN (R162, R176, R177, R182) -/

section
variable {s : State} {t : Nat}

theorem loopWarmupEnd_frees (hd : (s.upto t).sampleDue = true) (hw : (s.upto t).warmDue = true) :
    Answers (.loopWarmupEnd t) s (fun s' => s'.get F.CTL_STAT_STATE = 2 ∧ s'.ctl.gatesLow = false ∧
      s'.ctl.freeAt = (s.upto t).now + 800 ∧ s'.pads.gates = false ∧
      s'.ctl.env = some ((s.upto t).getI F.CTL_ENV0_K1, (s.upto t).getI F.CTL_ENV0_K0, (s.upto t).get F.CTL_ENV1_BAND,
        (s.upto t).get F.CTL_ENV1_PERSIST)) := by
  refine answers_of_guard rfl (by rw [hd, hw]; rfl) rfl ?_
  rw [command_get, command_ctl, command_pads]
  refine ⟨get_set_same _ F.CTL_STAT_STATE 2 (show 0 + 2 ≤ 32 by decide), rfl, rfl, ?_, rfl⟩
  show State.gatesOn _ = false
  unfold State.gatesOn
  rw [command_ctl, command_now, show (s.upto t).warmEnd.ctl.freeAt = (s.upto t).now + 800 from rfl,
    decide_eq_false (by omega : ¬ (s.upto t).now + 800 ≤ (s.upto t).now)]
  simp

theorem convEnFall_falls (hc : (s.upto t).ctl.convEn = true) (hs : (s.upto t).loopStopped = true) (hl : (s.upto t).ctl.gatesLow = true)
    (ha : (s.upto t).ctl.lowAt + 10 * usec ≤ (s.upto t).now) :
    Answers (.convEnFall t) s (fun s' => s'.ctl.convEn = false ∧ s'.pads.convEn = false ∧ s'.regs = (s.upto t).regs) := by
  refine answers_of_guard rfl (by rw [hc, hs, hl, decide_eq_true ha]; rfl) rfl ?_
  rw [command_ctl, command_pads, command_regs]
  refine ⟨rfl, ?_, rfl⟩
  show State.convLevel _ = false
  unfold State.convLevel
  rw [command_ctl]
  rfl

end

/-! ## A swap of the gain banks (R179) -/

/-- The control engine, the replies that wait and CTL_BANKSEL. -/
def swapParts (s : State) : CtlSt × List Waiting × Word := (s.ctl, s.host.waiting, s.word 0x70008)

section
variable (s : State)

theorem set_swapParts (f : Fld) (x : Nat) (h : f.addr ≠ 0x70008) : swapParts (s.set f x) = swapParts s := by
  unfold swapParts
  rw [word_set_other _ _ _ _ h]
  rfl

theorem count_swapParts (f g : Fld) (hf : f.addr ≠ 0x70008) (hg : g.addr ≠ 0x70008) : swapParts (s.count f g) = swapParts s := by
  unfold State.count
  dsimp only
  split
  · exact set_swapParts _ _ _ hf
  · exact (set_swapParts _ _ _ hg).trans (set_swapParts _ _ _ hf)

theorem raise_swapParts (n : Nat) (d : List Byte) : swapParts (s.raise n d) = swapParts s := by
  unfold State.raise
  dsimp only
  split
  · exact set_swapParts _ _ _ (by decide)
  · rfl

theorem qLost_swapParts (n : Nat) : swapParts (s.qLost n) = swapParts s :=
  count_swapParts s _ _ (show 0x100100 + 4 * n ≠ 0x70008 by omega) (show 0x100100 + 4 * n ≠ 0x70008 by omega)

/-! ### Replies and events -/

theorem queueReply_swapParts (n : Nat) (via : Via) (src : Nat) (p : Pkt) : swapParts (s.queueReply n via src p) = swapParts s := by
  have hlost : ∀ c : State, swapParts ((c.count F.GLB_PKTERR_QFULL F.GLB_PKTERR_SAT).qLost (8 + n)) = swapParts c := fun c =>
    (qLost_swapParts _ _).trans (count_swapParts _ _ _ (by decide) (by decide))
  unfold State.queueReply
  dsimp only
  split_ifs
  · rfl
  · exact hlost _
  · rfl
  · exact hlost _

theorem answer_swapParts (id : ReqId) (st j : Nat) (p : List Byte) : swapParts (s.answer id st j p) = swapParts s := by
  have hq := foldl_leaves swapParts (fun (a : State) p => a.queueReply id.session id.via id.src p) (fun a p => queueReply_swapParts a ..)
    (s.replyPkts id st j p) s
  unfold State.answer
  dsimp only
  split_ifs
  · exact foldl_leaves swapParts State.toSpi (fun _ _ => rfl) _ _
  · exact hq
  · exact hq
  · exact foldl_leaves swapParts _ (fun a p => by cases id.via <;> rfl) _ _

theorem sendEvent_swapParts (n num c ns st j : Nat) (d : List Byte) : swapParts (s.sendEvent n num c ns st j d) = swapParts s := by
  have hroom : swapParts (s.eventRoom n) = swapParts s := by
    unfold State.eventRoom
    dsimp only
    split_ifs
    · exact qLost_swapParts _ _
    · rfl
    · exact qLost_swapParts _ _
    · rfl
  unfold State.sendEvent State.queueEvent
  dsimp only
  split <;> exact hroom

theorem jobEnd_swapParts (i : Nat) (st : JobSt) (fin : Nat) (d : List Byte) : swapParts (s.jobEnd i st fin d) = swapParts s := by
  have hmod : ∀ f, swapParts (s.jobMod i f) = swapParts s := fun _ => rfl
  unfold State.jobEnd
  dsimp only
  split
  · rfl
  · simp only [apply_ite swapParts, sendEvent_swapParts, hmod, ite_self]

/-! ### The point that a swap abandons (Table 6.6) -/

theorem impEnd_swapParts (st : JobSt) (fin : Nat) : swapParts (s.impEnd st fin) = swapParts s := by
  have hset : ∀ b : State, swapParts ((b.set F.EST_IMP_STAT_STATE 0).set F.EST_IMP_STAT_AUTO 0) = swapParts b := fun b =>
    (set_swapParts _ _ _ (by decide)).trans (set_swapParts _ _ _ (by decide))
  unfold State.impEnd
  split
  · exact hset _
  · exact (jobEnd_swapParts ..).trans (hset _)

theorem impNext_swapParts : swapParts s.impNext = swapParts s := by
  by_cases h : s.imp.k + 1 < s.imp.pts.length
  · rw [impNext_more h]
    exact (set_swapParts _ _ _ (by decide)).trans (set_swapParts _ _ _ (by decide))
  · obtain ⟨l, hl⟩ := impNext_last (Nat.not_lt.1 h)
    rw [hl]
    exact (raise_swapParts ..).trans ((set_swapParts _ _ _ (by decide)).trans (impEnd_swapParts ..))

theorem impAbandon_swapParts : swapParts s.impAbandon = swapParts s := by
  have hseen : swapParts (s.setB F.EST_IMP_STAT_ABORT_SEEN true) = swapParts s := set_swapParts _ _ _ (by decide)
  have hagain : swapParts ((s.setB F.EST_IMP_STAT_ABORT_SEEN true).set F.EST_IMP_STAT_STATE 0) = swapParts s :=
    (set_swapParts _ _ _ (by decide)).trans hseen
  unfold State.impAbandon
  dsimp only
  split_ifs
  · rfl
  · exact hagain
  · exact (impNext_swapParts _).trans hseen

end

/-- The selector has switched, with the validity of the banks, and the swap is counted; the reply still waits. -/
def banksSwapped (s : State) : State :=
  let s1 : State := { s with ctl := { s.ctl with swapAt := none } }
  ((((s1.set F.CTL_BANKSEL_ACTIVE (1 - s.get F.CTL_BANKSEL_ACTIVE)).set F.CTL_BANKSEL_ACTVALID (s.get F.CTL_BANKSEL_SHVALID)).set
    F.CTL_BANKSEL_SHVALID (s.get F.CTL_BANKSEL_ACTVALID)).setB F.CTL_BANKSEL_SWAPPEND false).count F.CTL_BANKSEL_SWAPS F.CTL_BANKSEL_SAT

section
variable (s : State)

theorem banksSwapped_ctl : (banksSwapped s).ctl = { s.ctl with swapAt := none } := count_ctl ..

theorem banksSwapped_active : (banksSwapped s).get F.CTL_BANKSEL_ACTIVE = 1 - s.get F.CTL_BANKSEL_ACTIVE := by
  unfold banksSwapped State.setB
  rw [get_count_other _ _ _ _ (by decide), get_set_clear _ _ _ _ (by decide), get_set_clear _ _ _ _ (by decide),
    get_set_clear _ _ _ _ (by decide), get_set_self _ _ _ (by decide)]
  exact Nat.mod_eq_of_lt (show 1 - s.get F.CTL_BANKSEL_ACTIVE < 2 by omega)

theorem banksSwapped_actvalid : (banksSwapped s).get F.CTL_BANKSEL_ACTVALID = s.get F.CTL_BANKSEL_SHVALID := by
  unfold banksSwapped State.setB
  rw [get_count_other _ _ _ _ (by decide), get_set_clear _ _ _ _ (by decide), get_set_clear _ _ _ _ (by decide), get_set_self _ _ _ (by decide)]
  exact Nat.mod_eq_of_lt (get_lt s F.CTL_BANKSEL_SHVALID)

theorem banksSwapped_shvalid : (banksSwapped s).get F.CTL_BANKSEL_SHVALID = s.get F.CTL_BANKSEL_ACTVALID := by
  unfold banksSwapped State.setB
  rw [get_count_other _ _ _ _ (by decide), get_set_clear _ _ _ _ (by decide), get_set_self _ _ _ (by decide)]
  exact Nat.mod_eq_of_lt (get_lt s F.CTL_BANKSEL_ACTVALID)

theorem banksSwapped_swappend : (banksSwapped s).flag F.CTL_BANKSEL_SWAPPEND = false := by
  unfold banksSwapped State.flag
  rw [get_count_other _ _ _ _ (by decide)]
  exact flag_setB_self _ F.CTL_BANKSEL_SWAPPEND false (by decide)

/-- The replies to the swap, and the point it abandons, leave the selector; no reply waits for a swap any more. -/
theorem gainSwap_swapParts : swapParts s.gainSwap =
    ((banksSwapped s).ctl, s.host.waiting.filter (fun w => !(w.why == WaitFor.swap)), (banksSwapped s).word 0x70008) := by
  have hw : (banksSwapped s).host.waiting = s.host.waiting := congrArg HostSt.waiting (count_host ..)
  have he : s.gainSwap = (((banksSwapped s).host.waiting.partition (fun x => x.why == WaitFor.swap)).1.foldl
      (fun (a : State) x => a.answer x.id stOk 0 []) { banksSwapped s with host := { (banksSwapped s).host with
        waiting := ((banksSwapped s).host.waiting.partition (fun x => x.why == WaitFor.swap)).2 } }).impAbandon := rfl
  rw [he, impAbandon_swapParts, List.partition_eq_filter_filter, hw]
  exact foldl_leaves swapParts (fun (a : State) (x : Waiting) => a.answer x.id stOk 0 []) (fun a x => answer_swapParts a ..) _ _

theorem gainSwap_ctl : s.gainSwap.ctl = { s.ctl with swapAt := none } :=
  (congrArg Prod.fst (gainSwap_swapParts s)).trans (banksSwapped_ctl s)

theorem gainSwap_waiting : s.gainSwap.host.waiting = s.host.waiting.filter (fun w => !(w.why == WaitFor.swap)) :=
  congrArg (fun x => x.2.1) (gainSwap_swapParts s)

/-- A field of CTL_BANKSEL is the one after the selector switched. -/
theorem gainSwap_get {f : Fld} (h : f.addr = 0x70008) : s.gainSwap.get f = (banksSwapped s).get f := by
  have hword : s.gainSwap.word 0x70008 = (banksSwapped s).word 0x70008 := congrArg (fun x => x.2.2) (gainSwap_swapParts s)
  unfold State.get
  rw [h, hword]

end

theorem gainSwap_swaps {s : State} {t : Nat} (hs : (s.upto t).sampling = true) (hd : (s.upto t).swapDue = true) :
    Answers (.gainSwap t) s (fun s' => s'.get F.CTL_BANKSEL_ACTIVE = 1 - (s.upto t).get F.CTL_BANKSEL_ACTIVE ∧
      s'.get F.CTL_BANKSEL_ACTVALID = (s.upto t).get F.CTL_BANKSEL_SHVALID ∧
      s'.get F.CTL_BANKSEL_SHVALID = (s.upto t).get F.CTL_BANKSEL_ACTVALID ∧ s'.flag F.CTL_BANKSEL_SWAPPEND = false ∧
      s'.ctl.swapAt = none ∧ ∀ w ∈ s'.host.waiting, w.why ≠ .swap) := by
  refine answers_of_guard rfl (by rw [hs, hd]; rfl) rfl ?_
  unfold State.flag
  simp only [command_get, command_ctl, command_host]
  rw [gainSwap_get _ rfl, gainSwap_get _ rfl, gainSwap_get _ rfl, gainSwap_get _ rfl, gainSwap_ctl, gainSwap_waiting]
  refine ⟨banksSwapped_active _, banksSwapped_actvalid _, banksSwapped_shvalid _, banksSwapped_swappend _, rfl, fun w hw => ?_⟩
  simpa using (List.mem_filter.1 hw).2

/-! ## Faults of the set-point sources (Table 7.4) -/

section
variable (s : State) (f g : Fld)

/-- A fault and its sticky bit are set together. -/
theorem fault_set (hf : clearOf [g] f = true) (hw : f.w = 1) (hg : g.lo + g.w ≤ 32 ∧ g.w = 1) :
    ((s.setB f true).setB g true).flag f = true ∧ ((s.setB f true).setB g true).flag g = true := by
  refine ⟨?_, flag_setB_self _ g true hg⟩
  unfold State.flag State.setB
  rw [get_set_clear _ _ _ _ hf]
  exact flag_setB_same s f true (clearOf_fits hf) hw

/-- A fault clears, and its sticky bit stays. -/
theorem fault_cleared (hf : f.lo + f.w ≤ 32 ∧ f.w = 1) (hg : clearOf [f] g = true) :
    (s.setB f false).flag f = false ∧ (s.setB f false).flag g = s.flag g := by
  refine ⟨flag_setB_self _ f false hf, ?_⟩
  unfold State.flag State.setB
  rw [get_set_clear _ _ _ _ hg]

end

end Sys2Proof.Machine.Laws

namespace Sys2Proof.Proofs

open Sys2Proof.Machine Sys2Proof.Machine.Laws Sys2Proof.Safety

/-- Settles O18: a write of RUN acts as its bit says (`writeDo_run`), the end of warm-up frees the gates from an instant to come, a swap
exchanges the banks and answers whoever waits for it (`gainSwap_swapParts`), and a fault is set and cleared by itself. -/
theorem loopStartsStopsAndSwaps : Obligations.LoopStartsStopsAndSwaps := by
  unfold Obligations.LoopStartsStopsAndSwaps
  rintro s _ t b pulse rfl
  refine ⟨loopStartWrite_begins, loopStopWrite_asks, loopWarmupEnd_frees, convEnFall_falls, gainSwap_swaps, fun hs hn ht => ?net,
    fun hs hb ht => ?analog, fun hs hp => ?pulse, fun hs hb ht => ?clear⟩
  case net =>
    refine answers_of_guard rfl (by rw [hs, decide_eq_true ht]; simpa using hn) rfl ?_
    rw [command_flag, command_flag, command_ctl]
    obtain ⟨hfault, hseen⟩ := fault_set (s.upto t) F.CTL_SPSTAT_NETTMO F.CTL_SPSTAT_NETTMO_SEEN (by decide) rfl (by decide)
    exact ⟨hfault, hseen, rfl⟩
  case analog =>
    refine answers_of_guard rfl (by rw [hs, hb, Option.any_some, decide_eq_true ht]; rfl) rfl ?_
    rw [command_flag, command_flag]
    exact fault_set _ _ _ (by decide) rfl (by decide)
  case pulse =>
    refine answers_of_guard rfl (by simpa [hs] using hp) rfl ?_
    rw [command_flag, command_flag]
    exact fault_set _ _ _ (by decide) rfl (by decide)
  case clear =>
    refine answers_of_guard rfl (by rw [hs, hb, Option.any_some, decide_eq_true ht]; rfl) rfl ?_
    rw [command_flag, command_flag]
    cases pulse
    · exact fault_cleared _ _ _ (by decide) (by decide)
    · exact fault_cleared _ _ _ (by decide) (by decide)

end Sys2Proof.Proofs
end

section
/-! Control samples of a stopped loop: what they latch, the limits they write, and the vector that the lanes select (O17). -/

namespace Sys2Proof.Machine.Laws

open Sys2Proof.Safety

/-! ## What the stages of a control sample leave -/

/-- The fields that say what a sample has to do, with what blocks a direction and scales the phase currents. -/
def guardFields : List Fld :=
  [F.CTL_STAT_STATE, F.SAF_STAT_RAMP, F.SAF_STAT_STATE, F.PRT_LIMIT_BLK_DIS, F.PRT_LIMIT_BLK_CHG, F.CTL_PHSCALE_SCALE]

/-- Time, clocks and the two histories, and what waits for a sample: a contactor sequence, a switch-over, the end of a sweep, a stop, a swap. -/
def calmParts (s : State) :
    TimeSt × RstSt × List Samp × List Int × Option Seq × Bool × Bool × Bool × Option Nat :=
  (s.time, s.rst, s.cvi.hist, s.ctl.iphHist, s.prt.seq, s.lan.sw.isNone, s.imp.stopping, s.ctl.stopReq, s.ctl.swapAt)

/-- `b` has the parts of `calmParts` and the fields `l` of `a`. -/
structure Calm (l : List Fld) (a b : State) : Prop where
  parts : calmParts b = calmParts a
  get : ∀ f ∈ l, b.get f = a.get f

namespace Calm

section
variable {l : List Fld} {a b c : State}

theorem refl (a : State) : Calm l a a := ⟨rfl, fun _ _ => rfl⟩

theorem trans (h : Calm l a b) (k : Calm l b c) : Calm l a c :=
  ⟨k.parts.trans h.parts, fun f hf => (k.get f hf).trans (h.get f hf)⟩

theorem mono {m : List Fld} (h : Calm l a b) (hm : m ⊆ l) : Calm m a b := ⟨h.parts, fun f hf => h.get f (hm hf)⟩

/-- An update of other parts of the state. -/
theorem upd (h : Calm l a b) (hp : calmParts c = calmParts b) (hr : c.regs = b.regs) : Calm l a c :=
  h.trans ⟨hp, fun f _ => get_congr hr f⟩

theorem set (h : Calm l a b) (f : Fld) (x : Nat) (hf : l.all (clearOf [f]) = true) : Calm l a (b.set f x) :=
  h.trans ⟨rfl, fun g hg => get_set_clear b f g x (List.all_eq_true.mp hf g hg)⟩

theorem setB (h : Calm l a b) (f : Fld) (x : Bool) (hf : l.all (clearOf [f]) = true) : Calm l a (b.setB f x) := h.set f _ hf

theorem setI (h : Calm l a b) (f : Fld) (x : Int) (hf : l.all (clearOf [f]) = true) : Calm l a (b.setI f x) := h.set f _ hf

theorem ite {p : Prop} [Decidable p] {x y : State} (hx : Calm l a x) (hy : Calm l a y) : Calm l a (if p then x else y) := by
  split
  · exact hx
  · exact hy

theorem foldl {α : Type} {f : State → α → State} (hf : ∀ s x, Calm l a s → Calm l a (f s x)) (xs : List α) :
    ∀ s, Calm l a s → Calm l a (xs.foldl f s) := by
  induction xs with
  | nil => exact fun _ h => h
  | cons x t ih => exact fun s h => ih _ (hf s x h)

theorem flag (h : Calm l a b) {f : Fld} (hf : f ∈ l) : b.flag f = a.flag f := congrArg (· == 1) (h.get f hf)

end

section
variable {a b : State} (h : Calm guardFields a b)
include h

/-- An entry of the limit stack that neither the contactors nor the integrity of the measurements writes. -/
theorem entry {i : Nat} (hi : i ≠ 4 ∧ i ≠ 5) (hd : guardFields.all (clearOf [F.PRT_ENT_DIS.ix8 i]) = true)
    (hc : guardFields.all (clearOf [F.PRT_ENT_CHG.ix8 i]) = true) (dis chg : Int) : Calm guardFields a (b.entry i dis chg) := by
  unfold State.entry State.entryPut
  rw [if_neg (show ¬ (i = 4 ∨ i = 5) from not_or.mpr hi)]
  exact ite h ((h.setI _ dis hd).setI _ chg hc)

theorem entry8 : Calm guardFields a b.entry8 :=
  ite (h.entry (by decide) (by decide) (by decide) ..) (h.entry (by decide) (by decide) (by decide) ..)

theorem limits : Calm guardFields a b.limits.1 :=
  (((h.setI F.PRT_LDIS _ (by decide)).setI F.PRT_LCHG _ (by decide)).set F.PRT_LIMIT_BIND_DIS _ (by decide)).set F.PRT_LIMIT_BIND_CHG _ (by decide)

theorem gridSlew : Calm guardFields a b.gridSlew := by
  have hs : ∀ g, Calm guardFields a (b.setI F.GLB_GRID_PHASE_ERR g) := fun g => h.setI _ g (by decide)
  unfold State.gridSlew
  exact ite h (ite (((hs _).setB _ _ (by decide)).setB _ _ (by decide)) (hs _))

end

end Calm

/-! ## The set-point inputs and the converters (R97 to R102, R304) -/

/-- What is taken of the set-point at a sample touches the source's fields and the NET value alone. -/
theorem setpointTake_calm (s : State) (n : Nat) : Calm (F.GLB_GRID_PHASE_ERR :: guardFields) s (s.setpointTake n) := by
  refine Calm.foldl (fun b x hb => ?_) _ _ ((Calm.refl s).upd rfl rfl)
  refine Calm.ite (Calm.ite (hb.upd rfl rfl) ?net) ?source
  case net => exact (hb.upd (c := { b with ctl := { b.ctl with net := some (iAt x.2 0 4, b.now) } }) rfl rfl).setB F.CTL_SPSTAT_NETTMO _ (by decide)
  case source => exact ((hb.set _ _ (by decide)).set _ _ (by decide)).set _ _ (by decide)

section
variable (s : State) (v : Samp) (x : SampleIn)

/-- `s` with the sample `v` in its history. -/
def sampPut : State := { s with cvi := { s.cvi with hist := (v :: s.cvi.hist).take 520 } }

/-- `s` with the sample `v` and the sum of the phase currents in their histories. -/
def latched : State := { sampPut s v with ctl := { s.ctl with iphHist := (s.phaseSum x :: s.ctl.iphHist).take 64 } }

/-- A sample of the converters enters the history, and its effective instant is 5 µs before the grid's (R98). -/
theorem cviSample_calm : ∃ v : Samp, v.eff = s.gridAt 5000 - 5000 ∧ v.sh = s.domainGood 5 ∧ v.hv = s.domainGood 6 ∧
    Calm guardFields (sampPut s v) (s.cviSample x) := by
  unfold State.cviSample
  extract_lets eff sh hv az useB none_ top code runs meas c0
  split
  split
  extract_lets i clipd step acc1 acc2
  split
  split
  split
  extract_lets sm c1 c2 s0 s1 s2 s3 s4 s5
  have hhist : c2.hist = (sm :: s.cvi.hist).take 520 := by
    unfold c2
    split
    · exact apply_ite CviSt.hist .. |>.trans (ite_self _)
    · rfl
  have h0 : Calm guardFields (sampPut s sm) s0 := (Calm.refl _).upd (by unfold calmParts; rw [hhist]; rfl) rfl
  have h1 : Calm guardFields (sampPut s sm) s1 := .ite (h0.upd rfl rfl) h0
  have h2 : Calm guardFields (sampPut s sm) s2 := .ite (h1.setB _ _ (by decide)) h1
  have h3 : Calm guardFields (sampPut s sm) s3 := ((h2.setB _ _ (by decide)).setB _ _ (by decide)).setB _ _ (by decide)
  have h4 : Calm guardFields (sampPut s sm) s4 := .ite (h3.setB _ _ (by decide)) h3
  have h5 : Calm guardFields (sampPut s sm) s5 := .ite (h4.setB _ _ (by decide)) h4
  exact ⟨sm, rfl, rfl, rfl, .ite h2 (.ite (h5.setB _ _ (by decide)) h5)⟩

theorem impCurrent_calm : Calm guardFields s s.impCurrent := by
  unfold State.impCurrent
  split
  next y _ => exact ⟨burstSample_leaves calmParts (fun _ _ => rfl) s y, fun f _ => get_congr (burstSample_leaves State.regs (fun _ _ => rfl) s y) f⟩
  · exact .refl s

theorem phaseSum_congr {a b : State} (h : b.get F.CTL_PHSCALE_SCALE = a.get F.CTL_PHSCALE_SCALE) : b.phaseSum x = a.phaseSum x := by
  unfold State.phaseSum State.phase
  rw [h]

/-- What a sample latches enters the two histories, and leaves the rest of `calmParts`. -/
theorem latchIn_calm : ∃ v : Samp, v.eff = s.gridAt 5000 - 5000 ∧ v.sh = s.domainGood 5 ∧ v.hv = s.domainGood 6 ∧
    Calm guardFields (latched s v x) (s.latchIn x) := by
  obtain ⟨v, heff, hsh, hhv, hcvi⟩ := cviSample_calm s x
  have hc : Calm guardFields (sampPut s v) (((s.cviSample x).impCurrent).spInputs x) := (hcvi.trans (impCurrent_calm _)).upd rfl rfl
  refine ⟨v, heff, hsh, hhv, ?_⟩
  unfold State.latchIn
  generalize ((s.cviSample x).impCurrent).spInputs x = c at hc ⊢
  obtain ⟨hparts, hget⟩ := hc
  have hsum : c.phaseSum x = s.phaseSum x := phaseSum_congr x (hget _ (by decide))
  simp only [calmParts, Prod.mk.injEq] at hparts
  obtain ⟨htime, hrst, hhist, hiph, hseq, hsw, hstop, hreq, hswap⟩ := hparts
  refine ⟨?_, hget⟩
  dsimp only
  simp only [calmParts, CtlSt.turns, CtlSt.follow, Option.isNone_map, hsum, htime, hrst, hhist, hiph, hseq, hsw, hstop, hreq, hswap]
  rfl

/-- The domains of the converters run where the module is in service (R24). -/
theorem converters_good_congr {a b : State} (h : b.rst = a.rst) : b.domainGood 5 = a.domainGood 5 ∧ b.domainGood 6 = a.domainGood 6 := by
  simp only [State.domainGood, State.clockGood, State.domainOn, State.inService, h, and_self]

/-- The grid's instant and the clocks stand while the set-point is taken. -/
theorem setpointTake_grid (n : Nat) : (s.setpointTake n).gridAt 5000 = s.gridAt 5000 ∧
    (s.setpointTake n).domainGood 5 = s.domainGood 5 ∧ (s.setpointTake n).domainGood 6 = s.domainGood 6 := by
  obtain ⟨hparts, hget⟩ := setpointTake_calm s n
  simp only [calmParts, Prod.mk.injEq] at hparts
  obtain ⟨htime, hrst, -⟩ := hparts
  have hphase : (s.setpointTake n).gridPhase = s.gridPhase := congrArg (ofCode F.GLB_GRID_PHASE_ERR.w) (hget _ (by decide))
  refine ⟨?_, converters_good_congr hrst⟩
  unfold State.gridAt State.gridCount State.quartzNs
  rw [hphase, htime]

/-- The state whose set-point is computed at a sample: all is latched, and the grid has slewed. -/
def sampled : State := ((s.setpointTake (s.gridCount 5000)).latchIn x).gridSlew

theorem sampled_calm : ∃ v : Samp, v.eff = s.gridAt 5000 - 5000 ∧ v.sh = s.domainGood 5 ∧ v.hv = s.domainGood 6 ∧
    Calm guardFields (latched s v x) (sampled s x) := by
  have htake := (setpointTake_calm s (s.gridCount 5000)).mono (List.subset_cons_self ..)
  obtain ⟨hgrid, hshunt, hhigh⟩ := setpointTake_grid s (s.gridCount 5000)
  obtain ⟨v, heff, hsh, hhv, hlatch⟩ := latchIn_calm (s.setpointTake (s.gridCount 5000)) x
  refine ⟨v, heff.trans (congrArg (· - 5000) hgrid), hsh.trans hshunt, hhv.trans hhigh, (Calm.trans ?_ hlatch).gridSlew⟩
  have hsum := phaseSum_congr x (htake.get F.CTL_PHSCALE_SCALE (by decide))
  obtain ⟨hparts, hget⟩ := htake
  simp only [calmParts, Prod.mk.injEq] at hparts
  obtain ⟨htime, hrst, hhist, hiph, hseq, hsw, hstop, hreq, hswap⟩ := hparts
  refine ⟨?_, hget⟩
  simp only [calmParts, latched, sampPut, hsum, htime, hrst, hhist, hiph, hseq, hsw, hstop, hreq, hswap]

end

/-! ## The limits of a sample, and the set-point within them (R174, R189, R193) -/

section
variable (s : State)

/-- Entries 6 and 8 have their values of this sample. -/
def limitEntries : State := s.entry8.entry 6 (s.irated * s.driven.length / 4) (s.irated * s.driven.length / 4)

/-- The entries of the limit stack in one direction. -/
def entries (f : Fld) : List Int := (List.range 10).map (fun i => s.getI (f.ix8 i))

/-- The discharge limit of a sample with the entry that binds. -/
def disLimit : Int × Nat := limitOf s.irated (entries s F.PRT_ENT_DIS) (s.flag F.PRT_LIMIT_BLK_DIS)

/-- The charge limit of a sample with the entry that binds. -/
def chgLimit : Int × Nat := limitOf s.irated (entries s F.PRT_ENT_CHG) (s.flag F.PRT_LIMIT_BLK_CHG)

theorem limits_eq : s.limits = (s.limits.1, (disLimit s).1, (chgLimit s).1) := rfl

theorem limitEntries_calm : Calm guardFields s (limitEntries s) := (Calm.refl s).entry8.entry (by decide) (by decide) (by decide) ..

theorem limits_written : s.limits.1.getI F.PRT_LDIS = clipS 32 (disLimit s).1 ∧ s.limits.1.getI F.PRT_LCHG = clipS 32 (chgLimit s).1 ∧
    s.limits.1.get F.PRT_LIMIT_BIND_DIS = (disLimit s).2 % 16 ∧ s.limits.1.get F.PRT_LIMIT_BIND_CHG = (chgLimit s).2 % 16 := by
  have hs : s.limits.1 = (((s.setI F.PRT_LDIS (disLimit s).1).setI F.PRT_LCHG (chgLimit s).1).set F.PRT_LIMIT_BIND_DIS (disLimit s).2).set
    F.PRT_LIMIT_BIND_CHG (chgLimit s).2 := rfl
  rw [hs]
  refine ⟨?ldis, ?lchg, ?bindDis, get_set_self _ F.PRT_LIMIT_BIND_CHG _ (by decide)⟩
  case ldis =>
    rw [getI_set_clear _ _ _ _ (by decide), getI_set_clear _ _ _ _ (by decide), State.setI, getI_set_clear _ _ _ _ (by decide)]
    exact getI_setI s F.PRT_LDIS _ (show 0 + 32 ≤ 32 by decide) (by decide)
  case lchg =>
    rw [getI_set_clear _ _ _ _ (by decide), getI_set_clear _ _ _ _ (by decide)]
    exact getI_setI _ F.PRT_LCHG _ (show 0 + 32 ≤ 32 by decide) (by decide)
  case bindDis =>
    rw [get_set_clear _ _ _ _ (by decide)]
    exact get_set_self _ F.PRT_LIMIT_BIND_DIS _ (by decide)

theorem target_regs (v : Int) : (s.target v).1.regs = s.regs := by
  unfold State.target State.lrnStep
  split_ifs
  · rfl
  · split <;> rfl
  · rfl

theorem target_calm (v : Int) : Calm guardFields s (s.target v).1 := by
  refine (Calm.refl s).upd ?_ (target_regs s v)
  unfold State.target State.lrnStep
  split_ifs
  · rfl
  · split <;> rfl
  · rfl

/-- A set-point is a target between the two limits, and only CTL_SPNOW and CLAMPED are written after the limits. -/
theorem setPoint_written (v : Int) : ∃ (s2 : State) (want : Int) (clamped : Bool),
    Calm guardFields (limitEntries s).limits.1 s2 ∧ s2.regs = (limitEntries s).limits.1.regs ∧
      s.setPoint v = (s2.setI F.CTL_SPNOW (clip (-(chgLimit (limitEntries s)).1) (disLimit (limitEntries s)).1 want)).setB F.CTL_SPSTAT_CLAMPED clamped := by
  unfold State.setPoint
  rw [show s.entry8.entry 6 (s.irated * s.driven.length / 4) (s.irated * s.driven.length / 4) = limitEntries s from rfl, limits_eq]
  refine ⟨{ ((limitEntries s).limits.1.target v).1 with ctl := _, imp := _ }, _, _, ?calm, ?regs, rfl⟩
  case calm => exact (target_calm _ v).upd rfl rfl
  case regs => exact target_regs _ v

theorem setPoint_calm (v : Int) : Calm guardFields s (s.setPoint v) := by
  obtain ⟨s2, want, clamped, hcalm, -, he⟩ := setPoint_written s v
  rw [he]
  exact (((limitEntries_calm s).limits.trans hcalm).setI _ _ (by decide)).setB _ _ (by decide)

/-- The registers of the limits and of the set-point after a sample. -/
theorem setPoint_limits (v : Int) :
    (s.setPoint v).getI F.PRT_LDIS = clipS 32 (disLimit (limitEntries s)).1 ∧ (s.setPoint v).getI F.PRT_LCHG = clipS 32 (chgLimit (limitEntries s)).1 ∧
    (s.setPoint v).get F.PRT_LIMIT_BIND_DIS = (disLimit (limitEntries s)).2 % 16 ∧
    (s.setPoint v).get F.PRT_LIMIT_BIND_CHG = (chgLimit (limitEntries s)).2 % 16 ∧
    ∃ want, (s.setPoint v).getI F.CTL_SPNOW = clipS 32 (clip (-(chgLimit (limitEntries s)).1) (disLimit (limitEntries s)).1 want) := by
  obtain ⟨s2, want, clamped, -, hregs, he⟩ := setPoint_written s v
  obtain ⟨hdis, hchg, hbd, hbc⟩ := limits_written (limitEntries s)
  have hget : ∀ f, clearOf [F.CTL_SPSTAT_CLAMPED] f = true → clearOf [F.CTL_SPNOW] f = true →
      (s.setPoint v).get f = (limitEntries s).limits.1.get f := fun f h1 h2 => by
    rw [he, State.setB, get_set_clear _ _ _ _ h1, State.setI, get_set_clear _ _ _ _ h2, get_congr hregs]
  have hgetI : ∀ f, clearOf [F.CTL_SPSTAT_CLAMPED] f = true → clearOf [F.CTL_SPNOW] f = true →
      (s.setPoint v).getI f = (limitEntries s).limits.1.getI f := fun f h1 h2 => congrArg (ofCode f.w) (hget f h1 h2)
  refine ⟨(hgetI _ (by decide) (by decide)).trans hdis, (hgetI _ (by decide) (by decide)).trans hchg,
    (hget _ (by decide) (by decide)).trans hbd, (hget _ (by decide) (by decide)).trans hbc, want, ?_⟩
  rw [he, State.setB, getI_set_clear _ _ _ _ (by decide)]
  exact getI_setI _ F.CTL_SPNOW _ (show 0 + 32 ≤ 32 by decide) (by decide)

/-- IRATED has 11 bits, of amperes. -/
theorem irated_range : 0 ≤ s.irated ∧ s.irated < 2048000 := by
  have h : s.get F.CTL_SPCFG_IRATED < 2048 := get_lt s F.CTL_SPCFG_IRATED
  unfold State.irated
  omega

end

theorem minI_le (l : List Int) : ∀ d, minI d l ≤ d := by
  induction l with
  | nil => exact fun d => le_refl d
  | cons x t ih => exact fun d => (ih (min d x)).trans (min_le_left d x)

/-- No limit exceeds the rated current. -/
theorem limitOf_le {rated : Int} (h : 0 ≤ rated) (es : List Int) (b : Bool) : (limitOf rated es b).1 ≤ rated := by
  have hm := minI_le es rated
  unfold limitOf
  split
  · exact h
  · dsimp only
    split <;> exact hm

/-- Where both limits read 0 or more they are what was computed, and the set-point keeps between them. -/
theorem clip_within {d c : Int} (hd : d < 2048000) (hc : c < 2048000) (hd0 : 0 ≤ clipS 32 d) (hc0 : 0 ≤ clipS 32 c) (want : Int) :
    -(clipS 32 c) ≤ clipS 32 (clip (-c) d want) ∧ clipS 32 (clip (-c) d want) ≤ clipS 32 d := by
  unfold clipS clip at *
  norm_num at *
  split_ifs at * <;> omega

/-! ## A sample of a stopped loop -/

/-- The loop is stopped, and no stop, swap, switch-over, end of a sweep, ramp, contactor sequence or category 1 stop is under way. -/
structure AtRest (s : State) : Prop where
  stopped : s.get F.CTL_STAT_STATE = 0
  noStop : s.ctl.stopReq = false
  noSwap : s.ctl.swapAt = none
  noSwitch : s.lan.sw = none
  noSweepEnd : s.imp.stopping = false
  noRamp : s.flag F.SAF_STAT_RAMP = false
  noSeq : s.prt.seq = none
  noStop1 : s.safSt ≠ 2

namespace AtRest

section
variable {a b : State}

theorem of_calm (h : AtRest a) (k : Calm guardFields a b) : AtRest b := by
  have hparts := k.parts
  simp only [calmParts, Prod.mk.injEq] at hparts
  obtain ⟨-, -, -, -, hseq, hsw, hstop, hreq, hswap⟩ := hparts
  exact ⟨(k.get _ (by decide)).trans h.stopped, hreq.trans h.noStop, hswap.trans h.noSwap,
    Option.isNone_iff_eq_none.mp (hsw.trans (Option.isNone_iff_eq_none.mpr h.noSwitch)), hstop.trans h.noSweepEnd,
    (k.flag (by decide)).trans h.noRamp, hseq.trans h.noSeq, fun e => h.noStop1 ((k.get F.SAF_STAT_STATE (by decide)).symm.trans e)⟩

variable (h : AtRest a)
include h

theorem swapDue : a.swapDue = false := by
  unfold State.swapDue
  rw [h.noSwap]
  rfl

theorem warmDue : a.warmDue = false := by
  unfold State.warmDue
  rw [h.stopped]
  rfl

theorem sineStop : a.sineStop = a := by
  unfold State.sineStop
  rw [h.noSweepEnd]
  rfl

theorem shadow (sel : Option (Option (List Int))) (post : Nat → List Int) : a.shadow sel post = a := by
  unfold State.shadow
  rw [h.noSwitch]

theorem rampEnd : a.rampEnd = a := by
  unfold State.rampEnd
  rw [h.noRamp]
  rfl

theorem poll : a.poll = a := by
  have hseq : a.seqPoll 8 = a := by
    unfold State.seqPoll
    rw [h.noSeq]
  unfold State.poll State.stopCheck
  rw [hseq]
  simp [h.noStop1]

end

end AtRest

/-- At rest a sample latches its values and computes the set-point; no other stage has anything to do. -/
theorem controlSample_at_rest {s : State} (h : AtRest s) (x : SampleIn) :
    s.controlSample x = ((sampled s x).setPoint (sampled s x).ctl.vstr).limitKeep := by
  have h0 : AtRest (s.setpointTake (s.gridCount 5000)) := h.of_calm ((setpointTake_calm s _).mono (List.subset_cons_self ..))
  obtain ⟨v, -, -, -, hsampled⟩ := sampled_calm s x
  have hlatched : AtRest (latched s v x) := ⟨h.stopped, h.noStop, h.noSwap, h.noSwitch, h.noSweepEnd, h.noRamp, h.noSeq, h.noStop1⟩
  have h1 : AtRest (sampled s x) := hlatched.of_calm hsampled
  have h3 : AtRest ((sampled s x).setPoint (sampled s x).ctl.vstr) := h1.of_calm (setPoint_calm _ _)
  unfold State.controlSample
  extract_lets s0 s1 s2 s3 s4 s5
  have e1 : s1 = sampled s x := by
    unfold s1
    rw [h0.swapDue]
    rfl
  have e2 : s2 = sampled s x := by
    unfold s2
    rw [e1, h1.noStop]
    rfl
  have e3 : s3 = (sampled s x).setPoint (sampled s x).ctl.vstr := by
    unfold s3
    rw [e2, h3.sineStop]
  have h4 : s4 = s3 := if_neg (by rw [e3, h3.warmDue]; decide)
  have e5 : s5 = s3 := by
    rw [← e3] at h3
    unfold s5
    rw [h4]
    split
    · rw [if_neg (by simp [h3.stopped]), h3.shadow]
    · exact h3.shadow _ _
  rw [e5, e3, h3.rampEnd, h3.poll]

theorem controlSample_takes {s : State} (h : AtRest s) (x : SampleIn) :
    ∃ v : Samp, v.eff = s.gridAt 5000 - 5000 ∧ v.sh = s.domainGood 5 ∧ v.hv = s.domainGood 6 ∧
      Calm guardFields (latched s v x) (s.controlSample x) := by
  obtain ⟨v, heff, hsh, hhv, hsampled⟩ := sampled_calm s x
  refine ⟨v, heff, hsh, hhv, ?_⟩
  rw [controlSample_at_rest h]
  exact (hsampled.trans (setPoint_calm _ _)).upd rfl rfl

/-- The limits that a sample writes: 0 with entry 15 in a blocked direction, and the set-point between them (R174, R189, R193). -/
theorem controlSample_limits {s : State} (h : AtRest s) (x : SampleIn) :
    (s.flag F.PRT_LIMIT_BLK_DIS = true → (s.controlSample x).getI F.PRT_LDIS = 0 ∧ (s.controlSample x).get F.PRT_LIMIT_BIND_DIS = 15) ∧
    (s.flag F.PRT_LIMIT_BLK_CHG = true → (s.controlSample x).getI F.PRT_LCHG = 0 ∧ (s.controlSample x).get F.PRT_LIMIT_BIND_CHG = 15) ∧
    (0 ≤ (s.controlSample x).getI F.PRT_LDIS → 0 ≤ (s.controlSample x).getI F.PRT_LCHG →
      -((s.controlSample x).getI F.PRT_LCHG) ≤ (s.controlSample x).getI F.CTL_SPNOW ∧
        (s.controlSample x).getI F.CTL_SPNOW ≤ (s.controlSample x).getI F.PRT_LDIS) := by
  obtain ⟨v, -, -, -, hsampled⟩ := sampled_calm s x
  have hcalm : Calm guardFields (latched s v x) (limitEntries (sampled s x)) := hsampled.trans (limitEntries_calm _)
  have hregs : ∀ f, (s.controlSample x).get f = ((sampled s x).setPoint (sampled s x).ctl.vstr).get f := fun f =>
    (congrArg (fun b : State => b.get f) (controlSample_at_rest h x)).trans (get_congr rfl f)
  have hgetI : ∀ f, (s.controlSample x).getI f = ((sampled s x).setPoint (sampled s x).ctl.vstr).getI f := fun f =>
    congrArg (ofCode f.w) (hregs f)
  obtain ⟨hdis, hchg, hbd, hbc, want, hnow⟩ := setPoint_limits (sampled s x) (sampled s x).ctl.vstr
  obtain ⟨hr0, hr⟩ := irated_range (limitEntries (sampled s x))
  rw [hgetI, hgetI, hgetI, hregs, hregs, hdis, hchg, hbd, hbc, hnow]
  refine ⟨fun hb => ?dis, fun hb => ?chg, fun h1 h2 => clip_within ?_ ?_ h1 h2 want⟩
  case dis =>
    have hblk : (limitEntries (sampled s x)).flag F.PRT_LIMIT_BLK_DIS = true := (hcalm.flag (by decide)).trans hb
    unfold disLimit
    rw [hblk]
    exact ⟨rfl, rfl⟩
  case chg =>
    have hblk : (limitEntries (sampled s x)).flag F.PRT_LIMIT_BLK_CHG = true := (hcalm.flag (by decide)).trans hb
    unfold chgLimit
    rw [hblk]
    exact ⟨rfl, rfl⟩
  · exact (limitOf_le hr0 _ _).trans_lt hr
  · exact (limitOf_le hr0 _ _).trans_lt hr

/-! ## The vote (R239, R240) -/

theorem mem_subs_self {α : Type} (l : List α) : l ∈ subs l := by
  induction l with
  | nil => exact List.mem_singleton_self _
  | cons x t ih => exact List.mem_append_left _ (List.mem_map_of_mem ih)

theorem subs_sublist {α : Type} {l : List α} : ∀ {k : List α}, k ∈ subs l → k.Sublist l := by
  induction l with
  | nil =>
    intro k hk
    rw [List.mem_singleton.mp hk]
  | cons x t ih =>
    intro k hk
    rcases List.mem_append.mp hk with hk | hk
    · obtain ⟨j, hj, rfl⟩ := List.mem_map.mp hk
      exact (ih hj).cons_cons x
    · exact (ih hk).cons x

/-- A vector that is not empty agrees with itself. -/
theorem agree_self (tol : Nat) {v : List Int} (h : v ≠ []) : agree tol v v = true := by
  have hz : ∀ p ∈ v.zip v, p.1 = p.2 := fun p hp => by
    rw [List.zip_eq_zipWith, List.zipWith_self] at hp
    obtain ⟨a, -, rfl⟩ := List.mem_map.mp hp
    rfl
  unfold agree
  simp only [beq_self_eq_true, Bool.and_true, Bool.and_eq_true, Bool.not_eq_true', List.isEmpty_eq_false_iff, List.all_eq_true, decide_eq_true_eq]
  exact ⟨h, fun p hp => by rw [hz p hp, sub_self]; exact Nat.zero_le _⟩

theorem allAgree_same (tol : Nat) {v : List Int} (hv : v ≠ []) {posts : List (List Int)} (h : ∀ p ∈ posts, p = v) :
    allAgree tol posts = true := by
  induction posts with
  | nil => rfl
  | cons p t ih =>
    have ht : ∀ q ∈ t, q = v := fun q hq => h q (List.mem_cons_of_mem p hq)
    have hall : t.all (agree tol v) = true := List.all_eq_true.mpr fun q hq => by rw [ht q hq]; exact agree_self tol hv
    rw [h p List.mem_cons_self, allAgree, agree_self tol hv, hall, ih ht]
    rfl

/-- The vector that everyone posts is the head of the largest majority, which is all of them. -/
theorem selectVec_all_same (tol : Nat) (f : List Int → Bool) {posts : List (List Int)} {v : List Int} (hp : posts ≠ []) (hv : v ≠ [])
    (h : ∀ p ∈ posts, p = v) : selectVec tol f posts = some v := by
  unfold selectVec
  extract_lets a sets maj size cands
  have hpos : 0 < posts.length := List.length_pos_iff.mpr hp
  have hself : posts ∈ maj := by
    refine List.mem_filter.mpr ⟨List.mem_filter.mpr ⟨mem_subs_self posts, ?_⟩, decide_eq_true (show posts.length < 2 * posts.length by omega)⟩
    rw [allAgree_same tol hv h]
    simpa using hp
  have hsub : ∀ l ∈ maj, l.Sublist posts ∧ l ≠ [] := fun l hl => by
    obtain ⟨hsets, -⟩ := List.mem_filter.mp hl
    obtain ⟨hsubs, hok⟩ := List.mem_filter.mp hsets
    refine ⟨subs_sublist hsubs, fun e => ?_⟩
    rw [e] at hok
    exact Bool.false_ne_true hok
  have hsize : size = posts.length := by
    refine le_antisymm (foldl_max_le (fun n hn => ?_) 0 (Nat.zero_le _)) ((le_foldl_max _ 0).2 _ (List.mem_map_of_mem hself))
    obtain ⟨l, hl, rfl⟩ := List.mem_map.mp hn
    exact (hsub l hl).1.length_le
  have hfound : (maj.find? (fun l => decide (l.length = size))).isSome = true :=
    List.find?_isSome.mpr ⟨posts, hself, decide_eq_true hsize.symm⟩
  obtain ⟨l, hl⟩ := Option.isSome_iff_exists.mp hfound
  obtain ⟨hsublist, hne⟩ := hsub l (List.mem_of_find?_eq_some hl)
  obtain ⟨y, t, rfl⟩ := List.exists_cons_of_ne_nil hne
  rw [hl]
  exact congrArg some (h y (hsublist.subset List.mem_cons_self))

/-- Where every posted vector is empty no set of them agrees. -/
theorem selectVec_none (tol : Nat) (f : List Int → Bool) {posts : List (List Int)} (h : ∀ p ∈ posts, p = []) : selectVec tol f posts = none := by
  have hsets : (subs posts).filter (fun l => !l.isEmpty && allAgree tol l) = [] := by
    refine List.filter_eq_nil_iff.mpr fun l hl hok => ?_
    cases l with
    | nil => exact Bool.false_ne_true hok
    | cons p t =>
      have hp : p = [] := h p ((subs_sublist hl).subset List.mem_cons_self)
      subst hp
      exact Bool.false_ne_true hok
  unfold selectVec
  rw [hsets]
  by_cases ha : posts.length = 4
  · simp [ha]
  · simp [ha]

end Sys2Proof.Machine.Laws

namespace Sys2Proof.Proofs

open Sys2Proof.Machine Sys2Proof.Machine.Laws Sys2Proof.Safety

/-- Settles O17: at rest a sample is its latching and its set-point alone (`controlSample_at_rest`), the set-point is clipped to the limits it
writes (`controlSample_limits`), and the lanes' equal vectors are the largest agreeing set of them (`selectVec_all_same`). -/
theorem controlSamplesRespectTheLimits : Obligations.ControlSamplesRespectTheLimits := by
  unfold Obligations.ControlSamplesRespectTheLimits
  refine ⟨?samples, fun tol f posts v hp => ⟨fun hv h => selectVec_all_same tol f hp hv h, selectVec_none tol f⟩⟩
  rintro s _ t x rfl hsampling
  refine ⟨fun hdue hstate hstop hswap hsw hsweep hramp hseq hsaf => ?taken, fun hdue => ?notDue, ?band⟩
  case taken =>
    have hrest : AtRest (s.upto t) := ⟨hstate, hstop, hswap, hsw, hsweep, hramp, hseq, hsaf⟩
    refine answers_of_guard rfl hdue rfl ?_
    simp only [command_cvi, command_ctl, command_getI, command_get]
    obtain ⟨v, heff, hsh, hhv, hcalm⟩ := controlSample_takes hrest x
    have hparts := hcalm.parts
    simp only [calmParts, Prod.mk.injEq] at hparts
    obtain ⟨-, -, hhist, hiph, -⟩ := hparts
    exact ⟨⟨v, hhist, heff, hsh, hhv⟩, hiph, controlSample_limits hrest x⟩
  case notDue =>
    refine answers_of_guard_fails rfl hdue ?_
    rw [command_ctl, command_cvi, command_regs]
    exact ⟨rfl, rfl, rfl⟩
  case band =>
    refine answers_of_guard rfl hsampling rfl ?_
    rw [command_ctl, command_regs]
    exact ⟨rfl, rfl⟩

end Sys2Proof.Proofs
end
